-- ==== Sys2Proof/Word.lean ====
section
/-! DEFINITION. The word types of Roura and the plain data that describe a control register: field positions (00 R9, R13),
access codes (R9), who may write a register, and a row of the register map. -/

namespace Sys2Proof

/-- A byte of DRAM, of a bank, of the Caddy, of flash or of a frame. -/
abbrev Byte := BitVec 8

/-- A 32-bit control register or engine register (R6, R208). -/
abbrev Word := BitVec 32

/-- Bits [hi:lo] of a 32-bit register. -/
structure Field where
  hi : Nat
  lo : Nat
  deriving DecidableEq, Repr

/-- The number of bits of a field. -/
def Field.width (f : Field) : Nat := f.hi - f.lo + 1

/-- The field's ones in place. -/
def Field.mask (f : Field) : Word := BitVec.ofNat 32 ((2 ^ (f.hi - f.lo + 1) - 1) * 2 ^ f.lo)

/-- The access codes of R9; `res` is a reserved field (R7). -/
inductive AccessCode where
  | rw | ro | wo | w1c | w1s | rws | rwl | res
  deriving DecidableEq, Repr

/-- Who may write a register, as its chapter says: T0 alone; a tenant window (its tenant and T0); the owner of the slot,
layer, tile, cluster (of an engine or of the cluster itself) and T0; nobody but an image; the rules of R439, R442;
the owner of the tile a CAL_RUN write names (R401); DRV_LAMP_SET (R364). -/
inductive OwnerClass where
  | t0 | win | slot | layer | tile | engine | cluster | image | bankOwner | bankPwr | calRun | lampSet
  deriving DecidableEq, Repr

/-- One field of a register with its access code and its reset value. -/
structure FieldRow where
  fld : Field
  acc : AccessCode
  rst : Nat
  deriving DecidableEq, Repr

/-- One register of control space, or an array of them: the address of element (i, j) is
`base + stride0 * i + stride1 * j`. `census` has the bits that R591 calls a counter. -/
structure RegRow where
  base : Nat
  strides : List (Nat × Nat)
  owner : OwnerClass
  census : Nat
  fields : List FieldRow
  deriving DecidableEq, Repr

/-- The unsigned value of bits [hi:lo] of a number. -/
def bitsOf (n hi lo : Nat) : Nat := n / 2 ^ lo % 2 ^ (hi - lo + 1)

/-- A number read as a two's-complement value of `w` bits. -/
def toSigned (w n : Nat) : Int := if n % 2 ^ w < 2 ^ (w - 1) then (n % 2 ^ w : Nat) else (n % 2 ^ w : Nat) - (2 ^ w : Nat)

/-- Round half away from zero of `a / b` for `b > 0` (R8). -/
def divRound (a b : Int) : Int :=
  if 0 ≤ a then (2 * a + b) / (2 * b) else -((2 * (-a) + b) / (2 * b))

/-- Saturation to a range (R8). -/
def clampInt (x lo hi : Int) : Int := if x < lo then lo else if hi < x then hi else x

/-- The little-endian value of a list of bytes (R6). -/
def leValue : List Byte → Nat
  | [] => 0
  | b :: bs => b.toNat + 256 * leValue bs

/-- The `k` little-endian bytes of a number (R6). -/
def leBytes : Nat → Nat → List Byte
  | 0, _ => []
  | k + 1, n => BitVec.ofNat 8 n :: leBytes k (n / 256)

/-- The big-endian value of a list of bytes. -/
def beValue (bs : List Byte) : Nat := leValue bs.reverse

end Sys2Proof
end

