-- ==== Sys2Proof/Syntax.lean ====
section
/-! DEFINITION. The commands of the block as data: one constructor per row of opcode_table.json, with the operands the outside
world supplies (who accesses, an address, a value, a packet's contents, a measured value). -/

namespace Sys2Proof

/-- The transport an access arrives over (R564). -/
inductive Transport where
  | pcie | mgmt | spi
  deriving DecidableEq, Repr

/-- Who makes an access of control space, and over which transport (R563). -/
structure Acc where
  t : Fin 8
  via : Transport
  deriving DecidableEq, Repr

/-- A cue (R573) as its fields, with the slot of the cue queue it was taken from and its place in the order of taking. `args` are
bytes 16 to 63. -/
structure Cue where
  serial : Nat
  opcode : Nat
  flags : Nat
  tag : Nat
  kind : Nat
  res5 : Nat
  object : Nat
  epoch : Nat
  at_ : Nat
  args : List Byte
  index : Nat
  deriving DecidableEq, Repr

/-- A datagram to the management port with the header fields of R560; `carried` is the body the datagram carries. -/
structure MgmtFrame where
  srcIp : BitVec 32
  srcPort : Nat
  magicOk : Bool
  tenant : Fin 8
  seq : Nat
  len : Nat
  carried : List Byte
  deriving DecidableEq, Repr

/-- What a lamp line puts out: the K-code (27.7 for a packet, as its byte), the instant in ns at which it leaves, and the bytes
that follow it: a mark's data symbol, the responder of a turnaround, or a packet's header, payload and CRC-16. -/
structure LineOut where
  port : Nat
  when_ : Nat
  kcode : Nat
  bytes : List Byte
  deriving DecidableEq, Repr

/-- A cell sent on a company link (R410). `items` are the payload's fields in the order its sender names them: the spec gives
no layout for them. -/
structure CellOut where
  east : Bool
  cls : Nat
  kind : Nat
  src : Nat
  dst : Option Nat
  hops : Nat
  seq : Nat
  arg : Nat
  items : List Nat
  deriving DecidableEq, Repr

/-- How a cell reaches a device (R410, R412): on CE (0) or CW (1), with a valid CRC and no uncorrectable codeword, and with its FROM,
TO (none: every device), HOPS_LEFT and SEQ. -/
structure CellHead where
  e : Fin 2
  ok : Bool
  from_ : Fin 16
  to_ : Option (Fin 16)
  hops : Nat
  seq : Nat
  deriving DecidableEq, Repr

/-- The window of a share in block coordinates, and the frame period of its source (R423). -/
structure ShareWin where
  bx : Nat
  by_ : Nat
  bw : Nat
  bh : Nat
  ns : Nat
  deriving DecidableEq, Repr

/-- The format of a source frame (R97, SRC_FMT, SRC_SIZE). `depth` is bits per component: 6, 8, 10 or 12. -/
structure FrameFmt where
  sampling : Nat
  depth : Nat
  range : Nat
  dsc : Bool
  psf : Bool
  tf : Nat
  color : Nat
  width : Nat
  height : Nat
  deriving DecidableEq, Repr

/-- The lines of a received ST 2110-20 packet: line, first pixel, plane 0 samples, plane 1 samples (R94). -/
structure NetSegment where
  line : Nat
  pixel : Nat
  plane0 : List Nat
  plane1 : List Nat
  deriving DecidableEq, Repr

/-- An ST 2110-20 packet (R93, R94). `width`, `height` are the frame's active size; `agrees`: its payload agrees with the
sampling, depth and packing of the flow registers. `seq` is the RTP sequence number extended to a count. -/
structure NetPacket where
  path : Fin 2
  group : BitVec 32
  udpPort : Nat
  agrees : Bool
  seq : Nat
  marker : Bool
  first : Bool
  width : Nat
  height : Nat
  segments : List NetSegment
  deriving DecidableEq, Repr

/-- The PTP messages an ordinary clock receives (R96): Announce with the grandmaster's data set and the Announce interval,
Sync with the origin time and the announced Sync interval, Delay_Resp. Times in ns. -/
inductive PtpMsg where
  | announce (dataset : List Nat)
  | sync (t1 interval : Nat)
  | delayResp (seq t4 : Nat)
  deriving DecidableEq, Repr

/-- A lamp driver: its port, its chain and its number on the chain (R274). -/
structure DrvAt where
  port : Fin 1024
  chain : Fin 15
  driver : Fin 255
  deriving DecidableEq, Repr

/-- How a forward packet reaches a driver: whole and with a valid CRC-16, and to which chain and driver it is addressed (R274, R308). -/
structure FwdHead where
  ok : Bool
  chain : Fin 16
  driver : Fin 256
  deriving DecidableEq, Repr

/-- How a return packet reaches a port: from which chain and driver, with a valid CRC-16 or not, and its TAG (R274). -/
structure RetHead where
  port : Fin 1024
  chain : Fin 16
  driver : Fin 256
  ok : Bool
  tag : Fin 256
  deriving DecidableEq, Repr


/-- A thing whose owner T0 writes in TEN_OWN (R565). -/
inductive OwnThing where
  | slot (j : Fin 8)
  | layer (x : Fin 128)
  | tile (t : Fin 1024)
  | cluster (c : Fin 16)
  deriving DecidableEq, Repr

/-- The commands of the block: one constructor per row of opcode_table.json. -/
inductive Instr where
  /-- REGISTER_WRITE: A write to a control register that has no row of its own takes effect under the access code of each field. (R9) -/
  | registerWrite (a : Acc) (addr : Nat) (v : Word)
  /-- CUR_COMMIT: A write of CUR_COMMIT takes the tenant's staging set as one commit with the given tag and empties the set. (R62) -/
  | curCommit (a : Acc) (w : Fin 8) (v : Word)
  /-- CUR_TIME_SEC_HI_READ: A read of CUR_TIME_SEC_HI latches the whole show clock into the reading tenant's latch. (R86) -/
  | curTimeSecHiRead (a : Acc)
  /-- REFERENCE_EVENT: An event of the selected reference arrives and drives the servo and the lock state. (R37) -/
  | referenceEvent (src : Fin 6) (at_ : Nat) (phase : Int)
  /-- REFERENCE_EVENT_MISSING: Half an expected interval passes after a reference event was due and it is counted missing. (R650) -/
  | referenceEventMissing
  /-- CURTAIN_EDGE: At curtain edge E_k drivers switch pages, commits enter the pipeline state and the pipeline for curtain k+1 begins. (R58) -/
  | curtainEdge (budget : Bool)
  /-- SLOT_START: A slot S1 to Sn-1 begins at its scheduled instant. (R50) -/
  | slotStart (j : Fin 8)
  /-- MARK_EMIT: The mark unit of a bank emits a curtain or slot-strobe mark into every port's transmit delay 1,023 ns before the scheduled instant. (R269) -/
  | markEmit (b : Fin 16) (j : Fin 8)
  /-- COMMIT_CLOSE: Commit close C_k passes; commits completed by then are taken for the next edge. (R63) -/
  | commitClose
  /-- RESCUE_INSTANT: At X_{k+1} unfinished regions become underruns and take background pages or rescue tickets. (R68) -/
  | rescueInstant
  /-- INTERVAL_START: At the push deadline D_{k+1} pushes end and the interval begins in which curtain packets and shadow state are sent. (R58) -/
  | intervalStart
  /-- CAMSYNC_FIRE: A CAMSYNC output goes to its active level at slot start plus PHASE. (R52) -/
  | camsyncFire (m : Fin 8) (j : Fin 8)
  /-- CAMSYNC_END: A CAMSYNC output returns inactive when WIDTH nanoseconds have elapsed. (R52) -/
  | camsyncEnd (m : Fin 8)
  /-- SYNC_OUT_FIRE: A SYNC_OUT output goes active at its selected event plus PHASE. (R54) -/
  | syncOutFire (o : Fin 4) (j : Fin 8)
  /-- SYNC_OUT_END: A SYNC_OUT output returns inactive when WIDTH nanoseconds have elapsed. (R54) -/
  | syncOutEnd (o : Fin 4)
  /-- SOURCE_ADOPTION: At A_k every admitted source adopts its newest unadopted frame or repeats, and damage is computed. (R102) -/
  | sourceAdoption
  /-- DPRX_LINK_TRAINED: A DisplayPort source completes or fails link training and its stream timing is checked. (R92) -/
  | dprxLinkTrained (x : Fin 4) (ok : Bool) (rate lanes : Nat) (fmt : FrameFmt) (pixelKHz period : Nat)
  /-- DPRX_LINK_LOST: Symbol lock fails on a trained lane for 1 ms or HPD is deasserted and the link is lost. (R107) -/
  | dprxLinkLost (x : Fin 4)
  /-- SOURCE_FRAME_ARRIVAL: The last active pixel of a frame is written to the frame store and the frame's block CRCs are complete. (R102) -/
  | sourceFrameArrival (x : Fin 6) (at_ : Nat) (fmt : FrameFmt) (plane0 plane1 : List (List Nat))
  /-- NET_PACKET: An ST 2110 packet is checked against the flow registers and its samples are written into the frame being received. (R94) -/
  | netPacket (x : Fin 2) (at_ : Nat) (p : NetPacket)
  /-- NET_FRAME_SKEW_TIMEOUT: A packet is still missing SKEW_MAX after the marker packet and the network frame is discarded as incomplete. (R95) -/
  | netFrameSkewTimeout (x : Fin 6) (received : Bool)
  /-- PTP_MESSAGE: A PTP event or general message is received and timestamped by the PTP instance. (R96) -/
  | ptpMessage (p : Fin 2) (at_ : Nat) (m : PtpMsg)
  /-- PTP_ANNOUNCE_TIMEOUT: Announce messages time out on the port in use and the PTP instance fails over to the other port. (R96) -/
  | ptpAnnounceTimeout (p : Fin 2)
  /-- SOURCE_LOSS_TIMEOUT: No frame arrives for LOSS_FRAMES expected periods and the source enters LOST. (R106) -/
  | sourceLossTimeout (x : Fin 6)
  /-- SRC_FORCE: A write of SRC_CTRL.FORCE marks every block of the source damaged at the next adoption. (R121) -/
  | srcForce (a : Acc) (x : Fin 6) (v : Word)
  /-- SOURCE_WAKE_ACTIVITY: Activity on a wake-enabled source is detected in HOLD, or latched while HOLD is entered. (R114) -/
  | sourceWakeActivity (x : Fin 6)
  /-- PREVIEW_LINK_TRAINED: A preview link trains and its downscale factor and output size are chosen. (R117) -/
  | previewLinkTrained (p : Fin 2) (lanes capacity : Nat)
  /-- PREVIEW_FRAME: A preview frame starts and shows the picture adopted or composed for its curtain. (R118) -/
  | previewFrame (p : Fin 2)
  /-- FOOTPRINT_REGION_DECIDED: The footprint unit decides a region's ticket causes and places a ticketed region in its quadrant queue. (R149) -/
  | footprintRegionDecided (g : Nat)
  /-- STP_FORCE: A write of STP_FORCE.ALL makes every page of the next curtain be pushed. (R199) -/
  | stpForce (a : Acc) (v : Word)
  /-- STP_HELD_INV: A write of STP_HELD_INV clears one or every held bit and tickets the regions. (R192) -/
  | stpHeldInv (a : Acc) (v : Word)
  /-- NOP: Scalar no-operation. (R214) -/
  | nop (e : Fin 96) (co : Word)
  /-- ADD: Scalar wrapping add of two registers. (R214) -/
  | add (e : Fin 96) (sd sa sb : Fin 32) (co : Word)
  /-- SUB: Scalar subtract of two registers. (R214) -/
  | sub (e : Fin 96) (sd sa sb : Fin 32) (co : Word)
  /-- AND: Scalar bitwise AND. (R214) -/
  | and (e : Fin 96) (sd sa sb : Fin 32) (co : Word)
  /-- OR: Scalar bitwise OR. (R214) -/
  | or (e : Fin 96) (sd sa sb : Fin 32) (co : Word)
  /-- XOR: Scalar bitwise XOR. (R214) -/
  | xor (e : Fin 96) (sd sa sb : Fin 32) (co : Word)
  /-- SLL: Scalar logical shift left by a register. (R214) -/
  | sll (e : Fin 96) (sd sa sb : Fin 32) (co : Word)
  /-- SRL: Scalar logical shift right by a register. (R214) -/
  | srl (e : Fin 96) (sd sa sb : Fin 32) (co : Word)
  /-- SRA: Scalar arithmetic shift right by a register. (R214) -/
  | sra (e : Fin 96) (sd sa sb : Fin 32) (co : Word)
  /-- SLT: Scalar set on signed less-than. (R214) -/
  | slt (e : Fin 96) (sd sa sb : Fin 32) (co : Word)
  /-- SLTU: Scalar set on unsigned less-than. (R214) -/
  | sltu (e : Fin 96) (sd sa sb : Fin 32) (co : Word)
  /-- MUL: Scalar multiply, low 32 bits. (R214) -/
  | mul (e : Fin 96) (sd sa sb : Fin 32) (co : Word)
  /-- MULH: Scalar signed multiply, high 32 bits. (R214) -/
  | mulh (e : Fin 96) (sd sa sb : Fin 32) (co : Word)
  /-- MULHU: Scalar unsigned multiply, high 32 bits. (R214) -/
  | mulhu (e : Fin 96) (sd sa sb : Fin 32) (co : Word)
  /-- MIN: Scalar signed minimum. (R214) -/
  | min (e : Fin 96) (sd sa sb : Fin 32) (co : Word)
  /-- MAX: Scalar signed maximum. (R214) -/
  | max (e : Fin 96) (sd sa sb : Fin 32) (co : Word)
  /-- ADDI: Scalar add of a sign-extended immediate. (R214) -/
  | addi (e : Fin 96) (sd sa : Fin 32) (imm : BitVec 16) (co : Word)
  /-- ANDI: Scalar AND with a zero-extended immediate. (R214) -/
  | andi (e : Fin 96) (sd sa : Fin 32) (imm : BitVec 16) (co : Word)
  /-- ORI: Scalar OR with a zero-extended immediate. (R214) -/
  | ori (e : Fin 96) (sd sa : Fin 32) (imm : BitVec 16) (co : Word)
  /-- XORI: Scalar XOR with a zero-extended immediate. (R214) -/
  | xori (e : Fin 96) (sd sa : Fin 32) (imm : BitVec 16) (co : Word)
  /-- SLLI: Scalar shift left by an immediate. (R214) -/
  | slli (e : Fin 96) (sd sa : Fin 32) (imm : BitVec 16) (co : Word)
  /-- SRLI: Scalar logical shift right by an immediate. (R214) -/
  | srli (e : Fin 96) (sd sa : Fin 32) (imm : BitVec 16) (co : Word)
  /-- SRAI: Scalar arithmetic shift right by an immediate. (R214) -/
  | srai (e : Fin 96) (sd sa : Fin 32) (imm : BitVec 16) (co : Word)
  /-- SLTI: Scalar set on signed less-than an immediate. (R214) -/
  | slti (e : Fin 96) (sd sa : Fin 32) (imm : BitVec 16) (co : Word)
  /-- LDI: Load the bundle's upper 32 bits as an immediate. (R214) -/
  | ldi (e : Fin 96) (sd : Fin 32) (imm : Word)
  /-- LUI: Load an immediate into the upper half of a register. (R214) -/
  | lui (e : Fin 96) (sd : Fin 32) (imm : BitVec 16) (co : Word)
  /-- LW: Scalar load of a 32-bit word from a bank. (R214) -/
  | lw (e : Fin 96) (sd sa : Fin 32) (imm : BitVec 16) (co : Word)
  /-- LHU: Scalar load of a zero-extended halfword. (R214) -/
  | lhu (e : Fin 96) (sd sa : Fin 32) (imm : BitVec 16) (co : Word)
  /-- LBU: Scalar load of a zero-extended byte. (R214) -/
  | lbu (e : Fin 96) (sd sa : Fin 32) (imm : BitVec 16) (co : Word)
  /-- SW: Scalar store of a word. (R214) -/
  | sw (e : Fin 96) (sd sa : Fin 32) (imm : BitVec 16) (co : Word)
  /-- SH: Scalar store of a halfword. (R214) -/
  | sh (e : Fin 96) (sd sa : Fin 32) (imm : BitVec 16) (co : Word)
  /-- SB: Scalar store of a byte. (R214) -/
  | sb (e : Fin 96) (sd sa : Fin 32) (imm : BitVec 16) (co : Word)
  /-- BEQ: Branch if equal. (R214) -/
  | beq (e : Fin 96) (sa sb : Fin 32) (off : BitVec 16) (co : Word)
  /-- BNE: Branch if not equal. (R214) -/
  | bne (e : Fin 96) (sa sb : Fin 32) (off : BitVec 16) (co : Word)
  /-- BLT: Branch if signed less-than. (R214) -/
  | blt (e : Fin 96) (sa sb : Fin 32) (off : BitVec 16) (co : Word)
  /-- BGE: Branch if signed greater or equal. (R214) -/
  | bge (e : Fin 96) (sa sb : Fin 32) (off : BitVec 16) (co : Word)
  /-- BLTU: Branch if unsigned less-than. (R214) -/
  | bltu (e : Fin 96) (sa sb : Fin 32) (off : BitVec 16) (co : Word)
  /-- BGEU: Branch if unsigned greater or equal. (R214) -/
  | bgeu (e : Fin 96) (sa sb : Fin 32) (off : BitVec 16) (co : Word)
  /-- JAL: Jump and link through s31. (R214) -/
  | jal (e : Fin 96) (off : BitVec 26) (co : Word)
  /-- JALR: Jump to a register plus offset and link. (R214) -/
  | jalr (e : Fin 96) (sd sa : Fin 32) (imm : BitVec 16) (co : Word)
  /-- LOOP: Run the following bundles a register-given number of times, nesting to two levels. (R215) -/
  | loop (e : Fin 96) (sa : Fin 32) (imm : BitVec 16) (co : Word)
  /-- AMOADD: Atomic fetch-and-add at a bank word. (R446) -/
  | amoadd (e : Fin 96) (sd sa sb : Fin 32) (co : Word)
  /-- AMOSWP: Atomic swap at a bank word. (R446) -/
  | amoswp (e : Fin 96) (sd sa sb : Fin 32) (co : Word)
  /-- MFS: Read a special register into a scalar register. (R210) -/
  | mfs (e : Fin 96) (sd : Fin 32) (imm : BitVec 16) (co : Word)
  /-- MTS: Write a special register; STICKY bits written as 1 are cleared. (R210) -/
  | mts (e : Fin 96) (sa : Fin 32) (imm : BitVec 16) (co : Word)
  /-- TKGET: Take the ticket nearest the queue head for the engine's HOME, or zeros when none is available. (R240) -/
  | tkget (e : Fin 96) (sd : Fin 32) (co : Word)
  /-- TKDONE: Retire a ticket after its POSTs complete, recording loads and held codes or the failure status. (R243) -/
  | tkdone (e : Fin 96) (sd sa sb : Fin 32) (co : Word)
  /-- SUGO: Queue a descriptor on a stream unit, stalling while the queue is full. (R228) -/
  | sugo (e : Fin 96) (sa : Fin 32) (imm : BitVec 16) (co : Word)
  /-- SUWAIT: Wait until a stream unit is idle and return the first non-zero status. (R214) -/
  | suwait (e : Fin 96) (sd : Fin 32) (imm : BitVec 16) (co : Word)
  /-- BAR: Arrive at a cluster barrier and wait until every engine of its mask arrives. (R239) -/
  | bar (e : Fin 96) (sd : Fin 32) (imm : BitVec 16) (co : Word)
  /-- WAITEV: Wait for selected event-latch bits, return them and clear them. (R238) -/
  | waitev (e : Fin 96) (sd : Fin 32) (imm : BitVec 16) (co : Word)
  /-- FENCE: Wait until every earlier memory operation of the engine has completed. (R214) -/
  | fence (e : Fin 96) (co : Word)
  /-- FAULT: Raise a program fault with an AUX code; the held ticket returns to the queue. (R248) -/
  | fault (e : Fin 96) (imm : BitVec 16) (co : Word)
  /-- HALT: Stop the engine until the next curtain edge. (R214) -/
  | halt (e : Fin 96) (co : Word)
  /-- ILLEGAL_OP: A reserved opcode or field value, a third loop level or an odd pair register faults the engine. (R247) -/
  | illegalOp (e : Fin 96) (w : BitVec 64)
  /-- VNOP: Vector no-operation. (R216) -/
  | vnop (e : Fin 96) (co : Word)
  /-- VADD: Vector add with wrap or saturation. (R216) -/
  | vadd (e : Fin 96) (pg : Fin 8) (vd va vb : Fin 64) (md : Fin 32) (co : Word)
  /-- VSUB: Vector subtract with wrap or saturation. (R216) -/
  | vsub (e : Fin 96) (pg : Fin 8) (vd va vb : Fin 64) (md : Fin 32) (co : Word)
  /-- VAND: Vector bitwise AND. (R216) -/
  | vand (e : Fin 96) (pg : Fin 8) (vd va vb : Fin 64) (co : Word)
  /-- VOR: Vector bitwise OR. (R216) -/
  | vor (e : Fin 96) (pg : Fin 8) (vd va vb : Fin 64) (co : Word)
  /-- VXOR: Vector bitwise XOR. (R216) -/
  | vxor (e : Fin 96) (pg : Fin 8) (vd va vb : Fin 64) (co : Word)
  /-- VSLL: Vector shift left by a vector. (R216) -/
  | vsll (e : Fin 96) (pg : Fin 8) (vd va vb : Fin 64) (co : Word)
  /-- VSRL: Vector logical shift right by a vector. (R216) -/
  | vsrl (e : Fin 96) (pg : Fin 8) (vd va vb : Fin 64) (co : Word)
  /-- VSRA: Vector arithmetic shift right by a vector. (R216) -/
  | vsra (e : Fin 96) (pg : Fin 8) (vd va vb : Fin 64) (co : Word)
  /-- VMIN: Vector minimum, signed or unsigned. (R216) -/
  | vmin (e : Fin 96) (pg : Fin 8) (vd va vb : Fin 64) (md : Fin 32) (co : Word)
  /-- VMAX: Vector maximum, signed or unsigned. (R216) -/
  | vmax (e : Fin 96) (pg : Fin 8) (vd va vb : Fin 64) (md : Fin 32) (co : Word)
  /-- VMUL: Vector multiply, low 32 bits. (R216) -/
  | vmul (e : Fin 96) (pg : Fin 8) (vd va vb : Fin 64) (co : Word)
  /-- VMULH: Vector multiply, high 32 bits. (R216) -/
  | vmulh (e : Fin 96) (pg : Fin 8) (vd va vb : Fin 64) (md : Fin 32) (co : Word)
  /-- VMAC: Vector multiply-accumulate into a 64-bit pair. (R216) -/
  | vmac (e : Fin 96) (pg : Fin 8) (vd va vb : Fin 64) (md : Fin 32) (co : Word)
  /-- VMUL64: Vector full multiply into a 64-bit pair. (R216) -/
  | vmul64 (e : Fin 96) (pg : Fin 8) (vd va vb : Fin 64) (md : Fin 32) (co : Word)
  /-- VNARROW: Vector shift, round and saturate of a 64-bit pair to 32 bits. (R217) -/
  | vnarrow (e : Fin 96) (pg : Fin 8) (vd va vb : Fin 64) (md : Fin 32) (co : Word)
  /-- VDIV: Vector exact division of a 64-bit pair, holding the vector path 16 clocks. (R217) -/
  | vdiv (e : Fin 96) (pg : Fin 8) (vd va vb : Fin 64) (md : Fin 32) (co : Word)
  /-- VADDI: Vector add of an immediate. (R216) -/
  | vaddi (e : Fin 96) (pg : Fin 8) (vd va : Fin 64) (imm : BitVec 11) (co : Word)
  /-- VANDI: Vector AND with a sign-extended immediate. (R216) -/
  | vandi (e : Fin 96) (pg : Fin 8) (vd va : Fin 64) (imm : BitVec 11) (co : Word)
  /-- VSLLI: Vector shift left by an immediate. (R216) -/
  | vslli (e : Fin 96) (pg : Fin 8) (vd va : Fin 64) (imm : BitVec 11) (co : Word)
  /-- VSRLI: Vector logical shift right by an immediate. (R216) -/
  | vsrli (e : Fin 96) (pg : Fin 8) (vd va : Fin 64) (imm : BitVec 11) (co : Word)
  /-- VSRAI: Vector arithmetic shift right by an immediate. (R216) -/
  | vsrai (e : Fin 96) (pg : Fin 8) (vd va : Fin 64) (imm : BitVec 11) (co : Word)
  /-- VCLAMP: Vector signed clamp between two scalar registers. (R216) -/
  | vclamp (e : Fin 96) (pg : Fin 8) (vd va : Fin 64) (md : Fin 32) (co : Word)
  /-- VMOV: Vector move, a select under a guard. (R216) -/
  | vmov (e : Fin 96) (pg : Fin 8) (vd va : Fin 64) (co : Word)
  /-- VBCAST: Broadcast a scalar register to every lane. (R216) -/
  | vbcast (e : Fin 96) (pg : Fin 8) (vd : Fin 64) (md : Fin 32) (co : Word)
  /-- VLANEID: Write each lane's number. (R216) -/
  | vlaneid (e : Fin 96) (pg : Fin 8) (vd : Fin 64) (co : Word)
  /-- VSLIDE: Slide lanes across two vector registers. (R216) -/
  | vslide (e : Fin 96) (pg : Fin 8) (vd va vb : Fin 64) (md : Fin 32) (co : Word)
  /-- VPERM: Permute lanes by an index vector. (R216) -/
  | vperm (e : Fin 96) (pg : Fin 8) (vd va vb : Fin 64) (co : Word)
  /-- VCMP: Vector compare into a predicate register. (R216) -/
  | vcmp (e : Fin 96) (pg pd : Fin 8) (va vb : Fin 64) (md : Fin 32) (co : Word)
  /-- VCMPI: Vector compare with an immediate into a predicate register. (R216) -/
  | vcmpi (e : Fin 96) (pg pd : Fin 8) (va : Fin 64) (cond : Fin 8) (imm : BitVec 8) (co : Word)
  /-- VPOP: Logical operation on predicate registers. (R216) -/
  | vpop (e : Fin 96) (pg pd : Fin 8) (va vb : Fin 64) (md : Fin 32) (co : Word)
  /-- VPMOVS: Move a predicate register into a scalar register. (R216) -/
  | vpmovs (e : Fin 96) (pg : Fin 8) (va : Fin 64) (md : Fin 32) (co : Word)
  /-- VSPMOV: Move a scalar register into a predicate register. (R216) -/
  | vspmov (e : Fin 96) (pg : Fin 8) (vd : Fin 64) (md : Fin 32) (co : Word)
  /-- VEXT: Extract one lane into a scalar register. (R216) -/
  | vext (e : Fin 96) (pg : Fin 8) (va vb : Fin 64) (md : Fin 32) (co : Word)
  /-- VREDACC: Accumulate the unsigned sum of guarded lanes into a scalar pair. (R216) -/
  | vredacc (e : Fin 96) (pg : Fin 8) (va : Fin 64) (md : Fin 32) (co : Word)
  /-- VLDW: Vector contiguous load of words. (R216) -/
  | vldw (e : Fin 96) (pg : Fin 8) (vd : Fin 64) (sa : Fin 32) (off : BitVec 12) (co : Word)
  /-- VLDH: Vector contiguous load of zero-extended halfwords. (R216) -/
  | vldh (e : Fin 96) (pg : Fin 8) (vd : Fin 64) (sa : Fin 32) (off : BitVec 12) (co : Word)
  /-- VLDHS: Vector contiguous load of sign-extended halfwords. (R216) -/
  | vldhs (e : Fin 96) (pg : Fin 8) (vd : Fin 64) (sa : Fin 32) (off : BitVec 12) (co : Word)
  /-- VLDB: Vector contiguous load of zero-extended bytes. (R216) -/
  | vldb (e : Fin 96) (pg : Fin 8) (vd : Fin 64) (sa : Fin 32) (off : BitVec 12) (co : Word)
  /-- VSTW: Vector contiguous store of words. (R216) -/
  | vstw (e : Fin 96) (pg : Fin 8) (vd : Fin 64) (sa : Fin 32) (off : BitVec 12) (co : Word)
  /-- VSTH: Vector contiguous store of halfwords. (R216) -/
  | vsth (e : Fin 96) (pg : Fin 8) (vd : Fin 64) (sa : Fin 32) (off : BitVec 12) (co : Word)
  /-- VSTB: Vector contiguous store of bytes. (R216) -/
  | vstb (e : Fin 96) (pg : Fin 8) (vd : Fin 64) (sa : Fin 32) (off : BitVec 12) (co : Word)
  /-- VGATHER: Vector gather from lane-indexed addresses. (R216) -/
  | vgather (e : Fin 96) (pg : Fin 8) (vd va : Fin 64) (sa : Fin 32) (size : Fin 4) (co : Word)
  /-- VSCATTER: Vector scatter to lane-indexed addresses. (R216) -/
  | vscatter (e : Fin 96) (pg : Fin 8) (vd va : Fin 64) (sa : Fin 32) (size : Fin 4) (co : Word)
  /-- VSTC: Store guarded lanes contiguously and advance the address register. (R216) -/
  | vstc (e : Fin 96) (pg : Fin 8) (vd : Fin 64) (sa : Fin 32) (size : Fin 4) (co : Word)
  /-- VCRC: Feed three bytes of each guarded lane into one or two CRC states. (R216) -/
  | vcrc (e : Fin 96) (pg : Fin 8) (va vb : Fin 64) (md : Fin 32) (co : Word)
  /-- SMP: Request bicubic samples of a source window at lane positions. (R234) -/
  | smp (e : Fin 96) (pg : Fin 8) (vd va vb : Fin 64) (md : Fin 32) (co : Word)
  /-- LUTL: Request shaper and 3D-LUT lookups of lane values. (R235) -/
  | lutl (e : Fin 96) (pg : Fin 8) (vd va : Fin 64) (md : Fin 32) (co : Word)
  /-- SAMPLER_SERVE: A free sampler of the cluster takes a waiting SMP call and writes its results. (R232) -/
  | samplerServe (c : Fin 16) (n : Fin 3)
  /-- LUT_UNIT_SERVE: The cluster's LUT unit, or its neighbour's, takes a waiting LUTL call and writes its results. (R236) -/
  | lutUnitServe (u : Fin 16)
  /-- READ2D: A stream unit copies a 2D rectangle from DRAM into a bank and writes back its completion. (R229) -/
  | read2d (e : Fin 96) (u : Fin 2)
  /-- WRITE2D: A stream unit copies a 2D rectangle from a bank to DRAM and writes back its completion. (R229) -/
  | write2d (e : Fin 96) (u : Fin 2)
  /-- UNPACK: A stream unit has a packer lane decode a packed block into a bank and writes back its status. (R229) -/
  | unpack (e : Fin 96) (u : Fin 2)
  /-- POST: A stream unit hands a port part of a region page to the bank sequencer's page ring. (R231) -/
  | post (e : Fin 96) (u : Fin 2)
  /-- POST_ACCEPT: A waiting POST is accepted when sending of earlier parts frees room in the page ring, or is discarded. (R231) -/
  | postAccept (e : Fin 96) (u : Fin 2)
  /-- ENG_WATCHDOG: A ticket is held longer than ENG_WDOG and the engine takes a WATCHDOG fault. (R247) -/
  | engWatchdog (e : Fin 96)
  /-- REGFILE_PARITY: A parity error in a register lane maps the engine out at once. (R249) -/
  | regfileParity (e : Fin 96)
  /-- PSTORE_ECC: An uncorrectable program-store bundle maps the engine out at once. (R249) -/
  | pstoreEcc (e : Fin 96)
  /-- UNIT_FAULT: A sampler or LUT unit parity error maps that unit out. (R249) -/
  | unitFault (e : Fin 96) (unit : Fin 4)
  /-- PROGRAM_STORE_COPY: House firmware completes copying a covered engine's program store into its understudy. (R255) -/
  | programStoreCopy (u : Fin 8) (e : Fin 96)
  /-- ENG_PDATA_LO_WRITE: A write of ENG_PDATA_LO latches the low half of a bundle. (R261) -/
  | engPdataLoWrite (a : Acc) (e : Fin 96) (v : Word)
  /-- ENG_PDATA_HI_WRITE: A write of ENG_PDATA_HI stores a bundle with its check byte, or is refused with BUSY while the engine runs. (R259) -/
  | engPdataHiWrite (a : Acc) (e : Fin 96) (v : Word)
  /-- ENG_PDATA_HI_READ: A read of ENG_PDATA_HI returns the stored bundle's upper half and advances ADDR under AUTOINC. (R261) -/
  | engPdataHiRead (a : Acc) (e : Fin 96)
  /-- BS_NOP: Sequencer no-operation. (R299) -/
  | bsNop (b : Fin 16)
  /-- BS_IDLE: Sequencer emits CNT + 1 idle symbols. (R299) -/
  | bsIdle (b : Fin 16) (cnt : Fin 2048)
  /-- BS_FETCH: Each lane acted on fills its empty buffer from its queues in class order. (R291) -/
  | bsFetch (b : Fin 16) (pred : Fin 8)
  /-- BS_SEND: Each lane with a buffered packet sends it with SOP, CRC-16 and EOP. (R299) -/
  | bsSend (b : Fin 16) (pred : Fin 8)
  /-- BS_KSYM: Sequencer emits a K-code and data symbol. (R299) -/
  | bsKsym (b : Fin 16) (pred : Fin 8) (imm : Fin 65536)
  /-- BS_TURN: Each lane acted on runs a return window and captures the return packet. (R283) -/
  | bsTurn (b : Fin 16) (pred : Fin 8)
  /-- BS_SETF: Set a flag on the lanes acted on. (R299) -/
  | bsSetf (b : Fin 16) (pred flag : Fin 8)
  /-- BS_CLRF: Clear a flag on the lanes acted on. (R299) -/
  | bsClrf (b : Fin 16) (pred flag : Fin 8)
  /-- BS_JMP: Sequencer jump. (R299) -/
  | bsJmp (b : Fin 16) (target : Fin 4096)
  /-- BS_BR: Sequencer branch on a condition. (R301) -/
  | bsBr (b : Fin 16) (target : Fin 4096) (cond : Fin 16)
  /-- BS_LDC: Load the bank counter. (R299) -/
  | bsLdc (b : Fin 16) (imm : BitVec 16)
  /-- BS_DJNZ: Decrement the counter and branch if not zero. (R299) -/
  | bsDjnz (b : Fin 16) (target : Fin 4096)
  /-- BS_WAITC: Emit idle until a condition holds. (R299) -/
  | bsWaitc (b cond : Fin 16)
  /-- BS_CALL: Sequencer call through the one-entry return stack. (R299) -/
  | bsCall (b : Fin 16) (target : Fin 4096)
  /-- BS_RTN: Sequencer return from the stack. (R299) -/
  | bsRtn (b : Fin 16)
  /-- BS_EVT: Set BS_STATUS.PEVT and record an immediate. (R299) -/
  | bsEvt (b : Fin 16) (imm : Fin 65536)
  /-- BS_HALT: Stop the sequencer; all lanes send idle. (R299) -/
  | bsHalt (b : Fin 16)
  /-- BS_STATUS_READ: A read of BS_STATUS returns it and clears PEVT. (R314) -/
  | bsStatusRead (a : Acc) (b : Fin 16)
  /-- BS_UDATA_HI_WRITE: A write of BS_UDATA_HI stores a microinstruction word, or is refused with BUSY unless the sequencer is OFF or HALT. (R303) -/
  | bsUdataHiWrite (a : Acc) (b : Fin 16) (v : Word)
  /-- RETURN_WINDOW_DUE: BS_RET_IDLE passes since a port's last window and its window falls due. (R286) -/
  | returnWindowDue (p : Fin 1024)
  /-- STATUS: A driver's STATUS return packet is received and its flags and state are acted on. (R282) -/
  | status (h : RetHead) (flags : Fin 8) (lastCur : Byte) (fwdErr : Fin 65536) (state : Fin 8)
  /-- READ_DATA: A READ_DATA return is received: register values or a page CRC compared for readback. (R350) -/
  | readData (h : RetHead) (bs : List Byte)
  /-- SERVICE_DATA: A SERVICE_DATA return answering a service request is received and processed. (R276) -/
  | serviceData (h : RetHead) (bs : List Byte)
  /-- ECHO_REPLY: An ECHO_REPLY return gives a round-trip measurement for deskew. (R271) -/
  | echoReply (h : RetHead) (rtt : Nat)
  /-- PAGE_WRITE: A driver stores PWM codes of its lamps from a page-write packet. (R276) -/
  | pageWrite (w : DrvAt) (h : FwdHead) (addr : Fin 16777216) (bs : List Byte)
  /-- CODE_DENSE: A driver stores one current code per lamp from a dense code packet. (R276) -/
  | codeDense (w : DrvAt) (h : FwdHead) (addr : Fin 16777216) (bs : List Byte)
  /-- CODE_SPARSE: A driver stores current codes of the lamps set in a bitmap. (R276) -/
  | codeSparse (w : DrvAt) (h : FwdHead) (addr : Fin 16777216) (bs : List Byte)
  /-- PAGE_COPY: A driver copies strided runs of lamp codes from a source page to a destination page. (R280) -/
  | pageCopy (w : DrvAt) (h : FwdHead) (addr : Fin 16777216) (bs : List Byte)
  /-- REG_WRITE: A driver writes consecutive driver registers from a packet. (R276) -/
  | regWrite (w : DrvAt) (h : FwdHead) (addr : Fin 16777216) (bs : List Byte)
  /-- READ_REQ: A driver takes a request for registers or a page-range CRC to answer in a later window. (R281) -/
  | readReq (w : DrvAt) (h : FwdHead) (addr : Fin 16777216) (bs : List Byte)
  /-- CURTAIN: A driver takes the CURTAIN packet giving the curtain number, slot count, flags and page map. (R278) -/
  | curtain (w : DrvAt) (h : FwdHead) (bs : List Byte)
  /-- SLOT_SCHED: A driver takes the slot schedule of kinds, refresh counts and lengths. (R279) -/
  | slotSched (w : DrvAt) (h : FwdHead) (bs : List Byte)
  /-- ECHO: A driver takes an ECHO request to answer with ECHO_REPLY. (R276) -/
  | echo (w : DrvAt) (h : FwdHead) (tag : Byte)
  /-- CUR_MARK: A driver acts on a curtain mark and switches to the matching page map, or sets MISSED_CURTAIN. (R308) -/
  | curMark (w : DrvAt) (sym : Byte)
  /-- STB_MARK: A driver acts on a slot strobe and switches slot. (R308) -/
  | stbMark (w : DrvAt) (sym : Byte)
  /-- TA: A driver named by a turnaround answers with a return packet. (R308) -/
  | ta (w : DrvAt) (chain : Fin 16) (driver : Fin 256)
  /-- ABT: A driver discards the packet in progress on abort. (R268) -/
  | abt (w : DrvAt) (busy : Bool)
  /-- POWER_LOGIC_OFF: A capable driver switches its chain's logic supply off. (R337) -/
  | powerLogicOff (w : DrvAt) (h : FwdHead)
  /-- POWER_RAIL_ON: A capable driver switches its lamp rail on. (R337) -/
  | powerRailOn (w : DrvAt) (h : FwdHead)
  /-- POWER_LIGHT_ON: A driver enables its outputs at the next applied mark. (R337) -/
  | powerLightOn (w : DrvAt) (h : FwdHead)
  /-- POWER_LIGHT_OFF: A driver disables its outputs at the next applied mark and drops debts. (R337) -/
  | powerLightOff (w : DrvAt) (h : FwdHead)
  /-- POWER_RAIL_OFF: A capable driver switches its lamp rail off. (R337) -/
  | powerRailOff (w : DrvAt) (h : FwdHead)
  /-- POWER_HOLD: A driver enters HOLD at the next mark and cycles its stored pages on its own clock. (R346) -/
  | powerHold (w : DrvAt) (h : FwdHead)
  /-- DIAG_READ: A driver returns and clears the diagnosis codes of 64 lamps. (R354) -/
  | diagRead (w : DrvAt) (h : FwdHead) (first : Fin 65536) (tests : List (Fin 4))
  /-- BORROW: A driver lengthens short segments in the borrowing curtain and records debts. (R361) -/
  | borrow (w : DrvAt) (h : FwdHead) (slot cur8 : Byte)
  /-- RAIL_READ: A driver returns its rail voltage and fault flag. (R336) -/
  | railRead (w : DrvAt) (h : FwdHead) (mv : Fin 65536) (bad : Bool)
  /-- CAL_FLAT: A driver schedules a dark and a flat measurement window before the named mark. (R374) -/
  | calFlat (w : DrvAt) (h : FwdHead) (cur8 : Byte)
  /-- FL_ARM: A driver arms its sensors for a slot of the named curtain. (R375) -/
  | flArm (w : DrvAt) (h : FwdHead) (cur8 slot : Byte)
  /-- FL_READ: A driver returns a sensor's dark and lit readings. (R375) -/
  | flRead (w : DrvAt) (h : FwdHead) (sensor : Fin 4) (sat bad : Bool) (counts : List Nat)
  /-- VF_READ: A driver returns and clears the forward-voltage classes of 64 lamps. (R389) -/
  | vfRead (w : DrvAt) (h : FwdHead) (first : Fin 65536) (classes : List (Fin 4))
  /-- DRIVER_LINE_LOSS_HOLD: A lit driver that lost its line without HOLD disables its outputs after LINE_LOSS_HOLD. (R347) -/
  | driverLineLossHold (w : DrvAt)
  /-- TILE_POWER_ADVANCE: A tile moves one power state towards its TARGET once the state's condition is met. (R340) -/
  | tilePowerAdvance (t : Fin 1024) (found : List (Nat × Nat))
  /-- RAIL_SETTLE_ELAPSED: RAIL_SETTLE elapses after POWER RAIL_ON. (R340) -/
  | railSettleElapsed (t : Fin 1024)
  /-- RAIL_DISCHARGE_ELAPSED: RAIL_DISCHARGE elapses after POWER RAIL_OFF. (R340) -/
  | railDischargeElapsed (t : Fin 1024)
  /-- TILE_REPORT_TIMEOUT: A power state waits more than 2 s for a driver report and the tile enters FAULT. (R342) -/
  | tileReportTimeout (t : Fin 1024)
  /-- LOGIC_LINE_RESTART: A port of a tile leaving LOGIC_OFF is held without transitions for 2 ms, then its line is started, retried every 2 s. (R338) -/
  | logicLineRestart (p : Fin 1024)
  /-- READBACK_SCRUB: With no read queued, a port reads back a shown region part against the CRC store. (R352) -/
  | readbackScrub (p : Fin 1024)
  /-- DIAG_WINDOW: A diagnosis window begins and the codes of every lamp are read in order. (R355) -/
  | diagWindow
  /-- DRV_LAMP_SET_A: A write of DRV_LAMP_SET_A loads the tenant's lamp latch. (R367) -/
  | drvLampSetA (a : Acc) (v : Word)
  /-- DRV_LAMP_SET_B: A write of DRV_LAMP_SET_B sets the latched lamp's live state and empties the latch. (R356) -/
  | drvLampSetB (a : Acc) (v : Word)
  /-- CAL_RUN: A write of CAL_RUN queues a calibration run of a tile. (R383) -/
  | calRun (a : Acc) (v : Word)
  /-- CAL_RUN_RESULT: House firmware finishes a run's fit and accepts it with a commit of gains, or rejects it. (R386) -/
  | calRunResult (t : Fin 1024) (e : List (Option (Int × Nat))) (fit : Bool)
  /-- TEMP_POLL: House firmware reads driver temperatures and queues a run when the hottest moved more than CAL_DT. (R388) -/
  | tempPoll
  /-- CAL_TRIM: A write of CAL_TRIM starts trims of the named port banks. (R395) -/
  | calTrim (a : Acc) (v : Word)
  /-- BANK_TRIM_MEASURED: A bank's swing, delay-line and round-trip measurements complete and their results wait for an edge. (R396) -/
  | bankTrimMeasured (b : Fin 16) (swing dly : List Int)
  /-- AMON_CONVERSION: The converter converts one monitor input with the open-wire test. (R398) -/
  | amonConversion (a : Fin 8) (sa sb : Fin 4096)
  /-- TIME_CELL_SEND: A device sends a TIME cell on every link that is UP every 125 us. (R413) -/
  | timeCellSend
  /-- TIME_CELL: A TIME cell of the lead's time arrives and disciplines a member's show clock. (R414) -/
  | timeCell (h : CellHead) (at_ : Nat) (time256 edgeAt num prio serial : Nat) (lead : Option (Fin 16)) (epoch nhops : Nat)
  /-- DELAY_REQUEST: A TIME cell delay request is received and answered. (R413) -/
  | delayRequest (h : CellHead) (at_ : Nat)
  /-- DELAY_RESPONSE: A TIME cell delay response gives the link's one-way delay. (R413) -/
  | delayResponse (h : CellHead) (t1 t2 t3 t4 : Nat)
  /-- CONTROL_CANDIDACY: A broadcast candidacy for lead is received and forwarded. (R421) -/
  | controlCandidacy (h : CellHead) (kind : Fin 3) (target : Fin 16) (prio serial epoch : Nat)
  /-- CONTROL_LEAD_DECISION: The lead's announced decision of a new lead is received. (R419) -/
  | controlLeadDecision (h : CellHead) (winner : Fin 16) (prio serial : Nat) (outcomes : List (Nat × Nat))
  /-- CONTROL_FIELDS_ANNOUNCE: The lead's announcement of company-wide fields is received for the next edge but one. (R415) -/
  | controlFieldsAnnounce (h : CellHead) (fields : List (Nat × Word))
  /-- CONTROL_CENSUS_REQUEST: A company census request is received and taken at its edge, or reported as missed. (R428) -/
  | controlCensusRequest (h : CellHead) (num gen : Nat) (report : Option Bool)
  /-- SOURCE_CELL: A SOURCE cell's block is written into the receiving frame store with its CRC and damage. (R424) -/
  | sourceCell (h : CellHead) (share frame bx by_ : Nat) (fmt : FrameFmt) (win : ShareWin) (packed last : Bool) (bs : List Byte)
  /-- PROMPT_CELL: A member's prompt-book record arrives at the lead's company prompt book. (R429) -/
  | promptCell (h : CellHead) (stamp unit code kind level : Nat) (coalesced : Bool) (block count : Nat) (tenants : BitVec 8) (a : BitVec 64)
  /-- BULK_CELL: A BULK cell is checked against the receive windows, written to DRAM and acknowledged. (R427) -/
  | bulkCell (h : CellHead) (dst len off : Nat) (bs : List Byte)
  /-- BULK_ACK: An acknowledgement of BULK cells arrives and the sender advances or resends. (R412) -/
  | bulkAck (h : CellHead) (seq status : Nat)
  /-- XFER_UNREACHABLE: The destination stays unreachable for 100 ms and the transfer completes with UNREACHABLE. (R427) -/
  | xferUnreachable
  /-- CMP_XFER_GO: A write of CMP_XFER_CTRL.GO starts a bulk copy to another device. (R427) -/
  | cmpXferGo (a : Acc) (v : Word)
  /-- CMP_ROLE_REQ: A write of CMP_ROLE_REQ sends a TAKE_LEAD or HAND_OFF request to the lead. (R417) -/
  | cmpRoleReq (a : Acc) (v : Word)
  /-- CMP_CENSUS: A write of CMP_CENSUS.GO on the lead starts a company census. (R428) -/
  | cmpCensus (a : Acc) (v : Word)
  /-- LANE_LOSS: A company lane loses lock or shows too many uncorrectable codewords and leaves the stripe. (R408) -/
  | laneLoss (e : Fin 2) (lane : Fin 4)
  /-- LINK_DOWN: A company link goes DOWN and the ring becomes a line or the line splits. (R430) -/
  | linkDown (e : Option (Fin 2)) (east west : List (Fin 16))
  /-- LINK_UP: A company link comes UP and company formation or joining proceeds. (R421) -/
  | linkUp (e : Option (Fin 2)) (peer : Fin 16) (lanes : BitVec 4) (east west : List (Fin 16))
  /-- LEAD_LOST: A member receives no lead TIME cell for LEAD_LOSS curtains and may stand for lead. (R420) -/
  | leadLost
  /-- SHARE_BLOCK_READY: A shared source block's lines are written and it is packed or sent raw as SOURCE cells. (R423) -/
  | shareBlockReady (share : Fin 6) (bx by_ : Nat)
  /-- SHARE_RAW_TIMEOUT: No lane starts the encode of a shared block within 2 us and it is sent raw. (R488) -/
  | shareRawTimeout
  /-- BANK_OWNER_WRITE: A handover writes a bank's owner and increments its epoch when the owner changes. (R440) -/
  | bankOwnerWrite (a : Acc) (n : Fin 512) (v : Word)
  /-- BANK_PWR_WRITE: A write of a bank's PWR target starts its move between ON, RETENTION and OFF. (R442) -/
  | bankPwrWrite (a : Acc) (n : Fin 512) (v : Word)
  /-- BANK_POWER_MOVE_DONE: A bank completes its power move and waiting accesses proceed. (R442) -/
  | bankPowerMoveDone (n : Fin 512)
  /-- BANK_SCRUB_READ: A bank word is read and corrected by the scrubber through the service port. (R448) -/
  | bankScrubRead (n : Fin 512) (word : Fin 32768) (found : Fin 3)
  /-- ATOMIC_FETCHADD: A PCIe 32-bit FetchAdd is performed at a bank word of the SRAM window. (R446) -/
  | atomicFetchadd (a : Acc) (addr bytes : Nat) (v : Word)
  /-- ATOMIC_SWAP: A PCIe 32-bit Swap is performed at a bank word of the SRAM window. (R446) -/
  | atomicSwap (a : Acc) (addr bytes : Nat) (v : Word)
  /-- MRW: A training primitive writes a DRAM mode register. (R460) -/
  | mrw (c : Fin 8) (mr data : Byte)
  /-- MRR: A training primitive reads a DRAM mode register. (R460) -/
  | mrr (c : Fin 8) (mr : Byte)
  /-- WFF_RFF: A training primitive writes and reads back a pattern through the DRAM FIFOs and compares it. (R460) -/
  | wffRff (mask : Nat)
  /-- RDC: A training primitive reads the DRAM read calibration pattern and compares it. (R460) -/
  | rdc (mask : Nat)
  /-- LOOPBACK: A training primitive loops the PHY write path into its read path and compares. (R460) -/
  | loopback (mask : Nat)
  /-- CH_APPLY: A write of CH_APPLY requests the channel's shadow delays be taken into use. (R461) -/
  | chApply (a : Acc) (c : Fin 8) (v : Word)
  /-- DELAY_APPLIED: The shadow delays take effect at the channel's next all-bank refresh. (R461) -/
  | delayApplied (c : Fin 8)
  /-- MR4_POLL: The controller polls MR4 every 1 ms and sets the refresh rate. (R451) -/
  | mr4Poll (c : Fin 8) (mr4 : Byte)
  /-- DELAY_CHECK: House firmware checks a channel's delays each second and steps them by at most 2. (R462) -/
  | delayCheck (c : Fin 8) (steps : List (Nat × Int))
  /-- CHANNEL_FAULT: A faulty DRAM channel maps out its pair and tickets and pushes stop from the next edge. (R464) -/
  | channelFault (c : Fin 8)
  /-- DRAM_RELAID: House firmware completes re-interleaving and reloading DRAM and tickets resume at an edge. (R464) -/
  | dramRelaid
  /-- PKR_HEAD_WRITE: A tenant advances its packer ring HEAD and the new jobs become available. (R493) -/
  | pkrHeadWrite (a : Acc) (t : Fin 8) (v : Word)
  /-- ENCODE: A packer lane encodes a job's input into packed or raw blocks. (R479) -/
  | encode (lane t : Fin 8) (slot : Fin 4096)
  /-- DECODE: A packer lane decodes one block of a ring job. (R476) -/
  | decode (lane t : Fin 8) (slot : Fin 4096)
  /-- FLUSH: A packer lane writes a stream's pending input as a block, optionally the last. (R484) -/
  | flush (lane t : Fin 8) (slot : Fin 4096)
  /-- PACKER_FAULT: A parity error maps a packer lane out and its work restarts on another lane. (R489) -/
  | packerFault (lane : Fin 8)
  /-- CADDY_PROGRAM: A Caddy PROGRAM is checked and started, rewriting a page with new codewords. (R501) -/
  | caddyProgram (house : Bool) (own : Option (Nat × List Byte)) (fetch : Option (Fin 2)) (code : Fin 4096)
  /-- CADDY_ERASE: A Caddy ERASE is checked and started on one sector. (R501) -/
  | caddyErase (house : Bool) (own : Option Nat) (fetch : Option (Fin 2)) (code : Fin 4096)
  /-- CADDY_OP_COMPLETE: A Caddy operation completes and the next queued operation may start. (R501) -/
  | caddyOpComplete
  /-- CADDY_ENERGY_RECHECK: A queued house-port operation is checked again every 1 ms; HOLD_LOW after 1 s. (R518) -/
  | caddyEnergyRecheck (code : Fin 4096)
  /-- HOLDUP_LOAD_TEST: A load test measures the hold-up store's capacitance. (R517) -/
  | holdupLoadTest (dTest dTrend : Int)
  /-- CADDY_MARGIN_READ: One codeword is read at normal and margin references and its page queued for refresh if needed. (R510) -/
  | caddyMarginRead (found : Fin 4) (near : Bool)
  /-- PAGE_REFRESH: A queued Caddy page refresh rewrites the page with corrected data when both ports are idle. (R511) -/
  | pageRefresh (code : Fin 4096)
  /-- CAD_PROTECT_LOCK: Setting CAD_PROTECT.LOCK fixes PROT until the next power-on reset. (R513) -/
  | cadProtectLock (a : Acc) (v : Word)
  /-- LOAD: A LOAD command checks an image in phase A and applies it in phase B. (R543) -/
  | load (a : Option Acc) (v : Word)
  /-- LIVE: A LIVE command checks an image and stages its changed LIVE sections as one commit of T0. (R547) -/
  | live (a : Acc) (v : Word)
  /-- LIVE_ROUND: After swapped-out engines are rewritten, the next round of program swaps is committed. (R549) -/
  | liveRound
  /-- VERIFY: A VERIFY command runs phase A only. (R543) -/
  | verify (a : Acc) (v : Word)
  /-- PNX_REVOKE: A write of PNX_REVOKE blows the revoke fuse of a key slot. (R553) -/
  | pnxRevoke (a : Acc) (v : Word)
  /-- FLASH_READ: A flash command reads bytes into DRAM. (R555) -/
  | flashRead (a : Acc) (v : Word)
  /-- FLASH_PROGRAM: A flash command programs bytes from DRAM. (R555) -/
  | flashProgram (a : Acc) (v : Word)
  /-- FLASH_ERASE_4K: A flash command erases a 4 KiB sector. (R555) -/
  | flashErase4k (a : Acc) (v : Word)
  /-- FLASH_ERASE_64K: A flash command erases a 64 KiB block. (R555) -/
  | flashErase64k (a : Acc) (v : Word)
  /-- CUQ_TAIL_WRITE: A tenant advances CUQ_TAIL and its new cues become available to the cue engine. (R570) -/
  | cuqTailWrite (a : Acc) (t : Fin 8) (v : Word)
  /-- CPQ_HEAD_WRITE: A tenant advances CPQ_HEAD, freeing slots for held completions. (R572) -/
  | cpqHeadWrite (a : Acc) (t : Fin 8) (v : Word)
  /-- PBH_HEAD_WRITE: A tenant advances PBH_HEAD, freeing room in its prompt-book host ring. (R588) -/
  | pbhHeadWrite (a : Acc) (t : Fin 8) (v : Word)
  /-- CUE_NOP: A NOP cue completes at once. (R576) -/
  | cueNop (t : Fin 8)
  /-- WRITE: A WRITE cue performs up to five register writes of the tenant. (R576) -/
  | write (t : Fin 8)
  /-- READ: A READ cue reads one register of the tenant. (R576) -/
  | read (t : Fin 8)
  /-- COMMIT: A COMMIT cue takes the staging set as a commit and completes when it shows or fails. (R578) -/
  | commit (t : Fin 8)
  /-- HANDOVER: A HANDOVER cue reassigns an ownable thing after an epoch check. (R566) -/
  | handover (t : Fin 8)
  /-- DRV_TXN: A DRV_TXN cue queues a driver transaction on a port. (R306) -/
  | drvTxn (t : Fin 8)
  /-- SET_TIME: A SET_TIME cue loads the show clock. (R35) -/
  | setTime (t : Fin 8)
  /-- CENSUS: A CENSUS cue requests a census and completes at its edge. (R590) -/
  | census (t : Fin 8)
  /-- CUE_FENCE: A FENCE cue completes when every earlier cue of the queue has completed. (R576) -/
  | cueFence (t : Fin 8)
  /-- RESET: A RESET cue of T0 performs a tenant reset of another tenant. (R576) -/
  | reset (t : Fin 8)
  /-- MARK: A MARK cue writes a SYSTEM MARK record. (R576) -/
  | mark (t : Fin 8)
  /-- DISCARD: A DISCARD cue empties the tenant's staging set. (R568) -/
  | discard (t : Fin 8)
  /-- SCHEDULED_CUE_RELEASE: At the release instant of edge AT the held scheduled cues start in taking order. (R575) -/
  | scheduledCueRelease
  /-- TEN_OWN_WRITE: A write of a TEN_OWN register reassigns a thing and increments its epoch on change. (R566) -/
  | tenOwnWrite (a : Acc) (o : OwnThing) (v : Word)
  /-- TEN_BIND_WRITE: A write of TEN_BIND that changes mode, port or address rebinds the tenant and resets it. (R564) -/
  | tenBindWrite (a : Acc) (t : Fin 8) (srcIp : Bool) (v : Word)
  /-- TEN_RESET: A write of TEN_RESET performs a tenant reset of the tenant. (R581) -/
  | tenReset (a : Acc) (t : Fin 8) (v : Word)
  /-- TEN_DISCARD: A write of TEN_DISCARD empties the tenant's staging set. (R568) -/
  | tenDiscard (a : Acc) (t : Fin 8) (v : Word)
  /-- TEN_CENSUS: A write of TEN_CENSUS.GO requests a census. (R590) -/
  | tenCensus (a : Acc) (v : Word)
  /-- FUNCTION_LEVEL_RESET: A PCIe Function Level Reset resets the tenant of that function. (R559) -/
  | functionLevelReset (t : Fin 8)
  /-- PCIE_HOT_RESET: A hot reset resets every tenant bound to PCIe. (R559) -/
  | pcieHotReset
  /-- PCIE_LINK_LOSS: Loss of the PCIe link resets every tenant bound to PCIe. (R559) -/
  | pcieLinkLoss
  /-- MGMT_READ: A management READ frame reads registers and is answered. (R560) -/
  | mgmtRead (f : MgmtFrame)
  /-- MGMT_WRITE: A management WRITE frame writes registers and is answered. (R560) -/
  | mgmtWrite (f : MgmtFrame)
  /-- MGMT_CUE: A management CUE frame places cues in the tenant's internal queue. (R570) -/
  | mgmtCue (f : MgmtFrame)
  /-- ARP_REQUEST: The management port answers an ARP request. (R560) -/
  | arpRequest (sha : Nat) (spa tpa : BitVec 32)
  /-- ICMP_ECHO_REQUEST: The management port answers an ICMP echo request. (R560) -/
  | icmpEchoRequest (dst : BitVec 32) (id seq : Nat) (data : List Byte)
  /-- SPI_READ: SPI instruction 0x0B reads one register as T0. (R561) -/
  | spiRead (addr : Nat)
  /-- SPI_WRITE: SPI instruction 0x02 writes one register as T0 where allowed. (R561) -/
  | spiWrite (addr : Nat) (v : Word)
  /-- PB_RECORD_RELEASE: The collector releases records into the device ring 5 us after their stamps and delivers them to tenants. (R585) -/
  | pbRecordRelease
  /-- PB_COALESCE_CLOSE: A coalescing window closes and one COALESCED record is released. (R586) -/
  | pbCoalesceClose
  /-- PB_CADDY_COPY: House firmware writes one page of prompt-book records into the Caddy each second. (R589) -/
  | pbCaddyCopy
  /-- MSIX_HOLDOFF: An MSI-X vector's 10 us hold-off ends and a message covering new items is sent. (R596) -/
  | msixHoldoff (t : Fin 8) (v : Fin 4)
  /-- SYS_MODE_REQ_REHEARSAL: SYS_MODE_REQ with TARGET 4 moves a showing device to REHEARSAL at an edge. (R601) -/
  | sysModeReqRehearsal (a : Acc)
  /-- SYS_MODE_REQ_SHOW: SYS_MODE_REQ with TARGET 5 moves REHEARSAL to SHOW at an edge once locked. (R601) -/
  | sysModeReqShow (a : Acc)
  /-- SYS_MODE_REQ_HOLD: SYS_MODE_REQ with TARGET 8 starts entry to HOLD after the next edge. (R603) -/
  | sysModeReqHold (a : Acc)
  /-- SYS_MODE_REQ_TEST: SYS_MODE_REQ with TARGET 11 enters TEST from BOOT or RECOVERY. (R599) -/
  | sysModeReqTest (a : Acc)
  /-- WAKE_RESUME: The first edge after wake resumes curtains and tickets every region. (R604) -/
  | wakeResume
  /-- L1_KEEPER_ACCESS: A BAR0 access in HOLD is served by the L1 keeper for SYS reads and refused otherwise. (R604) -/
  | l1KeeperAccess (a : Acc) (addr : Nat) (write : Bool)
  /-- VDD_AO_GOOD: VDD_AO enters its range and Roura enters PILOT. (R599) -/
  | vddAoGood (testEn : Bool)
  /-- VDD_AO_LOSS: VDD_AO leaves its range and Roura goes OFF at once. (R629) -/
  | vddAoLoss
  /-- POR_N_RISE: POR_N rises with spine supplies good and Roura enters BOOT. (R605) -/
  | porNRise (testEn : Bool)
  /-- SPINE_SUPPLY_LOSS: A spine rail leaves its range or POR_N falls with VDD_AO kept and Roura restarts in BOOT. (R629) -/
  | spineSupplyLoss
  /-- PORT_SUPPLY_FAULT: A VDD_PORT rail leaves its range and its bank stops with PORT_SUPPLY. (R629) -/
  | portSupplyFault (b : Fin 16)
  /-- PFAIL_N_FALL: PFAIL_N low for 2 us starts supply-loss handling. (R611) -/
  | pfailNFall
  /-- PFAIL_N_RISE: PFAIL_N rises with VDD_AO kept and Roura starts again. (R611) -/
  | pfailNRise
  /-- HC_WATCHDOG: A house-core watchdog expires. (R606) -/
  | hcWatchdog (dramOk : Bool)
  /-- HC_FAULT: An unhandled house-core fault causes a warm restart. (R606) -/
  | hcFault (dramOk : Bool)
  /-- SYS_RESTART: A write of SYS_RESTART with GO and CONFIRM 0xA5 causes a warm restart. (R606) -/
  | sysRestart (a : Acc) (v : Word) (dramOk : Bool)
  /-- THERMAL_SAMPLE: The thermal monitor reads its five sensors every 20 us. (R609) -/
  | thermalSample (q0 q1 q2 q3 sp : BitVec 16)
  /-- IDCODE: JTAG instruction selecting the identification register. (R638) -/
  | idcode
  /-- BYPASS: JTAG instruction selecting the bypass register. (R638) -/
  | bypass
  /-- SAMPLE: JTAG instruction sampling the boundary register. (R638) -/
  | sample (balls : List Bool)
  /-- PRELOAD: JTAG instruction preloading the boundary register. (R638) -/
  | preload (balls : List Bool)
  /-- EXTEST: JTAG instruction driving balls from the boundary register. (R638) -/
  | extest (balls : List Bool)
  /-- REGISTER_READ: A read of control space returns the field values, or reads 0 and records BAD_ARG or NOT_OWNER for reserved addresses, other tenants' windows, refused Caddy or SRAM window reads. (R563) -/
  | registerRead (a : Acc) (addr : Nat)
  /-- BS_ILLEGAL_OP: The sequencer meets an illegal opcode or an uncorrectable microinstruction, halts, sends ABT and raises SEQ_FAULT. (R302) -/
  | bsIllegalOp (b : Fin 16) (ecc : Bool)
  /-- NET_LINK_DOWN: A NET port's link or module signal is lost, and a network source whose every enabled path is down enters LOST. (R106) -/
  | netLinkDown (p : Fin 2)
  /-- NET_LINK_UP: A NET port's link comes up and IGMPv3 joins are sent for each enabled path carried on it, letting a LOST source return to SEEKING. (R93) -/
  | netLinkUp (p : Fin 2)
  /-- PTP_DELAY_REQ: The PTP instance sends a Delay_Req under the end-to-end delay mechanism at its own interval. (R96) -/
  | ptpDelayReq (p : Fin 2) (at_ seq : Nat)
  /-- PREVIEW_HPD: A preview sink's HPD changes, setting or clearing PVW_STATUS.HPD and stopping or restarting the preview link. (R122) -/
  | previewHpd (p : Fin 2) (up : Bool)
  /-- DRIVER_LOCK_LOSS: A lit driver loses symbol lock without having received HOLD and starts its LINE_LOSS_HOLD period. (R347) -/
  | driverLockLoss (w : DrvAt)
  /-- DRIVER_LOCK_GAIN: A driver achieves symbol and comma alignment on its line and resumes acting on packets and marks. (R308) -/
  | driverLockGain (w : DrvAt)
  /-- LANE_LOCK: A company lane regains lock and begins the 1 s clean period after which it rejoins the stripe at an edge. (R408) -/
  | laneLock (e : Fin 2) (lane : Fin 4)
  /-- VDD_HOLD_GOOD: VDD_HOLD reaches 2.7 V and the Caddy serves reads 20 us later. (R507) -/
  | vddHoldGood
  /-- VDD_HOLD_LOSS: VDD_HOLD falls below 2.7 V, so Caddy reads wait and writes fail the energy check. (R629) -/
  | vddHoldLoss
  /-- REFCLK_LOSS: REFCLK fails and a Caddy operation in progress completes on its own oscillator and VDD_HOLD. (R519) -/
  | refclkLoss
  deriving DecidableEq, Repr

end Sys2Proof
end

