-- ==== Sys2Proof/WellFormed.lean ====
section
/-! DEFINITION. Which commands the outside world can send: the ranges that the spec gives an operand where its type is wider.
`exec` has a meaning for every command; a well-formed one is one that some sender can put on the wire (log entry 7). -/

namespace Sys2Proof

/-- A show-clock time of 48 bits of seconds (R34). -/
def timeOk (t : Nat) : Bool := decide (t < 2 ^ 48 * 1000000000)

/-- A list without repeats. -/
def noRepeats (l : List (Fin 16)) : Bool := decide l.Nodup

/-- A format that SRC_FMT and SRC_SIZE can describe, at a depth of R90. -/
def FrameFmt.wellFormed (f : FrameFmt) : Bool :=
  decide (f.sampling < 4) && [6, 8, 10, 12].contains f.depth && decide (f.range < 2) && decide (f.tf < 4)
    && decide (f.color < 4) && decide (f.width < 65536) && decide (f.height < 65536)

/-- A plane of `h` lines of `w` samples of `d` bits. -/
def planeOk (h w d : Nat) (p : List (List Nat)) : Bool :=
  decide (p.length = h) && p.all (fun l => decide (l.length = w) && l.all (fun v => decide (v < 2 ^ d)))

/-- The two planes of a frame: luma or G at full resolution, the chroma pairs at that of the sampling (R97). -/
def planesOk (f : FrameFmt) (p0 p1 : List (List Nat)) : Bool :=
  planeOk f.height f.width f.depth p0
    && planeOk (if f.sampling = 2 then (f.height + 1) / 2 else f.height)
        (2 * (if f.sampling = 1 ∨ f.sampling = 2 then (f.width + 1) / 2 else f.width)) f.depth p1

/-- At most three sample row data headers (R93). -/
def NetPacket.wellFormed (p : NetPacket) : Bool :=
  decide (p.segments.length ≤ 3) && decide (p.udpPort < 65536)

/-- Header fields within their bytes (R560). -/
def MgmtFrame.wellFormed (f : MgmtFrame) : Bool :=
  decide (f.srcPort < 65536) && decide (f.seq < 65536) && decide (f.len < 65536)

/-- Header fields within their bytes (R410). -/
def CellHead.wellFormed (h : CellHead) : Bool := decide (h.hops < 256) && decide (h.seq < 65536)

/-- Every operand lies in the range the spec gives it. -/
def Instr.wellFormed (i : Instr) : Bool :=
  match i with
  | .registerWrite _ addr _ => decide (addr < 2 ^ 32)
  | .curCommit _ _ _ => true
  | .curTimeSecHiRead _ => true
  | .referenceEvent _ at_ _ => timeOk at_
  | .referenceEventMissing => true
  | .curtainEdge _ => true
  | .slotStart _ => true
  | .markEmit _ _ => true
  | .commitClose => true
  | .rescueInstant => true
  | .intervalStart => true
  | .camsyncFire _ _ => true
  | .camsyncEnd _ => true
  | .syncOutFire _ _ => true
  | .syncOutEnd _ => true
  | .sourceAdoption => true
  | .dprxLinkTrained _ _ _ lanes fmt _ _ => fmt.wellFormed && [1, 2, 4].contains lanes
  | .dprxLinkLost _ => true
  | .sourceFrameArrival _ _ fmt plane0 plane1 => fmt.wellFormed && planesOk fmt plane0 plane1
  | .netPacket _ _ p => p.wellFormed
  | .netFrameSkewTimeout _ _ => true
  | .ptpMessage _ at_ _ => timeOk at_
  | .ptpAnnounceTimeout _ => true
  | .sourceLossTimeout _ => true
  | .srcForce _ _ _ => true
  | .sourceWakeActivity _ => true
  | .previewLinkTrained _ lanes _ => [1, 2, 4].contains lanes
  | .previewFrame _ => true
  | .footprintRegionDecided _ => true
  | .stpForce _ _ => true
  | .stpHeldInv _ _ => true
  | .nop _ _ => true
  | .add _ _ _ _ _ => true
  | .sub _ _ _ _ _ => true
  | .and _ _ _ _ _ => true
  | .or _ _ _ _ _ => true
  | .xor _ _ _ _ _ => true
  | .sll _ _ _ _ _ => true
  | .srl _ _ _ _ _ => true
  | .sra _ _ _ _ _ => true
  | .slt _ _ _ _ _ => true
  | .sltu _ _ _ _ _ => true
  | .mul _ _ _ _ _ => true
  | .mulh _ _ _ _ _ => true
  | .mulhu _ _ _ _ _ => true
  | .min _ _ _ _ _ => true
  | .max _ _ _ _ _ => true
  | .addi _ _ _ _ _ => true
  | .andi _ _ _ _ _ => true
  | .ori _ _ _ _ _ => true
  | .xori _ _ _ _ _ => true
  | .slli _ _ _ _ _ => true
  | .srli _ _ _ _ _ => true
  | .srai _ _ _ _ _ => true
  | .slti _ _ _ _ _ => true
  | .ldi _ _ _ => true
  | .lui _ _ _ _ => true
  | .lw _ _ _ _ _ => true
  | .lhu _ _ _ _ _ => true
  | .lbu _ _ _ _ _ => true
  | .sw _ _ _ _ _ => true
  | .sh _ _ _ _ _ => true
  | .sb _ _ _ _ _ => true
  | .beq _ _ _ _ _ => true
  | .bne _ _ _ _ _ => true
  | .blt _ _ _ _ _ => true
  | .bge _ _ _ _ _ => true
  | .bltu _ _ _ _ _ => true
  | .bgeu _ _ _ _ _ => true
  | .jal _ _ _ => true
  | .jalr _ _ _ _ _ => true
  | .loop _ _ _ _ => true
  | .amoadd _ _ _ _ _ => true
  | .amoswp _ _ _ _ _ => true
  | .mfs _ _ _ _ => true
  | .mts _ _ _ _ => true
  | .tkget _ _ _ => true
  | .tkdone _ _ _ _ _ => true
  | .sugo _ _ _ _ => true
  | .suwait _ _ _ _ => true
  | .bar _ _ _ _ => true
  | .waitev _ _ _ _ => true
  | .fence _ _ => true
  | .fault _ _ _ => true
  | .halt _ _ => true
  | .illegalOp _ _ => true
  | .vnop _ _ => true
  | .vadd _ _ _ _ _ _ _ => true
  | .vsub _ _ _ _ _ _ _ => true
  | .vand _ _ _ _ _ _ => true
  | .vor _ _ _ _ _ _ => true
  | .vxor _ _ _ _ _ _ => true
  | .vsll _ _ _ _ _ _ => true
  | .vsrl _ _ _ _ _ _ => true
  | .vsra _ _ _ _ _ _ => true
  | .vmin _ _ _ _ _ _ _ => true
  | .vmax _ _ _ _ _ _ _ => true
  | .vmul _ _ _ _ _ _ => true
  | .vmulh _ _ _ _ _ _ _ => true
  | .vmac _ _ _ _ _ _ _ => true
  | .vmul64 _ _ _ _ _ _ _ => true
  | .vnarrow _ _ _ _ _ _ _ => true
  | .vdiv _ _ _ _ _ _ _ => true
  | .vaddi _ _ _ _ _ _ => true
  | .vandi _ _ _ _ _ _ => true
  | .vslli _ _ _ _ _ _ => true
  | .vsrli _ _ _ _ _ _ => true
  | .vsrai _ _ _ _ _ _ => true
  | .vclamp _ _ _ _ _ _ => true
  | .vmov _ _ _ _ _ => true
  | .vbcast _ _ _ _ _ => true
  | .vlaneid _ _ _ _ => true
  | .vslide _ _ _ _ _ _ _ => true
  | .vperm _ _ _ _ _ _ => true
  | .vcmp _ _ _ _ _ _ _ => true
  | .vcmpi _ _ _ _ _ _ _ => true
  | .vpop _ _ _ _ _ _ _ => true
  | .vpmovs _ _ _ _ _ => true
  | .vspmov _ _ _ _ _ => true
  | .vext _ _ _ _ _ _ => true
  | .vredacc _ _ _ _ _ => true
  | .vldw _ _ _ _ _ _ => true
  | .vldh _ _ _ _ _ _ => true
  | .vldhs _ _ _ _ _ _ => true
  | .vldb _ _ _ _ _ _ => true
  | .vstw _ _ _ _ _ _ => true
  | .vsth _ _ _ _ _ _ => true
  | .vstb _ _ _ _ _ _ => true
  | .vgather _ _ _ _ _ _ _ => true
  | .vscatter _ _ _ _ _ _ _ => true
  | .vstc _ _ _ _ _ _ => true
  | .vcrc _ _ _ _ _ _ => true
  | .smp _ _ _ _ _ _ _ => true
  | .lutl _ _ _ _ _ _ => true
  | .samplerServe _ _ => true
  | .lutUnitServe _ => true
  | .read2d _ _ => true
  | .write2d _ _ => true
  | .unpack _ _ => true
  | .post _ _ => true
  | .postAccept _ _ => true
  | .engWatchdog _ => true
  | .regfileParity _ => true
  | .pstoreEcc _ => true
  | .unitFault _ _ => true
  | .programStoreCopy _ _ => true
  | .engPdataLoWrite _ _ _ => true
  | .engPdataHiWrite _ _ _ => true
  | .engPdataHiRead _ _ => true
  | .bsNop _ => true
  | .bsIdle _ _ => true
  | .bsFetch _ _ => true
  | .bsSend _ _ => true
  | .bsKsym _ _ _ => true
  | .bsTurn _ _ => true
  | .bsSetf _ _ _ => true
  | .bsClrf _ _ _ => true
  | .bsJmp _ _ => true
  | .bsBr _ _ _ => true
  | .bsLdc _ _ => true
  | .bsDjnz _ _ => true
  | .bsWaitc _ _ => true
  | .bsCall _ _ => true
  | .bsRtn _ => true
  | .bsEvt _ _ => true
  | .bsHalt _ => true
  | .bsStatusRead _ _ => true
  | .bsUdataHiWrite _ _ _ => true
  | .returnWindowDue _ => true
  | .status _ _ _ _ _ => true
  | .readData _ bs => decide (bs.length ≤ 16)
  | .serviceData _ bs => decide (bs.length ≤ 16)
  | .echoReply _ _ => true
  | .pageWrite _ _ _ bs => decide (bs.length ≤ 512)
  | .codeDense _ _ _ bs => decide (bs.length ≤ 512)
  | .codeSparse _ _ _ bs => decide (bs.length ≤ 512)
  | .pageCopy _ _ _ bs => decide (bs.length ≤ 512)
  | .regWrite _ _ _ bs => decide (bs.length ≤ 512)
  | .readReq _ _ _ bs => decide (bs.length ≤ 512)
  | .curtain _ _ bs => decide (bs.length ≤ 512)
  | .slotSched _ _ bs => decide (bs.length ≤ 512)
  | .echo _ _ _ => true
  | .curMark _ _ => true
  | .stbMark _ _ => true
  | .ta _ _ _ => true
  | .abt _ _ => true
  | .powerLogicOff _ _ => true
  | .powerRailOn _ _ => true
  | .powerLightOn _ _ => true
  | .powerLightOff _ _ => true
  | .powerRailOff _ _ => true
  | .powerHold _ _ => true
  | .diagRead _ _ _ tests => decide (tests.length = 64)
  | .borrow _ _ _ _ => true
  | .railRead _ _ _ _ => true
  | .calFlat _ _ _ => true
  | .flArm _ _ _ _ => true
  | .flRead _ _ _ _ _ counts => decide (counts.length = 6) && counts.all (fun n => decide (n < 65536))
  | .vfRead _ _ _ classes => decide (classes.length = 64)
  | .driverLineLossHold _ => true
  | .tilePowerAdvance _ found => found.all (fun p => decide (p.1 < 16384) && decide (p.2 ≤ 255))
  | .railSettleElapsed _ => true
  | .railDischargeElapsed _ => true
  | .tileReportTimeout _ => true
  | .logicLineRestart _ => true
  | .readbackScrub _ => true
  | .diagWindow => true
  | .drvLampSetA _ _ => true
  | .drvLampSetB _ _ => true
  | .calRun _ _ => true
  | .calRunResult _ e _ => decide (e.length = 3) && e.all (fun x => match x with | some q => decide (0 < q.2) | none => true)
  | .tempPoll => true
  | .calTrim _ _ => true
  | .bankTrimMeasured _ swing dly => decide (swing.length = 64) && decide (dly.length = 64)
  | .amonConversion _ _ _ => true
  | .timeCellSend => true
  | .timeCell h at_ _ _ _ _ _ _ _ _ => h.wellFormed && timeOk at_
  | .delayRequest h at_ => h.wellFormed && timeOk at_
  | .delayResponse h _ _ _ _ => h.wellFormed
  | .controlCandidacy h _ _ _ _ _ => h.wellFormed
  | .controlLeadDecision h _ _ _ _ => h.wellFormed
  | .controlFieldsAnnounce h fields => h.wellFormed && fields.all (fun p => decide (p.1 < 2 ^ 32))
  | .controlCensusRequest h _ _ _ => h.wellFormed
  | .sourceCell h _ _ _ _ fmt _ _ _ bs => h.wellFormed && fmt.wellFormed && decide (bs.length ≤ 256)
  | .promptCell h _ _ _ _ _ _ _ _ _ _ => h.wellFormed
  | .bulkCell h _ _ _ bs => h.wellFormed && decide (bs.length ≤ 256)
  | .bulkAck h _ _ => h.wellFormed
  | .xferUnreachable => true
  | .cmpXferGo _ _ => true
  | .cmpRoleReq _ _ => true
  | .cmpCensus _ _ => true
  | .laneLoss _ _ => true
  | .linkDown _ east west => noRepeats (east ++ west)
  | .linkUp _ _ _ east west => noRepeats (east ++ west)
  | .leadLost => true
  | .shareBlockReady _ _ _ => true
  | .shareRawTimeout => true
  | .bankOwnerWrite _ _ _ => true
  | .bankPwrWrite _ _ _ => true
  | .bankPowerMoveDone _ => true
  | .bankScrubRead _ _ _ => true
  | .atomicFetchadd _ addr bytes _ => decide (addr < 2 ^ 32) && decide (bytes < 2 ^ 12)
  | .atomicSwap _ addr bytes _ => decide (addr < 2 ^ 32) && decide (bytes < 2 ^ 12)
  | .mrw _ _ _ => true
  | .mrr _ _ => true
  | .wffRff mask => decide (mask < 2 ^ 36)
  | .rdc mask => decide (mask < 2 ^ 36)
  | .loopback mask => decide (mask < 2 ^ 36)
  | .chApply _ _ _ => true
  | .delayApplied _ => true
  | .mr4Poll _ _ => true
  | .delayCheck _ steps => steps.all (fun p => decide (p.1 < 81) && decide (-2 ≤ p.2 ∧ p.2 ≤ 2))
  | .channelFault _ => true
  | .dramRelaid => true
  | .pkrHeadWrite _ _ _ => true
  | .encode _ _ _ => true
  | .decode _ _ _ => true
  | .flush _ _ _ => true
  | .packerFault _ => true
  | .caddyProgram _ own _ _ => match own with | some q => decide (q.1 < 2 ^ 22) && decide (q.2.length ≤ 256) | none => true
  | .caddyErase _ own _ _ => match own with | some a => decide (a < 2 ^ 22) | none => true
  | .caddyOpComplete => true
  | .caddyEnergyRecheck _ => true
  | .holdupLoadTest _ _ => true
  | .caddyMarginRead _ _ => true
  | .pageRefresh _ => true
  | .cadProtectLock _ _ => true
  | .load _ _ => true
  | .live _ _ => true
  | .liveRound => true
  | .verify _ _ => true
  | .pnxRevoke _ _ => true
  | .flashRead _ _ => true
  | .flashProgram _ _ => true
  | .flashErase4k _ _ => true
  | .flashErase64k _ _ => true
  | .cuqTailWrite _ _ _ => true
  | .cpqHeadWrite _ _ _ => true
  | .pbhHeadWrite _ _ _ => true
  | .cueNop _ => true
  | .write _ => true
  | .read _ => true
  | .commit _ => true
  | .handover _ => true
  | .drvTxn _ => true
  | .setTime _ => true
  | .census _ => true
  | .cueFence _ => true
  | .reset _ => true
  | .mark _ => true
  | .discard _ => true
  | .scheduledCueRelease => true
  | .tenOwnWrite _ _ _ => true
  | .tenBindWrite _ _ _ _ => true
  | .tenReset _ _ _ => true
  | .tenDiscard _ _ _ => true
  | .tenCensus _ _ => true
  | .functionLevelReset _ => true
  | .pcieHotReset => true
  | .pcieLinkLoss => true
  | .mgmtRead f => f.wellFormed
  | .mgmtWrite f => f.wellFormed
  | .mgmtCue f => f.wellFormed
  | .arpRequest sha _ _ => decide (sha < 2 ^ 48)
  | .icmpEchoRequest _ id seq _ => decide (id < 65536) && decide (seq < 65536)
  | .spiRead addr => decide (addr < 2 ^ 32)
  | .spiWrite addr _ => decide (addr < 2 ^ 32)
  | .pbRecordRelease => true
  | .pbCoalesceClose => true
  | .pbCaddyCopy => true
  | .msixHoldoff _ _ => true
  | .sysModeReqRehearsal _ => true
  | .sysModeReqShow _ => true
  | .sysModeReqHold _ => true
  | .sysModeReqTest _ => true
  | .wakeResume => true
  | .l1KeeperAccess _ addr _ => decide (addr < 2 ^ 32)
  | .vddAoGood _ => true
  | .vddAoLoss => true
  | .porNRise _ => true
  | .spineSupplyLoss => true
  | .portSupplyFault _ => true
  | .pfailNFall => true
  | .pfailNRise => true
  | .hcWatchdog _ => true
  | .hcFault _ => true
  | .sysRestart _ _ _ => true
  | .thermalSample _ _ _ _ _ => true
  | .idcode => true
  | .bypass => true
  | .sample _ => true
  | .preload _ => true
  | .extest _ => true
  | .registerRead _ addr => decide (addr < 2 ^ 32)
  | .bsIllegalOp _ _ => true
  | .netLinkDown _ => true
  | .netLinkUp _ => true
  | .ptpDelayReq _ at_ seq => timeOk at_ && decide (seq < 65536)
  | .previewHpd _ _ => true
  | .driverLockLoss _ => true
  | .driverLockGain _ => true
  | .laneLock _ _ => true
  | .vddHoldGood => true
  | .vddHoldLoss => true
  | .refclkLoss => true

end Sys2Proof
end

