-- ==== Sys2Proof/Decode.lean ====
section
/-! DEFINITION. Decoding of the words of the command table. opcode_table.json gives no bits to any row of this block, so no word
spells a command (log entry 42); the engine bundles and microinstructions that the block fetches itself are decoded in
Machine/Programs.lean and Machine/Ports.lean. -/

namespace Sys2Proof

/-- The command that a word of `nbits` bits spells by the table's bits: none, for the table gives no row any bits. -/
def decodeTableWord (nbits w : Nat) : Option Instr :=
  match nbits, w with
  | _, _ => none

end Sys2Proof
end

