-- ==== Sys2Proof/Machine/Regs.lean ====
section
/-! DEFINITION. The register map of Roura: the address of every control register (00 R6, 15 R562 and the address table of
each chapter), the place of every field, and its access code and reset value (the field table of each chapter).
The field tables' values "fused" stand as log entry 4 says. -/

namespace Sys2Proof.Machine

/-! ## Addresses -/
namespace Reg

/-- SYS_IDENT (R5). -/
def SYS_IDENT : Nat := 0x00000000
/-- SYS_MODE (R621). -/
def SYS_MODE : Nat := 0x00000004
/-- SYS_MODE_REQ (R621). -/
def SYS_MODE_REQ : Nat := 0x00000008
/-- SYS_CTRL (R621). -/
def SYS_CTRL : Nat := 0x0000000C
/-- SYS_WAKE (R621). -/
def SYS_WAKE : Nat := 0x00000010
/-- SYS_STATUS (R621). -/
def SYS_STATUS : Nat := 0x00000014
/-- SYS_THERM (R621). -/
def SYS_THERM : Nat := 0x00000018
/-- SYS_SUPPLY (R621). -/
def SYS_SUPPLY : Nat := 0x0000001C
/-- SYS_TEMP (R621). -/
def SYS_TEMP (i : Nat) : Nat := 0x00000020 + 0x4 * i
/-- SYS_DEGRADE (R621). -/
def SYS_DEGRADE : Nat := 0x00000034
/-- SYS_RESTART (R621). -/
def SYS_RESTART : Nat := 0x00000038
/-- SYS_SNAP_LO (R621). -/
def SYS_SNAP_LO : Nat := 0x0000003C
/-- SYS_SNAP_HI (R621). -/
def SYS_SNAP_HI : Nat := 0x00000040
/-- SYS_CURTAINS (R621). -/
def SYS_CURTAINS : Nat := 0x00000044
/-- SYS_BAD_CURTAINS (R621). -/
def SYS_BAD_CURTAINS : Nat := 0x00000048
/-- SYS_RESTARTS (R621). -/
def SYS_RESTARTS : Nat := 0x0000004C
/-- SYS_VCORE (R626). -/
def SYS_VCORE : Nat := 0x00000050
/-- CUR_SYNC (R83). -/
def CUR_SYNC : Nat := 0x00100000
/-- CUR_RATE (R84). -/
def CUR_RATE : Nat := 0x00100004
/-- CUR_PHASE (R84). -/
def CUR_PHASE : Nat := 0x00100008
/-- CUR_TIMING (R84). -/
def CUR_TIMING : Nat := 0x0010000C
/-- CUR_SERVO (R85). -/
def CUR_SERVO : Nat := 0x00100010
/-- CUR_LOCK (R85). -/
def CUR_LOCK : Nat := 0x00100014
/-- CUR_PHASE_ERR (R85). -/
def CUR_PHASE_ERR : Nat := 0x00100018
/-- CUR_TIME_SEC_HI (R86). -/
def CUR_TIME_SEC_HI : Nat := 0x00100020
/-- CUR_TIME_SEC_LO (R86). -/
def CUR_TIME_SEC_LO : Nat := 0x00100024
/-- CUR_TIME_NS (R86). -/
def CUR_TIME_NS : Nat := 0x00100028
/-- CUR_NUM (R86). -/
def CUR_NUM : Nat := 0x0010002C
/-- CUR_SLOT_PLAN (R87). -/
def CUR_SLOT_PLAN : Nat := 0x00100040
/-- CUR_SLOT (R87). -/
def CUR_SLOT (i : Nat) : Nat := 0x00100080 + 0x4 * i
/-- CUR_CAMSYNC_CTRL (R88). -/
def CUR_CAMSYNC_CTRL (i : Nat) : Nat := 0x00100100 + 0x10 * i
/-- CUR_CAMSYNC_PHASE (R88). -/
def CUR_CAMSYNC_PHASE (i : Nat) : Nat := 0x00100104 + 0x10 * i
/-- CUR_CAMSYNC_WIDTH (R88). -/
def CUR_CAMSYNC_WIDTH (i : Nat) : Nat := 0x00100108 + 0x10 * i
/-- CUR_SYNCOUT_CTRL (R88). -/
def CUR_SYNCOUT_CTRL (i : Nat) : Nat := 0x00100180 + 0x10 * i
/-- CUR_SYNCOUT_PHASE (R88). -/
def CUR_SYNCOUT_PHASE (i : Nat) : Nat := 0x00100184 + 0x10 * i
/-- CUR_SYNCOUT_WIDTH (R88). -/
def CUR_SYNCOUT_WIDTH (i : Nat) : Nat := 0x00100188 + 0x10 * i
/-- CUR_EVT_STATUS (R89). -/
def CUR_EVT_STATUS (i : Nat) : Nat := 0x00101000 + 0x100 * i
/-- CUR_EVT_ENABLE (R89). -/
def CUR_EVT_ENABLE (i : Nat) : Nat := 0x00101004 + 0x100 * i
/-- CUR_COMMIT (R89). -/
def CUR_COMMIT (i : Nat) : Nat := 0x00101008 + 0x100 * i
/-- CUR_COMMIT_STAT (R89). -/
def CUR_COMMIT_STAT (i : Nat) : Nat := 0x0010100C + 0x100 * i
/-- CUR_COMMIT_CURTAIN (R89). -/
def CUR_COMMIT_CURTAIN (i : Nat) : Nat := 0x00101010 + 0x100 * i
/-- CUR_VIEW (R89). -/
def CUR_VIEW (i : Nat) : Nat := 0x00101014 + 0x100 * i
/-- CUR_ROW_MATCH (R89). -/
def CUR_ROW_MATCH (i : Nat) : Nat := 0x00101018 + 0x100 * i
/-- CUR_UNDERRUN_CNT (R89). -/
def CUR_UNDERRUN_CNT (i : Nat) : Nat := 0x0010101C + 0x100 * i
/-- CUR_LATE_CNT (R89). -/
def CUR_LATE_CNT (i : Nat) : Nat := 0x00101020 + 0x100 * i
/-- SRC_PTP (R122). -/
def SRC_PTP : Nat := 0x00200000
/-- SRC_PTP_STAT (R122). -/
def SRC_PTP_STAT : Nat := 0x00200004
/-- SRC_WAKE (R122). -/
def SRC_WAKE : Nat := 0x00200008
/-- SRC_BUDGET (R122). -/
def SRC_BUDGET : Nat := 0x0020000C
/-- PVW_CTRL (R122). -/
def PVW_CTRL (i : Nat) : Nat := 0x00200100 + 0x40 * i
/-- PVW_STATUS (R122). -/
def PVW_STATUS (i : Nat) : Nat := 0x00200104 + 0x40 * i
/-- PVW_SIZE (R122). -/
def PVW_SIZE (i : Nat) : Nat := 0x00200108 + 0x40 * i
/-- SRC_CTRL (R121). -/
def SRC_CTRL (i : Nat) : Nat := 0x00201000 + 0x400 * i
/-- SRC_FMT (R121). -/
def SRC_FMT (i : Nat) : Nat := 0x00201004 + 0x400 * i
/-- SRC_SIZE (R121). -/
def SRC_SIZE (i : Nat) : Nat := 0x00201008 + 0x400 * i
/-- SRC_PERIOD (R121). -/
def SRC_PERIOD (i : Nat) : Nat := 0x0020100C + 0x400 * i
/-- SRC_STATUS (R121). -/
def SRC_STATUS (i : Nat) : Nat := 0x00201010 + 0x400 * i
/-- SRC_STORE_LO (R121). -/
def SRC_STORE_LO (i : Nat) : Nat := 0x00201014 + 0x400 * i
/-- SRC_STORE_HI (R121). -/
def SRC_STORE_HI (i : Nat) : Nat := 0x00201018 + 0x400 * i
/-- SRC_MAXSIZE (R121). -/
def SRC_MAXSIZE (i : Nat) : Nat := 0x0020101C + 0x400 * i
/-- SRC_FLOW_GRP_A (R121). -/
def SRC_FLOW_GRP_A (i : Nat) : Nat := 0x00201020 + 0x400 * i
/-- SRC_FLOW_GRP_B (R121). -/
def SRC_FLOW_GRP_B (i : Nat) : Nat := 0x00201024 + 0x400 * i
/-- SRC_FLOW_PORT (R121). -/
def SRC_FLOW_PORT (i : Nat) : Nat := 0x00201028 + 0x400 * i
/-- SRC_FLOW_CFG (R121). -/
def SRC_FLOW_CFG (i : Nat) : Nat := 0x0020102C + 0x400 * i
/-- SRC_ADOPT_CNT (R121). -/
def SRC_ADOPT_CNT (i : Nat) : Nat := 0x00201030 + 0x400 * i
/-- SRC_REPEAT_CNT (R121). -/
def SRC_REPEAT_CNT (i : Nat) : Nat := 0x00201034 + 0x400 * i
/-- SRC_DROP_CNT (R121). -/
def SRC_DROP_CNT (i : Nat) : Nat := 0x00201038 + 0x400 * i
/-- SRC_GAP_CNT (R121). -/
def SRC_GAP_CNT (i : Nat) : Nat := 0x0020103C + 0x400 * i
/-- SRC_DID (R120). -/
def SRC_DID (i j : Nat) : Nat := 0x00201200 + 0x400 * i + 0x4 * j
/-- SRC_EVT_STATUS (R123). -/
def SRC_EVT_STATUS (i : Nat) : Nat := 0x0020F000 + 0x100 * i
/-- SRC_EVT_ENABLE (R123). -/
def SRC_EVT_ENABLE (i : Nat) : Nat := 0x0020F004 + 0x100 * i
/-- BLK_BG_R (R153). -/
def BLK_BG_R (i : Nat) : Nat := 0x00300000 + 0x1000 * i
/-- BLK_BG_G (R153). -/
def BLK_BG_G (i : Nat) : Nat := 0x00300004 + 0x1000 * i
/-- BLK_BG_B (R153). -/
def BLK_BG_B (i : Nat) : Nat := 0x00300008 + 0x1000 * i
/-- BLK_MESH_LO (R153). -/
def BLK_MESH_LO (i : Nat) : Nat := 0x0030000C + 0x1000 * i
/-- BLK_MESH_HI (R153). -/
def BLK_MESH_HI (i : Nat) : Nat := 0x00300010 + 0x1000 * i
/-- BLK_MESH_MODE (R153). -/
def BLK_MESH_MODE (i : Nat) : Nat := 0x00300014 + 0x1000 * i
/-- LY_CTRL (R154). -/
def LY_CTRL (i j : Nat) : Nat := 0x00300100 + 0x1000 * i + 0x40 * j
/-- LY_CROP_XY (R154). -/
def LY_CROP_XY (i j : Nat) : Nat := 0x00300104 + 0x1000 * i + 0x40 * j
/-- LY_CROP_WH (R154). -/
def LY_CROP_WH (i j : Nat) : Nat := 0x00300108 + 0x1000 * i + 0x40 * j
/-- LY_DST_X (R154). -/
def LY_DST_X (i j : Nat) : Nat := 0x0030010C + 0x1000 * i + 0x40 * j
/-- LY_DST_Y (R154). -/
def LY_DST_Y (i j : Nat) : Nat := 0x00300110 + 0x1000 * i + 0x40 * j
/-- LY_DST_W (R154). -/
def LY_DST_W (i j : Nat) : Nat := 0x00300114 + 0x1000 * i + 0x40 * j
/-- LY_DST_H (R154). -/
def LY_DST_H (i j : Nat) : Nat := 0x00300118 + 0x1000 * i + 0x40 * j
/-- BLK_REGIONS (R155). -/
def BLK_REGIONS : Nat := 0x00308000
/-- BLK_TICKETS (R155). -/
def BLK_TICKETS : Nat := 0x00308004
/-- BLK_QREGIONS (R155). -/
def BLK_QREGIONS (i : Nat) : Nat := 0x00308010 + 0x4 * i
/-- BLK_WORK_LO (R155). -/
def BLK_WORK_LO : Nat := 0x00308020
/-- BLK_WORK_HI (R155). -/
def BLK_WORK_HI : Nat := 0x00308024
/-- TD_CTRL (R156). -/
def TD_CTRL (i : Nat) : Nat := 0x00700000 + 0x100 * i
/-- TD_GRID (R156). -/
def TD_GRID (i : Nat) : Nat := 0x00700004 + 0x100 * i
/-- TD_SPLIT (R156). -/
def TD_SPLIT (i : Nat) : Nat := 0x00700008 + 0x100 * i
/-- TD_WALL (R156). -/
def TD_WALL (i : Nat) : Nat := 0x0070000C + 0x100 * i
/-- TD_SCAN (R156). -/
def TD_SCAN (i : Nat) : Nat := 0x00700010 + 0x100 * i
/-- TD_REGIONS (R156). -/
def TD_REGIONS (i : Nat) : Nat := 0x00700014 + 0x100 * i
/-- TD_QBASE (R156). -/
def TD_QBASE (i : Nat) : Nat := 0x00700018 + 0x100 * i
/-- TS_COEF_LO (R207). -/
def TS_COEF_LO (i : Nat) : Nat := 0x00700040 + 0x100 * i
/-- TS_COEF_HI (R207). -/
def TS_COEF_HI (i : Nat) : Nat := 0x00700044 + 0x100 * i
/-- TS_DRIVE (R207). -/
def TS_DRIVE (i : Nat) : Nat := 0x00700048 + 0x100 * i
/-- TS_OD (R207). -/
def TS_OD (i : Nat) : Nat := 0x0070004C + 0x100 * i
/-- TD_POWER (R368). -/
def TD_POWER (i : Nat) : Nat := 0x00700080 + 0x100 * i
/-- TD_RAIL (R368). -/
def TD_RAIL (i : Nat) : Nat := 0x00700084 + 0x100 * i
/-- TD_DIAG (R368). -/
def TD_DIAG (i : Nat) : Nat := 0x00700088 + 0x100 * i
/-- TD_HOLD (R368). -/
def TD_HOLD (i : Nat) : Nat := 0x0070008C + 0x100 * i
/-- TD_PAGES (R368). -/
def TD_PAGES (i : Nat) : Nat := 0x00700090 + 0x100 * i
/-- TD_UNOBS_AGE (R368). -/
def TD_UNOBS_AGE (i : Nat) : Nat := 0x007000A8 + 0x100 * i
/-- TD_RB_MISMATCH (R368). -/
def TD_RB_MISMATCH (i : Nat) : Nat := 0x007000AC + 0x100 * i
/-- TD_RB_SKIP (R368). -/
def TD_RB_SKIP (i : Nat) : Nat := 0x007000B0 + 0x100 * i
/-- TD_BORROW (R368). -/
def TD_BORROW (i : Nat) : Nat := 0x007000B4 + 0x100 * i
/-- TC_CTRL (R404). -/
def TC_CTRL (i : Nat) : Nat := 0x007000C0 + 0x100 * i
/-- TC_GAIN_RG (R404). -/
def TC_GAIN_RG (i : Nat) : Nat := 0x007000C4 + 0x100 * i
/-- TC_GAIN_B (R404). -/
def TC_GAIN_B (i : Nat) : Nat := 0x007000C8 + 0x100 * i
/-- TC_REC_LO (R404). -/
def TC_REC_LO (i : Nat) : Nat := 0x007000CC + 0x100 * i
/-- TC_REC_HI (R404). -/
def TC_REC_HI (i : Nat) : Nat := 0x007000D0 + 0x100 * i
/-- TC_TEMP (R404). -/
def TC_TEMP (i : Nat) : Nat := 0x007000D4 + 0x100 * i
/-- TC_LOAD_VAL (R404). -/
def TC_LOAD_VAL (i : Nat) : Nat := 0x007000D8 + 0x100 * i
/-- TC_LOAD_LIVE (R404). -/
def TC_LOAD_LIVE (i : Nat) : Nat := 0x007000DC + 0x100 * i
/-- TC_STAT (R404). -/
def TC_STAT (i : Nat) : Nat := 0x007000E0 + 0x100 * i
/-- TC_EFF_RG (R404). -/
def TC_EFF_RG (i : Nat) : Nat := 0x007000E4 + 0x100 * i
/-- TC_EFF_B (R404). -/
def TC_EFF_B (i : Nat) : Nat := 0x007000E8 + 0x100 * i
/-- TS_LOAD (R207). -/
def TS_LOAD (i j : Nat) : Nat := 0x00700060 + 0x100 * i + 0x4 * j
/-- TD_CNT (R368). -/
def TD_CNT (i j : Nat) : Nat := 0x00700094 + 0x100 * i + 0x4 * j
/-- STP_CTRL (R205). -/
def STP_CTRL : Nat := 0x00400000
/-- STP_PQ_WHITE (R205). -/
def STP_PQ_WHITE : Nat := 0x00400004
/-- STP_SEED (R205). -/
def STP_SEED : Nat := 0x00400008
/-- STP_OD_BASE_LO (R205). -/
def STP_OD_BASE_LO : Nat := 0x0040000C
/-- STP_OD_BASE_HI (R205). -/
def STP_OD_BASE_HI : Nat := 0x00400010
/-- STP_BG_BASE_LO (R205). -/
def STP_BG_BASE_LO : Nat := 0x00400014
/-- STP_BG_BASE_HI (R205). -/
def STP_BG_BASE_HI : Nat := 0x00400018
/-- STP_FORCE (R205). -/
def STP_FORCE : Nat := 0x0040001C
/-- STP_STATUS (R205). -/
def STP_STATUS : Nat := 0x00400020
/-- STP_PAGES (R205). -/
def STP_PAGES : Nat := 0x00400024
/-- STP_HELD_INV (R205). -/
def STP_HELD_INV : Nat := 0x00400028
/-- STP_WEIGHT (R206). -/
def STP_WEIGHT (i : Nat) : Nat := 0x00400100 + 0x4 * i
/-- STP_SRCMAT_00 (R206). -/
def STP_SRCMAT_00 (i : Nat) : Nat := 0x00400200 + 0x20 * i
/-- STP_GMAT_00 (R206). -/
def STP_GMAT_00 (i : Nat) : Nat := 0x00401010 + 0x100 * i
/-- STP_SRCMAT_04 (R206). -/
def STP_SRCMAT_04 (i : Nat) : Nat := 0x00400204 + 0x20 * i
/-- STP_GMAT_04 (R206). -/
def STP_GMAT_04 (i : Nat) : Nat := 0x00401014 + 0x100 * i
/-- STP_SRCMAT_08 (R206). -/
def STP_SRCMAT_08 (i : Nat) : Nat := 0x00400208 + 0x20 * i
/-- STP_GMAT_08 (R206). -/
def STP_GMAT_08 (i : Nat) : Nat := 0x00401018 + 0x100 * i
/-- STP_SRCMAT_0C (R206). -/
def STP_SRCMAT_0C (i : Nat) : Nat := 0x0040020C + 0x20 * i
/-- STP_GMAT_0C (R206). -/
def STP_GMAT_0C (i : Nat) : Nat := 0x0040101C + 0x100 * i
/-- STP_SRCMAT_10 (R206). -/
def STP_SRCMAT_10 (i : Nat) : Nat := 0x00400210 + 0x20 * i
/-- STP_GMAT_10 (R206). -/
def STP_GMAT_10 (i : Nat) : Nat := 0x00401020 + 0x100 * i
/-- STP_GAMUT_CTRL (R206). -/
def STP_GAMUT_CTRL (i : Nat) : Nat := 0x00401000 + 0x100 * i
/-- STP_LUT_LO (R206). -/
def STP_LUT_LO (i : Nat) : Nat := 0x00401004 + 0x100 * i
/-- STP_LUT_HI (R206). -/
def STP_LUT_HI (i : Nat) : Nat := 0x00401008 + 0x100 * i
/-- STP_HELD_VALID (R204). -/
def STP_HELD_VALID (i : Nat) : Nat := 0x00404000 + 0x4 * i
/-- ENG_CTRL (R261). -/
def ENG_CTRL (i : Nat) : Nat := 0x00500000 + 0x1000 * i
/-- ENG_ENTRY (R261). -/
def ENG_ENTRY (i : Nat) : Nat := 0x00500004 + 0x1000 * i
/-- ENG_STATUS (R261). -/
def ENG_STATUS (i : Nat) : Nat := 0x00500008 + 0x1000 * i
/-- ENG_FAULT (R261). -/
def ENG_FAULT (i : Nat) : Nat := 0x0050000C + 0x1000 * i
/-- ENG_WDOG (R261). -/
def ENG_WDOG (i : Nat) : Nat := 0x00500010 + 0x1000 * i
/-- ENG_PADDR (R261). -/
def ENG_PADDR (i : Nat) : Nat := 0x00500014 + 0x1000 * i
/-- ENG_PDATA_LO (R261). -/
def ENG_PDATA_LO (i : Nat) : Nat := 0x00500018 + 0x1000 * i
/-- ENG_PDATA_HI (R261). -/
def ENG_PDATA_HI (i : Nat) : Nat := 0x0050001C + 0x1000 * i
/-- ENG_CYCLES_LO (R261). -/
def ENG_CYCLES_LO (i : Nat) : Nat := 0x00500020 + 0x1000 * i
/-- ENG_CYCLES_HI (R261). -/
def ENG_CYCLES_HI (i : Nat) : Nat := 0x00500024 + 0x1000 * i
/-- ENG_STALL (R261). -/
def ENG_STALL (i : Nat) : Nat := 0x00500028 + 0x1000 * i
/-- ENG_TICKETS (R261). -/
def ENG_TICKETS (i : Nat) : Nat := 0x0050002C + 0x1000 * i
/-- ENG_FAULT_CNT (R261). -/
def ENG_FAULT_CNT (i : Nat) : Nat := 0x00500030 + 0x1000 * i
/-- ENG_ECC (R261). -/
def ENG_ECC (i : Nat) : Nat := 0x00500034 + 0x1000 * i
/-- ENG_COST (R261). -/
def ENG_COST (i : Nat) : Nat := 0x00500038 + 0x1000 * i
/-- CL_BAR (R262). -/
def CL_BAR (i j : Nat) : Nat := 0x00580000 + 0x100 * i + 0x4 * j
/-- CL_UNITS (R262). -/
def CL_UNITS (i : Nat) : Nat := 0x00580010 + 0x100 * i
/-- CL_SERVE (R262). -/
def CL_SERVE (i : Nat) : Nat := 0x00580014 + 0x100 * i
/-- CL_LUT_HIT (R262). -/
def CL_LUT_HIT (i : Nat) : Nat := 0x00580018 + 0x100 * i
/-- CL_LUT_MISS (R262). -/
def CL_LUT_MISS (i : Nat) : Nat := 0x0058001C + 0x100 * i
/-- Q_DEPTH (R262). -/
def Q_DEPTH (i : Nat) : Nat := 0x00590000 + 0x100 * i
/-- Q_RETIRED (R262). -/
def Q_RETIRED (i : Nat) : Nat := 0x00590004 + 0x100 * i
/-- Q_WITHDRAWN (R262). -/
def Q_WITHDRAWN (i : Nat) : Nat := 0x00590008 + 0x100 * i
/-- Q_PEAK (R262). -/
def Q_PEAK (i : Nat) : Nat := 0x0059000C + 0x100 * i
/-- ENG_US (R262). -/
def ENG_US (i : Nat) : Nat := 0x005A0000 + 0x4 * i
/-- ENG_SWAP (R262). -/
def ENG_SWAP (i : Nat) : Nat := 0x005A0040 + 0x4 * i
/-- ENG_EVT_STATUS (R262). -/
def ENG_EVT_STATUS (i : Nat) : Nat := 0x005B0000 + 0x100 * i
/-- ENG_EVT_ENABLE (R262). -/
def ENG_EVT_ENABLE (i : Nat) : Nat := 0x005B0004 + 0x100 * i
/-- PORT_CTRL (R315). -/
def PORT_CTRL (i j : Nat) : Nat := 0x00600000 + 0x10000 * i + 0x100 * j
/-- PORT_EQ (R315). -/
def PORT_EQ (i j : Nat) : Nat := 0x00600004 + 0x10000 * i + 0x100 * j
/-- PORT_ADV (R315). -/
def PORT_ADV (i j : Nat) : Nat := 0x00600008 + 0x10000 * i + 0x100 * j
/-- PORT_RTT (R315). -/
def PORT_RTT (i j : Nat) : Nat := 0x0060000C + 0x10000 * i + 0x100 * j
/-- PORT_LDRV (R315). -/
def PORT_LDRV (i j : Nat) : Nat := 0x00600010 + 0x10000 * i + 0x100 * j
/-- PORT_STATE (R315). -/
def PORT_STATE (i j : Nat) : Nat := 0x00600014 + 0x10000 * i + 0x100 * j
/-- PORT_K (R315). -/
def PORT_K (i j : Nat) : Nat := 0x00600018 + 0x10000 * i + 0x100 * j
/-- PORT_DEFER_LAST (R315). -/
def PORT_DEFER_LAST (i j : Nat) : Nat := 0x0060001C + 0x10000 * i + 0x100 * j
/-- PORT_DEFER_TOTAL (R315). -/
def PORT_DEFER_TOTAL (i j : Nat) : Nat := 0x00600020 + 0x10000 * i + 0x100 * j
/-- PORT_TX_PKTS (R315). -/
def PORT_TX_PKTS (i j : Nat) : Nat := 0x00600024 + 0x10000 * i + 0x100 * j
/-- PORT_RET_OK (R315). -/
def PORT_RET_OK (i j : Nat) : Nat := 0x00600028 + 0x10000 * i + 0x100 * j
/-- PORT_RET_MISS (R315). -/
def PORT_RET_MISS (i j : Nat) : Nat := 0x0060002C + 0x10000 * i + 0x100 * j
/-- PORT_RET_CRC (R315). -/
def PORT_RET_CRC (i j : Nat) : Nat := 0x00600030 + 0x10000 * i + 0x100 * j
/-- PORT_FWD_ERR (R315). -/
def PORT_FWD_ERR (i j : Nat) : Nat := 0x00600034 + 0x10000 * i + 0x100 * j
/-- PORT_BG_COPY (R315). -/
def PORT_BG_COPY (i j : Nat) : Nat := 0x00600038 + 0x10000 * i + 0x100 * j
/-- PORT_BACKLOG_DROP (R315). -/
def PORT_BACKLOG_DROP (i j : Nat) : Nat := 0x0060003C + 0x10000 * i + 0x100 * j
/-- BS_CTRL (R314). -/
def BS_CTRL (i : Nat) : Nat := 0x00604000 + 0x10000 * i
/-- BS_FRAME (R314). -/
def BS_FRAME (i : Nat) : Nat := 0x00604004 + 0x10000 * i
/-- BS_RET_IDLE (R314). -/
def BS_RET_IDLE (i : Nat) : Nat := 0x00604008 + 0x10000 * i
/-- BS_ENTRY (R314). -/
def BS_ENTRY (i : Nat) : Nat := 0x0060400C + 0x10000 * i
/-- BS_STATUS (R314). -/
def BS_STATUS (i : Nat) : Nat := 0x00604010 + 0x10000 * i
/-- BS_EFF (R314). -/
def BS_EFF (i : Nat) : Nat := 0x00604014 + 0x10000 * i
/-- BS_RING (R314). -/
def BS_RING (i : Nat) : Nat := 0x00604018 + 0x10000 * i
/-- BS_UADDR (R314). -/
def BS_UADDR (i : Nat) : Nat := 0x00604020 + 0x10000 * i
/-- BS_UDATA_LO (R314). -/
def BS_UDATA_LO (i : Nat) : Nat := 0x00604024 + 0x10000 * i
/-- BS_UDATA_HI (R314). -/
def BS_UDATA_HI (i : Nat) : Nat := 0x00604028 + 0x10000 * i
/-- PRT_EVT_STATUS (R316). -/
def PRT_EVT_STATUS (i : Nat) : Nat := 0x0060F000 + 0x100 * i
/-- PRT_EVT_ENABLE (R316). -/
def PRT_EVT_ENABLE (i : Nat) : Nat := 0x0060F004 + 0x100 * i
/-- SP_CTRL (R366). -/
def SP_CTRL (i : Nat) : Nat := 0x00740000 + 0x40 * i
/-- SP_FREF (R366). -/
def SP_FREF (i : Nat) : Nat := 0x00740004 + 0x40 * i
/-- SP_TIMING (R366). -/
def SP_TIMING (i : Nat) : Nat := 0x00740008 + 0x40 * i
/-- SP_OD_LO (R366). -/
def SP_OD_LO (i : Nat) : Nat := 0x00740010 + 0x40 * i
/-- SP_OD_HI (R366). -/
def SP_OD_HI (i : Nat) : Nat := 0x00740014 + 0x40 * i
/-- SP_PC (R366). -/
def SP_PC (i j : Nat) : Nat := 0x00740020 + 0x40 * i + 0x4 * j
/-- DRV_CTRL (R367). -/
def DRV_CTRL : Nat := 0x00750000
/-- DRV_STATE_LO (R367). -/
def DRV_STATE_LO : Nat := 0x00750004
/-- DRV_STATE_HI (R367). -/
def DRV_STATE_HI : Nat := 0x00750008
/-- DRV_DEFECT_LO (R367). -/
def DRV_DEFECT_LO : Nat := 0x0075000C
/-- DRV_DEFECT_HI (R367). -/
def DRV_DEFECT_HI : Nat := 0x00750010
/-- DRV_LAMP_SET_A (R367). -/
def DRV_LAMP_SET_A : Nat := 0x00750014
/-- DRV_LAMP_SET_B (R367). -/
def DRV_LAMP_SET_B : Nat := 0x00750018
/-- DRV_DIAG_STAT (R367). -/
def DRV_DIAG_STAT : Nat := 0x0075001C
/-- DRV_EVT_STATUS (R369). -/
def DRV_EVT_STATUS (i : Nat) : Nat := 0x0075F000 + 0x100 * i
/-- DRV_EVT_ENABLE (R369). -/
def DRV_EVT_ENABLE (i : Nat) : Nat := 0x0075F004 + 0x100 * i
/-- CAL_CTRL (R403). -/
def CAL_CTRL : Nat := 0x00800000
/-- CAL_TEMP (R403). -/
def CAL_TEMP : Nat := 0x00800004
/-- CAL_MW (R403). -/
def CAL_MW : Nat := 0x00800008
/-- CAL_REH (R403). -/
def CAL_REH : Nat := 0x0080000C
/-- CAL_NEAR (R403). -/
def CAL_NEAR : Nat := 0x00800010
/-- CAL_QUEUE (R403). -/
def CAL_QUEUE : Nat := 0x00800014
/-- CAL_RUN (R403). -/
def CAL_RUN : Nat := 0x00800018
/-- CAL_TRIM (R403). -/
def CAL_TRIM : Nat := 0x0080001C
/-- AMON_PERIOD (R403). -/
def AMON_PERIOD : Nat := 0x00800280
/-- CAL_BANK_TRIM (R403). -/
def CAL_BANK_TRIM (i : Nat) : Nat := 0x00800100 + 0x4 * i
/-- CAL_PORT_TRIM (R403). -/
def CAL_PORT_TRIM (i : Nat) : Nat := 0x00801000 + 0x4 * i
/-- AMON_CTRL (R403). -/
def AMON_CTRL (i : Nat) : Nat := 0x00800200 + 0x10 * i
/-- AMON_LIMIT (R403). -/
def AMON_LIMIT (i : Nat) : Nat := 0x00800204 + 0x10 * i
/-- AMON_VALUE (R403). -/
def AMON_VALUE (i : Nat) : Nat := 0x00800208 + 0x10 * i
/-- CAL_EVT_STATUS (R405). -/
def CAL_EVT_STATUS (i : Nat) : Nat := 0x0080F000 + 0x100 * i
/-- CAL_EVT_ENABLE (R405). -/
def CAL_EVT_ENABLE (i : Nat) : Nat := 0x0080F004 + 0x100 * i
/-- CMP_CTRL (R433). -/
def CMP_CTRL : Nat := 0x00900000
/-- CMP_PRIO (R433). -/
def CMP_PRIO : Nat := 0x00900004
/-- CMP_SERIAL_LO (R433). -/
def CMP_SERIAL_LO : Nat := 0x00900008
/-- CMP_SERIAL_HI (R433). -/
def CMP_SERIAL_HI : Nat := 0x0090000C
/-- CMP_STATUS (R433). -/
def CMP_STATUS : Nat := 0x00900010
/-- CMP_EPOCH (R433). -/
def CMP_EPOCH : Nat := 0x00900014
/-- CMP_ROLE_REQ (R433). -/
def CMP_ROLE_REQ : Nat := 0x00900018
/-- CMP_ROLE_STAT (R433). -/
def CMP_ROLE_STAT : Nat := 0x0090001C
/-- CMP_CENSUS (R433). -/
def CMP_CENSUS : Nat := 0x00900020
/-- CMP_CENSUS_STAT (R433). -/
def CMP_CENSUS_STAT : Nat := 0x00900024
/-- CMP_LINK_STATE (R433). -/
def CMP_LINK_STATE (i : Nat) : Nat := 0x00900040 + 0x10 * i
/-- CMP_LINK_ASYM (R433). -/
def CMP_LINK_ASYM (i : Nat) : Nat := 0x00900044 + 0x10 * i
/-- CMP_LINK_DELAY (R433). -/
def CMP_LINK_DELAY (i : Nat) : Nat := 0x00900048 + 0x10 * i
/-- CMP_LINK_FEC (R433). -/
def CMP_LINK_FEC (i : Nat) : Nat := 0x0090004C + 0x10 * i
/-- CMP_SHARE_CTRL (R433). -/
def CMP_SHARE_CTRL (i : Nat) : Nat := 0x00900100 + 0x10 * i
/-- CMP_SHARE_WIN (R433). -/
def CMP_SHARE_WIN (i : Nat) : Nat := 0x00900104 + 0x10 * i
/-- CMP_RECV (R433). -/
def CMP_RECV (i : Nat) : Nat := 0x00900200 + 0x4 * i
/-- XFER_SRC_LO (R433). -/
def XFER_SRC_LO : Nat := 0x00900300
/-- XFER_SRC_HI (R433). -/
def XFER_SRC_HI : Nat := 0x00900304
/-- XFER_DST_LO (R433). -/
def XFER_DST_LO : Nat := 0x00900308
/-- XFER_DST_HI (R433). -/
def XFER_DST_HI : Nat := 0x0090030C
/-- XFER_LEN (R433). -/
def XFER_LEN : Nat := 0x00900310
/-- XFER_CTRL (R433). -/
def XFER_CTRL : Nat := 0x00900314
/-- XFER_STAT (R433). -/
def XFER_STAT : Nat := 0x00900318
/-- CMP_RXWIN_LO (R433). -/
def CMP_RXWIN_LO (i : Nat) : Nat := 0x00900400 + 0x8 * i
/-- CMP_RXWIN_HI (R433). -/
def CMP_RXWIN_HI (i : Nat) : Nat := 0x00900404 + 0x8 * i
/-- CMP_EVT_STATUS (R434). -/
def CMP_EVT_STATUS (i : Nat) : Nat := 0x0090F000 + 0x100 * i
/-- CMP_EVT_ENABLE (R434). -/
def CMP_EVT_ENABLE (i : Nat) : Nat := 0x0090F004 + 0x100 * i
/-- BANK_OWNER (R466). -/
def BANK_OWNER (i : Nat) : Nat := 0x00A00000 + 0x4 * i
/-- BANK_PWR (R466). -/
def BANK_PWR (i : Nat) : Nat := 0x00A01000 + 0x4 * i
/-- MEM_CTRL (R466). -/
def MEM_CTRL : Nat := 0x00A02000
/-- MEM_REFUSE_CNT (R466). -/
def MEM_REFUSE_CNT : Nat := 0x00A02004
/-- MEM_REFUSE_LAST (R466). -/
def MEM_REFUSE_LAST : Nat := 0x00A02008
/-- MEM_REFUSE_ADDR (R466). -/
def MEM_REFUSE_ADDR : Nat := 0x00A0200C
/-- MEM_ECC_CORR (R466). -/
def MEM_ECC_CORR : Nat := 0x00A02010
/-- MEM_ECC_UE (R466). -/
def MEM_ECC_UE : Nat := 0x00A02014
/-- MEM_CONF (R466). -/
def MEM_CONF (i : Nat) : Nat := 0x00A03000 + 0x4 * i
/-- MEM_EVT_STATUS (R466). -/
def MEM_EVT_STATUS (i : Nat) : Nat := 0x00A0F000 + 0x100 * i
/-- MEM_EVT_ENABLE (R466). -/
def MEM_EVT_ENABLE (i : Nat) : Nat := 0x00A0F004 + 0x100 * i
/-- DDR_CFG (R466). -/
def DDR_CFG : Nat := 0x00B00000
/-- DDR_CTRL (R466). -/
def DDR_CTRL : Nat := 0x00B00004
/-- DDR_CAP (R466). -/
def DDR_CAP : Nat := 0x00B00008
/-- DDR_TRN_CTRL (R466). -/
def DDR_TRN_CTRL : Nat := 0x00B0000C
/-- DDR_TRN_ARG (R466). -/
def DDR_TRN_ARG : Nat := 0x00B00010
/-- DDR_TRN_ERR_LO (R466). -/
def DDR_TRN_ERR_LO : Nat := 0x00B00014
/-- DDR_TRN_ERR_HI (R466). -/
def DDR_TRN_ERR_HI : Nat := 0x00B00018
/-- DDR_ERR (R466). -/
def DDR_ERR : Nat := 0x00B0001C
/-- DLY_CA (R466). -/
def DLY_CA (i j : Nat) : Nat := 0x00B01000 + 0x400 * i + 0x4 * j
/-- DLY_WCK (R466). -/
def DLY_WCK (i : Nat) : Nat := 0x00B01020 + 0x400 * i
/-- DLY_WR (R466). -/
def DLY_WR (i j : Nat) : Nat := 0x00B01040 + 0x400 * i + 0x4 * j
/-- DLY_RD (R466). -/
def DLY_RD (i j : Nat) : Nat := 0x00B01100 + 0x400 * i + 0x4 * j
/-- CH_APPLY (R466). -/
def CH_APPLY (i : Nat) : Nat := 0x00B01200 + 0x400 * i
/-- CH_STAT (R466). -/
def CH_STAT (i : Nat) : Nat := 0x00B01204 + 0x400 * i
/-- CH_CE (R466). -/
def CH_CE (i : Nat) : Nat := 0x00B01208 + 0x400 * i
/-- CH_UE (R466). -/
def CH_UE (i : Nat) : Nat := 0x00B0120C + 0x400 * i
/-- CH_UE_ADDR_LO (R466). -/
def CH_UE_ADDR_LO (i : Nat) : Nat := 0x00B01210 + 0x400 * i
/-- CH_UE_ADDR_HI (R466). -/
def CH_UE_ADDR_HI (i : Nat) : Nat := 0x00B01214 + 0x400 * i
/-- DDR_EVT_STATUS (R466). -/
def DDR_EVT_STATUS (i : Nat) : Nat := 0x00B0F000 + 0x100 * i
/-- DDR_EVT_ENABLE (R466). -/
def DDR_EVT_ENABLE (i : Nat) : Nat := 0x00B0F004 + 0x100 * i
/-- PKR_CTRL (R497). -/
def PKR_CTRL : Nat := 0x00C00000
/-- PKR_STATUS (R497). -/
def PKR_STATUS : Nat := 0x00C00004
/-- PKR_CTX_LO (R497). -/
def PKR_CTX_LO : Nat := 0x00C00008
/-- PKR_CTX_HI (R497). -/
def PKR_CTX_HI : Nat := 0x00C0000C
/-- PKR_IN_BYTES (R497). -/
def PKR_IN_BYTES : Nat := 0x00C00010
/-- PKR_OUT_BYTES (R497). -/
def PKR_OUT_BYTES : Nat := 0x00C00014
/-- PKR_ERR_LAST (R497). -/
def PKR_ERR_LAST : Nat := 0x00C00018
/-- PKR_ERR_CNT (R497). -/
def PKR_ERR_CNT : Nat := 0x00C0001C
/-- PKR_RAW_SHARE (R497). -/
def PKR_RAW_SHARE : Nat := 0x00C00020
/-- PKR_EVT_STATUS (R497). -/
def PKR_EVT_STATUS (i : Nat) : Nat := 0x00C0F000 + 0x100 * i
/-- PKR_EVT_ENABLE (R497). -/
def PKR_EVT_ENABLE (i : Nat) : Nat := 0x00C0F004 + 0x100 * i
/-- PKR_RING_LO (R497). -/
def PKR_RING_LO (i : Nat) : Nat := 0x00C0F008 + 0x100 * i
/-- PKR_RING_HI (R497). -/
def PKR_RING_HI (i : Nat) : Nat := 0x00C0F00C + 0x100 * i
/-- PKR_RING_SIZE (R497). -/
def PKR_RING_SIZE (i : Nat) : Nat := 0x00C0F010 + 0x100 * i
/-- PKR_HEAD (R497). -/
def PKR_HEAD (i : Nat) : Nat := 0x00C0F014 + 0x100 * i
/-- PKR_TAIL (R497). -/
def PKR_TAIL (i : Nat) : Nat := 0x00C0F018 + 0x100 * i
/-- CAD_CMD (R526). -/
def CAD_CMD : Nat := 0x00D00000
/-- CAD_ADDR (R526). -/
def CAD_ADDR : Nat := 0x00D00004
/-- CAD_STATUS (R526). -/
def CAD_STATUS : Nat := 0x00D00008
/-- CAD_PROTECT (R526). -/
def CAD_PROTECT : Nat := 0x00D0000C
/-- CAD_HOLD (R526). -/
def CAD_HOLD : Nat := 0x00D00010
/-- CAD_ENERGY (R526). -/
def CAD_ENERGY : Nat := 0x00D00014
/-- CAD_MARGIN (R526). -/
def CAD_MARGIN : Nat := 0x00D00018
/-- CAD_CORR_CNT (R526). -/
def CAD_CORR_CNT : Nat := 0x00D0001C
/-- CAD_REFRESH_CNT (R526). -/
def CAD_REFRESH_CNT : Nat := 0x00D00020
/-- CAD_UE_CNT (R526). -/
def CAD_UE_CNT : Nat := 0x00D00024
/-- CAD_UE_ADDR (R526). -/
def CAD_UE_ADDR : Nat := 0x00D00028
/-- CAD_CMEAS (R526). -/
def CAD_CMEAS : Nat := 0x00D0002C
/-- CAD_BUF (R525). -/
def CAD_BUF (i : Nat) : Nat := 0x00D00100 + 0x4 * i
/-- CAD_EVT_STATUS (R526). -/
def CAD_EVT_STATUS : Nat := 0x00D0F000
/-- CAD_EVT_ENABLE (R526). -/
def CAD_EVT_ENABLE : Nat := 0x00D0F004
/-- PNX_CMD (R555). -/
def PNX_CMD : Nat := 0x00E00000
/-- PNX_SRC_LO (R555). -/
def PNX_SRC_LO : Nat := 0x00E00004
/-- PNX_SRC_HI (R555). -/
def PNX_SRC_HI : Nat := 0x00E00008
/-- PNX_STATUS (R555). -/
def PNX_STATUS : Nat := 0x00E0000C
/-- PNX_RUN_ID_LO (R555). -/
def PNX_RUN_ID_LO : Nat := 0x00E00010
/-- PNX_RUN_ID_HI (R555). -/
def PNX_RUN_ID_HI : Nat := 0x00E00014
/-- PNX_RUN_INFO (R555). -/
def PNX_RUN_INFO : Nat := 0x00E00018
/-- PNX_STAGE_LO (R555). -/
def PNX_STAGE_LO : Nat := 0x00E0001C
/-- PNX_STAGE_HI (R555). -/
def PNX_STAGE_HI : Nat := 0x00E00020
/-- PNX_KEYS (R555). -/
def PNX_KEYS : Nat := 0x00E00024
/-- PNX_REVOKE (R555). -/
def PNX_REVOKE : Nat := 0x00E00028
/-- PNX_FL_CMD (R555). -/
def PNX_FL_CMD : Nat := 0x00E00040
/-- PNX_FL_ADDR (R555). -/
def PNX_FL_ADDR : Nat := 0x00E00044
/-- PNX_FL_DRAM_LO (R555). -/
def PNX_FL_DRAM_LO : Nat := 0x00E00048
/-- PNX_FL_DRAM_HI (R555). -/
def PNX_FL_DRAM_HI : Nat := 0x00E0004C
/-- PNX_FL_STAT (R555). -/
def PNX_FL_STAT : Nat := 0x00E00050
/-- PNX_EVT_STATUS (R555). -/
def PNX_EVT_STATUS (i : Nat) : Nat := 0x00E0F000 + 0x100 * i
/-- PNX_EVT_ENABLE (R555). -/
def PNX_EVT_ENABLE (i : Nat) : Nat := 0x00E0F004 + 0x100 * i
/-- TEN_BIND_CTRL (R594). -/
def TEN_BIND_CTRL (i : Nat) : Nat := 0x00F00000 + 0x8 * i
/-- TEN_BIND_SRC_IP (R594). -/
def TEN_BIND_SRC_IP (i : Nat) : Nat := 0x00F00004 + 0x8 * i
/-- TEN_PRIV (R594). -/
def TEN_PRIV (i : Nat) : Nat := 0x00F00040 + 0x4 * i
/-- TEN_MGMT_IP (R594). -/
def TEN_MGMT_IP : Nat := 0x00F00060
/-- TEN_MGMT_DROP (R594). -/
def TEN_MGMT_DROP : Nat := 0x00F00064
/-- TEN_OWN_SLOT (R594). -/
def TEN_OWN_SLOT (i : Nat) : Nat := 0x00F00100 + 0x4 * i
/-- TEN_OWN_LAYER (R594). -/
def TEN_OWN_LAYER (i : Nat) : Nat := 0x00F00200 + 0x4 * i
/-- TEN_OWN_TILE (R594). -/
def TEN_OWN_TILE (i : Nat) : Nat := 0x00F01000 + 0x4 * i
/-- TEN_OWN_CLUSTER (R594). -/
def TEN_OWN_CLUSTER (i : Nat) : Nat := 0x00F02000 + 0x4 * i
/-- PB_BASE_LO (R594). -/
def PB_BASE_LO : Nat := 0x00F03000
/-- PB_BASE_HI (R594). -/
def PB_BASE_HI : Nat := 0x00F03004
/-- PB_CTRL (R594). -/
def PB_CTRL : Nat := 0x00F03008
/-- PB_WRITE_IDX (R594). -/
def PB_WRITE_IDX : Nat := 0x00F0300C
/-- PB_PEEK_IDX (R594). -/
def PB_PEEK_IDX : Nat := 0x00F03010
/-- PB_UNIT_LOST (R594). -/
def PB_UNIT_LOST : Nat := 0x00F03014
/-- PB_CADDY (R594). -/
def PB_CADDY : Nat := 0x00F03018
/-- PB_CADDY_SKIP (R594). -/
def PB_CADDY_SKIP : Nat := 0x00F0301C
/-- TEN_CENSUS (R594). -/
def TEN_CENSUS : Nat := 0x00F03100
/-- TEN_CENSUS_GEN (R594). -/
def TEN_CENSUS_GEN : Nat := 0x00F03104
/-- PB_PEEK (R593). -/
def PB_PEEK (i : Nat) : Nat := 0x00F04000 + 0x4 * i
/-- TEN_EVT_STATUS (R595). -/
def TEN_EVT_STATUS (i : Nat) : Nat := 0x00F0F000 + 0x100 * i
/-- TEN_EVT_ENABLE (R595). -/
def TEN_EVT_ENABLE (i : Nat) : Nat := 0x00F0F004 + 0x100 * i
/-- CUQ_BASE_LO (R595). -/
def CUQ_BASE_LO (i : Nat) : Nat := 0x00F0F008 + 0x100 * i
/-- CUQ_BASE_HI (R595). -/
def CUQ_BASE_HI (i : Nat) : Nat := 0x00F0F00C + 0x100 * i
/-- CUQ_CTRL (R595). -/
def CUQ_CTRL (i : Nat) : Nat := 0x00F0F010 + 0x100 * i
/-- CUQ_TAIL (R595). -/
def CUQ_TAIL (i : Nat) : Nat := 0x00F0F014 + 0x100 * i
/-- CUQ_HEAD (R595). -/
def CUQ_HEAD (i : Nat) : Nat := 0x00F0F018 + 0x100 * i
/-- CPQ_BASE_LO (R595). -/
def CPQ_BASE_LO (i : Nat) : Nat := 0x00F0F01C + 0x100 * i
/-- CPQ_BASE_HI (R595). -/
def CPQ_BASE_HI (i : Nat) : Nat := 0x00F0F020 + 0x100 * i
/-- CPQ_CTRL (R595). -/
def CPQ_CTRL (i : Nat) : Nat := 0x00F0F024 + 0x100 * i
/-- CPQ_HEAD (R595). -/
def CPQ_HEAD (i : Nat) : Nat := 0x00F0F028 + 0x100 * i
/-- CPQ_TAIL (R595). -/
def CPQ_TAIL (i : Nat) : Nat := 0x00F0F02C + 0x100 * i
/-- PBH_BASE_LO (R595). -/
def PBH_BASE_LO (i : Nat) : Nat := 0x00F0F030 + 0x100 * i
/-- PBH_BASE_HI (R595). -/
def PBH_BASE_HI (i : Nat) : Nat := 0x00F0F034 + 0x100 * i
/-- PBH_CTRL (R595). -/
def PBH_CTRL (i : Nat) : Nat := 0x00F0F038 + 0x100 * i
/-- PBH_HEAD (R595). -/
def PBH_HEAD (i : Nat) : Nat := 0x00F0F03C + 0x100 * i
/-- PBH_TAIL (R595). -/
def PBH_TAIL (i : Nat) : Nat := 0x00F0F040 + 0x100 * i
/-- PBH_LOST (R595). -/
def PBH_LOST (i : Nat) : Nat := 0x00F0F044 + 0x100 * i
/-- TEN_FAULT_CNT (R595). -/
def TEN_FAULT_CNT (i : Nat) : Nat := 0x00F0F048 + 0x100 * i
/-- TEN_FAULT_LAST (R595). -/
def TEN_FAULT_LAST (i : Nat) : Nat := 0x00F0F04C + 0x100 * i
/-- TEN_FAULT_ADDR (R595). -/
def TEN_FAULT_ADDR (i : Nat) : Nat := 0x00F0F050 + 0x100 * i
/-- TEN_STATUS (R595). -/
def TEN_STATUS (i : Nat) : Nat := 0x00F0F054 + 0x100 * i
/-- TEN_RESET (R595). -/
def TEN_RESET (i : Nat) : Nat := 0x00F0F058 + 0x100 * i
/-- TEN_DISCARD (R595). -/
def TEN_DISCARD (i : Nat) : Nat := 0x00F0F05C + 0x100 * i

end Reg

/-! ## Fields -/
namespace Fld

def SYS_IDENT_PART : Field := ⟨31, 16⟩
def SYS_IDENT_STEP : Field := ⟨15, 8⟩
def SYS_IDENT_GRADE : Field := ⟨7, 4⟩
def SYS_MODE_PREV : Field := ⟨27, 24⟩
def SYS_MODE_PENDING : Field := ⟨19, 16⟩
def SYS_MODE_MODE : Field := ⟨3, 0⟩
def SYS_MODE_REQ_GO : Field := ⟨31, 31⟩
def SYS_MODE_REQ_TARGET : Field := ⟨3, 0⟩
def SYS_CTRL_QUIET_EN : Field := ⟨31, 31⟩
def SYS_CTRL_AFTER_LOAD : Field := ⟨27, 24⟩
def SYS_CTRL_QUIET_AFTER : Field := ⟨23, 16⟩
def SYS_CTRL_WDOG : Field := ⟨15, 0⟩
def SYS_WAKE_CAUSE : Field := ⟨11, 8⟩
def SYS_WAKE_EN : Field := ⟨3, 0⟩
def SYS_STATUS_TRIPPED : Field := ⟨31, 31⟩
def SYS_STATUS_GATED : Field := ⟨30, 30⟩
def SYS_STATUS_PFAIL : Field := ⟨29, 29⟩
def SYS_STATUS_WARM : Field := ⟨28, 28⟩
def SYS_THERM_WARN : Field := ⟨7, 0⟩
def SYS_SUPPLY_SAVED : Field := ⟨31, 24⟩
def SYS_SUPPLY_DROPPED : Field := ⟨23, 16⟩
def SYS_SUPPLY_STALE_S : Field := ⟨15, 0⟩
def SYS_TEMP_PEAK : Field := ⟨31, 16⟩
def SYS_TEMP_TEMP : Field := ⟨15, 0⟩
def SYS_DEGRADE_AUTO : Field := ⟨31, 31⟩
def SYS_DEGRADE_STEPS : Field := ⟨23, 16⟩
def SYS_DEGRADE_LAST : Field := ⟨11, 8⟩
def SYS_RESTART_GO : Field := ⟨31, 31⟩
def SYS_RESTART_CONFIRM : Field := ⟨15, 8⟩
def SYS_SNAP_LO_ADDR_LO : Field := ⟨31, 16⟩
def SYS_SNAP_HI_ADDR_HI : Field := ⟨3, 0⟩
def SYS_CURTAINS_COUNT : Field := ⟨31, 0⟩
def SYS_BAD_CURTAINS_COUNT : Field := ⟨31, 0⟩
def SYS_RESTARTS_COUNT : Field := ⟨31, 0⟩
def SYS_VCORE_SENSE : Field := ⟨25, 16⟩
def SYS_VCORE_TARGET : Field := ⟨9, 0⟩
def CUR_SYNC_RATIO_M : Field := ⟨23, 20⟩
def CUR_SYNC_RATIO_N : Field := ⟨19, 16⟩
def CUR_SYNC_GL_MODE : Field := ⟨4, 4⟩
def CUR_SYNC_SRC : Field := ⟨2, 0⟩
def CUR_RATE_RATE : Field := ⟨4, 0⟩
def CUR_PHASE_PHASE : Field := ⟨31, 0⟩
def CUR_TIMING_T_RESCUE : Field := ⟨25, 16⟩
def CUR_TIMING_T_QUIET : Field := ⟨7, 0⟩
def CUR_SERVO_STEP_LIMIT : Field := ⟨23, 8⟩
def CUR_SERVO_SLEW_PPM : Field := ⟨6, 0⟩
def CUR_LOCK_REF_RATE : Field := ⟨12, 8⟩
def CUR_LOCK_STATE : Field := ⟨1, 0⟩
def CUR_PHASE_ERR_ERR : Field := ⟨31, 0⟩
def CUR_TIME_SEC_HI_SEC_HI : Field := ⟨15, 0⟩
def CUR_TIME_SEC_LO_SEC_LO : Field := ⟨31, 0⟩
def CUR_TIME_NS_NS : Field := ⟨29, 0⟩
def CUR_NUM_NUM : Field := ⟨31, 0⟩
def CUR_SLOT_PLAN_EQUAL : Field := ⟨8, 8⟩
def CUR_SLOT_PLAN_COUNT : Field := ⟨2, 0⟩
def CUR_SLOT_KIND : Field := ⟨31, 28⟩
def CUR_SLOT_LEN : Field := ⟨25, 0⟩
def CUR_CAMSYNC_CTRL_EN : Field := ⟨31, 31⟩
def CUR_CAMSYNC_CTRL_POL : Field := ⟨30, 30⟩
def CUR_CAMSYNC_CTRL_MODE : Field := ⟨25, 24⟩
def CUR_CAMSYNC_CTRL_SLOT_MASK : Field := ⟨7, 0⟩
def CUR_CAMSYNC_PHASE_PHASE : Field := ⟨31, 0⟩
def CUR_CAMSYNC_WIDTH_WIDTH : Field := ⟨25, 0⟩
def CUR_SYNCOUT_CTRL_EN : Field := ⟨31, 31⟩
def CUR_SYNCOUT_CTRL_POL : Field := ⟨30, 30⟩
def CUR_SYNCOUT_CTRL_EVENT : Field := ⟨19, 16⟩
def CUR_SYNCOUT_CTRL_SLOT_MASK : Field := ⟨7, 0⟩
def CUR_SYNCOUT_PHASE_PHASE : Field := ⟨31, 0⟩
def CUR_SYNCOUT_WIDTH_WIDTH : Field := ⟨25, 0⟩
def CUR_EVT_STATUS_EVT : Field := ⟨7, 0⟩
def CUR_EVT_ENABLE_EN : Field := ⟨7, 0⟩
def CUR_COMMIT_TAG : Field := ⟨15, 0⟩
def CUR_COMMIT_STAT_TAG : Field := ⟨31, 16⟩
def CUR_COMMIT_STAT_STATUS : Field := ⟨15, 0⟩
def CUR_COMMIT_CURTAIN_NUM : Field := ⟨31, 0⟩
def CUR_VIEW_VIEW : Field := ⟨1, 0⟩
def CUR_ROW_MATCH_EN : Field := ⟨31, 31⟩
def CUR_ROW_MATCH_TILE : Field := ⟨25, 16⟩
def CUR_ROW_MATCH_ROW : Field := ⟨11, 0⟩
def CUR_UNDERRUN_CNT_COUNT : Field := ⟨31, 0⟩
def CUR_LATE_CNT_COUNT : Field := ⟨31, 0⟩
def SRC_PTP_EN : Field := ⟨31, 31⟩
def SRC_PTP_PORT : Field := ⟨25, 24⟩
def SRC_PTP_DOMAIN : Field := ⟨23, 16⟩
def SRC_PTP_ANN_TIMEOUT : Field := ⟨3, 0⟩
def SRC_PTP_STAT_IN_USE : Field := ⟨31, 30⟩
def SRC_WAKE_LATCHED : Field := ⟨8, 8⟩
def SRC_WAKE_EN : Field := ⟨5, 0⟩
def SRC_BUDGET_MBPS : Field := ⟨15, 0⟩
def PVW_CTRL_EN : Field := ⟨31, 31⟩
def PVW_CTRL_SEL : Field := ⟨30, 28⟩
def PVW_CTRL_SLOT : Field := ⟨26, 24⟩
def PVW_CTRL_TF : Field := ⟨20, 20⟩
def PVW_CTRL_DEPTH : Field := ⟨16, 16⟩
def PVW_STATUS_HPD : Field := ⟨31, 31⟩
def PVW_STATUS_TRAINED : Field := ⟨30, 30⟩
def PVW_STATUS_LANES : Field := ⟨29, 27⟩
def PVW_STATUS_DIV : Field := ⟨26, 24⟩
def PVW_SIZE_HEIGHT : Field := ⟨31, 16⟩
def PVW_SIZE_WIDTH : Field := ⟨15, 0⟩
def SRC_CTRL_EN : Field := ⟨31, 31⟩
def SRC_CTRL_FORCE : Field := ⟨30, 30⟩
def SRC_CTRL_SWEEP : Field := ⟨29, 29⟩
def SRC_CTRL_LOSS : Field := ⟨28, 28⟩
def SRC_CTRL_HPD : Field := ⟨27, 27⟩
def SRC_CTRL_LOSS_FRAMES : Field := ⟨23, 20⟩
def SRC_CTRL_PRIO : Field := ⟨19, 16⟩
def SRC_CTRL_MAX_LANES : Field := ⟨9, 8⟩
def SRC_CTRL_MAX_RATE : Field := ⟨5, 4⟩
def SRC_CTRL_DSC : Field := ⟨0, 0⟩
def SRC_FMT_STATE : Field := ⟨31, 28⟩
def SRC_FMT_SAMPLING : Field := ⟨27, 26⟩
def SRC_FMT_PACKING : Field := ⟨25, 24⟩
def SRC_FMT_RANGE : Field := ⟨23, 23⟩
def SRC_FMT_DSC : Field := ⟨22, 22⟩
def SRC_FMT_PSF : Field := ⟨21, 21⟩
def SRC_FMT_TF : Field := ⟨17, 16⟩
def SRC_FMT_COLOR : Field := ⟨15, 14⟩
def SRC_SIZE_HEIGHT : Field := ⟨31, 16⟩
def SRC_SIZE_WIDTH : Field := ⟨15, 0⟩
def SRC_PERIOD_NS : Field := ⟨31, 0⟩
def SRC_STATUS_DISCARD : Field := ⟨31, 31⟩
def SRC_STATUS_FMT_ERR : Field := ⟨30, 30⟩
def SRC_STATUS_PATH_A : Field := ⟨29, 29⟩
def SRC_STATUS_PATH_B : Field := ⟨28, 28⟩
def SRC_STATUS_LINK_RATE : Field := ⟨27, 26⟩
def SRC_STATUS_LANES : Field := ⟨25, 24⟩
def SRC_STATUS_OVER_BUDGET : Field := ⟨23, 23⟩
def SRC_STATUS_ADOPTED : Field := ⟨1, 0⟩
def SRC_STORE_LO_ADDR_LO : Field := ⟨31, 16⟩
def SRC_STORE_HI_ADDR_HI : Field := ⟨3, 0⟩
def SRC_MAXSIZE_HEIGHT : Field := ⟨31, 16⟩
def SRC_MAXSIZE_WIDTH : Field := ⟨15, 0⟩
def SRC_FLOW_GRP_A_GROUP : Field := ⟨31, 0⟩
def SRC_FLOW_GRP_B_GROUP : Field := ⟨31, 0⟩
def SRC_FLOW_PORT_PORT_B : Field := ⟨31, 16⟩
def SRC_FLOW_PORT_PORT_A : Field := ⟨15, 0⟩
def SRC_FLOW_CFG_PRIMARY : Field := ⟨31, 31⟩
def SRC_FLOW_CFG_PAIR : Field := ⟨30, 30⟩
def SRC_FLOW_CFG_SAMPLING : Field := ⟨29, 28⟩
def SRC_FLOW_CFG_DEPTH : Field := ⟨27, 26⟩
def SRC_FLOW_CFG_RANGE : Field := ⟨25, 25⟩
def SRC_FLOW_CFG_TF : Field := ⟨24, 23⟩
def SRC_FLOW_CFG_COLOR : Field := ⟨22, 21⟩
def SRC_FLOW_CFG_SKEW_MAX : Field := ⟨13, 0⟩
def SRC_ADOPT_CNT_COUNT : Field := ⟨31, 0⟩
def SRC_REPEAT_CNT_COUNT : Field := ⟨31, 0⟩
def SRC_DROP_CNT_COUNT : Field := ⟨31, 0⟩
def SRC_GAP_CNT_COUNT : Field := ⟨31, 0⟩
def SRC_DID_DATA : Field := ⟨31, 0⟩
def SRC_EVT_STATUS_EVT : Field := ⟨5, 0⟩
def SRC_EVT_ENABLE_EN : Field := ⟨5, 0⟩
def BLK_BG_R_VALUE : Field := ⟨19, 0⟩
def BLK_BG_G_VALUE : Field := ⟨19, 0⟩
def BLK_BG_B_VALUE : Field := ⟨19, 0⟩
def BLK_MESH_LO_ADDR_LO : Field := ⟨31, 12⟩
def BLK_MESH_HI_ADDR_HI : Field := ⟨3, 0⟩
def BLK_MESH_MODE_FLAT : Field := ⟨0, 0⟩
def LY_CTRL_EN : Field := ⟨31, 31⟩
def LY_CTRL_BLEND : Field := ⟨30, 28⟩
def LY_CTRL_POLICY : Field := ⟨27, 27⟩
def LY_CTRL_MIR_H : Field := ⟨26, 26⟩
def LY_CTRL_MIR_V : Field := ⟨25, 25⟩
def LY_CTRL_Z : Field := ⟨23, 20⟩
def LY_CTRL_SRC : Field := ⟨18, 16⟩
def LY_CTRL_TF_OVR : Field := ⟨15, 13⟩
def LY_CTRL_COLOR_OVR : Field := ⟨12, 11⟩
def LY_CTRL_ALPHA : Field := ⟨9, 0⟩
def LY_CROP_XY_CY : Field := ⟨31, 16⟩
def LY_CROP_XY_CX : Field := ⟨15, 0⟩
def LY_CROP_WH_CH : Field := ⟨31, 16⟩
def LY_CROP_WH_CW : Field := ⟨15, 0⟩
def LY_DST_X_DX : Field := ⟨31, 0⟩
def LY_DST_Y_DY : Field := ⟨31, 0⟩
def LY_DST_W_DW : Field := ⟨31, 0⟩
def LY_DST_H_DH : Field := ⟨31, 0⟩
def BLK_REGIONS_COUNT : Field := ⟨13, 0⟩
def BLK_TICKETS_RESCUE : Field := ⟨29, 16⟩
def BLK_TICKETS_ISSUED : Field := ⟨13, 0⟩
def BLK_QREGIONS_COUNT : Field := ⟨11, 0⟩
def BLK_WORK_LO_ADDR_LO : Field := ⟨31, 12⟩
def BLK_WORK_HI_ADDR_HI : Field := ⟨3, 0⟩
def TD_CTRL_EN : Field := ⟨31, 31⟩
def TD_CTRL_PIXEL_ORDER : Field := ⟨26, 24⟩
def TD_CTRL_LAMP_ORDER : Field := ⟨22, 20⟩
def TD_CTRL_LAMP_GROUP : Field := ⟨16, 16⟩
def TD_CTRL_PORTS_M1 : Field := ⟨13, 10⟩
def TD_CTRL_FIRST_PORT : Field := ⟨9, 0⟩
def TD_GRID_H : Field := ⟨27, 16⟩
def TD_GRID_W : Field := ⟨11, 0⟩
def TD_SPLIT_LINES : Field := ⟨11, 0⟩
def TD_WALL_WALL_Y : Field := ⟨30, 16⟩
def TD_WALL_WALL_X : Field := ⟨14, 0⟩
def TD_SCAN_SCAN_PLAN : Field := ⟨5, 0⟩
def TD_REGIONS_RY : Field := ⟨31, 24⟩
def TD_REGIONS_RX : Field := ⟨21, 16⟩
def TD_REGIONS_REGION_BASE : Field := ⟨13, 0⟩
def TD_QBASE_QBASE : Field := ⟨11, 0⟩
def TS_COEF_LO_ADDR_LO : Field := ⟨31, 6⟩
def TS_COEF_HI_ADDR_HI : Field := ⟨3, 0⟩
def TS_DRIVE_DEFER : Field := ⟨31, 31⟩
def TS_DRIVE_WEAK_GAIN : Field := ⟨17, 8⟩
def TS_DRIVE_C_FLOOR : Field := ⟨7, 0⟩
def TS_OD_EN : Field := ⟨31, 31⟩
def TS_OD_TABLE : Field := ⟨5, 0⟩
def TD_POWER_STATE : Field := ⟨31, 28⟩
def TD_POWER_CAUSE : Field := ⟨27, 24⟩
def TD_POWER_FAULT_DARK : Field := ⟨5, 5⟩
def TD_POWER_DARK : Field := ⟨4, 4⟩
def TD_POWER_TARGET : Field := ⟨1, 0⟩
def TD_RAIL_DISCHARGE : Field := ⟨31, 16⟩
def TD_RAIL_SETTLE : Field := ⟨15, 0⟩
def TD_DIAG_BORROW_EVERY : Field := ⟨23, 16⟩
def TD_DIAG_T_DET : Field := ⟨9, 0⟩
def TD_HOLD_LINE_LOSS_HOLD : Field := ⟨15, 0⟩
def TD_PAGES_REC_TIME : Field := ⟨23, 8⟩
def TD_PAGES_PAGES : Field := ⟨4, 0⟩
def TD_UNOBS_AGE_AGE : Field := ⟨10, 0⟩
def TD_RB_MISMATCH_COUNT : Field := ⟨31, 0⟩
def TD_RB_SKIP_COUNT : Field := ⟨31, 0⟩
def TD_BORROW_COUNT : Field := ⟨31, 0⟩
def TC_CTRL_AUTO : Field := ⟨31, 31⟩
def TC_CTRL_LOAD_GUARD : Field := ⟨30, 30⟩
def TC_CTRL_VF_EN : Field := ⟨29, 29⟩
def TC_CTRL_SENSORS : Field := ⟨25, 24⟩
def TC_CTRL_LOAD_MARGIN : Field := ⟨7, 0⟩
def TC_GAIN_RG_G_G : Field := ⟨31, 16⟩
def TC_GAIN_RG_G_R : Field := ⟨15, 0⟩
def TC_GAIN_B_L_S : Field := ⟨31, 16⟩
def TC_GAIN_B_G_B : Field := ⟨15, 0⟩
def TC_REC_LO_ADDR_LO : Field := ⟨31, 6⟩
def TC_REC_HI_ADDR_HI : Field := ⟨3, 0⟩
def TC_TEMP_NOW : Field := ⟨31, 16⟩
def TC_TEMP_LAST : Field := ⟨15, 0⟩
def TC_LOAD_VAL_V : Field := ⟨31, 0⟩
def TC_LOAD_LIVE_U : Field := ⟨31, 0⟩
def TC_STAT_STATE : Field := ⟨31, 28⟩
def TC_STAT_UNVAL : Field := ⟨27, 27⟩
def TC_STAT_RESULT : Field := ⟨26, 24⟩
def TC_STAT_SKIPS : Field := ⟨15, 0⟩
def TC_EFF_RG_E_G : Field := ⟨31, 16⟩
def TC_EFF_RG_E_R : Field := ⟨15, 0⟩
def TC_EFF_B_RUN_NUM : Field := ⟨31, 16⟩
def TC_EFF_B_E_B : Field := ⟨15, 0⟩
def TS_LOAD_LOAD : Field := ⟨31, 0⟩
def TD_CNT_COUNT : Field := ⟨31, 0⟩
def STP_CTRL_REF : Field := ⟨31, 31⟩
def STP_CTRL_LGC : Field := ⟨3, 3⟩
def STP_CTRL_OD : Field := ⟨2, 2⟩
def STP_CTRL_DEFECT : Field := ⟨1, 1⟩
def STP_CTRL_DITHER : Field := ⟨0, 0⟩
def STP_PQ_WHITE_NITS : Field := ⟨13, 0⟩
def STP_SEED_SEED_Y : Field := ⟨13, 8⟩
def STP_SEED_SEED_X : Field := ⟨5, 0⟩
def STP_OD_BASE_LO_ADDR_LO : Field := ⟨31, 8⟩
def STP_OD_BASE_HI_ADDR_HI : Field := ⟨3, 0⟩
def STP_BG_BASE_LO_ADDR_LO : Field := ⟨31, 16⟩
def STP_BG_BASE_HI_ADDR_HI : Field := ⟨3, 0⟩
def STP_FORCE_ALL : Field := ⟨0, 0⟩
def STP_STATUS_COEF_ERR : Field := ⟨29, 16⟩
def STP_STATUS_STEEPED : Field := ⟨13, 0⟩
def STP_PAGES_PUSHED : Field := ⟨16, 0⟩
def STP_HELD_INV_ALL : Field := ⟨31, 31⟩
def STP_HELD_INV_REGION : Field := ⟨13, 0⟩
def STP_WEIGHT_W_D : Field := ⟨31, 24⟩
def STP_WEIGHT_W_U : Field := ⟨23, 16⟩
def STP_WEIGHT_W_R : Field := ⟨15, 8⟩
def STP_WEIGHT_W_L : Field := ⟨7, 0⟩
def STP_SRCMAT_00_M01 : Field := ⟨31, 16⟩
def STP_SRCMAT_00_M00 : Field := ⟨15, 0⟩
def STP_GMAT_00_M01 : Field := ⟨31, 16⟩
def STP_GMAT_00_M00 : Field := ⟨15, 0⟩
def STP_SRCMAT_04_M10 : Field := ⟨31, 16⟩
def STP_SRCMAT_04_M02 : Field := ⟨15, 0⟩
def STP_GMAT_04_M10 : Field := ⟨31, 16⟩
def STP_GMAT_04_M02 : Field := ⟨15, 0⟩
def STP_SRCMAT_08_M12 : Field := ⟨31, 16⟩
def STP_SRCMAT_08_M11 : Field := ⟨15, 0⟩
def STP_GMAT_08_M12 : Field := ⟨31, 16⟩
def STP_GMAT_08_M11 : Field := ⟨15, 0⟩
def STP_SRCMAT_0C_M21 : Field := ⟨31, 16⟩
def STP_SRCMAT_0C_M20 : Field := ⟨15, 0⟩
def STP_GMAT_0C_M21 : Field := ⟨31, 16⟩
def STP_GMAT_0C_M20 : Field := ⟨15, 0⟩
def STP_SRCMAT_10_M22 : Field := ⟨15, 0⟩
def STP_GMAT_10_M22 : Field := ⟨15, 0⟩
def STP_GAMUT_CTRL_LUT_EN : Field := ⟨0, 0⟩
def STP_LUT_LO_ADDR_LO : Field := ⟨31, 8⟩
def STP_LUT_HI_ADDR_HI : Field := ⟨3, 0⟩
def STP_HELD_VALID_HELD : Field := ⟨31, 0⟩
def ENG_CTRL_EN : Field := ⟨31, 31⟩
def ENG_CTRL_MAP_OUT : Field := ⟨30, 30⟩
def ENG_CTRL_FAULT_LIMIT : Field := ⟨7, 0⟩
def ENG_ENTRY_ENTRY : Field := ⟨11, 0⟩
def ENG_STATUS_STATE : Field := ⟨31, 29⟩
def ENG_STATUS_UNDERSTUDY : Field := ⟨28, 28⟩
def ENG_STATUS_COVERS : Field := ⟨26, 20⟩
def ENG_STATUS_HOME : Field := ⟨19, 16⟩
def ENG_STATUS_PC : Field := ⟨11, 0⟩
def ENG_FAULT_VALID : Field := ⟨31, 31⟩
def ENG_FAULT_LEVEL : Field := ⟨30, 28⟩
def ENG_FAULT_CODE : Field := ⟨27, 20⟩
def ENG_FAULT_AUX : Field := ⟨19, 12⟩
def ENG_FAULT_PC : Field := ⟨11, 0⟩
def ENG_WDOG_LIMIT : Field := ⟨15, 0⟩
def ENG_PADDR_AUTOINC : Field := ⟨31, 31⟩
def ENG_PADDR_ADDR : Field := ⟨11, 0⟩
def ENG_PDATA_LO_DATA : Field := ⟨31, 0⟩
def ENG_PDATA_HI_DATA : Field := ⟨31, 0⟩
def ENG_CYCLES_LO_COUNT : Field := ⟨31, 0⟩
def ENG_CYCLES_HI_COUNT : Field := ⟨31, 0⟩
def ENG_STALL_COUNT : Field := ⟨31, 0⟩
def ENG_TICKETS_COUNT : Field := ⟨31, 0⟩
def ENG_FAULT_CNT_COUNT : Field := ⟨31, 0⟩
def ENG_ECC_COUNT : Field := ⟨31, 0⟩
def ENG_COST_COST : Field := ⟨15, 0⟩
def CL_BAR_MASK : Field := ⟨5, 0⟩
def CL_UNITS_LUT_OUT : Field := ⟨3, 3⟩
def CL_UNITS_SMP_OUT : Field := ⟨2, 0⟩
def CL_SERVE_FOREIGN : Field := ⟨11, 8⟩
def CL_SERVE_IN_SERVICE : Field := ⟨5, 0⟩
def CL_LUT_HIT_COUNT : Field := ⟨31, 0⟩
def CL_LUT_MISS_COUNT : Field := ⟨31, 0⟩
def Q_DEPTH_HELD : Field := ⟨27, 16⟩
def Q_DEPTH_QUEUED : Field := ⟨11, 0⟩
def Q_RETIRED_COUNT : Field := ⟨11, 0⟩
def Q_WITHDRAWN_COUNT : Field := ⟨11, 0⟩
def Q_PEAK_COUNT : Field := ⟨11, 0⟩
def ENG_US_EN : Field := ⟨31, 31⟩
def ENG_US_SCOPE : Field := ⟨30, 29⟩
def ENG_US_COVERING : Field := ⟨23, 17⟩
def ENG_US_ENGINE : Field := ⟨6, 0⟩
def ENG_SWAP_GO : Field := ⟨31, 31⟩
def ENG_SWAP_TARGET : Field := ⟨6, 0⟩
def ENG_EVT_STATUS_EVT : Field := ⟨4, 0⟩
def ENG_EVT_ENABLE_EVT : Field := ⟨4, 0⟩
def PORT_CTRL_EN : Field := ⟨31, 31⟩
def PORT_CTRL_CHAINS : Field := ⟨3, 0⟩
def PORT_EQ_SWING : Field := ⟨15, 12⟩
def PORT_EQ_DEEMPH : Field := ⟨11, 8⟩
def PORT_EQ_RX_EQ : Field := ⟨1, 0⟩
def PORT_ADV_TXD : Field := ⟨25, 16⟩
def PORT_ADV_ADV : Field := ⟨9, 0⟩
def PORT_RTT_T_TA : Field := ⟨31, 16⟩
def PORT_RTT_RTT : Field := ⟨15, 0⟩
def PORT_LDRV_RTT_MAX : Field := ⟨31, 16⟩
def PORT_LDRV_L_DRV : Field := ⟨15, 0⟩
def PORT_STATE_STATE : Field := ⟨31, 30⟩
def PORT_STATE_MISSES : Field := ⟨19, 16⟩
def PORT_STATE_QUEUED : Field := ⟨3, 0⟩
def PORT_K_K : Field := ⟨16, 0⟩
def PORT_DEFER_LAST_COUNT : Field := ⟨31, 0⟩
def PORT_DEFER_TOTAL_COUNT : Field := ⟨31, 0⟩
def PORT_TX_PKTS_COUNT : Field := ⟨31, 0⟩
def PORT_RET_OK_COUNT : Field := ⟨31, 0⟩
def PORT_RET_MISS_COUNT : Field := ⟨31, 0⟩
def PORT_RET_CRC_COUNT : Field := ⟨31, 0⟩
def PORT_FWD_ERR_COUNT : Field := ⟨31, 0⟩
def PORT_BG_COPY_COUNT : Field := ⟨31, 0⟩
def PORT_BACKLOG_DROP_COUNT : Field := ⟨31, 0⟩
def BS_CTRL_EN : Field := ⟨31, 31⟩
def BS_CTRL_PERS : Field := ⟨30, 30⟩
def BS_CTRL_STOP : Field := ⟨29, 29⟩
def BS_CTRL_RATE_M : Field := ⟨7, 0⟩
def BS_FRAME_RET_EVERY : Field := ⟨29, 24⟩
def BS_FRAME_SILENT_LIMIT : Field := ⟨19, 16⟩
def BS_FRAME_RET_WIN : Field := ⟨11, 0⟩
def BS_RET_IDLE_US : Field := ⟨9, 0⟩
def BS_ENTRY_ENTRY : Field := ⟨11, 0⟩
def BS_STATUS_STATE : Field := ⟨31, 30⟩
def BS_STATUS_PEVT : Field := ⟨29, 29⟩
def BS_STATUS_FAULT : Field := ⟨28, 24⟩
def BS_STATUS_PC : Field := ⟨23, 12⟩
def BS_STATUS_EVT_IMM : Field := ⟨11, 0⟩
def BS_EFF_EFF : Field := ⟨16, 0⟩
def BS_RING_COUNT : Field := ⟨8, 5⟩
def BS_RING_FIRST : Field := ⟨4, 0⟩
def BS_UADDR_AUTOINC : Field := ⟨31, 31⟩
def BS_UADDR_ADDR : Field := ⟨11, 0⟩
def BS_UDATA_LO_DATA : Field := ⟨31, 0⟩
def BS_UDATA_HI_DATA : Field := ⟨15, 0⟩
def PRT_EVT_STATUS_EVT : Field := ⟨5, 0⟩
def PRT_EVT_ENABLE_EN : Field := ⟨5, 0⟩
def SP_CTRL_STEP : Field := ⟨21, 16⟩
def SP_CTRL_SUBS_M1 : Field := ⟨11, 8⟩
def SP_CTRL_ROWS_M1 : Field := ⟨5, 0⟩
def SP_FREF_HZ : Field := ⟨15, 0⟩
def SP_TIMING_PC_TIME : Field := ⟨25, 16⟩
def SP_TIMING_BLANK : Field := ⟨9, 0⟩
def SP_OD_LO_MASK : Field := ⟨31, 0⟩
def SP_OD_HI_MASK : Field := ⟨31, 0⟩
def SP_PC_LEVEL : Field := ⟨31, 0⟩
def DRV_CTRL_SCRUB : Field := ⟨24, 24⟩
def DRV_CTRL_RB_LIMIT : Field := ⟨23, 20⟩
def DRV_CTRL_CONFIRM : Field := ⟨17, 16⟩
def DRV_CTRL_DIAG_WIN : Field := ⟨15, 8⟩
def DRV_CTRL_PARITY : Field := ⟨0, 0⟩
def DRV_STATE_LO_ADDR_LO : Field := ⟨31, 16⟩
def DRV_STATE_HI_ADDR_HI : Field := ⟨3, 0⟩
def DRV_DEFECT_LO_ADDR_LO : Field := ⟨31, 12⟩
def DRV_DEFECT_HI_ADDR_HI : Field := ⟨3, 0⟩
def DRV_LAMP_SET_A_PORT : Field := ⟨25, 16⟩
def DRV_LAMP_SET_A_LAMP : Field := ⟨15, 0⟩
def DRV_LAMP_SET_B_STATE : Field := ⟨2, 0⟩
def DRV_DIAG_STAT_LATE : Field := ⟨31, 16⟩
def DRV_DIAG_STAT_WINDOW : Field := ⟨15, 0⟩
def DRV_EVT_STATUS_EVT : Field := ⟨5, 0⟩
def DRV_EVT_ENABLE_EN : Field := ⟨5, 0⟩
def CAL_CTRL_MW_EN : Field := ⟨30, 30⟩
def CAL_CTRL_REH_EN : Field := ⟨29, 29⟩
def CAL_CTRL_REPEAT : Field := ⟨23, 16⟩
def CAL_CTRL_MAX_STEP : Field := ⟨15, 8⟩
def CAL_CTRL_FIT_TOL : Field := ⟨7, 0⟩
def CAL_TEMP_POLL : Field := ⟨23, 16⟩
def CAL_TEMP_CAL_DT : Field := ⟨15, 0⟩
def CAL_MW_MIN_LOAD : Field := ⟨31, 0⟩
def CAL_REH_D_CAL : Field := ⟨19, 0⟩
def CAL_NEAR_RUN_LIMIT : Field := ⟨31, 16⟩
def CAL_NEAR_MARGIN : Field := ⟨15, 0⟩
def CAL_QUEUE_RUNNING : Field := ⟨25, 16⟩
def CAL_QUEUE_QUEUED : Field := ⟨9, 0⟩
def CAL_RUN_GO : Field := ⟨31, 31⟩
def CAL_RUN_TILE : Field := ⟨9, 0⟩
def CAL_TRIM_GO : Field := ⟨31, 31⟩
def CAL_TRIM_BANKS : Field := ⟨15, 0⟩
def AMON_PERIOD_US : Field := ⟨19, 0⟩
def CAL_BANK_TRIM_TEMP : Field := ⟨31, 16⟩
def CAL_BANK_TRIM_COUNT : Field := ⟨15, 0⟩
def CAL_PORT_TRIM_DLY_ADJ : Field := ⟨11, 8⟩
def CAL_PORT_TRIM_SWING_ADJ : Field := ⟨3, 0⟩
def AMON_CTRL_EN : Field := ⟨31, 31⟩
def AMON_CTRL_OW_EN : Field := ⟨30, 30⟩
def AMON_CTRL_WAKE : Field := ⟨29, 29⟩
def AMON_LIMIT_HI : Field := ⟨27, 16⟩
def AMON_LIMIT_LO : Field := ⟨11, 0⟩
def AMON_VALUE_STATE : Field := ⟨31, 30⟩
def AMON_VALUE_LIMIT : Field := ⟨29, 29⟩
def AMON_VALUE_CODE : Field := ⟨11, 0⟩
def CAL_EVT_STATUS_EVT : Field := ⟨9, 0⟩
def CAL_EVT_ENABLE_EN : Field := ⟨9, 0⟩
def CMP_CTRL_EN : Field := ⟨31, 31⟩
def CMP_CTRL_AUTO_LEAD : Field := ⟨30, 30⟩
def CMP_CTRL_PB_MIRROR : Field := ⟨29, 29⟩
def CMP_CTRL_LEAD_LOSS : Field := ⟨23, 20⟩
def CMP_CTRL_CENSUS_AHEAD : Field := ⟨19, 16⟩
def CMP_CTRL_BULK_GBPS : Field := ⟨11, 8⟩
def CMP_CTRL_INDEX : Field := ⟨3, 0⟩
def CMP_PRIO_PRIO : Field := ⟨7, 0⟩
def CMP_SERIAL_LO_SERIAL : Field := ⟨31, 0⟩
def CMP_SERIAL_HI_SERIAL : Field := ⟨31, 0⟩
def CMP_STATUS_ROLE : Field := ⟨31, 30⟩
def CMP_STATUS_TOPO : Field := ⟨29, 28⟩
def CMP_STATUS_LEAD : Field := ⟨27, 24⟩
def CMP_STATUS_HOPS : Field := ⟨23, 20⟩
def CMP_STATUS_PRESENT : Field := ⟨15, 0⟩
def CMP_EPOCH_LEAD_PRIO : Field := ⟨31, 24⟩
def CMP_EPOCH_EPOCH : Field := ⟨15, 0⟩
def CMP_ROLE_REQ_KIND : Field := ⟨31, 30⟩
def CMP_ROLE_REQ_TARGET : Field := ⟨27, 24⟩
def CMP_ROLE_REQ_PRIO : Field := ⟨23, 16⟩
def CMP_ROLE_REQ_EPOCH : Field := ⟨15, 0⟩
def CMP_ROLE_STAT_NUM : Field := ⟨31, 16⟩
def CMP_ROLE_STAT_STATUS : Field := ⟨15, 0⟩
def CMP_CENSUS_GO : Field := ⟨31, 31⟩
def CMP_CENSUS_STAT_MASK : Field := ⟨31, 16⟩
def CMP_CENSUS_STAT_GEN : Field := ⟨15, 0⟩
def CMP_LINK_STATE_STATE : Field := ⟨31, 30⟩
def CMP_LINK_STATE_PEER : Field := ⟨27, 24⟩
def CMP_LINK_STATE_LANES : Field := ⟨3, 0⟩
def CMP_LINK_ASYM_ASYM : Field := ⟨15, 0⟩
def CMP_LINK_DELAY_NS : Field := ⟨15, 0⟩
def CMP_LINK_FEC_UNCORR : Field := ⟨31, 16⟩
def CMP_LINK_FEC_CORR : Field := ⟨15, 0⟩
def CMP_SHARE_CTRL_EN : Field := ⟨31, 31⟩
def CMP_SHARE_CTRL_SRC : Field := ⟨18, 16⟩
def CMP_SHARE_CTRL_DEST : Field := ⟨15, 0⟩
def CMP_SHARE_WIN_BY : Field := ⟨31, 24⟩
def CMP_SHARE_WIN_BH : Field := ⟨23, 16⟩
def CMP_SHARE_WIN_BX : Field := ⟨15, 8⟩
def CMP_SHARE_WIN_BW : Field := ⟨7, 0⟩
def CMP_RECV_EN : Field := ⟨31, 31⟩
def CMP_RECV_FROM_DEV : Field := ⟨7, 4⟩
def CMP_RECV_FROM_SRC : Field := ⟨2, 0⟩
def XFER_SRC_LO_ADDR_LO : Field := ⟨31, 6⟩
def XFER_SRC_HI_ADDR_HI : Field := ⟨3, 0⟩
def XFER_DST_LO_ADDR_LO : Field := ⟨31, 6⟩
def XFER_DST_HI_ADDR_HI : Field := ⟨3, 0⟩
def XFER_LEN_LEN : Field := ⟨27, 6⟩
def XFER_CTRL_GO : Field := ⟨31, 31⟩
def XFER_CTRL_DEST : Field := ⟨3, 0⟩
def XFER_STAT_STATE : Field := ⟨31, 30⟩
def XFER_STAT_STATUS : Field := ⟨15, 0⟩
def CMP_RXWIN_LO_BASE_LO : Field := ⟨31, 16⟩
def CMP_RXWIN_HI_SIZE : Field := ⟨31, 16⟩
def CMP_RXWIN_HI_BASE_HI : Field := ⟨3, 0⟩
def CMP_EVT_STATUS_EVT : Field := ⟨8, 0⟩
def CMP_EVT_ENABLE_EN : Field := ⟨8, 0⟩
def BANK_OWNER_EPOCH : Field := ⟨31, 16⟩
def BANK_OWNER_OWNER : Field := ⟨7, 0⟩
def BANK_PWR_MAPPED_OUT : Field := ⟨4, 4⟩
def BANK_PWR_STATE : Field := ⟨3, 2⟩
def BANK_PWR_PWR : Field := ⟨1, 0⟩
def MEM_CTRL_SCRUB : Field := ⟨31, 31⟩
def MEM_CTRL_SCRUB_S : Field := ⟨15, 8⟩
def MEM_CTRL_UE_LIMIT : Field := ⟨7, 0⟩
def MEM_REFUSE_CNT_COUNT : Field := ⟨31, 0⟩
def MEM_REFUSE_LAST_CAUSE : Field := ⟨27, 24⟩
def MEM_REFUSE_LAST_MASTER : Field := ⟨23, 16⟩
def MEM_REFUSE_LAST_BANK : Field := ⟨8, 0⟩
def MEM_REFUSE_ADDR_OFFSET : Field := ⟨17, 0⟩
def MEM_ECC_CORR_COUNT : Field := ⟨31, 0⟩
def MEM_ECC_UE_COUNT : Field := ⟨31, 0⟩
def MEM_CONF_COUNT : Field := ⟨31, 0⟩
def MEM_EVT_STATUS_EVT : Field := ⟨2, 0⟩
def MEM_EVT_ENABLE_EVT : Field := ⟨2, 0⟩
def DDR_CFG_ECC : Field := ⟨31, 31⟩
def DDR_CFG_RATE : Field := ⟨30, 28⟩
def DDR_CFG_DENSITY : Field := ⟨27, 25⟩
def DDR_CFG_RANKS : Field := ⟨24, 24⟩
def DDR_CFG_CHANNELS : Field := ⟨7, 0⟩
def DDR_CTRL_UE_LIMIT : Field := ⟨7, 0⟩
def DDR_CAP_MIB : Field := ⟨31, 0⟩
def DDR_TRN_CTRL_GO : Field := ⟨31, 31⟩
def DDR_TRN_CTRL_DONE : Field := ⟨30, 30⟩
def DDR_TRN_CTRL_CHAN : Field := ⟨10, 8⟩
def DDR_TRN_CTRL_OP : Field := ⟨2, 0⟩
def DDR_TRN_ARG_RESULT : Field := ⟨31, 16⟩
def DDR_TRN_ARG_MR : Field := ⟨15, 8⟩
def DDR_TRN_ARG_DATA : Field := ⟨7, 0⟩
def DDR_TRN_ERR_LO_MASK : Field := ⟨31, 0⟩
def DDR_TRN_ERR_HI_MASK : Field := ⟨3, 0⟩
def DDR_ERR_CAUSE : Field := ⟨31, 30⟩
def DLY_CA_DELAY : Field := ⟨7, 0⟩
def DLY_WCK_DELAY : Field := ⟨7, 0⟩
def DLY_WR_DELAY : Field := ⟨7, 0⟩
def DLY_RD_DELAY : Field := ⟨7, 0⟩
def CH_APPLY_GO : Field := ⟨0, 0⟩
def CH_STAT_STATE : Field := ⟨31, 30⟩
def CH_STAT_PENDING : Field := ⟨29, 29⟩
def CH_STAT_MR4 : Field := ⟨7, 0⟩
def CH_CE_COUNT : Field := ⟨31, 0⟩
def CH_UE_COUNT : Field := ⟨31, 0⟩
def CH_UE_ADDR_LO_ADDR : Field := ⟨31, 0⟩
def CH_UE_ADDR_HI_ADDR : Field := ⟨3, 0⟩
def DDR_EVT_STATUS_EVT : Field := ⟨3, 0⟩
def DDR_EVT_ENABLE_EVT : Field := ⟨3, 0⟩
def PKR_CTRL_RING_SHARE : Field := ⟨7, 0⟩
def PKR_STATUS_OUT : Field := ⟨15, 8⟩
def PKR_STATUS_BUSY : Field := ⟨7, 0⟩
def PKR_CTX_LO_ADDR_LO : Field := ⟨31, 12⟩
def PKR_CTX_HI_ADDR_HI : Field := ⟨3, 0⟩
def PKR_IN_BYTES_COUNT : Field := ⟨31, 0⟩
def PKR_OUT_BYTES_COUNT : Field := ⟨31, 0⟩
def PKR_ERR_LAST_MASTER : Field := ⟨23, 16⟩
def PKR_ERR_LAST_CODE : Field := ⟨15, 0⟩
def PKR_ERR_CNT_COUNT : Field := ⟨31, 0⟩
def PKR_RAW_SHARE_COUNT : Field := ⟨31, 0⟩
def PKR_EVT_STATUS_EVT : Field := ⟨2, 0⟩
def PKR_EVT_ENABLE_EVT : Field := ⟨2, 0⟩
def PKR_RING_LO_ADDR_LO : Field := ⟨31, 6⟩
def PKR_RING_HI_ADDR_HI : Field := ⟨3, 0⟩
def PKR_RING_SIZE_N : Field := ⟨3, 0⟩
def PKR_HEAD_INDEX : Field := ⟨11, 0⟩
def PKR_TAIL_INDEX : Field := ⟨11, 0⟩
def CAD_CMD_GO : Field := ⟨31, 31⟩
def CAD_CMD_OP : Field := ⟨27, 24⟩
def CAD_CMD_LEN_M1 : Field := ⟨3, 0⟩
def CAD_ADDR_ADDR : Field := ⟨21, 0⟩
def CAD_STATUS_BUSY : Field := ⟨31, 31⟩
def CAD_STATUS_BANK : Field := ⟨30, 30⟩
def CAD_STATUS_HOUSE_WAIT : Field := ⟨29, 29⟩
def CAD_STATUS_TRIPPED : Field := ⟨28, 28⟩
def CAD_STATUS_STATUS : Field := ⟨15, 0⟩
def CAD_PROTECT_LOCK : Field := ⟨31, 31⟩
def CAD_PROTECT_PROT : Field := ⟨1, 0⟩
def CAD_HOLD_C_UF : Field := ⟨31, 16⟩
def CAD_HOLD_V_MIN : Field := ⟨12, 0⟩
def CAD_ENERGY_E_UJ : Field := ⟨31, 16⟩
def CAD_ENERGY_V_MV : Field := ⟨15, 0⟩
def CAD_MARGIN_EN : Field := ⟨31, 31⟩
def CAD_MARGIN_INTERVAL : Field := ⟨15, 0⟩
def CAD_CORR_CNT_COUNT : Field := ⟨31, 0⟩
def CAD_REFRESH_CNT_COUNT : Field := ⟨31, 0⟩
def CAD_UE_CNT_COUNT : Field := ⟨31, 0⟩
def CAD_UE_ADDR_ADDR : Field := ⟨21, 0⟩
def CAD_CMEAS_AGE : Field := ⟨31, 16⟩
def CAD_CMEAS_C_UF : Field := ⟨15, 0⟩
def CAD_BUF_DATA : Field := ⟨31, 0⟩
def CAD_EVT_STATUS_EVT : Field := ⟨3, 0⟩
def CAD_EVT_ENABLE_EVT : Field := ⟨3, 0⟩
def PNX_CMD_GO : Field := ⟨31, 31⟩
def PNX_CMD_OP : Field := ⟨27, 24⟩
def PNX_CMD_SRC : Field := ⟨20, 20⟩
def PNX_CMD_ENTRY : Field := ⟨3, 0⟩
def PNX_SRC_LO_ADDR_LO : Field := ⟨31, 6⟩
def PNX_SRC_HI_ADDR_HI : Field := ⟨3, 0⟩
def PNX_STATUS_STATE : Field := ⟨31, 28⟩
def PNX_STATUS_OP : Field := ⟨27, 24⟩
def PNX_STATUS_SECTION : Field := ⟨23, 16⟩
def PNX_STATUS_STATUS : Field := ⟨15, 0⟩
def PNX_RUN_ID_LO_ID : Field := ⟨31, 0⟩
def PNX_RUN_ID_HI_ID : Field := ⟨31, 0⟩
def PNX_RUN_INFO_SEALED : Field := ⟨31, 31⟩
def PNX_RUN_INFO_RB_HELD : Field := ⟨30, 30⟩
def PNX_RUN_INFO_MIX : Field := ⟨29, 29⟩
def PNX_RUN_INFO_DRAM_RESET : Field := ⟨28, 28⟩
def PNX_RUN_INFO_KEY_SLOT : Field := ⟨27, 26⟩
def PNX_RUN_INFO_ROLLBACK : Field := ⟨24, 16⟩
def PNX_RUN_INFO_ENTRY : Field := ⟨15, 12⟩
def PNX_RUN_INFO_COUNTER : Field := ⟨8, 0⟩
def PNX_STAGE_LO_ADDR_LO : Field := ⟨31, 16⟩
def PNX_STAGE_HI_SIZE : Field := ⟨31, 16⟩
def PNX_STAGE_HI_ADDR_HI : Field := ⟨3, 0⟩
def PNX_KEYS_REVOKED : Field := ⟨7, 4⟩
def PNX_KEYS_PROG : Field := ⟨3, 0⟩
def PNX_REVOKE_GO : Field := ⟨31, 31⟩
def PNX_REVOKE_CONFIRM : Field := ⟨15, 8⟩
def PNX_REVOKE_SLOT : Field := ⟨1, 0⟩
def PNX_FL_CMD_GO : Field := ⟨31, 31⟩
def PNX_FL_CMD_OP : Field := ⟨26, 24⟩
def PNX_FL_CMD_LEN : Field := ⟨15, 0⟩
def PNX_FL_ADDR_ADDR : Field := ⟨30, 0⟩
def PNX_FL_DRAM_LO_ADDR_LO : Field := ⟨31, 8⟩
def PNX_FL_DRAM_HI_ADDR_HI : Field := ⟨3, 0⟩
def PNX_FL_STAT_STATE : Field := ⟨31, 30⟩
def PNX_FL_STAT_STATUS : Field := ⟨15, 0⟩
def PNX_EVT_STATUS_EVT : Field := ⟨3, 0⟩
def PNX_EVT_ENABLE_EVT : Field := ⟨3, 0⟩
def TEN_BIND_CTRL_PORT : Field := ⟨31, 16⟩
def TEN_BIND_CTRL_MODE : Field := ⟨1, 0⟩
def TEN_BIND_SRC_IP_IP : Field := ⟨31, 0⟩
def TEN_PRIV_PRIV : Field := ⟨5, 0⟩
def TEN_MGMT_IP_IP : Field := ⟨31, 0⟩
def TEN_MGMT_DROP_COUNT : Field := ⟨31, 0⟩
def TEN_OWN_SLOT_EPOCH : Field := ⟨31, 16⟩
def TEN_OWN_SLOT_OWNER : Field := ⟨7, 0⟩
def TEN_OWN_LAYER_EPOCH : Field := ⟨31, 16⟩
def TEN_OWN_LAYER_OWNER : Field := ⟨7, 0⟩
def TEN_OWN_TILE_EPOCH : Field := ⟨31, 16⟩
def TEN_OWN_TILE_OWNER : Field := ⟨7, 0⟩
def TEN_OWN_CLUSTER_EPOCH : Field := ⟨31, 16⟩
def TEN_OWN_CLUSTER_OWNER : Field := ⟨7, 0⟩
def PB_BASE_LO_ADDR_LO : Field := ⟨31, 12⟩
def PB_BASE_HI_ADDR_HI : Field := ⟨3, 0⟩
def PB_CTRL_SIZE : Field := ⟨27, 24⟩
def PB_CTRL_COALESCE : Field := ⟨23, 0⟩
def PB_WRITE_IDX_SEQ : Field := ⟨23, 0⟩
def PB_PEEK_IDX_SEQ : Field := ⟨23, 0⟩
def PB_UNIT_LOST_COUNT : Field := ⟨31, 0⟩
def PB_CADDY_KINDS : Field := ⟨3, 0⟩
def PB_CADDY_SKIP_COUNT : Field := ⟨31, 0⟩
def TEN_CENSUS_GO : Field := ⟨31, 31⟩
def TEN_CENSUS_GEN_GEN : Field := ⟨15, 0⟩
def PB_PEEK_WORD : Field := ⟨31, 0⟩
def TEN_EVT_STATUS_EVT : Field := ⟨3, 0⟩
def TEN_EVT_ENABLE_EN : Field := ⟨3, 0⟩
def CUQ_BASE_LO_ADDR_LO : Field := ⟨31, 6⟩
def CUQ_BASE_HI_ADDR_HI : Field := ⟨31, 0⟩
def CUQ_CTRL_EN : Field := ⟨31, 31⟩
def CUQ_CTRL_SIZE : Field := ⟨3, 0⟩
def CUQ_TAIL_INDEX : Field := ⟨11, 0⟩
def CUQ_HEAD_INDEX : Field := ⟨11, 0⟩
def CPQ_BASE_LO_ADDR_LO : Field := ⟨31, 6⟩
def CPQ_BASE_HI_ADDR_HI : Field := ⟨31, 0⟩
def CPQ_CTRL_EN : Field := ⟨31, 31⟩
def CPQ_CTRL_SIZE : Field := ⟨3, 0⟩
def CPQ_HEAD_INDEX : Field := ⟨11, 0⟩
def CPQ_TAIL_PHASE : Field := ⟨31, 31⟩
def CPQ_TAIL_INDEX : Field := ⟨11, 0⟩
def PBH_BASE_LO_ADDR_LO : Field := ⟨31, 6⟩
def PBH_BASE_HI_ADDR_HI : Field := ⟨31, 0⟩
def PBH_CTRL_EN : Field := ⟨31, 31⟩
def PBH_CTRL_SIZE : Field := ⟨3, 0⟩
def PBH_HEAD_INDEX : Field := ⟨11, 0⟩
def PBH_TAIL_INDEX : Field := ⟨11, 0⟩
def PBH_LOST_COUNT : Field := ⟨31, 0⟩
def TEN_FAULT_CNT_COUNT : Field := ⟨31, 0⟩
def TEN_FAULT_LAST_BLOCK : Field := ⟨19, 16⟩
def TEN_FAULT_LAST_STATUS : Field := ⟨15, 0⟩
def TEN_FAULT_ADDR_ADDR : Field := ⟨31, 0⟩
def TEN_STATUS_RESETTING : Field := ⟨31, 31⟩
def TEN_STATUS_SCHED : Field := ⟨6, 0⟩
def TEN_RESET_GO : Field := ⟨31, 31⟩
def TEN_DISCARD_GO : Field := ⟨31, 31⟩

end Fld

/-! ## The rows, one list for each register block of R562 -/

def rowsSys0 : List RegRow := [
  ⟨0x00000000, [], .t0, 0, [⟨⟨31, 16⟩, .ro, 0x9440⟩, ⟨⟨15, 8⟩, .ro, 0x11⟩, ⟨⟨7, 4⟩, .ro, 0⟩, ⟨⟨3, 0⟩, .res, 0⟩]⟩,
  ⟨0x00000004, [], .t0, 0, [⟨⟨31, 28⟩, .res, 0⟩, ⟨⟨27, 24⟩, .ro, 1⟩, ⟨⟨23, 20⟩, .res, 0⟩, ⟨⟨19, 16⟩, .ro, 0xf⟩, ⟨⟨15, 4⟩, .res, 0⟩, ⟨⟨3, 0⟩, .ro, 2⟩]⟩,
  ⟨0x00000008, [], .t0, 0, [⟨⟨31, 31⟩, .wo, 0⟩, ⟨⟨30, 4⟩, .res, 0⟩, ⟨⟨3, 0⟩, .wo, 0⟩]⟩,
  ⟨0x0000000C, [], .t0, 0, [⟨⟨31, 31⟩, .rw, 1⟩, ⟨⟨30, 28⟩, .res, 0⟩, ⟨⟨27, 24⟩, .rw, 4⟩, ⟨⟨23, 16⟩, .rw, 2⟩, ⟨⟨15, 0⟩, .rw, 0x1f4⟩]⟩,
  ⟨0x00000010, [], .t0, 0, [⟨⟨31, 12⟩, .res, 0⟩, ⟨⟨11, 8⟩, .ro, 0⟩, ⟨⟨7, 4⟩, .res, 0⟩, ⟨⟨3, 0⟩, .rw, 0xc⟩]⟩,
  ⟨0x00000014, [], .t0, 0, [⟨⟨31, 31⟩, .ro, 0⟩, ⟨⟨30, 30⟩, .ro, 0⟩, ⟨⟨29, 29⟩, .ro, 0⟩, ⟨⟨28, 28⟩, .ro, 0⟩, ⟨⟨27, 0⟩, .res, 0⟩]⟩,
  ⟨0x00000018, [], .t0, 0, [⟨⟨31, 8⟩, .res, 0⟩, ⟨⟨7, 0⟩, .rw, 0x5a⟩]⟩,
  ⟨0x0000001C, [], .t0, 0, [⟨⟨31, 24⟩, .ro, 0⟩, ⟨⟨23, 16⟩, .ro, 0⟩, ⟨⟨15, 0⟩, .rw, 0xa⟩]⟩,
  ⟨0x00000020, [(0x4, 5)], .t0, 0, [⟨⟨31, 16⟩, .ro, 0x8000⟩, ⟨⟨15, 0⟩, .ro, 0⟩]⟩,
  ⟨0x00000034, [], .t0, 0, [⟨⟨31, 31⟩, .rw, 1⟩, ⟨⟨30, 24⟩, .res, 0⟩, ⟨⟨23, 16⟩, .ro, 0⟩, ⟨⟨15, 12⟩, .res, 0⟩, ⟨⟨11, 8⟩, .ro, 0⟩, ⟨⟨7, 0⟩, .res, 0⟩]⟩,
  ⟨0x00000038, [], .t0, 0, [⟨⟨31, 31⟩, .wo, 0⟩, ⟨⟨30, 16⟩, .res, 0⟩, ⟨⟨15, 8⟩, .wo, 0⟩, ⟨⟨7, 0⟩, .res, 0⟩]⟩,
  ⟨0x0000003C, [], .t0, 0, [⟨⟨31, 16⟩, .rwl, 0⟩, ⟨⟨15, 0⟩, .res, 0⟩]⟩]
def rowsSys1 : List RegRow := [
  ⟨0x00000040, [], .t0, 0, [⟨⟨31, 4⟩, .res, 0⟩, ⟨⟨3, 0⟩, .rwl, 0⟩]⟩,
  ⟨0x00000044, [], .t0, 0xffffffff, [⟨⟨31, 0⟩, .ro, 0⟩]⟩,
  ⟨0x00000048, [], .t0, 0xffffffff, [⟨⟨31, 0⟩, .ro, 0⟩]⟩,
  ⟨0x0000004C, [], .t0, 0xffffffff, [⟨⟨31, 0⟩, .ro, 0⟩]⟩,
  ⟨0x00000050, [], .t0, 0, [⟨⟨31, 26⟩, .res, 0⟩, ⟨⟨25, 16⟩, .ro, 0⟩, ⟨⟨15, 10⟩, .res, 0⟩, ⟨⟨9, 0⟩, .ro, 750⟩]⟩]
/-- The registers of block SYS. -/
def rowsSys : List RegRow := rowsSys0 ++ rowsSys1

def rowsCur0 : List RegRow := [
  ⟨0x00100000, [], .t0, 0, [⟨⟨31, 24⟩, .res, 0⟩, ⟨⟨23, 20⟩, .rws, 0⟩, ⟨⟨19, 16⟩, .rws, 0⟩, ⟨⟨15, 5⟩, .res, 0⟩, ⟨⟨4, 4⟩, .rws, 0⟩, ⟨⟨3, 3⟩, .res, 0⟩, ⟨⟨2, 0⟩, .rws, 0⟩]⟩,
  ⟨0x00100004, [], .t0, 0, [⟨⟨31, 5⟩, .res, 0⟩, ⟨⟨4, 0⟩, .rws, 0xf⟩]⟩,
  ⟨0x00100008, [], .t0, 0, [⟨⟨31, 0⟩, .rws, 0⟩]⟩,
  ⟨0x0010000C, [], .t0, 0, [⟨⟨31, 26⟩, .res, 0⟩, ⟨⟨25, 16⟩, .rws, 0x96⟩, ⟨⟨15, 8⟩, .res, 0⟩, ⟨⟨7, 0⟩, .rws, 0x64⟩]⟩,
  ⟨0x00100010, [], .t0, 0, [⟨⟨31, 24⟩, .res, 0⟩, ⟨⟨23, 8⟩, .rw, 0x3e8⟩, ⟨⟨7, 7⟩, .res, 0⟩, ⟨⟨6, 0⟩, .rw, 0x14⟩]⟩,
  ⟨0x00100014, [], .t0, 0, [⟨⟨31, 13⟩, .res, 0⟩, ⟨⟨12, 8⟩, .ro, 0x1f⟩, ⟨⟨7, 2⟩, .res, 0⟩, ⟨⟨1, 0⟩, .ro, 0⟩]⟩,
  ⟨0x00100018, [], .t0, 0, [⟨⟨31, 0⟩, .ro, 0⟩]⟩,
  ⟨0x00100020, [], .t0, 0, [⟨⟨31, 16⟩, .res, 0⟩, ⟨⟨15, 0⟩, .ro, 0⟩]⟩,
  ⟨0x00100024, [], .t0, 0, [⟨⟨31, 0⟩, .ro, 0⟩]⟩,
  ⟨0x00100028, [], .t0, 0, [⟨⟨31, 30⟩, .res, 0⟩, ⟨⟨29, 0⟩, .ro, 0⟩]⟩,
  ⟨0x0010002C, [], .t0, 0, [⟨⟨31, 0⟩, .ro, 0⟩]⟩,
  ⟨0x00100040, [], .t0, 0, [⟨⟨31, 9⟩, .res, 0⟩, ⟨⟨8, 8⟩, .rws, 1⟩, ⟨⟨7, 3⟩, .res, 0⟩, ⟨⟨2, 0⟩, .rws, 0⟩]⟩]
def rowsCur1 : List RegRow := [
  ⟨0x00100080, [(0x4, 8)], .t0, 0, [⟨⟨31, 28⟩, .rws, 0⟩, ⟨⟨27, 26⟩, .res, 0⟩, ⟨⟨25, 0⟩, .rws, 0⟩]⟩,
  ⟨0x00100100, [(0x10, 8)], .t0, 0, [⟨⟨31, 31⟩, .rws, 0⟩, ⟨⟨30, 30⟩, .rws, 0⟩, ⟨⟨29, 26⟩, .res, 0⟩, ⟨⟨25, 24⟩, .rws, 0⟩, ⟨⟨23, 20⟩, .res, 0⟩, ⟨⟨19, 16⟩, .res, 0⟩, ⟨⟨15, 8⟩, .res, 0⟩, ⟨⟨7, 0⟩, .rws, 0⟩]⟩,
  ⟨0x00100104, [(0x10, 8)], .t0, 0, [⟨⟨31, 0⟩, .rws, 0⟩]⟩,
  ⟨0x00100108, [(0x10, 8)], .t0, 0, [⟨⟨31, 26⟩, .res, 0⟩, ⟨⟨25, 0⟩, .rws, 0x3e8⟩]⟩,
  ⟨0x00100180, [(0x10, 4)], .t0, 0, [⟨⟨31, 31⟩, .rws, 0⟩, ⟨⟨30, 30⟩, .rws, 0⟩, ⟨⟨29, 26⟩, .res, 0⟩, ⟨⟨25, 24⟩, .res, 0⟩, ⟨⟨23, 20⟩, .res, 0⟩, ⟨⟨19, 16⟩, .rws, 0⟩, ⟨⟨15, 8⟩, .res, 0⟩, ⟨⟨7, 0⟩, .rws, 0⟩]⟩,
  ⟨0x00100184, [(0x10, 4)], .t0, 0, [⟨⟨31, 0⟩, .rws, 0⟩]⟩,
  ⟨0x00100188, [(0x10, 4)], .t0, 0, [⟨⟨31, 26⟩, .res, 0⟩, ⟨⟨25, 0⟩, .rws, 0x3e8⟩]⟩,
  ⟨0x00101000, [(0x100, 8)], .win, 0, [⟨⟨31, 8⟩, .res, 0⟩, ⟨⟨7, 0⟩, .w1c, 0⟩]⟩,
  ⟨0x00101004, [(0x100, 8)], .win, 0, [⟨⟨31, 8⟩, .res, 0⟩, ⟨⟨7, 0⟩, .rw, 0⟩]⟩,
  ⟨0x00101008, [(0x100, 8)], .win, 0, [⟨⟨31, 16⟩, .res, 0⟩, ⟨⟨15, 0⟩, .wo, 0⟩]⟩,
  ⟨0x0010100C, [(0x100, 8)], .win, 0, [⟨⟨31, 16⟩, .ro, 0⟩, ⟨⟨15, 0⟩, .ro, 0⟩]⟩,
  ⟨0x00101010, [(0x100, 8)], .win, 0, [⟨⟨31, 0⟩, .ro, 0⟩]⟩]
def rowsCur2 : List RegRow := [
  ⟨0x00101014, [(0x100, 8)], .win, 0, [⟨⟨31, 2⟩, .res, 0⟩, ⟨⟨1, 0⟩, .rw, 0⟩]⟩,
  ⟨0x00101018, [(0x100, 8)], .win, 0, [⟨⟨31, 31⟩, .rw, 0⟩, ⟨⟨30, 26⟩, .res, 0⟩, ⟨⟨25, 16⟩, .rw, 0⟩, ⟨⟨15, 12⟩, .res, 0⟩, ⟨⟨11, 0⟩, .rw, 0⟩]⟩,
  ⟨0x0010101C, [(0x100, 8)], .win, 0xffffffff, [⟨⟨31, 0⟩, .ro, 0⟩]⟩,
  ⟨0x00101020, [(0x100, 8)], .win, 0xffffffff, [⟨⟨31, 0⟩, .ro, 0⟩]⟩]
/-- The registers of block CUR. -/
def rowsCur : List RegRow := rowsCur0 ++ rowsCur1 ++ rowsCur2

def rowsSrc0 : List RegRow := [
  ⟨0x00200000, [], .t0, 0, [⟨⟨31, 31⟩, .rw, 0⟩, ⟨⟨30, 26⟩, .res, 0⟩, ⟨⟨25, 24⟩, .rw, 0⟩, ⟨⟨23, 16⟩, .rw, 0x7f⟩, ⟨⟨15, 4⟩, .res, 0⟩, ⟨⟨3, 0⟩, .rw, 3⟩]⟩,
  ⟨0x00200004, [], .t0, 0, [⟨⟨31, 30⟩, .ro, 3⟩, ⟨⟨29, 0⟩, .res, 0⟩]⟩,
  ⟨0x00200008, [], .t0, 0, [⟨⟨31, 9⟩, .res, 0⟩, ⟨⟨8, 8⟩, .w1c, 0⟩, ⟨⟨7, 6⟩, .res, 0⟩, ⟨⟨5, 0⟩, .rw, 0⟩]⟩,
  ⟨0x0020000C, [], .t0, 0, [⟨⟨31, 16⟩, .res, 0⟩, ⟨⟨15, 0⟩, .ro, 0⟩]⟩,
  ⟨0x00200100, [(0x40, 2)], .t0, 0, [⟨⟨31, 31⟩, .rw, 0⟩, ⟨⟨30, 28⟩, .rw, 6⟩, ⟨⟨27, 27⟩, .res, 0⟩, ⟨⟨26, 24⟩, .rw, 0⟩, ⟨⟨23, 21⟩, .res, 0⟩, ⟨⟨20, 20⟩, .rw, 0⟩, ⟨⟨19, 17⟩, .res, 0⟩, ⟨⟨16, 16⟩, .rw, 0⟩, ⟨⟨15, 0⟩, .res, 0⟩]⟩,
  ⟨0x00200104, [(0x40, 2)], .t0, 0, [⟨⟨31, 31⟩, .ro, 0⟩, ⟨⟨30, 30⟩, .ro, 0⟩, ⟨⟨29, 27⟩, .ro, 0⟩, ⟨⟨26, 24⟩, .ro, 0⟩, ⟨⟨23, 0⟩, .res, 0⟩]⟩,
  ⟨0x00200108, [(0x40, 2)], .t0, 0, [⟨⟨31, 16⟩, .ro, 0⟩, ⟨⟨15, 0⟩, .ro, 0⟩]⟩,
  ⟨0x00201000, [(0x400, 6)], .t0, 0, [⟨⟨31, 31⟩, .rws, 0⟩, ⟨⟨30, 30⟩, .wo, 0⟩, ⟨⟨29, 29⟩, .rws, 1⟩, ⟨⟨28, 28⟩, .rws, 0⟩, ⟨⟨27, 27⟩, .rw, 0⟩, ⟨⟨26, 24⟩, .res, 0⟩, ⟨⟨23, 20⟩, .rws, 3⟩, ⟨⟨19, 16⟩, .rws, 0⟩, ⟨⟨15, 10⟩, .res, 0⟩, ⟨⟨9, 8⟩, .rw, 2⟩, ⟨⟨7, 6⟩, .res, 0⟩, ⟨⟨5, 4⟩, .rw, 2⟩, ⟨⟨3, 1⟩, .res, 0⟩, ⟨⟨0, 0⟩, .rw, 1⟩]⟩,
  ⟨0x00201004, [(0x400, 6)], .t0, 0, [⟨⟨31, 28⟩, .ro, 0⟩, ⟨⟨27, 26⟩, .ro, 0⟩, ⟨⟨25, 24⟩, .ro, 0⟩, ⟨⟨23, 23⟩, .ro, 0⟩, ⟨⟨22, 22⟩, .ro, 0⟩, ⟨⟨21, 21⟩, .ro, 0⟩, ⟨⟨20, 18⟩, .res, 0⟩, ⟨⟨17, 16⟩, .ro, 0⟩, ⟨⟨15, 14⟩, .ro, 0⟩, ⟨⟨13, 0⟩, .res, 0⟩]⟩,
  ⟨0x00201008, [(0x400, 6)], .t0, 0, [⟨⟨31, 16⟩, .ro, 0⟩, ⟨⟨15, 0⟩, .ro, 0⟩]⟩,
  ⟨0x0020100C, [(0x400, 6)], .t0, 0, [⟨⟨31, 0⟩, .ro, 0⟩]⟩,
  ⟨0x00201010, [(0x400, 6)], .t0, 0, [⟨⟨31, 31⟩, .w1c, 0⟩, ⟨⟨30, 30⟩, .w1c, 0⟩, ⟨⟨29, 29⟩, .ro, 0⟩, ⟨⟨28, 28⟩, .ro, 0⟩, ⟨⟨27, 26⟩, .ro, 0⟩, ⟨⟨25, 24⟩, .ro, 0⟩, ⟨⟨23, 23⟩, .ro, 0⟩, ⟨⟨22, 2⟩, .res, 0⟩, ⟨⟨1, 0⟩, .ro, 0⟩]⟩]
def rowsSrc1 : List RegRow := [
  ⟨0x00201014, [(0x400, 6)], .t0, 0, [⟨⟨31, 16⟩, .rws, 0⟩, ⟨⟨15, 0⟩, .res, 0⟩]⟩,
  ⟨0x00201018, [(0x400, 6)], .t0, 0, [⟨⟨31, 4⟩, .res, 0⟩, ⟨⟨3, 0⟩, .rws, 0⟩]⟩,
  ⟨0x0020101C, [(0x400, 6)], .t0, 0, [⟨⟨31, 16⟩, .rws, 0x1100⟩, ⟨⟨15, 0⟩, .rws, 0x2000⟩]⟩,
  ⟨0x00201020, [(0x400, 6)], .t0, 0, [⟨⟨31, 0⟩, .rws, 0⟩]⟩,
  ⟨0x00201024, [(0x400, 6)], .t0, 0, [⟨⟨31, 0⟩, .rws, 0⟩]⟩,
  ⟨0x00201028, [(0x400, 6)], .t0, 0, [⟨⟨31, 16⟩, .rws, 0⟩, ⟨⟨15, 0⟩, .rws, 0⟩]⟩,
  ⟨0x0020102C, [(0x400, 6)], .t0, 0, [⟨⟨31, 31⟩, .rws, 0⟩, ⟨⟨30, 30⟩, .rws, 0⟩, ⟨⟨29, 28⟩, .rws, 1⟩, ⟨⟨27, 26⟩, .rws, 1⟩, ⟨⟨25, 25⟩, .rws, 0⟩, ⟨⟨24, 23⟩, .rws, 0⟩, ⟨⟨22, 21⟩, .rws, 0⟩, ⟨⟨20, 14⟩, .res, 0⟩, ⟨⟨13, 0⟩, .rws, 0x3e8⟩]⟩,
  ⟨0x00201030, [(0x400, 6)], .t0, 0xffffffff, [⟨⟨31, 0⟩, .ro, 0⟩]⟩,
  ⟨0x00201034, [(0x400, 6)], .t0, 0xffffffff, [⟨⟨31, 0⟩, .ro, 0⟩]⟩,
  ⟨0x00201038, [(0x400, 6)], .t0, 0xffffffff, [⟨⟨31, 0⟩, .ro, 0⟩]⟩,
  ⟨0x0020103C, [(0x400, 6)], .t0, 0xffffffff, [⟨⟨31, 0⟩, .ro, 0⟩]⟩,
  ⟨0x00201200, [(0x400, 4), (0x4, 128)], .t0, 0, [⟨⟨31, 0⟩, .rw, 0⟩]⟩]
def rowsSrc2 : List RegRow := [
  ⟨0x0020F000, [(0x100, 8)], .win, 0, [⟨⟨31, 6⟩, .res, 0⟩, ⟨⟨5, 0⟩, .w1c, 0⟩]⟩,
  ⟨0x0020F004, [(0x100, 8)], .win, 0, [⟨⟨31, 6⟩, .res, 0⟩, ⟨⟨5, 0⟩, .rw, 0⟩]⟩]
/-- The registers of block SRC. -/
def rowsSrc : List RegRow := rowsSrc0 ++ rowsSrc1 ++ rowsSrc2

def rowsBlk0 : List RegRow := [
  ⟨0x00300000, [(0x1000, 8)], .slot, 0, [⟨⟨31, 20⟩, .res, 0⟩, ⟨⟨19, 0⟩, .rws, 0⟩]⟩,
  ⟨0x00300004, [(0x1000, 8)], .slot, 0, [⟨⟨31, 20⟩, .res, 0⟩, ⟨⟨19, 0⟩, .rws, 0⟩]⟩,
  ⟨0x00300008, [(0x1000, 8)], .slot, 0, [⟨⟨31, 20⟩, .res, 0⟩, ⟨⟨19, 0⟩, .rws, 0⟩]⟩,
  ⟨0x0030000C, [(0x1000, 8)], .slot, 0, [⟨⟨31, 12⟩, .rws, 0⟩, ⟨⟨11, 0⟩, .res, 0⟩]⟩,
  ⟨0x00300010, [(0x1000, 8)], .slot, 0, [⟨⟨31, 4⟩, .res, 0⟩, ⟨⟨3, 0⟩, .rws, 0⟩]⟩,
  ⟨0x00300014, [(0x1000, 8)], .slot, 0, [⟨⟨31, 1⟩, .res, 0⟩, ⟨⟨0, 0⟩, .rws, 1⟩]⟩,
  ⟨0x00300100, [(0x1000, 8), (0x40, 16)], .layer, 0, [⟨⟨31, 31⟩, .rws, 0⟩, ⟨⟨30, 28⟩, .rws, 0⟩, ⟨⟨27, 27⟩, .rws, 0⟩, ⟨⟨26, 26⟩, .rws, 0⟩, ⟨⟨25, 25⟩, .rws, 0⟩, ⟨⟨24, 24⟩, .res, 0⟩, ⟨⟨23, 20⟩, .rws, 0⟩, ⟨⟨19, 19⟩, .res, 0⟩, ⟨⟨18, 16⟩, .rws, 0⟩, ⟨⟨15, 13⟩, .rws, 0⟩, ⟨⟨12, 11⟩, .rws, 0⟩, ⟨⟨10, 10⟩, .res, 0⟩, ⟨⟨9, 0⟩, .rws, 0x3ff⟩]⟩,
  ⟨0x00300104, [(0x1000, 8), (0x40, 16)], .layer, 0, [⟨⟨31, 16⟩, .rws, 0⟩, ⟨⟨15, 0⟩, .rws, 0⟩]⟩,
  ⟨0x00300108, [(0x1000, 8), (0x40, 16)], .layer, 0, [⟨⟨31, 16⟩, .rws, 0x10e0⟩, ⟨⟨15, 0⟩, .rws, 0x1e00⟩]⟩,
  ⟨0x0030010C, [(0x1000, 8), (0x40, 16)], .layer, 0, [⟨⟨31, 0⟩, .rws, 0⟩]⟩,
  ⟨0x00300110, [(0x1000, 8), (0x40, 16)], .layer, 0, [⟨⟨31, 0⟩, .rws, 0⟩]⟩,
  ⟨0x00300114, [(0x1000, 8), (0x40, 16)], .layer, 0, [⟨⟨31, 0⟩, .rws, 0x1e0000⟩]⟩]
def rowsBlk1 : List RegRow := [
  ⟨0x00300118, [(0x1000, 8), (0x40, 16)], .layer, 0, [⟨⟨31, 0⟩, .rws, 0x10e000⟩]⟩,
  ⟨0x00308000, [], .t0, 0x3fff, [⟨⟨31, 14⟩, .res, 0⟩, ⟨⟨13, 0⟩, .ro, 0⟩]⟩,
  ⟨0x00308004, [], .t0, 0, [⟨⟨31, 30⟩, .res, 0⟩, ⟨⟨29, 16⟩, .ro, 0⟩, ⟨⟨15, 14⟩, .res, 0⟩, ⟨⟨13, 0⟩, .ro, 0⟩]⟩,
  ⟨0x00308010, [(0x4, 4)], .t0, 0xfff, [⟨⟨31, 12⟩, .res, 0⟩, ⟨⟨11, 0⟩, .ro, 0⟩]⟩,
  ⟨0x00308020, [], .t0, 0, [⟨⟨31, 12⟩, .rwl, 0⟩, ⟨⟨11, 0⟩, .res, 0⟩]⟩,
  ⟨0x00308024, [], .t0, 0, [⟨⟨31, 4⟩, .res, 0⟩, ⟨⟨3, 0⟩, .rwl, 0⟩]⟩]
/-- The registers of block BLK. -/
def rowsBlk : List RegRow := rowsBlk0 ++ rowsBlk1

def rowsStp0 : List RegRow := [
  ⟨0x00400000, [], .t0, 0, [⟨⟨31, 31⟩, .ro, 1⟩, ⟨⟨30, 4⟩, .res, 0⟩, ⟨⟨3, 3⟩, .rws, 1⟩, ⟨⟨2, 2⟩, .rws, 1⟩, ⟨⟨1, 1⟩, .rws, 1⟩, ⟨⟨0, 0⟩, .rws, 1⟩]⟩,
  ⟨0x00400004, [], .t0, 0, [⟨⟨31, 14⟩, .res, 0⟩, ⟨⟨13, 0⟩, .rws, 0x3e8⟩]⟩,
  ⟨0x00400008, [], .t0, 0, [⟨⟨31, 14⟩, .res, 0⟩, ⟨⟨13, 8⟩, .rws, 0⟩, ⟨⟨7, 6⟩, .res, 0⟩, ⟨⟨5, 0⟩, .rws, 0⟩]⟩,
  ⟨0x0040000C, [], .t0, 0, [⟨⟨31, 8⟩, .rws, 0⟩, ⟨⟨7, 0⟩, .res, 0⟩]⟩,
  ⟨0x00400010, [], .t0, 0, [⟨⟨31, 4⟩, .res, 0⟩, ⟨⟨3, 0⟩, .rws, 0⟩]⟩,
  ⟨0x00400014, [], .t0, 0, [⟨⟨31, 16⟩, .rwl, 0⟩, ⟨⟨15, 0⟩, .res, 0⟩]⟩,
  ⟨0x00400018, [], .t0, 0, [⟨⟨31, 4⟩, .res, 0⟩, ⟨⟨3, 0⟩, .rwl, 0⟩]⟩,
  ⟨0x0040001C, [], .t0, 0, [⟨⟨31, 1⟩, .res, 0⟩, ⟨⟨0, 0⟩, .wo, 0⟩]⟩,
  ⟨0x00400020, [], .t0, 0, [⟨⟨31, 30⟩, .res, 0⟩, ⟨⟨29, 16⟩, .ro, 0⟩, ⟨⟨15, 14⟩, .res, 0⟩, ⟨⟨13, 0⟩, .ro, 0⟩]⟩,
  ⟨0x00400024, [], .t0, 0, [⟨⟨31, 17⟩, .res, 0⟩, ⟨⟨16, 0⟩, .ro, 0⟩]⟩,
  ⟨0x00400028, [], .t0, 0, [⟨⟨31, 31⟩, .wo, 0⟩, ⟨⟨30, 14⟩, .res, 0⟩, ⟨⟨13, 0⟩, .wo, 0⟩]⟩,
  ⟨0x00400100, [(0x4, 16)], .t0, 0, [⟨⟨31, 24⟩, .rws, 0x40⟩, ⟨⟨23, 16⟩, .rws, 0x40⟩, ⟨⟨15, 8⟩, .rws, 0x40⟩, ⟨⟨7, 0⟩, .rws, 0x40⟩]⟩]
def rowsStp1 : List RegRow := [
  ⟨0x00400200, [(0x20, 6)], .t0, 0, [⟨⟨31, 16⟩, .rws, 0⟩, ⟨⟨15, 0⟩, .rws, 0x4000⟩]⟩,
  ⟨0x00401010, [(0x100, 8)], .slot, 0, [⟨⟨31, 16⟩, .rws, 0⟩, ⟨⟨15, 0⟩, .rws, 0x4000⟩]⟩,
  ⟨0x00400204, [(0x20, 6)], .t0, 0, [⟨⟨31, 16⟩, .rws, 0⟩, ⟨⟨15, 0⟩, .rws, 0⟩]⟩,
  ⟨0x00401014, [(0x100, 8)], .slot, 0, [⟨⟨31, 16⟩, .rws, 0⟩, ⟨⟨15, 0⟩, .rws, 0⟩]⟩,
  ⟨0x00400208, [(0x20, 6)], .t0, 0, [⟨⟨31, 16⟩, .rws, 0⟩, ⟨⟨15, 0⟩, .rws, 0x4000⟩]⟩,
  ⟨0x00401018, [(0x100, 8)], .slot, 0, [⟨⟨31, 16⟩, .rws, 0⟩, ⟨⟨15, 0⟩, .rws, 0x4000⟩]⟩,
  ⟨0x0040020C, [(0x20, 6)], .t0, 0, [⟨⟨31, 16⟩, .rws, 0⟩, ⟨⟨15, 0⟩, .rws, 0⟩]⟩,
  ⟨0x0040101C, [(0x100, 8)], .slot, 0, [⟨⟨31, 16⟩, .rws, 0⟩, ⟨⟨15, 0⟩, .rws, 0⟩]⟩,
  ⟨0x00400210, [(0x20, 6)], .t0, 0, [⟨⟨31, 16⟩, .res, 0⟩, ⟨⟨15, 0⟩, .rws, 0x4000⟩]⟩,
  ⟨0x00401020, [(0x100, 8)], .slot, 0, [⟨⟨31, 16⟩, .res, 0⟩, ⟨⟨15, 0⟩, .rws, 0x4000⟩]⟩,
  ⟨0x00401000, [(0x100, 8)], .slot, 0, [⟨⟨31, 1⟩, .res, 0⟩, ⟨⟨0, 0⟩, .rws, 0⟩]⟩,
  ⟨0x00401004, [(0x100, 8)], .slot, 0, [⟨⟨31, 8⟩, .rws, 0⟩, ⟨⟨7, 0⟩, .res, 0⟩]⟩]
def rowsStp2 : List RegRow := [
  ⟨0x00401008, [(0x100, 8)], .slot, 0, [⟨⟨31, 4⟩, .res, 0⟩, ⟨⟨3, 0⟩, .rws, 0⟩]⟩,
  ⟨0x00404000, [(0x4, 384)], .t0, 0, [⟨⟨31, 0⟩, .ro, 0⟩]⟩]
/-- The registers of block STP. -/
def rowsStp : List RegRow := rowsStp0 ++ rowsStp1 ++ rowsStp2

def rowsEng0 : List RegRow := [
  ⟨0x00500000, [(0x1000, 96)], .engine, 0, [⟨⟨31, 31⟩, .rws, 0⟩, ⟨⟨30, 30⟩, .rws, 0⟩, ⟨⟨29, 8⟩, .res, 0⟩, ⟨⟨7, 0⟩, .rw, 4⟩]⟩,
  ⟨0x00500004, [(0x1000, 96)], .engine, 0, [⟨⟨31, 12⟩, .res, 0⟩, ⟨⟨11, 0⟩, .rws, 0⟩]⟩,
  ⟨0x00500008, [(0x1000, 96)], .engine, 0, [⟨⟨31, 29⟩, .ro, 0⟩, ⟨⟨28, 28⟩, .ro, 0⟩, ⟨⟨27, 27⟩, .res, 0⟩, ⟨⟨26, 20⟩, .ro, 0x7f⟩, ⟨⟨19, 16⟩, .ro, 0⟩, ⟨⟨15, 12⟩, .res, 0⟩, ⟨⟨11, 0⟩, .ro, 0⟩]⟩,
  ⟨0x0050000C, [(0x1000, 96)], .engine, 0, [⟨⟨31, 31⟩, .w1c, 0⟩, ⟨⟨30, 28⟩, .ro, 0⟩, ⟨⟨27, 20⟩, .ro, 0⟩, ⟨⟨19, 12⟩, .ro, 0⟩, ⟨⟨11, 0⟩, .ro, 0⟩]⟩,
  ⟨0x00500010, [(0x1000, 96)], .engine, 0, [⟨⟨31, 16⟩, .res, 0⟩, ⟨⟨15, 0⟩, .rw, 0x7d0⟩]⟩,
  ⟨0x00500014, [(0x1000, 96)], .engine, 0, [⟨⟨31, 31⟩, .rw, 1⟩, ⟨⟨30, 12⟩, .res, 0⟩, ⟨⟨11, 0⟩, .rw, 0⟩]⟩,
  ⟨0x00500018, [(0x1000, 96)], .engine, 0, [⟨⟨31, 0⟩, .rw, 0⟩]⟩,
  ⟨0x0050001C, [(0x1000, 96)], .engine, 0, [⟨⟨31, 0⟩, .rw, 0⟩]⟩,
  ⟨0x00500020, [(0x1000, 96)], .engine, 0xffffffff, [⟨⟨31, 0⟩, .ro, 0⟩]⟩,
  ⟨0x00500024, [(0x1000, 96)], .engine, 0xffffffff, [⟨⟨31, 0⟩, .ro, 0⟩]⟩,
  ⟨0x00500028, [(0x1000, 96)], .engine, 0xffffffff, [⟨⟨31, 0⟩, .ro, 0⟩]⟩,
  ⟨0x0050002C, [(0x1000, 96)], .engine, 0xffffffff, [⟨⟨31, 0⟩, .ro, 0⟩]⟩]
def rowsEng1 : List RegRow := [
  ⟨0x00500030, [(0x1000, 96)], .engine, 0xffffffff, [⟨⟨31, 0⟩, .ro, 0⟩]⟩,
  ⟨0x00500034, [(0x1000, 96)], .engine, 0xffffffff, [⟨⟨31, 0⟩, .ro, 0⟩]⟩,
  ⟨0x00500038, [(0x1000, 96)], .image, 0, [⟨⟨31, 16⟩, .res, 0⟩, ⟨⟨15, 0⟩, .rwl, 0xf0⟩]⟩,
  ⟨0x00580000, [(0x100, 16), (0x4, 4)], .cluster, 0, [⟨⟨31, 6⟩, .res, 0⟩, ⟨⟨5, 0⟩, .rws, 0x3f⟩]⟩,
  ⟨0x00580010, [(0x100, 16)], .cluster, 0, [⟨⟨31, 4⟩, .res, 0⟩, ⟨⟨3, 3⟩, .ro, 0⟩, ⟨⟨2, 0⟩, .ro, 0⟩]⟩,
  ⟨0x00580014, [(0x100, 16)], .cluster, 0, [⟨⟨31, 12⟩, .res, 0⟩, ⟨⟨11, 8⟩, .ro, 0⟩, ⟨⟨7, 6⟩, .res, 0⟩, ⟨⟨5, 0⟩, .ro, 0⟩]⟩,
  ⟨0x00580018, [(0x100, 16)], .cluster, 0xffffffff, [⟨⟨31, 0⟩, .ro, 0⟩]⟩,
  ⟨0x0058001C, [(0x100, 16)], .cluster, 0xffffffff, [⟨⟨31, 0⟩, .ro, 0⟩]⟩,
  ⟨0x00590000, [(0x100, 4)], .t0, 0, [⟨⟨31, 28⟩, .res, 0⟩, ⟨⟨27, 16⟩, .ro, 0⟩, ⟨⟨15, 12⟩, .res, 0⟩, ⟨⟨11, 0⟩, .ro, 0⟩]⟩,
  ⟨0x00590004, [(0x100, 4)], .t0, 0xfff, [⟨⟨31, 12⟩, .res, 0⟩, ⟨⟨11, 0⟩, .ro, 0⟩]⟩,
  ⟨0x00590008, [(0x100, 4)], .t0, 0xfff, [⟨⟨31, 12⟩, .res, 0⟩, ⟨⟨11, 0⟩, .ro, 0⟩]⟩,
  ⟨0x0059000C, [(0x100, 4)], .t0, 0xfff, [⟨⟨31, 12⟩, .res, 0⟩, ⟨⟨11, 0⟩, .ro, 0⟩]⟩]
def rowsEng2 : List RegRow := [
  ⟨0x005A0000, [(0x4, 8)], .image, 0, [⟨⟨31, 31⟩, .rwl, 0⟩, ⟨⟨30, 29⟩, .rwl, 0⟩, ⟨⟨28, 24⟩, .res, 0⟩, ⟨⟨23, 17⟩, .ro, 0x7f⟩, ⟨⟨16, 7⟩, .res, 0⟩, ⟨⟨6, 0⟩, .rwl, 0⟩]⟩,
  ⟨0x005A0040, [(0x4, 8)], .t0, 0, [⟨⟨31, 31⟩, .rws, 0⟩, ⟨⟨30, 7⟩, .res, 0⟩, ⟨⟨6, 0⟩, .rws, 0⟩]⟩,
  ⟨0x005B0000, [(0x100, 8)], .win, 0, [⟨⟨31, 5⟩, .res, 0⟩, ⟨⟨4, 0⟩, .w1c, 0⟩]⟩,
  ⟨0x005B0004, [(0x100, 8)], .win, 0, [⟨⟨31, 5⟩, .res, 0⟩, ⟨⟨4, 0⟩, .rw, 0⟩]⟩]
/-- The registers of block ENG. -/
def rowsEng : List RegRow := rowsEng0 ++ rowsEng1 ++ rowsEng2

def rowsPrt0 : List RegRow := [
  ⟨0x00600000, [(0x10000, 16), (0x100, 64)], .t0, 0, [⟨⟨31, 31⟩, .rwl, 0⟩, ⟨⟨30, 4⟩, .res, 0⟩, ⟨⟨3, 0⟩, .rwl, 0⟩]⟩,
  ⟨0x00600004, [(0x10000, 16), (0x100, 64)], .t0, 0, [⟨⟨31, 16⟩, .res, 0⟩, ⟨⟨15, 12⟩, .rw, 8⟩, ⟨⟨11, 8⟩, .rw, 0⟩, ⟨⟨7, 2⟩, .res, 0⟩, ⟨⟨1, 0⟩, .rw, 0⟩]⟩,
  ⟨0x00600008, [(0x10000, 16), (0x100, 64)], .t0, 0, [⟨⟨31, 26⟩, .res, 0⟩, ⟨⟨25, 16⟩, .ro, 0x3ff⟩, ⟨⟨15, 10⟩, .res, 0⟩, ⟨⟨9, 0⟩, .ro, 0⟩]⟩,
  ⟨0x0060000C, [(0x10000, 16), (0x100, 64)], .t0, 0, [⟨⟨31, 16⟩, .ro, 0⟩, ⟨⟨15, 0⟩, .ro, 0⟩]⟩,
  ⟨0x00600010, [(0x10000, 16), (0x100, 64)], .t0, 0, [⟨⟨31, 16⟩, .ro, 0⟩, ⟨⟨15, 0⟩, .ro, 0⟩]⟩,
  ⟨0x00600014, [(0x10000, 16), (0x100, 64)], .t0, 0, [⟨⟨31, 30⟩, .ro, 0⟩, ⟨⟨29, 20⟩, .res, 0⟩, ⟨⟨19, 16⟩, .ro, 0⟩, ⟨⟨15, 4⟩, .res, 0⟩, ⟨⟨3, 0⟩, .ro, 0⟩]⟩,
  ⟨0x00600018, [(0x10000, 16), (0x100, 64)], .t0, 0, [⟨⟨31, 17⟩, .res, 0⟩, ⟨⟨16, 0⟩, .ro, 0⟩]⟩,
  ⟨0x0060001C, [(0x10000, 16), (0x100, 64)], .t0, 0xffffffff, [⟨⟨31, 0⟩, .ro, 0⟩]⟩,
  ⟨0x00600020, [(0x10000, 16), (0x100, 64)], .t0, 0xffffffff, [⟨⟨31, 0⟩, .ro, 0⟩]⟩,
  ⟨0x00600024, [(0x10000, 16), (0x100, 64)], .t0, 0xffffffff, [⟨⟨31, 0⟩, .ro, 0⟩]⟩,
  ⟨0x00600028, [(0x10000, 16), (0x100, 64)], .t0, 0xffffffff, [⟨⟨31, 0⟩, .ro, 0⟩]⟩,
  ⟨0x0060002C, [(0x10000, 16), (0x100, 64)], .t0, 0xffffffff, [⟨⟨31, 0⟩, .ro, 0⟩]⟩]
def rowsPrt1 : List RegRow := [
  ⟨0x00600030, [(0x10000, 16), (0x100, 64)], .t0, 0xffffffff, [⟨⟨31, 0⟩, .ro, 0⟩]⟩,
  ⟨0x00600034, [(0x10000, 16), (0x100, 64)], .t0, 0xffffffff, [⟨⟨31, 0⟩, .ro, 0⟩]⟩,
  ⟨0x00600038, [(0x10000, 16), (0x100, 64)], .t0, 0xffffffff, [⟨⟨31, 0⟩, .ro, 0⟩]⟩,
  ⟨0x0060003C, [(0x10000, 16), (0x100, 64)], .t0, 0xffffffff, [⟨⟨31, 0⟩, .ro, 0⟩]⟩,
  ⟨0x00604000, [(0x10000, 16)], .t0, 0, [⟨⟨31, 31⟩, .rwl, 0⟩, ⟨⟨30, 30⟩, .rwl, 0⟩, ⟨⟨29, 29⟩, .rw, 0⟩, ⟨⟨28, 8⟩, .res, 0⟩, ⟨⟨7, 0⟩, .rws, 0x10⟩]⟩,
  ⟨0x00604004, [(0x10000, 16)], .t0, 0, [⟨⟨31, 30⟩, .res, 0⟩, ⟨⟨29, 24⟩, .rwl, 0x10⟩, ⟨⟨23, 20⟩, .res, 0⟩, ⟨⟨19, 16⟩, .rw, 3⟩, ⟨⟨15, 12⟩, .res, 0⟩, ⟨⟨11, 0⟩, .rwl, 0x180⟩]⟩,
  ⟨0x00604008, [(0x10000, 16)], .t0, 0, [⟨⟨31, 10⟩, .res, 0⟩, ⟨⟨9, 0⟩, .rwl, 0xc8⟩]⟩,
  ⟨0x0060400C, [(0x10000, 16)], .t0, 0, [⟨⟨31, 12⟩, .res, 0⟩, ⟨⟨11, 0⟩, .rwl, 0⟩]⟩,
  ⟨0x00604010, [(0x10000, 16)], .t0, 0, [⟨⟨31, 30⟩, .ro, 0⟩, ⟨⟨29, 29⟩, .ro, 0⟩, ⟨⟨28, 24⟩, .ro, 0⟩, ⟨⟨23, 12⟩, .ro, 0⟩, ⟨⟨11, 0⟩, .ro, 0⟩]⟩,
  ⟨0x00604014, [(0x10000, 16)], .t0, 0, [⟨⟨31, 17⟩, .res, 0⟩, ⟨⟨16, 0⟩, .ro, 0⟩]⟩,
  ⟨0x00604018, [(0x10000, 16)], .t0, 0, [⟨⟨31, 12⟩, .res, 0⟩, ⟨⟨11, 9⟩, .res, 0⟩, ⟨⟨8, 5⟩, .rwl, 0⟩, ⟨⟨4, 0⟩, .rwl, 0⟩]⟩,
  ⟨0x00604020, [(0x10000, 16)], .t0, 0, [⟨⟨31, 31⟩, .rw, 1⟩, ⟨⟨30, 12⟩, .res, 0⟩, ⟨⟨11, 0⟩, .rw, 0⟩]⟩]
def rowsPrt2 : List RegRow := [
  ⟨0x00604024, [(0x10000, 16)], .t0, 0, [⟨⟨31, 0⟩, .rw, 0⟩]⟩,
  ⟨0x00604028, [(0x10000, 16)], .t0, 0, [⟨⟨31, 16⟩, .res, 0⟩, ⟨⟨15, 0⟩, .rw, 0⟩]⟩,
  ⟨0x0060F000, [(0x100, 8)], .win, 0, [⟨⟨31, 6⟩, .res, 0⟩, ⟨⟨5, 0⟩, .w1c, 0⟩]⟩,
  ⟨0x0060F004, [(0x100, 8)], .win, 0, [⟨⟨31, 6⟩, .res, 0⟩, ⟨⟨5, 0⟩, .rw, 0⟩]⟩]
/-- The registers of block PRT. -/
def rowsPrt : List RegRow := rowsPrt0 ++ rowsPrt1 ++ rowsPrt2

def rowsDrv0 : List RegRow := [
  ⟨0x00700000, [(0x100, 1024)], .t0, 0, [⟨⟨31, 31⟩, .rwl, 0⟩, ⟨⟨30, 27⟩, .res, 0⟩, ⟨⟨26, 24⟩, .rwl, 0⟩, ⟨⟨23, 23⟩, .res, 0⟩, ⟨⟨22, 20⟩, .rwl, 0⟩, ⟨⟨19, 17⟩, .res, 0⟩, ⟨⟨16, 16⟩, .rwl, 0⟩, ⟨⟨15, 14⟩, .res, 0⟩, ⟨⟨13, 10⟩, .rwl, 0⟩, ⟨⟨9, 0⟩, .rwl, 0⟩]⟩,
  ⟨0x00700004, [(0x100, 1024)], .t0, 0, [⟨⟨31, 28⟩, .res, 0⟩, ⟨⟨27, 16⟩, .rwl, 0x10⟩, ⟨⟨15, 12⟩, .res, 0⟩, ⟨⟨11, 0⟩, .rwl, 0x10⟩]⟩,
  ⟨0x00700008, [(0x100, 1024)], .t0, 0, [⟨⟨31, 12⟩, .res, 0⟩, ⟨⟨11, 0⟩, .rwl, 0x10⟩]⟩,
  ⟨0x0070000C, [(0x100, 1024)], .tile, 0, [⟨⟨31, 31⟩, .res, 0⟩, ⟨⟨30, 16⟩, .rws, 0⟩, ⟨⟨15, 15⟩, .res, 0⟩, ⟨⟨14, 0⟩, .rws, 0⟩]⟩,
  ⟨0x00700010, [(0x100, 1024)], .tile, 0, [⟨⟨31, 6⟩, .res, 0⟩, ⟨⟨5, 0⟩, .rws, 0⟩]⟩,
  ⟨0x00700014, [(0x100, 1024)], .tile, 0, [⟨⟨31, 24⟩, .ro, 0⟩, ⟨⟨23, 22⟩, .res, 0⟩, ⟨⟨21, 16⟩, .ro, 0⟩, ⟨⟨15, 14⟩, .res, 0⟩, ⟨⟨13, 0⟩, .ro, 0⟩]⟩,
  ⟨0x00700018, [(0x100, 1024)], .tile, 0, [⟨⟨31, 12⟩, .res, 0⟩, ⟨⟨11, 0⟩, .ro, 0⟩]⟩,
  ⟨0x00700040, [(0x100, 1024)], .tile, 0, [⟨⟨31, 6⟩, .rws, 0⟩, ⟨⟨5, 0⟩, .res, 0⟩]⟩,
  ⟨0x00700044, [(0x100, 1024)], .tile, 0, [⟨⟨31, 4⟩, .res, 0⟩, ⟨⟨3, 0⟩, .rws, 0⟩]⟩,
  ⟨0x00700048, [(0x100, 1024)], .tile, 0, [⟨⟨31, 31⟩, .ro, 0⟩, ⟨⟨30, 18⟩, .res, 0⟩, ⟨⟨17, 8⟩, .rws, 0x100⟩, ⟨⟨7, 0⟩, .rws, 0x10⟩]⟩,
  ⟨0x0070004C, [(0x100, 1024)], .tile, 0, [⟨⟨31, 31⟩, .rws, 0⟩, ⟨⟨30, 6⟩, .res, 0⟩, ⟨⟨5, 0⟩, .rws, 0⟩]⟩,
  ⟨0x00700080, [(0x100, 1024)], .tile, 0, [⟨⟨31, 28⟩, .ro, 0⟩, ⟨⟨27, 24⟩, .ro, 0⟩, ⟨⟨23, 6⟩, .res, 0⟩, ⟨⟨5, 5⟩, .rws, 0⟩, ⟨⟨4, 4⟩, .rws, 0⟩, ⟨⟨3, 2⟩, .res, 0⟩, ⟨⟨1, 0⟩, .rws, 0⟩]⟩]
def rowsDrv1 : List RegRow := [
  ⟨0x00700084, [(0x100, 1024)], .tile, 0, [⟨⟨31, 16⟩, .rws, 0x64⟩, ⟨⟨15, 0⟩, .rws, 0x32⟩]⟩,
  ⟨0x00700088, [(0x100, 1024)], .tile, 0, [⟨⟨31, 24⟩, .res, 0⟩, ⟨⟨23, 16⟩, .rws, 0x40⟩, ⟨⟨15, 10⟩, .res, 0⟩, ⟨⟨9, 0⟩, .rws, 0xc8⟩]⟩,
  ⟨0x0070008C, [(0x100, 1024)], .tile, 0, [⟨⟨31, 16⟩, .res, 0⟩, ⟨⟨15, 0⟩, .rws, 0x7d0⟩]⟩,
  ⟨0x00700090, [(0x100, 1024)], .tile, 0, [⟨⟨31, 24⟩, .res, 0⟩, ⟨⟨23, 8⟩, .ro, 0⟩, ⟨⟨7, 5⟩, .res, 0⟩, ⟨⟨4, 0⟩, .ro, 0⟩]⟩,
  ⟨0x007000A8, [(0x100, 1024)], .tile, 0, [⟨⟨31, 11⟩, .res, 0⟩, ⟨⟨10, 0⟩, .ro, 0⟩]⟩,
  ⟨0x007000AC, [(0x100, 1024)], .tile, 0xffffffff, [⟨⟨31, 0⟩, .ro, 0⟩]⟩,
  ⟨0x007000B0, [(0x100, 1024)], .tile, 0xffffffff, [⟨⟨31, 0⟩, .ro, 0⟩]⟩,
  ⟨0x007000B4, [(0x100, 1024)], .tile, 0xffffffff, [⟨⟨31, 0⟩, .ro, 0⟩]⟩,
  ⟨0x007000C0, [(0x100, 1024)], .tile, 0, [⟨⟨31, 31⟩, .rws, 0⟩, ⟨⟨30, 30⟩, .rws, 0⟩, ⟨⟨29, 29⟩, .rws, 0⟩, ⟨⟨28, 26⟩, .res, 0⟩, ⟨⟨25, 24⟩, .rws, 0⟩, ⟨⟨23, 8⟩, .res, 0⟩, ⟨⟨7, 0⟩, .rws, 0xd⟩]⟩,
  ⟨0x007000C4, [(0x100, 1024)], .tile, 0, [⟨⟨31, 16⟩, .rws, 0x8000⟩, ⟨⟨15, 0⟩, .rws, 0x8000⟩]⟩,
  ⟨0x007000C8, [(0x100, 1024)], .tile, 0, [⟨⟨31, 16⟩, .ro, 0x8000⟩, ⟨⟨15, 0⟩, .rws, 0x8000⟩]⟩,
  ⟨0x007000CC, [(0x100, 1024)], .tile, 0, [⟨⟨31, 6⟩, .rws, 0⟩, ⟨⟨5, 0⟩, .res, 0⟩]⟩]
def rowsDrv2 : List RegRow := [
  ⟨0x007000D0, [(0x100, 1024)], .tile, 0, [⟨⟨31, 4⟩, .res, 0⟩, ⟨⟨3, 0⟩, .rws, 0⟩]⟩,
  ⟨0x007000D4, [(0x100, 1024)], .tile, 0, [⟨⟨31, 16⟩, .ro, 0⟩, ⟨⟨15, 0⟩, .ro, 0⟩]⟩,
  ⟨0x007000D8, [(0x100, 1024)], .tile, 0, [⟨⟨31, 0⟩, .ro, 0⟩]⟩,
  ⟨0x007000DC, [(0x100, 1024)], .tile, 0xffffffff, [⟨⟨31, 0⟩, .ro, 0⟩]⟩,
  ⟨0x007000E0, [(0x100, 1024)], .tile, 0, [⟨⟨31, 28⟩, .ro, 0⟩, ⟨⟨27, 27⟩, .ro, 0⟩, ⟨⟨26, 24⟩, .ro, 0⟩, ⟨⟨23, 16⟩, .res, 0⟩, ⟨⟨15, 0⟩, .ro, 0⟩]⟩,
  ⟨0x007000E4, [(0x100, 1024)], .tile, 0, [⟨⟨31, 16⟩, .ro, 0⟩, ⟨⟨15, 0⟩, .ro, 0⟩]⟩,
  ⟨0x007000E8, [(0x100, 1024)], .tile, 0, [⟨⟨31, 16⟩, .ro, 0⟩, ⟨⟨15, 0⟩, .ro, 0⟩]⟩,
  ⟨0x00700060, [(0x100, 1024), (0x4, 8)], .tile, 0xffffffff, [⟨⟨31, 0⟩, .ro, 0⟩]⟩,
  ⟨0x00700094, [(0x100, 1024), (0x4, 5)], .tile, 0xffffffff, [⟨⟨31, 0⟩, .ro, 0⟩]⟩,
  ⟨0x00740000, [(0x40, 64)], .t0, 0, [⟨⟨31, 22⟩, .res, 0⟩, ⟨⟨21, 16⟩, .rws, 1⟩, ⟨⟨15, 12⟩, .res, 0⟩, ⟨⟨11, 8⟩, .rws, 3⟩, ⟨⟨7, 6⟩, .res, 0⟩, ⟨⟨5, 0⟩, .rws, 0xf⟩]⟩,
  ⟨0x00740004, [(0x40, 64)], .t0, 0, [⟨⟨31, 16⟩, .res, 0⟩, ⟨⟨15, 0⟩, .rws, 0xf00⟩]⟩,
  ⟨0x00740008, [(0x40, 64)], .t0, 0, [⟨⟨31, 26⟩, .res, 0⟩, ⟨⟨25, 16⟩, .rws, 0x64⟩, ⟨⟨15, 10⟩, .res, 0⟩, ⟨⟨9, 0⟩, .rws, 0x32⟩]⟩]
def rowsDrv3 : List RegRow := [
  ⟨0x00740010, [(0x40, 64)], .t0, 0, [⟨⟨31, 0⟩, .rws, 0⟩]⟩,
  ⟨0x00740014, [(0x40, 64)], .t0, 0, [⟨⟨31, 0⟩, .rws, 0⟩]⟩,
  ⟨0x00740020, [(0x40, 64), (0x4, 8)], .t0, 0, [⟨⟨31, 0⟩, .rws, 0⟩]⟩,
  ⟨0x00750000, [], .t0, 0, [⟨⟨31, 25⟩, .res, 0⟩, ⟨⟨24, 24⟩, .rw, 1⟩, ⟨⟨23, 20⟩, .rw, 3⟩, ⟨⟨19, 18⟩, .res, 0⟩, ⟨⟨17, 16⟩, .rw, 2⟩, ⟨⟨15, 8⟩, .rw, 8⟩, ⟨⟨7, 1⟩, .res, 0⟩, ⟨⟨0, 0⟩, .ro, 0⟩]⟩,
  ⟨0x00750004, [], .t0, 0, [⟨⟨31, 16⟩, .rwl, 0⟩, ⟨⟨15, 0⟩, .res, 0⟩]⟩,
  ⟨0x00750008, [], .t0, 0, [⟨⟨31, 4⟩, .res, 0⟩, ⟨⟨3, 0⟩, .rwl, 0⟩]⟩,
  ⟨0x0075000C, [], .t0, 0, [⟨⟨31, 12⟩, .rwl, 0⟩, ⟨⟨11, 0⟩, .res, 0⟩]⟩,
  ⟨0x00750010, [], .t0, 0, [⟨⟨31, 4⟩, .res, 0⟩, ⟨⟨3, 0⟩, .rwl, 0⟩]⟩,
  ⟨0x00750014, [], .lampSet, 0, [⟨⟨31, 26⟩, .res, 0⟩, ⟨⟨25, 16⟩, .wo, 0⟩, ⟨⟨15, 0⟩, .wo, 0⟩]⟩,
  ⟨0x00750018, [], .lampSet, 0, [⟨⟨31, 3⟩, .res, 0⟩, ⟨⟨2, 0⟩, .wo, 0⟩]⟩,
  ⟨0x0075001C, [], .t0, 0, [⟨⟨31, 16⟩, .ro, 0⟩, ⟨⟨15, 0⟩, .ro, 0⟩]⟩,
  ⟨0x0075F000, [(0x100, 8)], .win, 0, [⟨⟨31, 6⟩, .res, 0⟩, ⟨⟨5, 0⟩, .w1c, 0⟩]⟩]
def rowsDrv4 : List RegRow := [
  ⟨0x0075F004, [(0x100, 8)], .win, 0, [⟨⟨31, 6⟩, .res, 0⟩, ⟨⟨5, 0⟩, .rw, 0⟩]⟩]
/-- The registers of block DRV. -/
def rowsDrv : List RegRow := rowsDrv0 ++ rowsDrv1 ++ rowsDrv2 ++ rowsDrv3 ++ rowsDrv4

def rowsCal0 : List RegRow := [
  ⟨0x00800000, [], .t0, 0, [⟨⟨31, 31⟩, .res, 0⟩, ⟨⟨30, 30⟩, .rws, 1⟩, ⟨⟨29, 29⟩, .rws, 1⟩, ⟨⟨28, 24⟩, .res, 0⟩, ⟨⟨23, 16⟩, .rws, 2⟩, ⟨⟨15, 8⟩, .rws, 0x20⟩, ⟨⟨7, 0⟩, .rws, 8⟩]⟩,
  ⟨0x00800004, [], .t0, 0, [⟨⟨31, 24⟩, .res, 0⟩, ⟨⟨23, 16⟩, .rw, 0xa⟩, ⟨⟨15, 0⟩, .rws, 0x40⟩]⟩,
  ⟨0x00800008, [], .t0, 0, [⟨⟨31, 0⟩, .rws, 0x186a0⟩]⟩,
  ⟨0x0080000C, [], .t0, 0, [⟨⟨31, 20⟩, .res, 0⟩, ⟨⟨19, 0⟩, .rws, 0x40000⟩]⟩,
  ⟨0x00800010, [], .t0, 0, [⟨⟨31, 16⟩, .rws, 0x4b0⟩, ⟨⟨15, 0⟩, .rws, 0x10⟩]⟩,
  ⟨0x00800014, [], .t0, 0, [⟨⟨31, 26⟩, .res, 0⟩, ⟨⟨25, 16⟩, .ro, 0⟩, ⟨⟨15, 10⟩, .res, 0⟩, ⟨⟨9, 0⟩, .ro, 0⟩]⟩,
  ⟨0x00800018, [], .calRun, 0, [⟨⟨31, 31⟩, .wo, 0⟩, ⟨⟨30, 10⟩, .res, 0⟩, ⟨⟨9, 0⟩, .wo, 0⟩]⟩,
  ⟨0x0080001C, [], .t0, 0, [⟨⟨31, 31⟩, .wo, 0⟩, ⟨⟨30, 16⟩, .res, 0⟩, ⟨⟨15, 0⟩, .wo, 0⟩]⟩,
  ⟨0x00800280, [], .t0, 0, [⟨⟨31, 20⟩, .res, 0⟩, ⟨⟨19, 0⟩, .rw, 0x2710⟩]⟩,
  ⟨0x00800100, [(0x4, 16)], .t0, 0xffff, [⟨⟨31, 16⟩, .ro, 0⟩, ⟨⟨15, 0⟩, .ro, 0⟩]⟩,
  ⟨0x00801000, [(0x4, 1024)], .t0, 0, [⟨⟨31, 12⟩, .res, 0⟩, ⟨⟨11, 8⟩, .ro, 0⟩, ⟨⟨7, 4⟩, .res, 0⟩, ⟨⟨3, 0⟩, .ro, 0⟩]⟩,
  ⟨0x00800200, [(0x10, 8)], .t0, 0, [⟨⟨31, 31⟩, .rw, 0⟩, ⟨⟨30, 30⟩, .rw, 1⟩, ⟨⟨29, 29⟩, .rw, 0⟩, ⟨⟨28, 0⟩, .res, 0⟩]⟩]
def rowsCal1 : List RegRow := [
  ⟨0x00800204, [(0x10, 8)], .t0, 0, [⟨⟨31, 28⟩, .res, 0⟩, ⟨⟨27, 16⟩, .rw, 0xfff⟩, ⟨⟨15, 12⟩, .res, 0⟩, ⟨⟨11, 0⟩, .rw, 0⟩]⟩,
  ⟨0x00800208, [(0x10, 8)], .t0, 0, [⟨⟨31, 30⟩, .ro, 0⟩, ⟨⟨29, 29⟩, .ro, 0⟩, ⟨⟨28, 12⟩, .res, 0⟩, ⟨⟨11, 0⟩, .ro, 0⟩]⟩,
  ⟨0x0080F000, [(0x100, 8)], .win, 0, [⟨⟨31, 10⟩, .res, 0⟩, ⟨⟨9, 0⟩, .w1c, 0⟩]⟩,
  ⟨0x0080F004, [(0x100, 8)], .win, 0, [⟨⟨31, 10⟩, .res, 0⟩, ⟨⟨9, 0⟩, .rw, 0⟩]⟩]
/-- The registers of block CAL. -/
def rowsCal : List RegRow := rowsCal0 ++ rowsCal1

def rowsCmp0 : List RegRow := [
  ⟨0x00900000, [], .t0, 0, [⟨⟨31, 31⟩, .rwl, 0⟩, ⟨⟨30, 30⟩, .rw, 1⟩, ⟨⟨29, 29⟩, .rw, 0⟩, ⟨⟨28, 24⟩, .res, 0⟩, ⟨⟨23, 20⟩, .rw, 4⟩, ⟨⟨19, 16⟩, .rw, 4⟩, ⟨⟨15, 12⟩, .res, 0⟩, ⟨⟨11, 8⟩, .rw, 2⟩, ⟨⟨7, 4⟩, .res, 0⟩, ⟨⟨3, 0⟩, .rwl, 0⟩]⟩,
  ⟨0x00900004, [], .t0, 0, [⟨⟨31, 8⟩, .res, 0⟩, ⟨⟨7, 0⟩, .rw, 0⟩]⟩,
  ⟨0x00900008, [], .t0, 0, [⟨⟨31, 0⟩, .ro, 0⟩]⟩,
  ⟨0x0090000C, [], .t0, 0, [⟨⟨31, 0⟩, .ro, 0⟩]⟩,
  ⟨0x00900010, [], .t0, 0, [⟨⟨31, 30⟩, .ro, 0⟩, ⟨⟨29, 28⟩, .ro, 0⟩, ⟨⟨27, 24⟩, .ro, 0⟩, ⟨⟨23, 20⟩, .ro, 0⟩, ⟨⟨19, 16⟩, .res, 0⟩, ⟨⟨15, 0⟩, .ro, 0⟩]⟩,
  ⟨0x00900014, [], .t0, 0, [⟨⟨31, 24⟩, .ro, 0⟩, ⟨⟨23, 16⟩, .res, 0⟩, ⟨⟨15, 0⟩, .ro, 0⟩]⟩,
  ⟨0x00900018, [], .t0, 0, [⟨⟨31, 30⟩, .wo, 0⟩, ⟨⟨29, 28⟩, .res, 0⟩, ⟨⟨27, 24⟩, .wo, 0⟩, ⟨⟨23, 16⟩, .wo, 0⟩, ⟨⟨15, 0⟩, .wo, 0⟩]⟩,
  ⟨0x0090001C, [], .t0, 0, [⟨⟨31, 16⟩, .ro, 0⟩, ⟨⟨15, 0⟩, .ro, 0⟩]⟩,
  ⟨0x00900020, [], .t0, 0, [⟨⟨31, 31⟩, .wo, 0⟩, ⟨⟨30, 0⟩, .res, 0⟩]⟩,
  ⟨0x00900024, [], .t0, 0, [⟨⟨31, 16⟩, .ro, 0⟩, ⟨⟨15, 0⟩, .ro, 0⟩]⟩,
  ⟨0x00900040, [(0x10, 2)], .t0, 0, [⟨⟨31, 30⟩, .ro, 0⟩, ⟨⟨29, 28⟩, .res, 0⟩, ⟨⟨27, 24⟩, .ro, 0⟩, ⟨⟨23, 4⟩, .res, 0⟩, ⟨⟨3, 0⟩, .ro, 0⟩]⟩,
  ⟨0x00900044, [(0x10, 2)], .t0, 0, [⟨⟨31, 16⟩, .res, 0⟩, ⟨⟨15, 0⟩, .rw, 0⟩]⟩]
def rowsCmp1 : List RegRow := [
  ⟨0x00900048, [(0x10, 2)], .t0, 0, [⟨⟨31, 16⟩, .res, 0⟩, ⟨⟨15, 0⟩, .ro, 0⟩]⟩,
  ⟨0x0090004C, [(0x10, 2)], .t0, 0, [⟨⟨31, 16⟩, .ro, 0⟩, ⟨⟨15, 0⟩, .ro, 0⟩]⟩,
  ⟨0x00900100, [(0x10, 6)], .t0, 0, [⟨⟨31, 31⟩, .rws, 0⟩, ⟨⟨30, 19⟩, .res, 0⟩, ⟨⟨18, 16⟩, .rws, 0⟩, ⟨⟨15, 0⟩, .rws, 0⟩]⟩,
  ⟨0x00900104, [(0x10, 6)], .t0, 0, [⟨⟨31, 24⟩, .rws, 0⟩, ⟨⟨23, 16⟩, .rws, 0x44⟩, ⟨⟨15, 8⟩, .rws, 0⟩, ⟨⟨7, 0⟩, .rws, 0x80⟩]⟩,
  ⟨0x00900200, [(0x4, 6)], .t0, 0, [⟨⟨31, 31⟩, .rws, 0⟩, ⟨⟨30, 8⟩, .res, 0⟩, ⟨⟨7, 4⟩, .rws, 0⟩, ⟨⟨3, 3⟩, .res, 0⟩, ⟨⟨2, 0⟩, .rws, 0⟩]⟩,
  ⟨0x00900300, [], .t0, 0, [⟨⟨31, 6⟩, .rw, 0⟩, ⟨⟨5, 0⟩, .res, 0⟩]⟩,
  ⟨0x00900304, [], .t0, 0, [⟨⟨31, 4⟩, .res, 0⟩, ⟨⟨3, 0⟩, .rw, 0⟩]⟩,
  ⟨0x00900308, [], .t0, 0, [⟨⟨31, 6⟩, .rw, 0⟩, ⟨⟨5, 0⟩, .res, 0⟩]⟩,
  ⟨0x0090030C, [], .t0, 0, [⟨⟨31, 4⟩, .res, 0⟩, ⟨⟨3, 0⟩, .rw, 0⟩]⟩,
  ⟨0x00900310, [], .t0, 0, [⟨⟨31, 28⟩, .res, 0⟩, ⟨⟨27, 6⟩, .rw, 0⟩, ⟨⟨5, 0⟩, .res, 0⟩]⟩,
  ⟨0x00900314, [], .t0, 0, [⟨⟨31, 31⟩, .wo, 0⟩, ⟨⟨30, 4⟩, .res, 0⟩, ⟨⟨3, 0⟩, .wo, 0⟩]⟩,
  ⟨0x00900318, [], .t0, 0, [⟨⟨31, 30⟩, .ro, 0⟩, ⟨⟨29, 16⟩, .res, 0⟩, ⟨⟨15, 0⟩, .ro, 0⟩]⟩]
def rowsCmp2 : List RegRow := [
  ⟨0x00900400, [(0x8, 4)], .t0, 0, [⟨⟨31, 16⟩, .rwl, 0⟩, ⟨⟨15, 0⟩, .res, 0⟩]⟩,
  ⟨0x00900404, [(0x8, 4)], .t0, 0, [⟨⟨31, 16⟩, .rwl, 0⟩, ⟨⟨15, 4⟩, .res, 0⟩, ⟨⟨3, 0⟩, .rwl, 0⟩]⟩,
  ⟨0x0090F000, [(0x100, 8)], .win, 0, [⟨⟨31, 9⟩, .res, 0⟩, ⟨⟨8, 0⟩, .w1c, 0⟩]⟩,
  ⟨0x0090F004, [(0x100, 8)], .win, 0, [⟨⟨31, 9⟩, .res, 0⟩, ⟨⟨8, 0⟩, .rw, 0⟩]⟩]
/-- The registers of block CMP. -/
def rowsCmp : List RegRow := rowsCmp0 ++ rowsCmp1 ++ rowsCmp2

def rowsMem0 : List RegRow := [
  ⟨0x00A00000, [(0x4, 512)], .bankOwner, 0, [⟨⟨31, 16⟩, .ro, 0⟩, ⟨⟨15, 8⟩, .res, 0⟩, ⟨⟨7, 0⟩, .rw, 0xff⟩]⟩,
  ⟨0x00A01000, [(0x4, 512)], .bankPwr, 0, [⟨⟨31, 5⟩, .res, 0⟩, ⟨⟨4, 4⟩, .ro, 0⟩, ⟨⟨3, 2⟩, .ro, 0⟩, ⟨⟨1, 0⟩, .rw, 0⟩]⟩,
  ⟨0x00A02000, [], .t0, 0, [⟨⟨31, 31⟩, .rw, 1⟩, ⟨⟨30, 16⟩, .res, 0⟩, ⟨⟨15, 8⟩, .rw, 4⟩, ⟨⟨7, 0⟩, .rw, 4⟩]⟩,
  ⟨0x00A02004, [], .t0, 0xffffffff, [⟨⟨31, 0⟩, .ro, 0⟩]⟩,
  ⟨0x00A02008, [], .t0, 0, [⟨⟨31, 28⟩, .res, 0⟩, ⟨⟨27, 24⟩, .ro, 0⟩, ⟨⟨23, 16⟩, .ro, 0⟩, ⟨⟨15, 9⟩, .res, 0⟩, ⟨⟨8, 0⟩, .ro, 0⟩]⟩,
  ⟨0x00A0200C, [], .t0, 0, [⟨⟨31, 18⟩, .res, 0⟩, ⟨⟨17, 0⟩, .ro, 0⟩]⟩,
  ⟨0x00A02010, [], .t0, 0xffffffff, [⟨⟨31, 0⟩, .ro, 0⟩]⟩,
  ⟨0x00A02014, [], .t0, 0xffffffff, [⟨⟨31, 0⟩, .ro, 0⟩]⟩,
  ⟨0x00A03000, [(0x4, 181)], .t0, 0xffffffff, [⟨⟨31, 0⟩, .ro, 0⟩]⟩,
  ⟨0x00A0F000, [(0x100, 8)], .win, 0, [⟨⟨31, 3⟩, .res, 0⟩, ⟨⟨2, 0⟩, .w1c, 0⟩]⟩,
  ⟨0x00A0F004, [(0x100, 8)], .win, 0, [⟨⟨31, 3⟩, .res, 0⟩, ⟨⟨2, 0⟩, .rw, 0⟩]⟩]
/-- The registers of block MEM. -/
def rowsMem : List RegRow := rowsMem0

def rowsDdr0 : List RegRow := [
  ⟨0x00B00000, [], .t0, 0, [⟨⟨31, 31⟩, .rwl, 0⟩, ⟨⟨30, 28⟩, .rwl, 5⟩, ⟨⟨27, 25⟩, .rwl, 2⟩, ⟨⟨24, 24⟩, .rwl, 0⟩, ⟨⟨23, 8⟩, .res, 0⟩, ⟨⟨7, 0⟩, .rwl, 0xff⟩]⟩,
  ⟨0x00B00004, [], .t0, 0, [⟨⟨31, 8⟩, .res, 0⟩, ⟨⟨7, 0⟩, .rw, 0x10⟩]⟩,
  ⟨0x00B00008, [], .t0, 0, [⟨⟨31, 0⟩, .ro, 0⟩]⟩,
  ⟨0x00B0000C, [], .t0, 0, [⟨⟨31, 31⟩, .wo, 0⟩, ⟨⟨30, 30⟩, .ro, 0⟩, ⟨⟨29, 11⟩, .res, 0⟩, ⟨⟨10, 8⟩, .rw, 0⟩, ⟨⟨7, 3⟩, .res, 0⟩, ⟨⟨2, 0⟩, .rw, 0⟩]⟩,
  ⟨0x00B00010, [], .t0, 0, [⟨⟨31, 16⟩, .rw, 0⟩, ⟨⟨15, 8⟩, .rw, 0⟩, ⟨⟨7, 0⟩, .rw, 0⟩]⟩,
  ⟨0x00B00014, [], .t0, 0, [⟨⟨31, 0⟩, .ro, 0⟩]⟩,
  ⟨0x00B00018, [], .t0, 0, [⟨⟨31, 4⟩, .res, 0⟩, ⟨⟨3, 0⟩, .ro, 0⟩]⟩,
  ⟨0x00B0001C, [], .t0, 0, [⟨⟨31, 30⟩, .ro, 0⟩, ⟨⟨29, 0⟩, .res, 0⟩]⟩,
  ⟨0x00B01000, [(0x400, 8), (0x4, 8)], .t0, 0, [⟨⟨31, 8⟩, .res, 0⟩, ⟨⟨7, 0⟩, .rw, 0x40⟩]⟩,
  ⟨0x00B01020, [(0x400, 8)], .t0, 0, [⟨⟨31, 8⟩, .res, 0⟩, ⟨⟨7, 0⟩, .rw, 0x40⟩]⟩,
  ⟨0x00B01040, [(0x400, 8), (0x4, 36)], .t0, 0, [⟨⟨31, 8⟩, .res, 0⟩, ⟨⟨7, 0⟩, .rw, 0x40⟩]⟩,
  ⟨0x00B01100, [(0x400, 8), (0x4, 36)], .t0, 0, [⟨⟨31, 8⟩, .res, 0⟩, ⟨⟨7, 0⟩, .rw, 0x40⟩]⟩]
def rowsDdr1 : List RegRow := [
  ⟨0x00B01200, [(0x400, 8)], .t0, 0, [⟨⟨31, 1⟩, .res, 0⟩, ⟨⟨0, 0⟩, .wo, 0⟩]⟩,
  ⟨0x00B01204, [(0x400, 8)], .t0, 0, [⟨⟨31, 30⟩, .ro, 0⟩, ⟨⟨29, 29⟩, .ro, 0⟩, ⟨⟨28, 8⟩, .res, 0⟩, ⟨⟨7, 0⟩, .ro, 0⟩]⟩,
  ⟨0x00B01208, [(0x400, 8)], .t0, 0xffffffff, [⟨⟨31, 0⟩, .ro, 0⟩]⟩,
  ⟨0x00B0120C, [(0x400, 8)], .t0, 0xffffffff, [⟨⟨31, 0⟩, .ro, 0⟩]⟩,
  ⟨0x00B01210, [(0x400, 8)], .t0, 0, [⟨⟨31, 0⟩, .ro, 0⟩]⟩,
  ⟨0x00B01214, [(0x400, 8)], .t0, 0, [⟨⟨31, 4⟩, .res, 0⟩, ⟨⟨3, 0⟩, .ro, 0⟩]⟩,
  ⟨0x00B0F000, [(0x100, 8)], .win, 0, [⟨⟨31, 4⟩, .res, 0⟩, ⟨⟨3, 0⟩, .w1c, 0⟩]⟩,
  ⟨0x00B0F004, [(0x100, 8)], .win, 0, [⟨⟨31, 4⟩, .res, 0⟩, ⟨⟨3, 0⟩, .rw, 0⟩]⟩]
/-- The registers of block DDR. -/
def rowsDdr : List RegRow := rowsDdr0 ++ rowsDdr1

def rowsPkr0 : List RegRow := [
  ⟨0x00C00000, [], .t0, 0, [⟨⟨31, 8⟩, .res, 0⟩, ⟨⟨7, 0⟩, .rw, 0x10⟩]⟩,
  ⟨0x00C00004, [], .t0, 0, [⟨⟨31, 16⟩, .res, 0⟩, ⟨⟨15, 8⟩, .ro, 0⟩, ⟨⟨7, 0⟩, .ro, 0⟩]⟩,
  ⟨0x00C00008, [], .t0, 0, [⟨⟨31, 12⟩, .rwl, 0⟩, ⟨⟨11, 0⟩, .res, 0⟩]⟩,
  ⟨0x00C0000C, [], .t0, 0, [⟨⟨31, 4⟩, .res, 0⟩, ⟨⟨3, 0⟩, .rwl, 0⟩]⟩,
  ⟨0x00C00010, [], .t0, 0xffffffff, [⟨⟨31, 0⟩, .ro, 0⟩]⟩,
  ⟨0x00C00014, [], .t0, 0xffffffff, [⟨⟨31, 0⟩, .ro, 0⟩]⟩,
  ⟨0x00C00018, [], .t0, 0, [⟨⟨31, 24⟩, .res, 0⟩, ⟨⟨23, 16⟩, .ro, 0⟩, ⟨⟨15, 0⟩, .ro, 0⟩]⟩,
  ⟨0x00C0001C, [], .t0, 0xffffffff, [⟨⟨31, 0⟩, .ro, 0⟩]⟩,
  ⟨0x00C00020, [], .t0, 0xffffffff, [⟨⟨31, 0⟩, .ro, 0⟩]⟩,
  ⟨0x00C0F000, [(0x100, 8)], .win, 0, [⟨⟨31, 3⟩, .res, 0⟩, ⟨⟨2, 0⟩, .w1c, 0⟩]⟩,
  ⟨0x00C0F004, [(0x100, 8)], .win, 0, [⟨⟨31, 3⟩, .res, 0⟩, ⟨⟨2, 0⟩, .rw, 0⟩]⟩,
  ⟨0x00C0F008, [(0x100, 8)], .win, 0, [⟨⟨31, 6⟩, .rw, 0⟩, ⟨⟨5, 0⟩, .res, 0⟩]⟩]
def rowsPkr1 : List RegRow := [
  ⟨0x00C0F00C, [(0x100, 8)], .win, 0, [⟨⟨31, 4⟩, .res, 0⟩, ⟨⟨3, 0⟩, .rw, 0⟩]⟩,
  ⟨0x00C0F010, [(0x100, 8)], .win, 0, [⟨⟨31, 4⟩, .res, 0⟩, ⟨⟨3, 0⟩, .rw, 4⟩]⟩,
  ⟨0x00C0F014, [(0x100, 8)], .win, 0, [⟨⟨31, 12⟩, .res, 0⟩, ⟨⟨11, 0⟩, .rw, 0⟩]⟩,
  ⟨0x00C0F018, [(0x100, 8)], .win, 0, [⟨⟨31, 12⟩, .res, 0⟩, ⟨⟨11, 0⟩, .ro, 0⟩]⟩]
/-- The registers of block PKR. -/
def rowsPkr : List RegRow := rowsPkr0 ++ rowsPkr1

def rowsCad0 : List RegRow := [
  ⟨0x00D00000, [], .t0, 0, [⟨⟨31, 31⟩, .wo, 0⟩, ⟨⟨30, 28⟩, .res, 0⟩, ⟨⟨27, 24⟩, .wo, 0⟩, ⟨⟨23, 4⟩, .res, 0⟩, ⟨⟨3, 0⟩, .wo, 0⟩]⟩,
  ⟨0x00D00004, [], .t0, 0, [⟨⟨31, 22⟩, .res, 0⟩, ⟨⟨21, 0⟩, .rw, 0⟩]⟩,
  ⟨0x00D00008, [], .t0, 0, [⟨⟨31, 31⟩, .ro, 0⟩, ⟨⟨30, 30⟩, .ro, 0⟩, ⟨⟨29, 29⟩, .ro, 0⟩, ⟨⟨28, 28⟩, .ro, 0⟩, ⟨⟨27, 16⟩, .res, 0⟩, ⟨⟨15, 0⟩, .ro, 0⟩]⟩,
  ⟨0x00D0000C, [], .t0, 0, [⟨⟨31, 31⟩, .w1s, 0⟩, ⟨⟨30, 2⟩, .res, 0⟩, ⟨⟨1, 0⟩, .rw, 0⟩]⟩,
  ⟨0x00D00010, [], .t0, 0, [⟨⟨31, 16⟩, .rwl, 0x64⟩, ⟨⟨15, 13⟩, .res, 0⟩, ⟨⟨12, 0⟩, .rwl, 0xbb8⟩]⟩,
  ⟨0x00D00014, [], .t0, 0, [⟨⟨31, 16⟩, .ro, 0⟩, ⟨⟨15, 0⟩, .ro, 0⟩]⟩,
  ⟨0x00D00018, [], .t0, 0, [⟨⟨31, 31⟩, .rw, 1⟩, ⟨⟨30, 16⟩, .res, 0⟩, ⟨⟨15, 0⟩, .rw, 0x3e8⟩]⟩,
  ⟨0x00D0001C, [], .t0, 0xffffffff, [⟨⟨31, 0⟩, .ro, 0⟩]⟩,
  ⟨0x00D00020, [], .t0, 0xffffffff, [⟨⟨31, 0⟩, .ro, 0⟩]⟩,
  ⟨0x00D00024, [], .t0, 0xffffffff, [⟨⟨31, 0⟩, .ro, 0⟩]⟩,
  ⟨0x00D00028, [], .t0, 0, [⟨⟨31, 22⟩, .res, 0⟩, ⟨⟨21, 0⟩, .ro, 0⟩]⟩,
  ⟨0x00D0002C, [], .t0, 0, [⟨⟨31, 16⟩, .ro, 0xffff⟩, ⟨⟨15, 0⟩, .ro, 0xffff⟩]⟩]
def rowsCad1 : List RegRow := [
  ⟨0x00D00100, [(0x4, 64)], .t0, 0, [⟨⟨31, 0⟩, .rw, 0⟩]⟩,
  ⟨0x00D0F000, [], .win, 0, [⟨⟨31, 4⟩, .res, 0⟩, ⟨⟨3, 0⟩, .w1c, 0⟩]⟩,
  ⟨0x00D0F004, [], .win, 0, [⟨⟨31, 4⟩, .res, 0⟩, ⟨⟨3, 0⟩, .rw, 0⟩]⟩]
/-- The registers of block CAD. -/
def rowsCad : List RegRow := rowsCad0 ++ rowsCad1

def rowsPnx0 : List RegRow := [
  ⟨0x00E00000, [], .t0, 0, [⟨⟨31, 31⟩, .wo, 0⟩, ⟨⟨30, 28⟩, .res, 0⟩, ⟨⟨27, 24⟩, .wo, 0⟩, ⟨⟨23, 21⟩, .res, 0⟩, ⟨⟨20, 20⟩, .wo, 0⟩, ⟨⟨19, 4⟩, .res, 0⟩, ⟨⟨3, 0⟩, .wo, 0⟩]⟩,
  ⟨0x00E00004, [], .t0, 0, [⟨⟨31, 6⟩, .rw, 0⟩, ⟨⟨5, 0⟩, .res, 0⟩]⟩,
  ⟨0x00E00008, [], .t0, 0, [⟨⟨31, 4⟩, .res, 0⟩, ⟨⟨3, 0⟩, .rw, 0⟩]⟩,
  ⟨0x00E0000C, [], .t0, 0, [⟨⟨31, 28⟩, .ro, 0⟩, ⟨⟨27, 24⟩, .ro, 0⟩, ⟨⟨23, 16⟩, .ro, 0⟩, ⟨⟨15, 0⟩, .ro, 0⟩]⟩,
  ⟨0x00E00010, [], .t0, 0, [⟨⟨31, 0⟩, .ro, 0⟩]⟩,
  ⟨0x00E00014, [], .t0, 0, [⟨⟨31, 0⟩, .ro, 0⟩]⟩,
  ⟨0x00E00018, [], .t0, 0, [⟨⟨31, 31⟩, .ro, 0⟩, ⟨⟨30, 30⟩, .ro, 0⟩, ⟨⟨29, 29⟩, .ro, 0⟩, ⟨⟨28, 28⟩, .ro, 0⟩, ⟨⟨27, 26⟩, .ro, 0⟩, ⟨⟨25, 25⟩, .res, 0⟩, ⟨⟨24, 16⟩, .ro, 0⟩, ⟨⟨15, 12⟩, .ro, 0xf⟩, ⟨⟨11, 9⟩, .res, 0⟩, ⟨⟨8, 0⟩, .ro, 0⟩]⟩,
  ⟨0x00E0001C, [], .t0, 0, [⟨⟨31, 16⟩, .rw, 0⟩, ⟨⟨15, 0⟩, .res, 0⟩]⟩,
  ⟨0x00E00020, [], .t0, 0, [⟨⟨31, 16⟩, .rw, 0⟩, ⟨⟨15, 4⟩, .res, 0⟩, ⟨⟨3, 0⟩, .rw, 0⟩]⟩,
  ⟨0x00E00024, [], .t0, 0, [⟨⟨31, 8⟩, .res, 0⟩, ⟨⟨7, 4⟩, .ro, 0⟩, ⟨⟨3, 0⟩, .ro, 0⟩]⟩,
  ⟨0x00E00028, [], .t0, 0, [⟨⟨31, 31⟩, .wo, 0⟩, ⟨⟨30, 16⟩, .res, 0⟩, ⟨⟨15, 8⟩, .wo, 0⟩, ⟨⟨7, 2⟩, .res, 0⟩, ⟨⟨1, 0⟩, .wo, 0⟩]⟩,
  ⟨0x00E00040, [], .t0, 0, [⟨⟨31, 31⟩, .wo, 0⟩, ⟨⟨30, 27⟩, .res, 0⟩, ⟨⟨26, 24⟩, .wo, 0⟩, ⟨⟨23, 16⟩, .res, 0⟩, ⟨⟨15, 0⟩, .wo, 0⟩]⟩]
def rowsPnx1 : List RegRow := [
  ⟨0x00E00044, [], .t0, 0, [⟨⟨31, 31⟩, .res, 0⟩, ⟨⟨30, 0⟩, .rw, 0⟩]⟩,
  ⟨0x00E00048, [], .t0, 0, [⟨⟨31, 8⟩, .rw, 0⟩, ⟨⟨7, 0⟩, .res, 0⟩]⟩,
  ⟨0x00E0004C, [], .t0, 0, [⟨⟨31, 4⟩, .res, 0⟩, ⟨⟨3, 0⟩, .rw, 0⟩]⟩,
  ⟨0x00E00050, [], .t0, 0, [⟨⟨31, 30⟩, .ro, 0⟩, ⟨⟨29, 16⟩, .res, 0⟩, ⟨⟨15, 0⟩, .ro, 0⟩]⟩,
  ⟨0x00E0F000, [(0x100, 8)], .win, 0, [⟨⟨31, 4⟩, .res, 0⟩, ⟨⟨3, 0⟩, .w1c, 0⟩]⟩,
  ⟨0x00E0F004, [(0x100, 8)], .win, 0, [⟨⟨31, 4⟩, .res, 0⟩, ⟨⟨3, 0⟩, .rw, 0⟩]⟩]
/-- The registers of block PNX. -/
def rowsPnx : List RegRow := rowsPnx0 ++ rowsPnx1

def rowsTen0 : List RegRow := [
  ⟨0x00F00000, [(0x8, 8)], .t0, 0, [⟨⟨31, 16⟩, .rw, 0⟩, ⟨⟨15, 2⟩, .res, 0⟩, ⟨⟨1, 0⟩, .rw, 0⟩]⟩,
  ⟨0x00F00004, [(0x8, 8)], .t0, 0, [⟨⟨31, 0⟩, .rw, 0⟩]⟩,
  ⟨0x00F00040, [(0x4, 8)], .t0, 0, [⟨⟨31, 6⟩, .res, 0⟩, ⟨⟨5, 0⟩, .rw, 0⟩]⟩,
  ⟨0x00F00060, [], .t0, 0, [⟨⟨31, 0⟩, .rw, 0⟩]⟩,
  ⟨0x00F00064, [], .t0, 0xffffffff, [⟨⟨31, 0⟩, .ro, 0⟩]⟩,
  ⟨0x00F00100, [(0x4, 8)], .t0, 0, [⟨⟨31, 16⟩, .ro, 0⟩, ⟨⟨15, 8⟩, .res, 0⟩, ⟨⟨7, 0⟩, .rw, 0xff⟩]⟩,
  ⟨0x00F00200, [(0x4, 128)], .t0, 0, [⟨⟨31, 16⟩, .ro, 0⟩, ⟨⟨15, 8⟩, .res, 0⟩, ⟨⟨7, 0⟩, .rw, 0xff⟩]⟩,
  ⟨0x00F01000, [(0x4, 1024)], .t0, 0, [⟨⟨31, 16⟩, .ro, 0⟩, ⟨⟨15, 8⟩, .res, 0⟩, ⟨⟨7, 0⟩, .rw, 0xff⟩]⟩,
  ⟨0x00F02000, [(0x4, 16)], .t0, 0, [⟨⟨31, 16⟩, .ro, 0⟩, ⟨⟨15, 8⟩, .res, 0⟩, ⟨⟨7, 0⟩, .rw, 0xff⟩]⟩,
  ⟨0x00F03000, [], .t0, 0, [⟨⟨31, 12⟩, .rwl, 0⟩, ⟨⟨11, 0⟩, .res, 0⟩]⟩,
  ⟨0x00F03004, [], .t0, 0, [⟨⟨31, 4⟩, .res, 0⟩, ⟨⟨3, 0⟩, .rwl, 0⟩]⟩,
  ⟨0x00F03008, [], .t0, 0, [⟨⟨31, 28⟩, .res, 0⟩, ⟨⟨27, 24⟩, .rw, 0xe⟩, ⟨⟨23, 0⟩, .rw, 0x3e8⟩]⟩]
def rowsTen1 : List RegRow := [
  ⟨0x00F0300C, [], .t0, 0, [⟨⟨31, 24⟩, .res, 0⟩, ⟨⟨23, 0⟩, .ro, 0⟩]⟩,
  ⟨0x00F03010, [], .t0, 0, [⟨⟨31, 24⟩, .res, 0⟩, ⟨⟨23, 0⟩, .rw, 0⟩]⟩,
  ⟨0x00F03014, [], .t0, 0xffffffff, [⟨⟨31, 0⟩, .ro, 0⟩]⟩,
  ⟨0x00F03018, [], .t0, 0, [⟨⟨31, 4⟩, .res, 0⟩, ⟨⟨3, 0⟩, .rw, 0xe⟩]⟩,
  ⟨0x00F0301C, [], .t0, 0xffffffff, [⟨⟨31, 0⟩, .ro, 0⟩]⟩,
  ⟨0x00F03100, [], .t0, 0, [⟨⟨31, 31⟩, .wo, 0⟩, ⟨⟨30, 0⟩, .res, 0⟩]⟩,
  ⟨0x00F03104, [], .t0, 0, [⟨⟨31, 16⟩, .res, 0⟩, ⟨⟨15, 0⟩, .ro, 0⟩]⟩,
  ⟨0x00F04000, [(0x4, 256)], .t0, 0, [⟨⟨31, 0⟩, .ro, 0⟩]⟩,
  ⟨0x00F0F000, [(0x100, 8)], .win, 0, [⟨⟨31, 4⟩, .res, 0⟩, ⟨⟨3, 0⟩, .w1c, 0⟩]⟩,
  ⟨0x00F0F004, [(0x100, 8)], .win, 0, [⟨⟨31, 4⟩, .res, 0⟩, ⟨⟨3, 0⟩, .rw, 0⟩]⟩,
  ⟨0x00F0F008, [(0x100, 8)], .win, 0, [⟨⟨31, 6⟩, .rw, 0⟩, ⟨⟨5, 0⟩, .res, 0⟩]⟩,
  ⟨0x00F0F00C, [(0x100, 8)], .win, 0, [⟨⟨31, 0⟩, .rw, 0⟩]⟩]
def rowsTen2 : List RegRow := [
  ⟨0x00F0F010, [(0x100, 8)], .win, 0, [⟨⟨31, 31⟩, .rw, 0⟩, ⟨⟨30, 4⟩, .res, 0⟩, ⟨⟨3, 0⟩, .rw, 4⟩]⟩,
  ⟨0x00F0F014, [(0x100, 8)], .win, 0, [⟨⟨31, 12⟩, .res, 0⟩, ⟨⟨11, 0⟩, .rw, 0⟩]⟩,
  ⟨0x00F0F018, [(0x100, 8)], .win, 0, [⟨⟨31, 12⟩, .res, 0⟩, ⟨⟨11, 0⟩, .ro, 0⟩]⟩,
  ⟨0x00F0F01C, [(0x100, 8)], .win, 0, [⟨⟨31, 6⟩, .rw, 0⟩, ⟨⟨5, 0⟩, .res, 0⟩]⟩,
  ⟨0x00F0F020, [(0x100, 8)], .win, 0, [⟨⟨31, 0⟩, .rw, 0⟩]⟩,
  ⟨0x00F0F024, [(0x100, 8)], .win, 0, [⟨⟨31, 31⟩, .rw, 0⟩, ⟨⟨30, 4⟩, .res, 0⟩, ⟨⟨3, 0⟩, .rw, 4⟩]⟩,
  ⟨0x00F0F028, [(0x100, 8)], .win, 0, [⟨⟨31, 12⟩, .res, 0⟩, ⟨⟨11, 0⟩, .rw, 0⟩]⟩,
  ⟨0x00F0F02C, [(0x100, 8)], .win, 0, [⟨⟨31, 31⟩, .ro, 1⟩, ⟨⟨30, 12⟩, .res, 0⟩, ⟨⟨11, 0⟩, .ro, 0⟩]⟩,
  ⟨0x00F0F030, [(0x100, 8)], .win, 0, [⟨⟨31, 6⟩, .rw, 0⟩, ⟨⟨5, 0⟩, .res, 0⟩]⟩,
  ⟨0x00F0F034, [(0x100, 8)], .win, 0, [⟨⟨31, 0⟩, .rw, 0⟩]⟩,
  ⟨0x00F0F038, [(0x100, 8)], .win, 0, [⟨⟨31, 31⟩, .rw, 0⟩, ⟨⟨30, 4⟩, .res, 0⟩, ⟨⟨3, 0⟩, .rw, 4⟩]⟩,
  ⟨0x00F0F03C, [(0x100, 8)], .win, 0, [⟨⟨31, 12⟩, .res, 0⟩, ⟨⟨11, 0⟩, .rw, 0⟩]⟩]
def rowsTen3 : List RegRow := [
  ⟨0x00F0F040, [(0x100, 8)], .win, 0, [⟨⟨31, 12⟩, .res, 0⟩, ⟨⟨11, 0⟩, .ro, 0⟩]⟩,
  ⟨0x00F0F044, [(0x100, 8)], .win, 0xffffffff, [⟨⟨31, 0⟩, .ro, 0⟩]⟩,
  ⟨0x00F0F048, [(0x100, 8)], .win, 0xffffffff, [⟨⟨31, 0⟩, .ro, 0⟩]⟩,
  ⟨0x00F0F04C, [(0x100, 8)], .win, 0, [⟨⟨31, 20⟩, .res, 0⟩, ⟨⟨19, 16⟩, .ro, 0⟩, ⟨⟨15, 0⟩, .ro, 0⟩]⟩,
  ⟨0x00F0F050, [(0x100, 8)], .win, 0, [⟨⟨31, 0⟩, .ro, 0⟩]⟩,
  ⟨0x00F0F054, [(0x100, 8)], .win, 0, [⟨⟨31, 31⟩, .ro, 0⟩, ⟨⟨30, 7⟩, .res, 0⟩, ⟨⟨6, 0⟩, .ro, 0⟩]⟩,
  ⟨0x00F0F058, [(0x100, 8)], .win, 0, [⟨⟨31, 31⟩, .wo, 0⟩, ⟨⟨30, 0⟩, .res, 0⟩]⟩,
  ⟨0x00F0F05C, [(0x100, 8)], .win, 0, [⟨⟨31, 31⟩, .wo, 0⟩, ⟨⟨30, 0⟩, .res, 0⟩]⟩]
/-- The registers of block TEN. -/
def rowsTen : List RegRow := rowsTen0 ++ rowsTen1 ++ rowsTen2 ++ rowsTen3

/-- The register rows of the block that holds address `a`. -/
def blockRows (a : Nat) : List RegRow :=
  match a / 0x100000 with
  | 0 => rowsSys
  | 1 => rowsCur
  | 2 => rowsSrc
  | 3 => rowsBlk
  | 4 => rowsStp
  | 5 => rowsEng
  | 6 => rowsPrt
  | 7 => rowsDrv
  | 8 => rowsCal
  | 9 => rowsCmp
  | 10 => rowsMem
  | 11 => rowsDdr
  | 12 => rowsPkr
  | 13 => rowsCad
  | 14 => rowsPnx
  | 15 => rowsTen
  | _ => []

/-- The element indexes of a register array that offset `off` names, or none. -/
def strideIdx : List (Nat × Nat) → Nat → Option (List Nat)
  | [], off => if off = 0 then some [] else none
  | (st, cnt) :: more, off =>
    if off / st < cnt then (strideIdx more (off % st)).map (fun l => off / st :: l) else none

/-- The row of a list that holds address `a`, with the element indexes. -/
def findRow : List RegRow → Nat → Option (RegRow × List Nat)
  | [], _ => none
  | r :: rs, a =>
    if r.base ≤ a then
      match strideIdx r.strides (a - r.base) with
      | some ix => some (r, ix)
      | none => findRow rs a
    else findRow rs a

/-- The register at control address `a`, with its element indexes; none where the address is reserved (R563) or not
4-byte aligned (R6). -/
def regRow? (a : Nat) : Option (RegRow × List Nat) :=
  if a % 4 = 0 then findRow (blockRows a) a else none

/-- The reset value of a row. -/
def rowReset (r : RegRow) : Word :=
  BitVec.ofNat 32 (r.fields.foldl (fun n f => n + f.rst * 2 ^ f.fld.lo) 0)

/-- The bits of a row whose field has one of the given access codes. -/
def rowMask (r : RegRow) (p : AccessCode → Bool) : Word :=
  r.fields.foldl (fun m f => if p f.acc then m ||| f.fld.mask else m) 0

/-- The bits of a row that are fields, and not reserved (R7). -/
def rowImpl (r : RegRow) : Word := rowMask r (fun c => c != .res)

/-- What control address `a` holds right after reset: the reset value of each field. -/
def regReset (a : Nat) : Word :=
  match regRow? a with
  | some (r, _) => rowReset r
  | none => 0

/-- The bits of the register at `a` that are fields; no bit where the address is reserved. -/
def regImpl (a : Nat) : Word :=
  match regRow? a with
  | some (r, _) => rowImpl r
  | none => 0

end Sys2Proof.Machine
end

