-- ==== Sys2Proof/Config.lean ====
section
/-! DEFINITION. What the spec leaves open: uninterpreted constants with no body, of which nothing can be proved. Each is applied
to the operands it depends on, or to the counter `State.free`. -/

namespace Sys2Proof.Config

/-- How many records beyond its queue of 4 a unit has handed to the collector early (R585 gives at most 4 us, R587). -/
opaque handedOver : Nat → Nat

/-- The magnitude in ppm by which the servo slews for a phase error, before the limit of R39: the spec gives no loop filter. -/
opaque slewFor : Int → Nat

/-- How long after house firmware starts the curtain series its first edge lies, in ns (R605 "next edge", R651). -/
opaque firstEdgeDelay : Nat → Nat

/-- What an uncorrectable word, or memory that a failed transfer leaves undefined, delivers (R230, R447, R478). Arguments: the
free counter, a position. -/
opaque undefinedByte : Nat → Nat → BitVec 8

/-- What a DRAM mode register that MRW has not written holds (R460). Arguments: channel, register. -/
opaque modeRegister : Nat → Nat → BitVec 8

/-- The hash of 4 bytes that the packer's encoder keeps positions by (R479). -/
opaque packHash : List (BitVec 8) → Nat

/-- The code lengths that the packer's encoder builds from symbol counts (R480): literal/length, then distance. -/
opaque packLengths : List Nat → List Nat

/-- Engine clocks since an engine's reset (R210): arguments the free counter, the engine. -/
opaque engineClocks : Nat → Nat → BitVec 64

/-- Clocks for which a bundle stalls before it issues (R218, R227). -/
opaque stallClocks : Nat → Nat

/-- Whether the other syllable of a faulting bundle, or another lane of a faulting vector access, still takes effect (R218, R248
do not say). Arguments: the free counter, the lane. -/
opaque besideFault : Nat → Nat → Bool

/-- How many of a LUTL call's lattice reads miss the cache (R236). -/
opaque latticeMisses : Nat → Nat

/-- Whether the lanes of an engine pass their self-test (R247, R250). Arguments: the free counter, the engine. -/
opaque lanesPass : Nat → Nat → Bool

/-- What a lamp driver declares or measures in a register that only it writes (R309, R334): arguments the driver, the address. -/
opaque driverFact : Nat → Nat → BitVec 32

/-- Whether house firmware finds a matrix of IEEE 754 singles to have a reciprocal condition number below 2^-20 (R371): its nine words.
The norm is not named. -/
opaque illConditioned : List (BitVec 32) → Bool

/-- The address / 8 at which house firmware writes a region's defect list (R357, R358). Arguments: the free counter, the region. -/
opaque listPlace : Nat → Nat → Nat

/-- The serial number of another device of the company, which the lead looks up for a HAND_OFF (R417). -/
opaque serialOf : Nat → Nat

/-- The SHA-384 that the fuses of a key slot hold (R532). -/
opaque keyHash : Nat → Nat

/-- SEQ of a SYSTEM LOST record written into one tenant's host ring: it has no position in the device ring (R583, R588). -/
opaque lostSeq : Nat → Nat

/-- The delay that the Caddy's delay set holds for a delay register: the layout of that area is not given (R462, R502). -/
opaque delaySet : Nat → Nat → Nat

/-- INDEX of a saved cue taken back: its slot in the cue queue is not among the 64 bytes saved (R577, R612). -/
opaque savedIndex : Nat → Nat

/-- Colvozon's JEP106 code (R638). -/
opaque jep106 : Nat

/-- The body of the answer to a management READ, WRITE or CUE frame, from the values read, the writes' statuses or the frame's status:
R560 gives the answer's TYPE and SEQ alone. -/
opaque mgmtBody : Nat → List Nat → List (BitVec 8)

/-- The hardware address of the management port. -/
opaque mgmtMac : Nat → Nat

end Sys2Proof.Config
end

