-- ==== Sys2Proof/Machine/State.lean ====
section
/-! DEFINITION. The state of Roura as plain data: the register file, the sync keeper, the sources, the ticket queues, the
steep engines, the bank sequencers and ports, the lamp drivers at the far end of the lines, calibration, the company, the
banks and DRAM, the packer, the Caddy, the image loader, the tenants with their queues, the prompt book, the modes and
supplies, the test access port, and the queue of commands that wait. -/

namespace Sys2Proof.Machine

/-- Sparse data by key: strictly rising keys, and no entry equal to what an unlisted key reads as (Memory.wf). -/
abbrev SMap (α : Type) := List (Nat × α)

/-! ## Commits and the sync keeper (02) -/

/-- One register's staged bits in a tenant's staging set (R62), with the thing the register belongs to (KIND 0: none) and
the thing's epoch when the write completed (R567). -/
structure Staged where
  addr : Nat
  mask : Word
  val : Word
  kind : Nat
  obj : Nat
  epoch : Nat
  deriving DecidableEq, Repr

/-- What a completion needs of the cue it answers (R577). -/
structure CueRef where
  serial : Nat                   -- counts the cues of its tenant in the order taken
  tag : Nat
  index : Nat
  opcode : Nat
  quiet : Bool
  late : Bool
  deriving DecidableEq, Repr

/-- A commit from the instant it completes until it shows or fails (R62 to R65). `who` is its tenant, 8 for one of house firmware,
9 for one of LIVE (R548), 10 for a degradation step (R615). `late`: it completed after the commit close of the edge it aimed at
(R63). `cue`: the COMMIT cue to complete (R578). `enterAt`: none until it has passed its check at commit close, then the CUR_NUM
of the edge it enters at (R63, R66, R415). `older`: its tenant has committed again since (R89). -/
structure Commit where
  who : Nat
  tag : Nat
  fields : List Staged
  stamp : Nat
  late : Bool
  cue : Option CueRef
  enterAt : Option Nat
  older : Bool
  deriving DecidableEq, Repr

/-- The sync keeper, the servo, the curtain series and the pipeline's commits (02_curtain.md). Times are nanoseconds of the
show clock (seconds * 10^9 + nanoseconds, R34). -/
structure Cur where
  clock : Nat            -- the show clock (R34)
  frac : Nat             -- fractional accumulator, in 1/(6 * 10^6) ns (R34)
  slewHist : List (Nat × Int) -- the corrections of LOCKED operation with their times (R38)
  slew : Int             -- ppm by which the clock's rate is corrected (R39), or the held correction (R38)
  good : Nat             -- consecutive reference events with |phase error| below 1 us (R37)
  missing : Nat          -- consecutive missing reference events (R37)
  returns : Nat          -- consecutive events arrived in HOLDOVER with none missing between (R650)
  mismatch : Bool        -- a rate mismatch is in force (R40)
  lastRef : Option Nat   -- show-clock instant of the last event of the selected reference
  due : Nat              -- the instant at which the next reference event is due (R650)
  refSrc : Nat           -- the reference the servo works on (CUR_SYNC.SRC in the pipeline state)
  running : Bool         -- curtains are generated
  rate : Nat             -- index in R41 of the running series
  anchor : Int           -- anchor edge of the running series (R42)
  offset : Int           -- how far the edges still lie from the anchors they move onto (R651)
  n : Nat                -- index of the last edge in the running series (R42)
  edge : Nat             -- E_k, the last curtain edge
  next : Nat             -- E_{k+1}
  rateNext : Option Nat  -- a rate that takes over at the next edge (R66)
  moveNext : Bool        -- the anchors moved; the series moves at the next edge (R651)
  stretch : Nat          -- nanoseconds by which the last slot of this curtain is longer (R651)
  lastAlign : Nat        -- the last edge aligned with a reference frame edge (R66)
  closed : Bool          -- the commit close of the coming edge has passed
  decided : Bool         -- the rescue instant of the coming edge has passed
  interval : Bool        -- the push deadline of the coming edge has passed
  slot : Nat             -- the slot now showing (R45)
  commits : List Commit  -- completed, not yet in the pipeline state, in order of completion
  entered : List Commit  -- in the pipeline state, not yet at the lamps
  camsync : BitVec 8     -- CAMSYNCm active (R52)
  syncOut : BitVec 4     -- SYNC_OUTj active (R54)
  camsyncEnd : List Nat  -- instant at which an active CAMSYNCm returns inactive (R52)
  syncOutEnd : List Nat
  rowArmed : BitVec 8    -- CUR_ROW_MATCH of tenant t is armed for the coming curtain (R89)
  rowDone : BitVec 8     -- the armed row has been matched in this curtain (R72)
  pushed : Nat           -- regions pushed for the coming curtain (R74)
  underruns : Nat        -- underruns of the coming curtain (R74)
  deriving DecidableEq, Repr

/-! ## Tenants, cues and the prompt book (15) -/

/-- A driver transaction or other request's owner: the tenant and the cue to complete. -/
structure CueDue where
  tenant : Nat
  ref : CueRef
  deriving DecidableEq, Repr

/-- A completion (R577) that waits for a free slot of the completion queue (R572). -/
structure Completion where
  tag : Nat
  status : Nat
  result : Nat
  index : Nat
  opcode : Nat
  late : Bool
  deriving DecidableEq, Repr

/-- What the block keeps for one tenant beside its registers. -/
structure Tenant where
  staged : List Staged           -- the staging set (R62)
  latchSec : Nat                 -- the show-clock latch (R86)
  latchNs : Nat
  ready : List Cue               -- cues not yet started, in queue order: taken from the cue queue (R571), or, bound to MGMT, in the
                                 -- internal queue of 64 (R570)
  serial : Nat                   -- cues taken so far
  open_ : List CueRef            -- cues taken whose outcome is not settled (R571, R572)
  fences : List CueRef           -- FENCE cues started that wait for earlier cues (R576)
  held : List Completion         -- completions that found no free slot (R572)
  lastSeq : Option Nat           -- SEQ of the last request over MGMT (R560)
  lastAnswer : List Byte         -- its answer
  msixNew : BitVec 4             -- vectors with items since their last message (R596)
  msixHold : BitVec 4            -- vectors inside their 10 us hold-off (R596)
  msixAt : List Nat              -- when each vector's last message was sent
  msixMask : BitVec 4            -- masked vectors (R581)
  lostCount : Nat                -- records dropped for a full host ring since the last LOST record (R588)
  lostFirst : Nat                -- stamps of the first and last dropped
  lostLast : Nat
  deriving DecidableEq, Repr

/-- A prompt-book record before its position in the ring is known (R583). `stamp` in ns of the show clock. -/
structure PbRec where
  stamp : Nat
  unit : Nat
  code : Nat
  kind : Nat
  level : Nat
  coalesced : Bool
  block : Nat
  count : Nat
  tenants : BitVec 8
  arg : BitVec 64
  deriving DecidableEq, Repr

/-- An open coalescing window (R586): the record that opened it and what was merged since. -/
structure CoalWin where
  first : PbRec
  end_ : Nat                     -- when it closes
  merged : Nat
  firstMerged : Nat
  lastMerged : Nat
  tenants : BitVec 8
  deriving DecidableEq, Repr

/-- Drops of one unit's full record queue (R587). -/
structure UnitLost where
  unit : Nat
  count : Nat
  first : Nat
  last : Nat
  deriving DecidableEq, Repr

/-- A cue held in the scheduled store (R575), in taking order; `due` is the release instant that a saved cue brings along (R613). -/
structure SchedCue where
  tenant : Nat
  cue : Cue
  due : Option Nat
  deriving DecidableEq, Repr

/-- A census request (R590): its tenant, and its cue where it came by one. -/
structure CensusReq where
  tenant : Nat
  cue : Option CueRef
  deriving DecidableEq, Repr

/-- The prompt book, the scheduled store and the census. -/
structure Book where
  waiting : List PbRec           -- records handed to the collector or held by their unit (R585, R587), in the order raised
  lost : List UnitLost           -- R587
  wins : List CoalWin            -- R586
  copyRing : List (List Byte)    -- records that wait to be copied into the Caddy (R589)
  copyAt : Nat                   -- next page of the Caddy prompt-book area (R589)
  copyLast : Nat                 -- when the last page was written
  companyRing : List PbRec       -- the lead's company prompt book (R429)
  sched : List SchedCue          -- the scheduled store of 64 cues (R575)
  census : List CensusReq        -- requests that wait for their edge (R590)
  censusNext : List CensusReq    -- requests that completed after commit close
  shadows : SMap Word            -- the census shadows (R591), by control address
  deriving DecidableEq, Repr

/-! ## Modes and supplies (16, 17) -/

/-- What the always-on domain and the supervisor inputs hold (16_modes_power.md, 17_electrical.md R629). -/
structure Sys where
  vddAo : Bool
  spine : Bool
  por : Bool                     -- POR_N is high
  pfail : Bool                   -- PFAIL_N is low
  vddHold : Bool                 -- VDD_HOLD is 2.7 V or more
  holdReady : Bool               -- the Caddy serves reads (R507)
  refclk : Bool
  testEn : Bool                  -- the TEST_EN ball (R638)
  pendTarget : Option Nat        -- SYS_MODE_REQ that waits (R601, R603)
  pendEdges : Nat                -- edges until it takes effect
  loadFrom : Nat                 -- the mode LOAD was entered from (R600)
  holdFrom : Nat                 -- the mode HOLD was entered from (R599)
  waking : Bool                  -- a wake runs (R604)
  latched : Nat                  -- a wake cause seen while HOLD is being entered (R604)
  supplyLoss : Bool              -- supply-loss handling runs (R611)
  savedAt : List Nat             -- release instants of the saved cues (R612, R613)
  quietRun : Nat                 -- consecutive curtains in which no ticket was issued (R602)
  ticketsThis : Nat              -- tickets issued in this curtain period
  degraded : Bool                -- a level 5 or 6 unit is out or a step of R615 stands since the last LOAD
  warmAt : Option Nat            -- show time of the last warm restart (R607)
  snap : SMap Word               -- the register state in the newest snapshot (R607)
  snapOk : Bool                  -- a snapshot copy's CRC holds (R607)
  snapCopy : Nat                 -- the copy the next snapshot goes to (R607)
  hot : BitVec 5                 -- the last reading of sensor s was 125 C or more (R610)
  warned : BitVec 5              -- THERMAL_WARN raised and not yet re-armed (R609)
  highed : BitVec 5              -- THERMAL_HIGH raised and not yet re-armed
  tripSensor : Option Nat        -- the trip record the always-on domain keeps (R610)
  restore : Bool                 -- the saved cues wait for the first showing edge (R613)
  coldCount : Bool               -- the next curtain is the first after a cold start (R44)
  deriving DecidableEq, Repr

/-- Per-part fuses (R5, R433, R532, R626). -/
structure Fuses where
  is9440 : Bool
  gradeE : Bool
  keyProg : BitVec 4
  keyRevoked : BitVec 4
  keys : List Nat                -- the SHA-384 of each key slot, big-endian
  deriving DecidableEq, Repr

/-- The test access port (R638). -/
structure Jtag where
  ir : Nat                       -- 0 IDCODE, 1 BYPASS, 2 SAMPLE, 3 PRELOAD, 4 EXTEST
  bypass : Bool
  idcode : Word
  capture : List Bool            -- the boundary register
  update : List Bool             -- its update latches
  driving : Bool                 -- EXTEST drives the balls
  deriving DecidableEq, Repr

/-- What the block has put out: the last value read, how many reads were poisoned, interrupt messages (tenant, vector), frames of the management port,
packets and K-codes launched, and cells sent. -/
structure Outs where
  readData : Word
  poisoned : Nat                 -- read completions delivered with poisoned data (R456)
  msix : List (Nat × Nat)
  frames : List (List Byte)
  lines : List LineOut
  ups : List LineOut             -- what lamp drivers have put on their lines
  cells : List CellOut
  deriving DecidableEq, Repr

/-! ## Sources, PTP and previews (03) -/

/-- A complete frame that no adoption has taken (R102). -/
structure Arrived where
  buf : Nat
  stamp : Nat
  fmt : FrameFmt
  deriving DecidableEq, Repr

/-- One source beside its registers. -/
structure Source where
  adopted : Option Nat          -- the adopted buffer (R102, R652)
  bufFmt : List (Option FrameFmt) -- the format of the frame in each buffer
  bufAge : List Nat             -- the stamp of the frame last written to each buffer (R103)
  arrived : List Arrived        -- complete, not adopted, oldest first
  fmt : Option FrameFmt         -- the format the input carries
  lastArrival : Option Nat
  fmtRefused : Bool             -- REFUSED for its format, not for the budget (R104)
  stayed : Bool                 -- a stay in LOST or REFUSED since the last ACTIVE (R107)
  wasLost : Bool
  force : Bool                  -- the next adoption damages every block (R108)
  sweepRow : Nat                -- R113
  discardFirst : Bool           -- R115
  damage : List Bool            -- the damage of the last adoption, row-major (R112)
  linkUp : Bool                 -- DPRX link trained
  did : List Byte               -- the DisplayID structure in effect (R91)
  netFirst : Option Nat         -- first RTP sequence number of the frame being received (R95)
  netGot : List Nat             -- sequence numbers received
  netMarker : Option Nat        -- the marker packet's sequence number
  netMarkerAt : Nat             -- when it first arrived
  netLast : Nat                 -- the sequence number after the last frame's marker
  netStarted : Bool
  netBuf : Option Nat           -- the buffer being filled
  deriving DecidableEq, Repr

/-- The PTP instance of one NET port (R96). -/
structure PtpPort where
  dataset : Option (List Nat)   -- the grandmaster's data set, best value smallest first
  announceAt : Nat              -- when the last Announce arrived
  syncT1 : Nat
  syncT2 : Nat
  reqT3 : Nat                   -- when the last Delay_Req left
  reqSeq : Nat
  delay : Int                   -- mean path delay
  offset : Int                  -- the show clock minus the master
  syncInterval : Nat            -- announced Sync interval, ns (R650)
  linkUp : Bool                 -- the NET port's link
  deriving DecidableEq, Repr

/-- One preview output. -/
structure Preview where
  capacity : Nat                -- pixels per second that the trained link carries (R117)
  shownSel : Nat                -- the picture of the last preview frame: source 0 to 5, or 6, a slot's composite (R116)
  shownSlot : Nat               -- the slot of that composite
  shownBuf : Option Nat         -- the buffer of that source's frame store
  shownCurtain : Nat            -- and its curtain (R118)
  live : Bool                   -- the output is driven (R119)
  statusScreen : Bool           -- PVW0 shows the house-firmware status screen (R119)
  deriving DecidableEq, Repr

/-! ## Steep engines (06) -/

/-- A loop level (R208, R215): the first bundle of its body, the bundles of the body, and the runs left. -/
structure LoopLevel where
  start : Nat
  len : Nat
  left : Nat
  deriving DecidableEq, Repr

/-- A call of a sampler or of the LUT unit, with the operands read at issue (R222, R232, R235): lane values of va (and vb, or
va+1 and va+2), the guard, and the descriptor address. -/
structure UnitCall where
  engine : Nat
  lut : Bool
  vd : Nat
  guard : Word
  a : List Word
  b : List Word
  c : List Word
  desc : Word
  deriving DecidableEq, Repr

/-- What an engine in WAIT waits for (R214, R238, R239, R243, R228). -/
inductive EngWait where
  | su (unit sd : Nat)
  | bar (b sd : Nat)
  | ev (mask sd : Nat)
  | tkdone (serial record sd : Nat)
  | sugo (unit addr : Nat)
  | fence
  deriving DecidableEq, Repr

/-- A stream unit: the addresses of its queued descriptors, the one it executes first (R228), and the first non-zero STATUS
since the last SUWAIT (R214). -/
structure StreamUnit where
  queue : List Nat
  status : Nat
  deriving DecidableEq, Repr

/-- One steep engine beside its window's registers, which hold STATE, COVERS, HOME and PC (R208, R261). -/
structure Engine where
  s : SMap Word                 -- s1 to s31
  v : SMap Word                 -- lane i of register n at 32 * n + i
  p : SMap Word                 -- p1 to p7
  crc : SMap Word               -- crc0 to crc3
  loops : List LoopLevel        -- innermost first
  evt : BitVec 8                -- the event latch (R238)
  sticky : BitVec 2             -- special register STICKY (R210)
  prog : SMap (BitVec 64)       -- the program store
  copy : SMap (BitVec 64)       -- the image's copy of its program in DRAM (R255)
  copyLate : Bool               -- a copy into it completed after commit close (R255)
  latch : Word                  -- the low half latched by ENG_PDATA_LO (R261)
  wait : Option EngWait
  su0 : StreamUnit
  su1 : StreamUnit
  faulted : Bool                -- a program fault in this curtain (R248)
  streak : Nat                  -- consecutive curtains with one
  place : Nat                   -- the engine whose place it takes in its HOME's barriers (R239, R253, R256)
  deriving DecidableEq, Repr

/-! ## Banks and DRAM (11) -/

/-- Bank words in error, by SRAM address / 8: 1 one bit, 2 uncorrectable (R437, R447); uncorrectable errors of each bank in
this curtain period (R449). -/
structure MemUnit where
  errs : SMap Nat
  ueThis : SMap Nat
  deriving DecidableEq, Repr

/-- The DRAM controller beside its registers: 8-byte words with an uncorrectable error (R456), the DRAMs' mode registers written by MRW,
256 * channel + register (R460), the delays in force by register address (R459, R461), whether a channel was lost
and DRAM not yet relaid, and whether tickets stand still for it (R464). -/
structure DramUnit where
  bad : SMap Bool
  modeRegs : SMap (Option Byte)
  applied : SMap Word
  lost : Bool
  halted : Bool
  deriving DecidableEq, Repr

/-! ## Tickets, footprints and what the steep keeps outside its engines (04, 05) -/

/-- The states of a ticket (R242). -/
inductive TkState where
  | queued | held | done | failed | withdrawn
  deriving DecidableEq, Repr

/-- One region ticket of the coming curtain (R148, R240, R242). -/
structure Ticket where
  region : Nat                   -- global region index
  tile : Nat
  serial : Nat
  state : TkState
  engine : Option Nat            -- the engine that holds it
  rescue : Bool
  remove : Option Nat            -- the layer a rescue ticket leaves out of every slot (R70, R240)
  retry : Bool                   -- returned to the queue after a fault or a map-out (R240)
  heldAt : Nat                   -- when the engine took it (R247)
  returned : Nat                 -- program faults on it in this curtain (R248)
  status : Nat                   -- the failure status of TKDONE (R243)
  parts : List (Nat × Nat)       -- (slot, port of the tile) parts that count as pushed or are in a page ring (R133, R231)
  deriving DecidableEq, Repr

/-- A composition rectangle of a slot whose regions an edge tickets (R148). -/
structure SlotRect where
  slot : Nat
  x0 : Int
  y0 : Int
  w : Int
  h : Int
  deriving DecidableEq, Repr

/-- Why the coming curtain's regions are ticketed, as settled at E_k (R148, R201). -/
structure Causes where
  all : Bool
  tiles : List Nat
  rects : List SlotRect
  regions : List Nat
  background : List Nat          -- tiles whose background pages must be prepared anew (R202)
  allBackground : Bool
  deriving DecidableEq, Repr

/-- The tickets of the coming curtain and what the steep keeps between curtains (R148, R199 to R202, R262). In the CRC store none is UNKNOWN. -/
structure Steep where
  tickets : List Ticket          -- of the coming curtain, every quadrant, in queue order
  peaks : SMap Nat               -- most tickets QUEUED at once in each quadrant in this curtain (R262)
  causes : Causes
  nextCauses : Causes            -- what tickets regions at the next edge (R192, R201)
  nextRegion : Nat               -- the next region the footprint unit decides (R149)
  issued : Nat                   -- tickets issued for the coming curtain
  rescued : Nat
  included : SMap Bool           -- layer 16 * slot + l was included in the last composition (R148)
  pushAll : Bool                 -- STP_FORCE.ALL for the next curtain (R199)
  crc : SMap (Option Word)       -- the CRC store, by (region * 8 + slot) * 16 + port of the tile (R199)
  firstEdge : Bool               -- the coming edge is the first after entry to a showing mode (R148)
  latestLoad : SMap Nat          -- region loads, by region * 8 + slot (R200)
  bgReady : SMap Bool            -- background pages of a region are prepared (R202)
  calls : List UnitCall          -- SMP and LUTL calls that wait for a unit, in order of issue (R232)
  deriving DecidableEq, Repr

/-! ## The packer (12) -/

/-- The stream contexts of a tenant (R482): pending input and history of the encoder, whether it has written a block since it
was cleared, and the decoder's history. -/
structure StreamCtx where
  pend : List Byte
  hist : List Byte
  begun : Bool
  dhist : List Byte
  deriving DecidableEq, Repr

/-- The packer beside its registers: jobs completed and not yet passed by TAIL, by 4096 * tenant + slot (R493), and the bytes
consumed and emitted in this curtain (R497). -/
structure Packer where
  doneJobs : SMap Bool
  ctx : SMap StreamCtx
  inThis : Nat
  outThis : Nat
  deriving DecidableEq, Repr

/-! ## Ports and bank sequencers (07) -/

/-- A forward packet (R274, R276). -/
structure Pkt where
  typ : Nat
  chain : Nat
  driver : Nat
  addr : Nat
  payload : List Byte
  deriving DecidableEq, Repr

/-- What a class-3 request is for (R291, R306, R341, R349, R352, R355, R388). -/
inductive ReqWhy where
  | plain
  | echo
  | regs
  | initWrite
  | rail (tile : Nat)
  | clear (region page bad : Nat)
  | part (region slot : Nat)
  | scrub (region slot : Nat)
  | diag (lamp : Nat)
  | vf (lamp : Nat)
  | flat (tile : Nat)
  | cal (tile sensor : Nat)
  | temp
  | txn (tenant tile epoch : Nat) (ref : CueRef)
  deriving DecidableEq, Repr

/-- A request of class 3: whether it expects an answer (R284), how often it was sent again (R305), the CRC that a page-CRC
read should give, the lamps it covers, and the instant before which it is not sent (R349). -/
structure Req where
  pkt : Pkt
  reply : Bool
  tries : Nat
  why : ReqWhy
  after : Nat
  exp : Word
  deriving DecidableEq, Repr

/-- Work of a part that is still to be sent: PWM codes or current codes (with the change bit) of consecutive lamps on a page,
or a packet as it stands (R288). -/
inductive Work where
  | pwm (page first : Nat) (vals : List Nat)
  | code (page first : Nat) (vals : List (Nat × Bool))
  | raw (p : Pkt)
  deriving DecidableEq, Repr

/-- A posted part, a reserve update or the writes of CLEAR in a port's queue (R231, R291, R294, R341): `kind` 0, 1, 2. `bytes`
is its room in the page ring, `deferred` whether codes of it are deferred (R290), `regionCrc` the region CRC posted, `orig` all its
work and `rest` what is still to be sent. -/
structure PartJob where
  kind : Nat
  region : Nat
  slot : Nat
  tile : Nat
  serial : Nat
  rescue : Bool
  bytes : Nat
  begun : Bool
  deferred : Bool
  regionCrc : Word
  orig : List Work
  rest : List Work
  deriving DecidableEq, Repr

/-- A packet buffer of a lane (R297): the class it was taken from, the request it carries, the part it ends. -/
structure LineBuf where
  cls : Nat
  pkt : Pkt
  req : Option Req
  ends : Option PartJob
  deriving DecidableEq, Repr

/-- One lamp port beside its registers. -/
structure Port where
  flags : BitVec 2               -- F5 and F6 (R301); the hardware flags follow from the rest
  bufs : List LineBuf            -- at most 2, oldest first
  ivl : List Pkt                 -- class 1 (R291)
  copies : List (Nat × Nat × Pkt) -- class 2: region, slot, packet (R293)
  house : List Req               -- class 3 of house firmware
  txns : List Req                -- class 3 of tenants, at most 8 (R306)
  parts : List PartJob           -- class 4
  reserve : List PartJob         -- class 5
  kept : List PartJob            -- sent parts still in the page ring (R350)
  scrub : Nat                    -- the part that is read back next (R352)
  sent : List Req                -- sent, expecting an answer, oldest first (R284)
  since : Nat                    -- forward packets since the last window (R286)
  lastWin : Nat                  -- when it ended
  turn : Nat                     -- the chain whose driver 0 answers next (R284)
  window : Option (Nat × Nat)    -- an open return window's responder (R283)
  startAt : Nat                  -- when the line was started (R310)
  restartAt : Option Nat         -- the last restart under R338
  up : Bool                      -- the line runs
  hasAdv : Bool                  -- an A_p has been set (R273)
  advNext : Option Nat           -- A_p that enters at the next curtain edge (R78)
  carry : Nat                    -- codes left of earlier parts' shares in this curtain (R289)
  defers : List (Nat × List Nat) -- deferrals decided in this curtain: region, lamps (R290)
  deferN : Nat                   -- lamps deferred for the coming curtain
  bgN : Nat                      -- PAGE_COPY sent for the coming curtain
  sentP : SMap Nat               -- PWM code last sent, by 65536 * slot + lamp; slot 16 + j is the reserve page
  sentC : SMap Nat               -- current code last sent (1 from CLEAR on)
  resCrc : SMap Bool             -- reserve part (8 * region + slot) is not UNKNOWN (R294)
  fwdErr : SMap Nat              -- latest FWD_ERR by 256 * chain + driver (R315)
  deriving DecidableEq, Repr

/-- A bank sequencer (R297): its store, counter, return stack (with whether it holds a return), the zero-cost instructions run
since the last emitting one (R300), and the symbol times since its line started. -/
structure BankSeq where
  store : SMap (BitVec 48)
  counter : BitVec 16
  stack : BitVec 16
  full : Bool
  zeros : Nat
  lineAt : Nat
  syms : Nat
  supplyBad : Bool               -- VDD_PORT does not suit its personality (R265, R629)
  deriving DecidableEq, Repr

/-! ## Lamp drive and drivers (08) -/

/-- What Roura knows of a driver at the far end: its registers as read (by address / 4), round trips measured, the last STATE
reported, its lines from and to (R327), and consecutive read mismatches (R351). -/
structure FarEnd where
  regs : SMap Word
  rtts : List Nat
  state : Option Nat
  stateAt : Nat
  line0 : Nat
  line1 : Nat
  misses : Nat
  classes : List Nat             -- forward-voltage classes of the chunk read last (R389)
  deriving DecidableEq, Repr

/-- The power sequence of one tile beside TD_POWER (R340 to R344). -/
structure TilePwr where
  met : Bool                     -- R341 is met since the drivers last reported STATE 0
  railOn : Bool                  -- the rail was switched on (R343)
  phase : Nat                    -- steps of the state already taken
  waitFrom : Nat                 -- since when a driver report is awaited (R342)
  railAt : Option Nat            -- when POWER RAIL_ON or RAIL_OFF had been sent
  railDone : Bool                -- RAIL_SETTLE or RAIL_DISCHARGE has elapsed
  light : Option Nat             -- POWER argument for the next interval
  lightSent : Option Nat         -- sent; it acts at the following mark
  chains : List (Nat × Nat)      -- drivers found: 16 * port + chain, their number
  again : List Nat               -- ports brought through INIT and CLEAR alone (R344)
  changed : Bool                 -- this window changed a live state of the tile (R369)
  deriving DecidableEq, Repr

/-- A request a driver holds (R281, R308). -/
structure DrvReq where
  typ : Nat
  tag : Nat
  bytes : List Byte              -- the payload of its answer
  deriving DecidableEq, Repr

/-- One lamp driver (R308, R320 to R362). Fields of lamps are by 65536 * page + lamp. -/
structure Driver where
  regs : SMap Word               -- by address / 4
  pwm : SMap Nat
  code : SMap Nat
  wroteP : SMap Bool             -- written since the mark before (R320)
  wroteC : SMap Bool
  staleP : SMap Nat              -- still to be copied from page n - 1 (0: not stale)
  staleC : SMap Nat
  shown : List Nat               -- PAGE_MAP in effect
  dark : Bool                    -- DARK_ALL in effect
  curs : List (Nat × List Byte)  -- CURTAIN packets taken: CUR_NUM, payload
  sched : List Byte              -- SLOT_SCHED in effect
  schedNext : List Byte
  slot : Nat
  lastCur : Nat                  -- CUR_NUM[7:0] of the last curtain applied
  flags : BitVec 3               -- MISSED_CURTAIN, MISSED_STROBE, LOSS_OF_SYNC (R282)
  inited : BitVec 4              -- UPSTREAM, RET_WIN, FIRST_LAMP, LAMP_COUNT written since reset (R339)
  lit : Bool                     -- outputs enabled
  holds : Bool                   -- HOLD (R346)
  fault : Bool                   -- rail fault
  power : List Nat               -- POWER arguments that act at the next mark (R337)
  writes : List (Nat × Word)     -- scan registers that apply at the CUR mark (R333)
  reqs : List DrvReq
  locked : Bool
  lostAt : Option Nat            -- when symbol lock was lost (R347)
  diag : SMap Nat                -- diagnosis codes (R354)
  vf : SMap Nat                  -- forward-voltage classes (R389)
  debts : SMap (Nat × Nat)       -- by 65536 * slot + lamp: load units owed, curtains since (R361)
  borrow : Option (Nat × Nat)    -- slot and CUR_NUM[7:0] of the borrowing curtain
  lent : Bool                    -- the curtain shown is a borrowing one
  markAt : Nat                   -- when the last CUR mark acted
  flat : Option Nat              -- CAL_FLAT taken: CUR_NUM[7:0] of the mark that ends its window (R374)
  arm : Option (Nat × Nat)       -- FL_ARM taken: CUR_NUM[7:0] and slot (R375)
  armLive : Option Nat           -- the armed curtain that shows
  taken : List (Nat × Nat)       -- readings not yet read: sensor, CUR_NUM[7:0] (R375)
  deriving DecidableEq, Repr

/-- The lamp drive beside its registers: a break in CURTAIN packets is pending a parity check (R319), the pages last mapped,
tenants' lamp latches with port, lamp, tile and its epoch (R364, R367), the diagnosis window in progress (R355), and regions
whose defect lists change (R358). -/
structure Drive where
  broken : Bool
  lastMap : List Nat
  latch : SMap (Option (Nat × Nat × Nat × Nat))
  winAt : Nat
  winOn : Bool
  winLate : Bool
  rails : SMap Bool              -- lamp rails by 16 * port + chain (R337)
  logics : SMap Bool             -- logic supplies that LOGIC_OFF switched off (R337, R338)
  lists : List Nat
  sumDue : Bool                  -- an OPEN or SHORT live state changed since the last lamp-state summary (R353)
  deriving DecidableEq, Repr

/-! ## Calibration (09) -/

/-- A run of a tile in progress (R384). A reading is kept as its place (sensor + 4 * curtain of the repeat + 32 * CUR_NUM[7:0]) with
its dark and lit counts. -/
structure CalRun where
  tile : Nat
  start : Nat                    -- CUR_NUM of the edge at which it started
  reh : Bool                     -- rehearsal placements, else measurement windows
  got : Nat                      -- repeats gathered
  step : Nat                     -- place in the repeat of six curtains (R377)
  phase : Nat                    -- 0 idle, 1 window asked for, 3 reading, 4 computing
  expect : Nat                   -- CUR_NUM[7:0] of the window (R375)
  flats : List Nat               -- F_k of the window, in 1/65,536 (R380)
  loads : List Nat               -- TS_LOAD of the repeat's curtains (R378)
  left : List Nat                -- places still to be read
  kept : List (Nat × List Nat)   -- readings of this repeat
  data : List (List Nat × List (Nat × List Nat)) -- loads and readings of the repeats gathered
  badNow : List Nat              -- sensors with a discarded reading in this repeat
  bad : List Nat                 -- consecutive repeats with a discarded reading, by sensor (R387)
  stamp : Nat                    -- largest U (R391)
  temp : Option Int              -- hottest driver at the first reading (R387)
  hot : Option Int               -- hottest temperature read during the run (R386)
  deriving DecidableEq, Repr

/-- Measurements of a bank's trim that wait for an edge (R397): swing and delay adjustments and advances by port. -/
structure BankTrim where
  bank : Nat
  swing : List Int
  dly : List Int
  adv : List (Option Nat)
  deriving DecidableEq, Repr

/-- Calibration beside its registers: queued tiles with their trigger times (R383), runs, the placements of the coming curtain by tile
(1 dark, 2 red, 3 green, 4 blue, 5 diagnosis; R359, R377), banks that a trim is under way or owed for, monitor inputs' conversions
below the open threshold since OPEN (R399), and the chip's temperatures in 1/16 degree by sensor (R395, R608). -/
structure Cal where
  queue : List (Nat × Nat)
  runs : List CalRun
  placed : SMap Nat
  trimWant : BitVec 16
  trimReady : List BankTrim
  amonRun : SMap Nat
  chipTemp : List Int
  deriving DecidableEq, Repr

/-! ## The company (10) -/

/-- A candidacy for lead (R417, R421). -/
structure Cand where
  dev : Nat
  prio : Nat
  serial : Nat
  deriving DecidableEq, Repr

/-- A role request that has reached the lead (R417): 1 TAKE_LEAD, 2 HAND_OFF. -/
structure RoleAsk where
  from_ : Nat
  kind : Nat
  target : Nat
  prio : Nat
  serial : Nat
  deriving DecidableEq, Repr

/-- A decision that takes effect at the coming edge: the winner, its priority, and the outcome of each device's request (R418). -/
structure Decision where
  winner : Nat
  prio : Nat
  serial : Nat
  outcomes : List (Nat × Nat)
  deriving DecidableEq, Repr

/-- A lead heard in TIME cells (R422): its index, priority, serial and epoch, the sender's hops from it, how far its edge
count lies ahead of this device's modulo 2^32, the phase of this device's clock against it, and the instant of its next edge. -/
structure LeadHeard where
  dev : Nat
  prio : Nat
  serial : Nat
  epoch : Nat
  hops : Nat
  ahead : Nat
  phase : Int
  edge : Nat
  deriving DecidableEq, Repr

/-- A shared block that waits for a packer lane (R488). -/
structure ShareWait where
  share : Nat
  bx : Nat
  by_ : Nat
  since : Nat
  deriving DecidableEq, Repr

/-- A frame being received from a share (R424): its number, format and window, the blocks written, the block whose cells arrive
and its bytes so far, and when the last cell came. -/
structure RecvFrame where
  frame : Nat
  fmt : FrameFmt
  win : ShareWin
  buf : Nat
  got : List Nat
  block : Nat
  part : List Byte
  lastAt : Nat
  deriving DecidableEq, Repr

/-- A bulk transfer that this device sends (R427): bytes sent, the BULK cells not yet acknowledged as (SEQ, offset, bytes), and since
when the destination has been unreachable. -/
structure Xfer where
  dest : Nat
  sent : Nat
  flight : List (Nat × Nat × Nat)
  deadAt : Option Nat
  deriving DecidableEq, Repr

/-- A bulk transfer being received: its sender, where it goes, and the bytes written so far; `bad`: its range was refused. -/
structure RxBulk where
  from_ : Nat
  dst : Nat
  len : Nat
  done_ : Nat
  bad : Bool
  deriving DecidableEq, Repr

/-- The company (10_company.md). -/
structure Company where
  txSeq : SMap Nat               -- next SEQ by 8 * link + class (R410)
  timeAt : Nat                   -- when TIME cells were last sent (R413)
  east : List Nat                -- devices that CE reaches, nearest first
  west : List Nat                -- devices that CW reaches, nearest first
  laneAt : SMap Nat              -- 1 + the instant since which lane 4 * e + n has been clean outside the stripe (R408)
  quiet : Nat                    -- curtains since a TIME cell carried the lead's index (R420)
  leadSerial : Nat
  leadEdge : Nat                 -- an edge of the lead's series, its anchor here (R43)
  cands : List Cand              -- candidacies of an election or a formation (R420, R421)
  standing : Bool                -- this device stands in it
  electing : Bool
  office : Bool                  -- it takes office at the coming edge
  conflict : Bool                -- another device holds this index (R407)
  asks : List RoleAsk            -- role requests since the last commit close (R417)
  decision : Option Decision
  join : Option LeadHeard        -- the lead this device waits to join, or yields to (R416, R422)
  yields : Bool
  advance : Nat                  -- by how much CUR_NUM advances at the coming edge for a joiner (R416)
  census : Option (Nat × Nat)    -- edge and generation of a requested company census (R428)
  shareWait : List ShareWait
  frameNo : SMap Nat             -- frames sent by each share
  stopped : List Nat             -- shares stopped for capacity (R426)
  lanesChanged : Bool
  recvs : SMap (Option RecvFrame)
  xfer : Option Xfer
  rxBulk : List RxBulk
  deriving DecidableEq, Repr

/-! ## The Caddy (13) -/

/-- What a house-port operation is for: nothing more, an increment of an anti-rollback counter (R536), a page of prompt-book records
(R589), the saved cues (R611). -/
inductive CadWhy where
  | plain
  | rollback (counter : Nat)
  | book
  | saved
  deriving DecidableEq, Repr

/-- An operation of the Caddy (R501): from the house port or the tenant port, PROGRAM (1), ERASE (2) or the refresh of a page (3); when
it was queued. -/
structure CadOp where
  house : Bool
  op : Nat
  addr : Nat
  data : List Byte
  why : CadWhy
  since : Nat
  deriving DecidableEq, Repr

/-- The operation in progress, when it started, and whether the hold-up store was removed during it (R521). -/
structure CadRun where
  op : CadOp
  startAt : Nat
  spoiled : Bool
  deriving DecidableEq, Repr

/-- A read of the Caddy that waits for VDD_HOLD (R507): its tenant and address. -/
structure CadWait where
  tenant : Nat
  addr : Nat
  deriving DecidableEq, Repr

/-- Caddy control beside its registers and its array (13_caddy.md). -/
structure Caddy where
  run : Option CadRun
  house : List CadOp             -- the house port's queue
  tenant : Option CadOp          -- the tenant port's latch (R514)
  refresh : List Nat             -- pages that wait for a refresh (R509 to R511)
  bad : List Nat                 -- codewords that read as uncorrectable (R509)
  marginAt : Nat                 -- the next codeword of the margin scan (R510)
  marginWhen : Nat
  testAt : Option Nat            -- when the last load test ended (R517)
  checkAt : Nat                  -- when the front house operation was last refused (R518)
  holdLow : Bool                 -- HOLD_LOW raised for it
  waits : List CadWait
  deriving DecidableEq, Repr


/-! ## The Pronex image (14) -/

/-- A record of a section (R531): register writes; bytes for DRAM; words of a program store (KIND, the units of MASK, the start); an
extent of flash. -/
inductive ImgRec where
  | reg (pairs : List (Nat × Word))
  | mem (dest : Nat) (bytes : List Byte)
  | pstore (kind mask start : Nat) (words : List Nat)
  | ext (flash stored dest raw form : Nat) (digest : List Byte)
  deriving DecidableEq, Repr

/-- A section: its TYPE, its place in the section table, its DIGEST and its records. -/
structure ImgSect where
  ty : Nat
  index : Nat
  digest : List Byte
  recs : List ImgRec
  deriving DecidableEq, Repr

/-- A Pronex image that passed its checks: IMAGE_ID, ROLLBACK, the key slot that sealed it, its directory entry (15: from DRAM), and its
sections. -/
structure Image where
  id : Nat
  rollback : Nat
  slot : Nat
  entry : Nat
  sects : List ImgSect
  deriving DecidableEq, Repr

/-- The image loader: an image that passed phase A of a LOAD and waits for phase B, whether the interval of the last curtain before
it has parked the lamps (R544), the running image, one whose LIVE application is in
progress, the engines that hold its engine program, whether a round is committed and not yet entered, and engines swapped out
and not yet rewritten (R549). -/
structure Loader where
  staged : Option Image
  parked : Bool
  running : Option Image
  live : Option Image
  fresh : List Nat
  roundOut : Bool
  rewrite : List Nat
  deriving DecidableEq, Repr
/-! ## The machine -/

/-- The block. `pending` is the queue of commands that wait, first in, first out. `free` counts the free values drawn. -/
structure State where
  pending : List Instr
  free : Nat
  fuses : Fuses
  regs : SMap Word
  lampRegs : SMap Word
  cur : Cur
  srcs : SMap Source
  ptp : SMap PtpPort
  pvw : SMap Preview
  stp : Steep
  engs : SMap Engine
  mem : MemUnit
  ddr : DramUnit
  pkr : Packer
  ports : SMap Port
  seqs : SMap BankSeq
  far : SMap FarEnd              -- by 4096 * port + 256 * chain + driver
  tiles : SMap TilePwr
  drvs : SMap Driver             -- by 4096 * port + 256 * chain + driver
  drive : Drive
  cal : Cal
  cmp : Company
  cad : Caddy
  caddy : SMap Byte              -- the Caddy's 4 MiB; an unlisted byte is erased
  pnx : Loader
  flash : SMap Byte              -- external flash (R538); an unlisted byte is erased
  tenants : SMap Tenant
  book : Book
  sys : Sys
  jtag : Jtag
  out : Outs
  dram : SMap Byte
  sram : SMap Byte               -- bank n, byte o at 0x40000 * n + o (R436)
  host : SMap Byte
  deriving DecidableEq, Repr

/-! ## Reset (log entry 5 names every value the spec does not give) -/

/-- A commit-free sync keeper at clock 0, before the first curtain. -/
def curInit : Cur :=
  { clock := 0, frac := 0, slewHist := [], slew := 0, good := 0, missing := 0, returns := 0, mismatch := false, lastRef := none, due := 0,
    refSrc := 0, running := false, rate := 15, anchor := 0, offset := 0, rateNext := none, moveNext := false, n := 0, edge := 0, next := 0, stretch := 0, lastAlign := 0,
    closed := false, decided := false, interval := false, slot := 0, commits := [], entered := [], camsync := 0,
    syncOut := 0, camsyncEnd := [0, 0, 0, 0, 0, 0, 0, 0], syncOutEnd := [0, 0, 0, 0], rowArmed := 0, rowDone := 0,
    pushed := 0, underruns := 0 }

/-- A source that has received nothing. -/
def srcInit : Source :=
  { adopted := none, bufFmt := [none, none, none], bufAge := [0, 0, 0], arrived := [], fmt := none, lastArrival := none,
    fmtRefused := false, stayed := false, wasLost := false, force := false, sweepRow := 0, discardFirst := false, damage := [],
    linkUp := false, did := [], netFirst := none, netGot := [], netMarker := none, netMarkerAt := 0, netLast := 0,
    netStarted := false, netBuf := none }

/-- Source `i` that has received nothing. -/
def srcDflt (_ : Nat) : Source := srcInit

/-- A PTP port that has heard no master, its link up. -/
def ptpDflt (_ : Nat) : PtpPort :=
  { dataset := none, announceAt := 0, syncT1 := 0, syncT2 := 0, reqT3 := 0, reqSeq := 0, delay := 0, offset := 0,
    syncInterval := 125000000, linkUp := true }

/-- A preview that shows nothing. -/
def pvwDflt (_ : Nat) : Preview := { capacity := 0, shownSel := 0, shownSlot := 0, shownBuf := none, shownCurtain := 0, live := false, statusScreen := false }

/-- No cause. -/
def noCauses : Causes := ⟨false, [], [], [], [], false⟩

/-- No tickets; the CRC store UNKNOWN. -/
def stpInit : Steep :=
  { tickets := [], peaks := [], causes := noCauses, nextCauses := noCauses, nextRegion := 0, issued := 0, rescued := 0,
    included := [], pushAll := false, crc := [], firstEdge := false, latestLoad := [], bgReady := [], calls := [] }

/-- A tenant with empty queues. -/
def tenantInit : Tenant :=
  { staged := [], latchSec := 0, latchNs := 0, ready := [], serial := 0, open_ := [], fences := [], held := [],
    lastSeq := none, lastAnswer := [], msixNew := 0, msixHold := 0, msixAt := [0, 0, 0, 0], msixMask := 0, lostCount := 0, lostFirst := 0,
    lostLast := 0 }

/-- Tenant `t` with empty queues. -/
def tenantDflt (_ : Nat) : Tenant := tenantInit

/-- An empty prompt book, scheduled store and census. -/
def bookInit : Book :=
  { waiting := [], lost := [], wins := [], copyRing := [], copyAt := 0, copyLast := 0, companyRing := [], sched := [],
    census := [], censusNext := [], shadows := [] }

/-- BOOT with every supply in range (SYS_MODE resets to BOOT, R621). -/
def sysInit : Sys :=
  { vddAo := true, spine := true, por := true, pfail := false, vddHold := true, holdReady := true, refclk := true,
    testEn := false, pendTarget := none, pendEdges := 0, loadFrom := 2, holdFrom := 4, waking := false, latched := 0, supplyLoss := false, savedAt := [], quietRun := 0,
    ticketsThis := 0, degraded := false, warmAt := none, snap := [], snapOk := false, snapCopy := 0, hot := 0, warned := 0, highed := 0,
    tripSensor := none, restore := false, coldCount := true }

/-- An MZ-9440 of grade C with key slot 0 programmed (log entry 4). -/
def fusesInit : Fuses :=
  { is9440 := true, gradeE := false, keyProg := 1, keyRevoked := 0,
    keys := [Config.keyHash 0, Config.keyHash 1, Config.keyHash 2, Config.keyHash 3] }

/-- The test access port with IDCODE selected (IEEE 1149.1 test-logic-reset). -/
def jtagInit : Jtag := { ir := 0, bypass := false, idcode := 0, capture := [], update := [], driving := false }

/-- Nothing put out. -/
def outsInit : Outs := { readData := 0, poisoned := 0, msix := [], frames := [], lines := [], ups := [], cells := [] }

/-- A register that reads 0. -/
def zeroWord (_ : Nat) : Word := 0
/-- An all-zero bundle. -/
def zeroBundle (_ : Nat) : BitVec 64 := 0
/-- A count of 0. -/
def zeroNat (_ : Nat) : Nat := 0
/-- A flag that is clear. -/
def falseFlag (_ : Nat) : Bool := false

/-- A mode register that MRW has not written. -/
def noByte (_ : Nat) : Option Byte := none

/-- Engine `e` right after reset: every register 0 (R209). -/
def engDflt (e : Nat) : Engine :=
  { s := [], v := [], p := [], crc := [], loops := [], evt := 0, sticky := 0, prog := [], copy := [], copyLate := false,
    latch := 0, wait := none, su0 := ⟨[], 0⟩, su1 := ⟨[], 0⟩, faulted := false, streak := 0, place := e }

/-- Banks and DRAM without errors. -/
def memInit : MemUnit := { errs := [], ueThis := [] }
def ddrInit : DramUnit := { bad := [], modeRegs := [], applied := [], lost := false, halted := false }

/-- Cleared stream contexts. -/
def ctxDflt (_ : Nat) : StreamCtx := ⟨[], [], false, []⟩
/-- An idle packer. -/
def pkrInit : Packer := { doneJobs := [], ctx := [], inThis := 0, outThis := 0 }

/-- Current code 1: what CLEAR leaves in every lamp (R341). -/
def oneNat (_ : Nat) : Nat := 1

/-- A port whose line has not started. -/
def portDflt (_ : Nat) : Port :=
  { flags := 0, bufs := [], ivl := [], copies := [], house := [], txns := [], parts := [], reserve := [], sent := [], since := 0,
    lastWin := 0, turn := 0, window := none, startAt := 0, restartAt := none, up := false, hasAdv := false, advNext := none,
    kept := [], scrub := 0, carry := 0, defers := [], deferN := 0, bgN := 0, sentP := [], sentC := [], resCrc := [], fwdErr := [] }

/-- A microinstruction word of zeros. -/
def zeroMicro (_ : Nat) : BitVec 48 := 0

/-- A stopped sequencer with an empty store. -/
def seqDflt (_ : Nat) : BankSeq :=
  { store := [], counter := 0, stack := 0, full := false, zeros := 8, lineAt := 0, syms := 0, supplyBad := false }

/-- A driver Roura has not read. -/
def farDflt (_ : Nat) : FarEnd := { regs := [], rtts := [], state := none, stateAt := 0, line0 := 0, line1 := 0, misses := 0, classes := [] }

/-- A tile in LOGIC_OFF. -/
def tileDflt (_ : Nat) : TilePwr :=
  { met := false, railOn := false, phase := 0, waitFrom := 0, railAt := none, railDone := false, light := none, lightSent := none,
    chains := [], again := [], changed := false }

/-- Driver registers at a driver's reset: LINE_LOSS_HOLD 2,000 ms (R347), the rest 0. Keys are address / 4. -/
def drvWord (k : Nat) : Word := if k = 79 then 2000 else 0

/-- No debt. -/
def noDebt (_ : Nat) : Nat × Nat := (0, 0)

/-- A driver in RESET (R339) with its line locked. -/
def drvDflt (_ : Nat) : Driver :=
  { regs := [], pwm := [], code := [], wroteP := [], wroteC := [], staleP := [], staleC := [], shown := [], dark := false,
    curs := [], sched := [], schedNext := [], slot := 0, lastCur := 0, flags := 0, inited := 0, lit := false, holds := false, fault := false,
    power := [], writes := [], reqs := [], locked := true, lostAt := none, diag := [], vf := [], debts := [], borrow := none,
    lent := false, markAt := 0, flat := none, arm := none, armLive := none, taken := [] }

/-- An empty latch. -/
def noLatch (_ : Nat) : Option (Nat × Nat × Nat × Nat) := none

/-- A drive that has sent no CURTAIN packet. -/
def driveInit : Drive :=
  { broken := true, lastMap := [], latch := [], winAt := 0, winOn := false, winLate := false, rails := [], logics := [], lists := [], sumDue := false }


/-- Calibration with nothing queued. -/
def calInit : Cal :=
  { queue := [], runs := [], placed := [], trimWant := 0, trimReady := [], amonRun := [], chipTemp := [0, 0, 0, 0, 0] }

/-- No frame being received. -/
def noRecv (_ : Nat) : Option RecvFrame := none

/-- A device alone, its links down. -/
def cmpInit : Company :=
  { txSeq := [], timeAt := 0, east := [], west := [], laneAt := [], quiet := 0, leadSerial := 0, leadEdge := 0, cands := [], standing := false,
    electing := false, office := false, conflict := false, asks := [], decision := none, join := none, yields := false, advance := 0,
    census := none, shareWait := [], frameNo := [], stopped := [], lanesChanged := false, recvs := [], xfer := none, rxBulk := [] }


/-- An idle Caddy. -/
def cadInit : Caddy :=
  { run := none, house := [], tenant := none, refresh := [], bad := [], marginAt := 0, marginWhen := 0, testAt := none,
    checkAt := 0, holdLow := false, waits := [] }

/-- No image. -/
def pnxInit : Loader := { staged := none, parked := false, running := none, live := none, fresh := [], roundOut := false, rewrite := [] }

/-- The machine right after reset: every register at the reset value of its field table, memories with nothing listed, the
queue of commands empty. -/
def State.reset : State :=
  { pending := [], free := 0, fuses := fusesInit, regs := [], lampRegs := [], cur := curInit, srcs := [], ptp := [], pvw := [],
    stp := stpInit,
    engs := [], mem := memInit, ddr := ddrInit,
    pkr := pkrInit,
    ports := [], seqs := [], far := [], tiles := [], drvs := [], drive := driveInit,
    cal := calInit,
    cmp := cmpInit,
    cad := cadInit, caddy := [],
    pnx := pnxInit, flash := [],
    tenants := [], book := bookInit, sys := sysInit, jtag := jtagInit, out := outsInit, dram := [], sram := [], host := [] }

/-! ## Stops -/

/-- Why the machine stops with a fault: never. Everything the spec lets go wrong at a command (a refused access, a fault of an engine or a
sequencer, an uncorrectable word, a trip) is an effect on State, after which the block goes on. -/
inductive Fault
  deriving DecidableEq, Repr

/-- Why the machine gives a command no meaning. -/
inductive Refusal where
  /-- Raised by an arm of `exec` that has no meaning yet; safe. -/
  | notModelled (mnemonic : String)
  deriving DecidableEq, Repr

end Sys2Proof.Machine
end

