-- ==== Sys2Proof/Machine/Ops.lean ====
section
/-! DEFINITION. The named operations over State: sparse maps in canonical form, registers and fields, the clock, events,
interrupt messages, prompt-book records; the primitive updates `Act`, of which every command's effect is a list; and running
such lists. -/

namespace Sys2Proof.Machine

/-! ## Sparse maps -/

/-- What key `k` reads as. -/
def mapGet {α : Type} (d : Nat → α) : SMap α → Nat → α
  | [], k => d k
  | (k', v) :: m, k => if k = k' then v else mapGet d m k

/-- The map with key `k` reading as `v`, in canonical form. -/
def mapPut {α : Type} [DecidableEq α] (d : Nat → α) : SMap α → Nat → α → SMap α
  | [], k, v => if v = d k then [] else [(k, v)]
  | (k', v') :: m, k, v =>
    if k < k' then (if v = d k then (k', v') :: m else (k, v) :: (k', v') :: m)
    else if k = k' then (if v = d k then m else (k, v) :: m)
    else (k', v') :: mapPut d m k v

/-- Consecutive keys from `k` take the values of a list. -/
def mapPuts {α : Type} [DecidableEq α] (d : Nat → α) (m : SMap α) (k : Nat) : List α → SMap α
  | [] => m
  | v :: vs => mapPuts d (mapPut d m k v) (k + 1) vs

/-- `n` consecutive values from key `k`. -/
def mapGets {α : Type} (d : Nat → α) (m : SMap α) (k : Nat) : Nat → List α
  | 0 => []
  | n + 1 => mapGet d m k :: mapGets d m (k + 1) n

/-- The map with `n` keys from `a` unlisted. -/
def mapDrop {α : Type} (m : SMap α) (a n : Nat) : SMap α := m.filter (fun e => !decide (a ≤ e.1 ∧ e.1 < a + n))

/-- Keys are strictly rising from `lo` and no entry equals what an unlisted key reads as. -/
def mapWfFrom {α : Type} [DecidableEq α] (d : Nat → α) : Nat → SMap α → Bool
  | _, [] => true
  | lo, (k, v) :: m => decide (lo ≤ k) && decide (v ≠ d k) && mapWfFrom d (k + 1) m

/-- The canonical form of a sparse map. -/
def mapWf {α : Type} [DecidableEq α] (d : Nat → α) (m : SMap α) : Bool := mapWfFrom d 0 m

/-! ## Bytes of the addressed memories: an unlisted byte reads as below (log entry 6) -/

/-- DRAM, banks and host memory that nothing has written. -/
def zeroByte (_ : Nat) : Byte := 0
/-- An erased byte of the Caddy or of flash. -/
def erasedByte (_ : Nat) : Byte := 0xFF

/-! ## Registers and fields -/

/-- The value of a field of a word. -/
def getF (w : Word) (f : Field) : Nat := bitsOf w.toNat f.hi f.lo

/-- The word with a field set to `v`, cut to the field's width. -/
def putF (w : Word) (f : Field) (v : Nat) : Word :=
  (w &&& ~~~f.mask) ||| (BitVec.ofNat 32 (v % 2 ^ f.width * 2 ^ f.lo) &&& f.mask)

/-- A reader of control addresses: the pipeline state, the lamps' or a candidate commit's. -/
abbrev Rd := Nat → Word

/-- The register at a control address: its current value, for an RWS field the pipeline value. -/
def rd (s : State) (a : Nat) : Word := mapGet regReset s.regs a

/-- The register at the lamps (CUR_VIEW 2, R67). -/
def rdLamp (s : State) (a : Nat) : Word := mapGet regReset s.lampRegs a

/-- A field of a register. -/
def rf (s : State) (a : Nat) (f : Field) : Nat := getF (rd s a) f

/-- A field read through a reader. -/
def rrf (r : Rd) (a : Nat) (f : Field) : Nat := getF (r a) f

/-- The register file with a register set; reserved bits stay 0 (R7). -/
def putReg (m : SMap Word) (a : Nat) (v : Word) : SMap Word := mapPut regReset m a (v &&& regImpl a)

/-- A 36-bit or 64-bit address held in two registers. -/
def addr36 (s : State) (lo hi : Nat) : Nat := (rd s lo).toNat + 2 ^ 32 * (bitsOf (rd s hi).toNat 3 0)

/-! ## Lists of per-unit data -/

/-- Element `i` of a list set by a function. -/
def updAt {α : Type} (l : List α) (i : Nat) (f : α → α) : List α := l.modify i f

/-- Bit `i` of a bit vector of flags. -/
def bit {w : Nat} (b : BitVec w) (i : Nat) : Bool := b.getLsbD i

/-- Bit `i` set to `v`. -/
def setBit {w : Nat} (b : BitVec w) (i : Nat) (v : Bool) : BitVec w :=
  if v then b ||| BitVec.ofNat w (2 ^ i) else b &&& ~~~(BitVec.ofNat w (2 ^ i))

/-- The mask of a list of tenant numbers. -/
def tenMask (ts : List Nat) : BitVec 8 := ts.foldl (fun m t => setBit m t true) 0

/-- Every tenant. -/
def allTenants : List Nat := [0, 1, 2, 3, 4, 5, 6, 7]

/-! ## Event windows (R562 and each chapter's event registers) -/

/-- The event status register of tenant `t` in register block `blk`. -/
def evtStatus (blk t : Nat) : Nat :=
  match blk with
  | 1 => Reg.CUR_EVT_STATUS t
  | 2 => Reg.SRC_EVT_STATUS t
  | 5 => Reg.ENG_EVT_STATUS t
  | 6 => Reg.PRT_EVT_STATUS t
  | 7 => Reg.DRV_EVT_STATUS t
  | 8 => Reg.CAL_EVT_STATUS t
  | 9 => Reg.CMP_EVT_STATUS t
  | 10 => Reg.MEM_EVT_STATUS t
  | 11 => Reg.DDR_EVT_STATUS t
  | 12 => Reg.PKR_EVT_STATUS t
  | 13 => Reg.CAD_EVT_STATUS
  | 14 => Reg.PNX_EVT_STATUS t
  | _ => Reg.TEN_EVT_STATUS t

/-- The event enable register lies one word above. -/
def evtEnable (blk t : Nat) : Nat := evtStatus blk t + 4

/-- The blocks that have event registers, in address order. -/
def evtBlocks : List Nat := [1, 2, 5, 6, 7, 8, 9, 10, 11, 12, 13, 14, 15]

/-! ## Management frames (R560) -/

/-- The transport a tenant is bound to: 0 PCIe, 1 MGMT, 2 SPI, 3 none (R594). -/
def bindMode (s : State) (t : Nat) : Nat := rf s (Reg.TEN_BIND_CTRL t) Fld.TEN_BIND_CTRL_MODE

/-- A frame of the management port. -/
def mgmtFrame (t typ seq : Nat) (body : List Byte) : List Byte :=
  [0x4D, 0x5A, BitVec.ofNat 8 (t + 16 * typ), 0] ++ leBytes 2 seq ++ leBytes 2 body.length ++ body

/-- The body of an EVENT frame: the tenant's event status words, in block order (log entry 20). -/
def eventWords (s : State) (t : Nat) : List Byte :=
  evtBlocks.flatMap (fun b => leBytes 4 (if b = 13 ∧ t ≠ 0 then 0 else (rd s (evtStatus b t)).toNat))

/-! ## Reading State -/

/-- Tenant `t`. -/
def ten (s : State) (t : Nat) : Tenant := mapGet tenantDflt s.tenants t

/-- The mode of the device by its code (R597). -/
def mode (s : State) : Nat := rf s Reg.SYS_MODE Fld.SYS_MODE_MODE

/-- The codes of R597. -/
def mOFF : Nat := 0
def mPILOT : Nat := 1
def mBOOT : Nat := 2
def mLOAD : Nat := 3
def mREHEARSAL : Nat := 4
def mSHOW : Nat := 5
def mSLOTTED : Nat := 6
def mQUIET : Nat := 7
def mHOLD : Nat := 8
def mDEGRADED : Nat := 9
def mRECOVERY : Nat := 10
def mTEST : Nat := 11

/-- SHOW, SLOTTED SHOW, QUIET or DEGRADED: a rule that names SHOW or SLOTTED SHOW applies (R598). -/
def showing (m : Nat) : Bool := m == mSHOW || m == mSLOTTED || m == mQUIET || m == mDEGRADED

/-- A mode in which curtains are generated (R597). -/
def curtainMode (m : Nat) : Bool := showing m || m == mREHEARSAL

/-- The show clock. -/
def now (s : State) : Nat := s.cur.clock

/-! ## Records (R583) -/

/-- Items packed from bit 0, each with its width; bits beyond 64 are left out. -/
def packArg : List (Nat × Nat) → Nat → Nat
  | [], _ => 0
  | (w, v) :: r, sh => v % 2 ^ w * 2 ^ sh + packArg r (sh + w)

/-- The ARG of a record from its items. -/
def arg (items : List (Nat × Nat)) : BitVec 64 := BitVec.ofNat 64 (packArg items 0)

/-- The 32 bytes of a record at position `seq` of a ring (R583). -/
def recBytes (r : PbRec) (company seq : Nat) : List Byte :=
  leBytes 6 (r.stamp / 1000000000) ++ leBytes 4 (r.stamp % 1000000000) ++ leBytes 2 (r.unit % 4096 + 4096 * company)
    ++ leBytes 2 r.code ++ [BitVec.ofNat 8 (r.kind % 4 + 4 * (r.level % 8) + (if r.coalesced then 32 else 0))]
    ++ [BitVec.ofNat 8 (r.block % 16)] ++ leBytes 4 r.count ++ [r.tenants] ++ leBytes 3 seq ++ leBytes 8 r.arg.toNat

/-- Kinds of record (R583). -/
def kEVENT : Nat := 0
def kSTATUS : Nat := 1
def kFAULT : Nat := 2
def kSYSTEM : Nat := 3

/-- Status codes (R579). -/
def stOK : Nat := 0x0000
def stNOT_OWNER : Nat := 0x0101
def stSTALE_ROLE : Nat := 0x0102
def stBUSY : Nat := 0x0103
def stBAD_ARG : Nat := 0x0104
def stCOMMIT_LATE : Nat := 0x0105
def stNO_ENERGY : Nat := 0x0201
def stSELF_TARGET : Nat := 0x0202
def stPROTECTED : Nat := 0x0203
def stTHERMAL_DEFER : Nat := 0x0204
def stNO_GAIN : Nat := 0x0301
def stILLEGAL_CODE : Nat := 0x0302
def stDIST_BEYOND : Nat := 0x0303
def stLEN_OVERRUN : Nat := 0x0304
def stBAD_HEADER : Nat := 0x0305
def stCHECK_FAIL : Nat := 0x0306
def stROLE_DENIED : Nat := 0x0401
def stROLE_CONFLICT : Nat := 0x0402
def stUNREACHABLE : Nat := 0x0403
def stSIG_FAIL : Nat := 0x0501
def stROLLBACK : Nat := 0x0502
def stSECTION_MISMATCH : Nat := 0x0503
def stCRC_MISMATCH : Nat := 0x0601
def stDRIVER_SILENT : Nat := 0x0602
def stLOAD_UNVALIDATED : Nat := 0x0701
def stSENSOR_OPEN : Nat := 0x0702
def stDATA_UE : Nat := 0x0801

/-- How many records of a unit the unit may still hold: those stamped within the last 4 us (R585, R587). -/
def unitHolds (s : State) (r : PbRec) : Nat :=
  (s.book.waiting.filter (fun q => q.unit == r.unit && decide (r.stamp < q.stamp + 4000))).length

/-- Does the unit's queue of 4 records take one more (R587)? With fewer than 4 records of the last 4 us it does; with more,
how many were handed over already is open. -/
def unitTakes (s : State) (r : PbRec) : Bool :=
  decide (unitHolds s r < 4) || decide (unitHolds s r < 4 + Config.handedOver s.free)

/-- The book after a unit submits a record: held for the collector, or dropped and remembered (R587). -/
def bookLog (s : State) (r : PbRec) : Book :=
  if unitTakes s r then
    match s.book.lost.find? (fun u => u.unit == r.unit) with
    | none => { s.book with waiting := s.book.waiting ++ [r] }
    | some u =>
      { s.book with
        lost := s.book.lost.filter (fun u => u.unit != r.unit)
        waiting := s.book.waiting ++
          [⟨r.stamp, r.unit, 1, kSYSTEM, 0, false, 0, u.count, r.tenants,
            arg [(32, r.stamp - u.first), (32, r.stamp - u.last)]⟩, r] }
  else if s.book.lost.any (fun u => u.unit == r.unit) then
    { s.book with
      lost := s.book.lost.map (fun u => if u.unit == r.unit then { u with count := u.count + 1, last := r.stamp } else u) }
  else { s.book with lost := s.book.lost ++ [⟨r.unit, 1, r.stamp, r.stamp⟩] }

/-- A tenant's interrupt or EVENT frame (R596): sent at once outside the hold-off, remembered inside it. -/
def signalTenant (s : State) (t vec : Nat) : State :=
  let q := ten s t
  let mgmt := bindMode s t == 1
  let v := if mgmt then 1 else vec
  if (bindMode s t == 0 && !bit q.msixMask vec) || (mgmt && (vec == 1 || vec == 3)) then
    if bit q.msixHold v then
      { s with tenants := mapPut tenantDflt s.tenants t { q with msixNew := setBit q.msixNew v true } }
    else
      { s with
        tenants := mapPut tenantDflt s.tenants t { q with msixHold := setBit q.msixHold v true, msixAt := q.msixAt.set v (now s) }
        out := if mgmt then { s.out with frames := s.out.frames ++ [mgmtFrame t 5 0 (eventWords s t)] }
               else { s.out with msix := s.out.msix ++ [(t, vec)] } }
  else s

/-- An event of block `blk` reaches tenant `t`: its status bit is set, and the tenant is signalled where its enable bit is
set. -/
def raiseEvt (s : State) (blk t b : Nat) : State :=
  let s1 := { s with regs := putReg s.regs (evtStatus blk t) (rd s (evtStatus blk t) ||| BitVec.ofNat 32 (2 ^ b)) }
  if bit (rd s (evtEnable blk t)) b then signalTenant s1 t (if blk = 15 then 3 else 1) else s1

/-! ## Primitive updates

A command's effect is a list of these; each keeps every sparse map in canonical form and every reserved bit of a register 0
(R7), and none of them touches the queue of commands. -/

/-- One primitive update of State. -/
inductive Act where
  | reg (a : Nat) (v : Word)
  | fld (a : Nat) (f : Field) (v : Nat)
  | inc (a : Nat) (f : Field) (n : Nat)
  | sat (a : Nat) (f : Field) (n : Nat)
  | lamp (a : Nat) (v : Word)
  | clockTo (t : Nat)
  | draw
  | log (r : PbRec)
  | evt (blk t b : Nat)
  | signal (t vec : Nat)
  | cur (f : Cur → Cur)
  | src (i : Nat) (f : Source → Source)
  | ptp (i : Nat) (f : PtpPort → PtpPort)
  | pvw (i : Nat) (f : Preview → Preview)
  | stp (f : Steep → Steep)
  | ten (i : Nat) (f : Tenant → Tenant)
  | book (f : Book → Book)
  | sys (f : Sys → Sys)
  | jtag (f : Jtag → Jtag)
  | out (f : Outs → Outs)
  | fuse (f : Fuses → Fuses)
  | eng (i : Nat) (f : Engine → Engine)
  | mem (f : MemUnit → MemUnit)
  | ddr (f : DramUnit → DramUnit)
  | pkr (f : Packer → Packer)
  | port (i : Nat) (f : Port → Port)
  | bseq (i : Nat) (f : BankSeq → BankSeq)
  | far (i : Nat) (f : FarEnd → FarEnd)
  | tile (i : Nat) (f : TilePwr → TilePwr)
  | drv (i : Nat) (f : Driver → Driver)
  | drive (f : Drive → Drive)
  | cal (f : Cal → Cal)
  | cmp (f : Company → Company)
  | cad (f : Caddy → Caddy)
  | pnx (f : Loader → Loader)
  | dram (a : Nat) (bs : List Byte)
  | dramDrop (a n : Nat)
  | sram (a : Nat) (bs : List Byte)
  | sramDrop (a n : Nat)
  | host (a : Nat) (bs : List Byte)
  | hostDrop (a n : Nat)
  | caddy (a : Nat) (bs : List Byte)
  | caddyDrop (a n : Nat)
  | flash (a : Nat) (bs : List Byte)
  | flashDrop (a n : Nat)

/-- A primitive update applied. -/
def applyAct (s : State) : Act → State
  | .reg a v => { s with regs := putReg s.regs a v }
  | .fld a f v => { s with regs := putReg s.regs a (putF (rd s a) f v) }
  | .inc a f n => { s with regs := putReg s.regs a (putF (rd s a) f (rf s a f + n)) }
  | .sat a f n => { s with regs := putReg s.regs a (putF (rd s a) f (min (rf s a f + n) (2 ^ f.width - 1))) }
  | .lamp a v => { s with lampRegs := putReg s.lampRegs a v }
  | .clockTo t => { s with cur := { s.cur with clock := max s.cur.clock t } }
  | .draw => { s with free := s.free + 1 }
  | .log r =>
    { s with
      book := bookLog s r
      free := s.free + 1
      regs := if unitTakes s r then s.regs
              else putReg s.regs Reg.PB_UNIT_LOST (rd s Reg.PB_UNIT_LOST + 1) }
  | .evt blk t b => raiseEvt s blk t b
  | .signal t vec => signalTenant s t vec
  | .cur f => { s with cur := f s.cur }
  | .src i f => { s with srcs := mapPut srcDflt s.srcs i (f (mapGet srcDflt s.srcs i)) }
  | .ptp i f => { s with ptp := mapPut ptpDflt s.ptp i (f (mapGet ptpDflt s.ptp i)) }
  | .pvw i f => { s with pvw := mapPut pvwDflt s.pvw i (f (mapGet pvwDflt s.pvw i)) }
  | .stp f => { s with stp := f s.stp }
  | .ten i f => { s with tenants := mapPut tenantDflt s.tenants i (f (mapGet tenantDflt s.tenants i)) }
  | .book f => { s with book := f s.book }
  | .sys f => { s with sys := f s.sys }
  | .jtag f => { s with jtag := f s.jtag }
  | .out f => { s with out := f s.out }
  | .fuse f => { s with fuses := f s.fuses }
  | .eng i f => { s with engs := mapPut engDflt s.engs i (f (mapGet engDflt s.engs i)) }
  | .mem f => { s with mem := f s.mem }
  | .ddr f => { s with ddr := f s.ddr }
  | .pkr f => { s with pkr := f s.pkr }
  | .port i f => { s with ports := mapPut portDflt s.ports i (f (mapGet portDflt s.ports i)) }
  | .bseq i f => { s with seqs := mapPut seqDflt s.seqs i (f (mapGet seqDflt s.seqs i)) }
  | .far i f => { s with far := mapPut farDflt s.far i (f (mapGet farDflt s.far i)) }
  | .tile i f => { s with tiles := mapPut tileDflt s.tiles i (f (mapGet tileDflt s.tiles i)) }
  | .drv i f => { s with drvs := mapPut drvDflt s.drvs i (f (mapGet drvDflt s.drvs i)) }
  | .drive f => { s with drive := f s.drive }
  | .cal f => { s with cal := f s.cal }
  | .cmp f => { s with cmp := f s.cmp }
  | .cad f => { s with cad := f s.cad }
  | .pnx f => { s with pnx := f s.pnx }
  | .dram a bs => { s with dram := mapPuts zeroByte s.dram a bs }
  | .dramDrop a n => { s with dram := mapDrop s.dram a n }
  | .sram a bs => { s with sram := mapPuts zeroByte s.sram a bs }
  | .sramDrop a n => { s with sram := mapDrop s.sram a n }
  | .host a bs => { s with host := mapPuts zeroByte s.host a bs }
  | .hostDrop a n => { s with host := mapDrop s.host a n }
  | .caddy a bs => { s with caddy := mapPuts erasedByte s.caddy a bs }
  | .caddyDrop a n => { s with caddy := mapDrop s.caddy a n }
  | .flash a bs => { s with flash := mapPuts erasedByte s.flash a bs }
  | .flashDrop a n => { s with flash := mapDrop s.flash a n }

/-- A list of updates applied in order. -/
def applyActs (s : State) : List Act → State
  | [] => s
  | x :: xs => applyActs (applyAct s x) xs

/-- A stage of a command: the updates it makes, worked out from the state it starts in. -/
abbrev Eff := State → List Act

/-- The stages of a command in order. -/
def runEffs (s : State) : List Eff → State
  | [] => s
  | e :: es => runEffs (applyActs s (e s)) es

/-- Stages in order as one stage: the updates they make one after another. -/
def seqE : List Eff → Eff
  | [], _ => []
  | e :: es, s => e s ++ seqE es (applyActs s (e s))

/-- A stage only where a condition holds at its start. -/
def whenE (c : State → Bool) (es : List Eff) : Eff := fun s => if c s then seqE es s else []

/-- The outcome of a command whose stages all run. -/
abbrev Out := Host.Outcome State Fault Refusal

/-- A command whose effect is one stage. -/
def done (s : State) (xs : List Act) : Out := .next (applyActs s xs)

/-- A command whose effect is several stages. -/
def doneAll (s : State) (es : List Eff) : Out := .next (runEffs s es)

/-! ## Events and records -/

/-- An event of block `blk`: its bit in the window of each tenant named, and an EVENT record (R72, R73, R583). -/
def event (blk b : Nat) (ts : List Nat) (unit : Nat) (a : BitVec 64) (stamp : Nat) : List Act :=
  ts.map (fun t => Act.evt blk t b)
    ++ [.log ⟨stamp, unit, b, kEVENT, 0, false, blk, 1, tenMask ts, a⟩]

/-- An event stamped with the show clock. -/
def eventNow (s : State) (blk b : Nat) (ts : List Nat) (unit : Nat) (a : BitVec 64) : List Act :=
  event blk b ts unit a (now s)

/-- An event logged with a level. -/
def eventLv (s : State) (blk b lvl : Nat) (ts : List Nat) (unit : Nat) (a : BitVec 64) : List Act :=
  ts.map (fun t => Act.evt blk t b) ++ [.log ⟨now s, unit, b, kEVENT, lvl, false, blk, 1, tenMask ts, a⟩]

/-- T0 and the tenant that owns a thing, where a tenant does (R73). -/
def withT0 (t : Nat) : List Nat := if 0 < t ∧ t < 8 then [0, t] else [0]

/-- A STATUS record (R579, R583). -/
def logStatus (s : State) (unit blk status : Nat) (ts : List Nat) (a : BitVec 64) : List Act :=
  [.log ⟨now s, unit, status, kSTATUS, 0, false, blk, 1, tenMask ts, a⟩]

/-- A FAULT record with its level. -/
def logFault (s : State) (unit blk code level : Nat) (ts : List Nat) (a : BitVec 64) : List Act :=
  [.log ⟨now s, unit, code, kFAULT, level, false, blk, 1, tenMask ts, a⟩]

/-- A SYSTEM record. -/
def logSystem (s : State) (unit code : Nat) (ts : List Nat) (a : BitVec 64) : List Act :=
  [.log ⟨now s, unit, code, kSYSTEM, 0, false, 0, 1, tenMask ts, a⟩]

/-- A SYS event: an EVENT record with BLOCK 0 to every tenant (R622). -/
def sysEvent (s : State) (code : Nat) (a : BitVec 64) : List Act :=
  [.log ⟨now s, 0xB40, code, kEVENT, 0, false, 0, 1, 0xFF, a⟩]

/-- An access that a rule discards or refuses (R580): the tenant's fault record, TENANT_FAULT and a FAULT record. -/
def tenantFault (s : State) (t status addr : Nat) : List Act :=
  [.inc (Reg.TEN_FAULT_CNT t) Fld.TEN_FAULT_CNT_COUNT 1,
   .reg (Reg.TEN_FAULT_LAST t)
     (putF (putF 0 Fld.TEN_FAULT_LAST_BLOCK (addr / 0x100000)) Fld.TEN_FAULT_LAST_STATUS status),
   .reg (Reg.TEN_FAULT_ADDR t) (BitVec.ofNat 32 addr)]
  ++ eventNow s 15 0 [t] (0xB50 + t) 0
  ++ logFault s (0xB50 + t) (addr / 0x100000) status 0 [t] 0

/-- The mode changes (R599, R621): MODE and PREV, and MODE_CHANGE (R622). -/
def setMode (s : State) (m : Nat) : List Act :=
  if mode s = m then []
  else [.fld Reg.SYS_MODE Fld.SYS_MODE_PREV (mode s), .fld Reg.SYS_MODE Fld.SYS_MODE_MODE m] ++ sysEvent s 0 0

/-! ## Who may reach a control address (R3, R563, R564, R561, R604) -/

/-- The tenant an access acts for: the SPI service target acts as T0 (R561). -/
def actsFor (a : Acc) : Nat := if a.via = .spi then 0 else a.t

/-- The registers of units that the MZ-9432 lacks: those of quadrant Q3 (R2, R3). -/
def absentAddr (s : State) (a : Nat) : Bool :=
  !s.fuses.is9440 &&
  (let within := fun (lo n : Nat) => decide (lo ≤ a ∧ a < lo + n)
   within 0x00548000 0x18000 || within 0x00580C00 0x400 || within 0x00590300 0x100 || (decide (a / 0x100000 = 6) && decide (0xC ≤ a / 0x10000 % 16))
   || within 0x00800130 0x10 || within 0x00801C00 0x400 || within 0x00A00480 0x180 || within 0x00A01480 0x180
   || within 0x00B02800 0x800 || within 0x00F02030 0x10)

/-- What keeps an access from being carried out: none nothing; 0 that nothing receives it; else the status it is refused with.
A transport the tenant is not bound to counts as a reserved address (R564); the SPI target writes in BOOT, TEST and RECOVERY or while
T0 is bound to it (R561); in HOLD the L1 keeper serves PCIe reads of SYS alone (R604). -/
def refusal (s : State) (a : Acc) (addr : Nat) (write : Bool) : Option Nat :=
  match a.via with
  | .spi =>
    if write ∧ mode s ≠ mBOOT ∧ mode s ≠ mTEST ∧ mode s ≠ mRECOVERY ∧ bindMode s 0 ≠ 2 then some stNOT_OWNER else none
  | .pcie =>
    if mode s = mOFF ∨ mode s = mPILOT then some 0
    else if bindMode s a.t ≠ 0 then some stBAD_ARG
    else if mode s = mHOLD ∧ (write ∨ 0x100000 ≤ addr) then some stBUSY else none
  | .mgmt =>
    if mode s = mOFF ∨ mode s = mPILOT ∨ mode s = mHOLD then some 0
    else if bindMode s a.t ≠ 1 then some stBAD_ARG else none

/-- A cause that may wake Roura from HOLD: the first is kept; one seen while HOLD is being entered is latched (R115, R604). -/
def wakeFrom (c : Nat) : Eff := fun s =>
  if bitsOf (rf s Reg.SYS_WAKE Fld.SYS_WAKE_EN) (c - 1) (c - 1) = 0 then []
  else if mode s = mHOLD then
    if s.sys.waking then [] else [.fld Reg.SYS_WAKE Fld.SYS_WAKE_CAUSE c, .sys (fun y => { y with waking := true })]
  else if s.sys.pendTarget = some mHOLD ∧ s.sys.latched = 0 then [.sys (fun y => { y with latched := c })]
  else []

/-- An access carried out for its tenant, or refused; one that reads data and is refused, or that names a disabled unit, reads 0. A
BAR0 access is a wake cause (R604). -/
def gate (a : Acc) (addr : Nat) (write reads : Bool) (e : Nat → Eff) : Eff := fun s =>
  let zero : List Act := if reads then [.out (fun o => { o with readData := 0 })] else []
  (if a.via = .pcie ∧ mode s = mHOLD then wakeFrom 3 s else [])
  ++ (match refusal s a addr write with
      | some 0 => []
      | some st => tenantFault s (actsFor a) st addr ++ zero
      | none => if absentAddr s addr then zero else e (actsFor a) s)

/-! ## Codes over bytes -/

/-- One byte through a CRC-32 with polynomial 0x04C1_1DB7, most significant bit first. -/
def crc32Byte (c : BitVec 32) (b : Byte) : BitVec 32 :=
  let step := fun (x : BitVec 32) => if x.msb then (x <<< 1) ^^^ 0x04C11DB7#32 else x <<< 1
  step (step (step (step (step (step (step (step (c ^^^ (b.zeroExtend 32 <<< 24)))))))))

/-- The CRC-32 of a byte list: initial value all ones, result inverted (R110, R198). -/
def crc32 (bs : List Byte) : Word := ~~~(bs.foldl crc32Byte 0xFFFFFFFF#32)

/-- One byte through a CRC-16 with polynomial 0x1021, most significant bit first. -/
def crc16Byte (c : BitVec 16) (b : Byte) : BitVec 16 :=
  let step := fun (x : BitVec 16) => if x.msb then (x <<< 1) ^^^ 0x1021#16 else x <<< 1
  step (step (step (step (step (step (step (step (c ^^^ (b.zeroExtend 16 <<< 8)))))))))

/-- The CRC-16 of a byte list with initial value 0xFFFF (R275). -/
def crc16 (bs : List Byte) : BitVec 16 := bs.foldl crc16Byte 0xFFFF#16

/-! ## Memory reads -/

/-- `n` bytes of dram from address `a`. -/
def dramRead (s : State) (a n : Nat) : List Byte := mapGets zeroByte s.dram a n

/-- `n` bytes of sram from address `a`. -/
def sramRead (s : State) (a n : Nat) : List Byte := mapGets zeroByte s.sram a n

/-- `n` bytes of host from address `a`. -/
def hostRead (s : State) (a n : Nat) : List Byte := mapGets zeroByte s.host a n

/-- `n` bytes of caddy from address `a`. -/
def caddyRead (s : State) (a n : Nat) : List Byte := mapGets erasedByte s.caddy a n

/-- `n` bytes of flash from address `a`. -/
def flashRead (s : State) (a n : Nat) : List Byte := mapGets erasedByte s.flash a n

end Sys2Proof.Machine
end

