-- ==== Sys2Proof/Machine/Curtain.lean ====
section
/-! DEFINITION. The show clock, its servo, the curtain series and its instants, the slot plan, staged commits, CAMSYNC and
SYNC_OUT (02_curtain.md). -/

namespace Sys2Proof.Machine

/-! ## Rates, edges and instants (R41 to R46, R58) -/

/-- The exact rate of index `i` of R41 as a fraction of 1 Hz: numerator and denominator. -/
def rateHz (i : Nat) : Nat × Nat :=
  match i with
  | 0 => (24000, 1001) | 1 => (24, 1) | 2 => (25, 1) | 3 => (30000, 1001) | 4 => (30, 1) | 5 => (48000, 1001)
  | 6 => (48, 1) | 7 => (50, 1) | 8 => (60000, 1001) | 9 => (60, 1) | 10 => (72, 1) | 11 => (90, 1) | 12 => (96, 1)
  | 13 => (100, 1) | 14 => (120000, 1001) | 15 => (120, 1) | 16 => (144, 1) | 17 => (180, 1) | 18 => (200, 1)
  | 19 => (240000, 1001) | _ => (240, 1)

/-- `n` exact periods of rate `i`, rounded to the nanosecond half away from zero (R42). -/
def periods (i n : Nat) : Nat := (2 * (n * 1000000000 * (rateHz i).2) + (rateHz i).1) / (2 * (rateHz i).1)

/-- One period rounded to the nanosecond. -/
def period (i : Nat) : Nat := periods i 1

/-- The whole nanoseconds of the exact period: the shortest period of the rate. -/
def periodFloor (i : Nat) : Nat := 1000000000 * (rateHz i).2 / (rateHz i).1

/-- Edge `n` of a series with an anchor (R42). -/
def edgeOf (anchor : Int) (rate n : Nat) : Int := anchor + (periods rate n : Nat)

/-- The index of the first edge of a series that lies at or after `t`. -/
def firstEdgeIdx (anchor : Int) (rate : Nat) (t : Int) : Nat :=
  let n0 := ((t - anchor).toNat * (rateHz rate).1 / (1000000000 * (rateHz rate).2)) - 1
  if t ≤ edgeOf anchor rate n0 then n0
  else if t ≤ edgeOf anchor rate (n0 + 1) then n0 + 1
  else if t ≤ edgeOf anchor rate (n0 + 2) then n0 + 2 else n0 + 3

/-- T_quiet and T_rescue in ns (R59) and T_close (R58). -/
def tQuiet (r : Rd) : Nat := 1000 * rrf r Reg.CUR_TIMING Fld.CUR_TIMING_T_QUIET
def tRescue (r : Rd) : Nat := 1000 * rrf r Reg.CUR_TIMING Fld.CUR_TIMING_T_RESCUE
def tClose : Nat := 200000

/-- The instants of the running period (R58, R60): rescue, commit close, push deadline, adoption. -/
def instX (s : State) : Nat := s.cur.next - tQuiet (rd s) - tRescue (rd s)
def instC (s : State) : Nat := s.cur.next - tClose
def instD (s : State) : Nat := s.cur.next - tQuiet (rd s)
def instA (s : State) : Nat := s.cur.next - 20000

/-- The number of slots of a plan (R45). -/
def slotCount (r : Rd) : Nat := rrf r Reg.CUR_SLOT_PLAN Fld.CUR_SLOT_PLAN_COUNT + 1

/-- The kind of slot `j` (R48). -/
def slotKind (r : Rd) (j : Nat) : Nat := rrf r (Reg.CUR_SLOT j) Fld.CUR_SLOT_KIND

/-- HOUSE and CAMERA slots compose and show pages (R48, R144). -/
def composing (kind : Nat) : Bool := kind == 0 || (8 ≤ kind)

/-- A plan that shows at the lamps as SLOTTED SHOW: more than one slot, or one that is not HOUSE (R598). -/
def slotted (r : Rd) : Bool := decide (1 < slotCount r) || (List.range (slotCount r)).any (fun j => slotKind r j != 0)

/-- SHOW or SLOTTED SHOW, as the plan at the lamps sets (R598). -/
def showMode (r : Rd) : Nat := if slotted r then mSLOTTED else mSHOW

/-- Where slot `j` starts after its curtain edge (R46). -/
def slotStart (r : Rd) (rate j : Nat) : Nat :=
  if rrf r Reg.CUR_SLOT_PLAN Fld.CUR_SLOT_PLAN_EQUAL = 1 then
    (2 * (j * 1000000000 * (rateHz rate).2) + (rateHz rate).1 * slotCount r) / (2 * ((rateHz rate).1 * slotCount r))
  else ((List.range j).map (fun i => rrf r (Reg.CUR_SLOT i) Fld.CUR_SLOT_LEN)).foldl (· + ·) 0

/-- The length of slot `j` in a curtain of `p` nanoseconds (R46, R49). -/
def slotLen (r : Rd) (rate p j : Nat) : Nat :=
  if j + 1 = slotCount r then p - slotStart r rate j else slotStart r rate (j + 1) - slotStart r rate j

/-- A 32-bit register read as a signed number. -/
def sreg (w : Word) : Int := w.toInt

/-! ## Staging and commits (R62 to R67) -/

/-- The ownable thing a register belongs to (R565): its KIND and OBJECT, or KIND 0. -/
def thingOf (row : RegRow) (ix : List Nat) : Nat × Nat :=
  match row.owner, ix with
  | .slot, j :: _ => (1, j)
  | .layer, j :: l :: _ => (2, 16 * j + l)
  | .tile, t :: _ => (3, t)
  | .engine, e :: _ => (5, e / 6)
  | .cluster, c :: _ => (5, c)
  | _, _ => (0, 0)

/-- The register that holds a thing's owner and epoch (R565). -/
def ownReg (kind obj : Nat) : Nat :=
  match kind with
  | 1 => Reg.TEN_OWN_SLOT obj
  | 2 => Reg.TEN_OWN_LAYER obj
  | 3 => Reg.TEN_OWN_TILE obj
  | 4 => Reg.BANK_OWNER obj
  | _ => Reg.TEN_OWN_CLUSTER obj

/-- The owner of a thing. -/
def ownerOf (s : State) (kind obj : Nat) : Nat := rf s (ownReg kind obj) Fld.TEN_OWN_TILE_OWNER

/-- The epoch of a thing; 0 where the field belongs to no thing. -/
def epochOf (s : State) (kind obj : Nat) : Nat :=
  if kind = 0 then 0 else rf s (ownReg kind obj) Fld.TEN_OWN_TILE_EPOCH

/-- The staging set after a write of RWS bits: the last value written is the one committed (R11), and each field carries
the epoch its thing had when the write completed (R567). -/
def stage (l : List Staged) (e : Staged) : List Staged :=
  (l.map (fun o => if o.addr = e.addr then { o with mask := o.mask &&& ~~~e.mask } else o)).filter (fun o => o.mask != 0) ++ [e]

/-- What a tenant has staged for a register: its mask and value (R67). -/
def stagedOf (l : List Staged) (a : Nat) : Word × Word :=
  l.foldl (fun p e => if e.addr = a then (p.1 ||| e.mask, (p.2 &&& ~~~e.mask) ||| (e.val &&& e.mask)) else p) (0, 0)

/-- The view of an RWS register that tenant `t` reads (R67). -/
def viewRws (s : State) (t a : Nat) : Word :=
  match rf s (Reg.CUR_VIEW t) Fld.CUR_VIEW_VIEW with
  | 1 => rd s a
  | 2 => rdLamp s a
  | _ => let q := stagedOf (ten s t).staged a; (rd s a &&& ~~~q.1) ||| (q.2 &&& q.1)

/-- A reader of the pipeline state with staged fields laid over it in order (R65). -/
def overlay (r : Rd) : List Staged → Rd
  | [] => r
  | e :: es => overlay (fun a => if a = e.addr then (r a &&& ~~~e.mask) ||| (e.val &&& e.mask) else r a) es

/-- The registers written by staged fields, in order. -/
def applyStaged (m : SMap Word) : List Staged → SMap Word
  | [] => m
  | e :: es => applyStaged (putReg m e.addr ((mapGet regReset m e.addr &&& ~~~e.mask) ||| (e.val &&& e.mask))) es

/-- A commit is taken: the staging set as it stands, which is emptied (R62); late when the commit close of the coming edge
has passed (R63). -/
def takeCommit (t tag : Nat) (cue : Option CueRef) : Eff := fun s =>
  let late := s.cur.running && s.cur.closed
  let cm : Commit := ⟨t, tag, (ten s t).staged, now s, late, cue, none, false⟩
  let old := fun (c : Commit) => if c.who = t then { c with older := true } else c
  [.ten t (fun q => { q with staged := [] }),
   .cur (fun c => { c with commits := c.commits.map old ++ [cm], entered := c.entered.map old }),
   .reg (Reg.CUR_COMMIT_STAT t) (putF (putF 0 Fld.CUR_COMMIT_STAT_TAG tag) Fld.CUR_COMMIT_STAT_STATUS stBUSY),
   .fld (Reg.CUR_COMMIT_CURTAIN t) Fld.CUR_COMMIT_CURTAIN_NUM
     (rf s Reg.CUR_NUM Fld.CUR_NUM_NUM + (if late then 3 else 2))]
  ++ (if late then
        [.inc (Reg.CUR_LATE_CNT t) Fld.CUR_LATE_CNT_COUNT 1] ++ eventNow s 1 4 [t] 0 (arg [(16, tag)])
      else [])

/-- A tenant's staging set is emptied and no commit results (R568). -/
def discardStaged (t : Nat) : Eff := fun _ => [.ten t (fun q => { q with staged := [] })]

/-! ## The servo (R36 to R40, R650, R651) -/

/-- The lock states of R37. -/
def lkFREE : Nat := 0
def lkACQUIRE : Nat := 1
def lkLOCKED : Nat := 2
def lkHOLDOVER : Nat := 3

/-- The lock state (CUR_LOCK.STATE). -/
def lock (s : State) : Nat := rf s Reg.CUR_LOCK Fld.CUR_LOCK_STATE

/-- The servo changes state and raises LOCK_CHANGE (R37). -/
def lockTo (s : State) (st : Nat) : List Act :=
  if lock s = st then [] else .fld Reg.CUR_LOCK Fld.CUR_LOCK_STATE st :: eventNow s 1 6 allTenants 0 (arg [(16, st)])

/-- RATIO_M and RATIO_N of a reader (R83). -/
def ratioM (r : Rd) : Nat := rrf r Reg.CUR_SYNC Fld.CUR_SYNC_RATIO_M + 1
def ratioN (r : Rd) : Nat := rrf r Reg.CUR_SYNC Fld.CUR_SYNC_RATIO_N + 1

/-- The expected interval between reference events as a fraction of nanoseconds (R650). -/
def expected (s : State) : Nat × Nat :=
  match s.cur.refSrc with
  | 1 => ((mapGet ptpDflt s.ptp (if rf s Reg.SRC_PTP_STAT Fld.SRC_PTP_STAT_IN_USE = 1 then 1 else 0)).syncInterval, 1)
  | 4 => (125000, 1)
  | 5 => (1000000000, 1)
  | _ => (1000000000 * (rateHz s.cur.rate).2 * ratioM (rd s), (rateHz s.cur.rate).1 * ratioN (rd s))

/-- Does a measured interval differ from the expected one by more than 0.05 % of the rate (R40)? -/
def rateOff (iv : Nat) (e : Nat × Nat) : Bool :=
  decide (iv * e.2 < 2000 * (max e.1 (iv * e.2) - min e.1 (iv * e.2)))

/-- The distance of a measured frame interval from the frame period of table rate `i`, in 10^-9 of a period. -/
def rateDist (iv i : Nat) : Nat :=
  let p := 1000000000 * (rateHz i).2
  let q := iv * (rateHz i).1
  (max p q - min p q) * 1000000000 / p

/-- CUR_LOCK.REF_RATE: the nearest table rate within 0.05 % of the measured frame rate, or 0x1F (R85). -/
def refRateOf (iv : Nat) : Nat :=
  ((List.range 21).foldl (fun (b : Nat × Nat) i =>
      if !rateOff iv (1000000000 * (rateHz i).2, (rateHz i).1) && decide (rateDist iv i < b.2) then (i, rateDist iv i) else b)
    (0x1F, 1000000000000)).1

/-- The slew limit in ppm (R39, R85). -/
def slewLimit (s : State) : Nat := max 1 (rf s Reg.CUR_SERVO Fld.CUR_SERVO_SLEW_PPM)

/-- The correction that removes a phase error: the clock is slowed when it leads the reference; under references 2 and 3,
where a positive error is a late edge, it is advanced (R39, R651). -/
def slewOf (s : State) (phase : Int) : Int :=
  let m : Int := (min (slewLimit s) (Config.slewFor phase) : Nat)
  let late := s.cur.refSrc == 2 || s.cur.refSrc == 3
  if phase = 0 then 0 else if decide (0 < phase) == late then m else -m

/-- The mean correction of the last 16 s of LOCKED operation (R38). -/
def meanSlew (s : State) : Int :=
  let l := s.cur.slewHist.filter (fun p => decide (now s ≤ p.1 + 16000000000))
  if l.isEmpty then s.cur.slew else (l.map (·.2)).foldl (· + ·) 0 / (l.length : Nat)

/-- A phase error saturated for CUR_PHASE_ERR (R85). -/
def phaseReg (p : Int) : Word := BitVec.ofInt 32 (clampInt p (-2147483647) 2147483647)

/-- The show clock steps by `d` (R39). Under reference 5 the anchor and the instants move with it, so no edge moves in real
time (R651). The instants kept of the reference move too. -/
def stepClock (d : Int) (withSeries : Bool) (c : Cur) : Cur :=
  let mv := fun (t : Nat) => ((t : Int) + d).toNat
  let q := { c with clock := mv c.clock, lastRef := c.lastRef.map mv, due := mv c.due }
  if withSeries then
    { q with anchor := c.anchor + d, edge := mv c.edge, next := mv c.next, lastAlign := mv c.lastAlign,
             camsyncEnd := c.camsyncEnd.map mv, syncOutEnd := c.syncOutEnd.map mv }
  else q

/-- An event of the selected reference: rate, lock state, phase error, slew or step. -/
def referenceEvent (src at_ : Nat) (phase : Int) : List Eff := [
  fun _ => [.clockTo at_],
  fun s =>
    if s.cur.refSrc = 0 ∨ src ≠ s.cur.refSrc then [] else
    let e := expected s
    let iv : Option Nat := if s.cur.missing = 0 then s.cur.lastRef.map (fun l => at_ - l) else none
    let measured := src = 2 ∨ src = 3 ∨ src = 4
    let off := measured && (match iv with | some v => rateOff v e | none => s.cur.mismatch)
    let returns := if s.cur.missing = 0 ∧ s.cur.lastRef.isSome then s.cur.returns + 1 else 1
    let good := if phase.natAbs < 1000 ∧ !off then s.cur.good + 1 else 0
    let st := lock s
    let st' :=
      if st = lkACQUIRE then (if 16 ≤ good then lkLOCKED else lkACQUIRE)
      else if st = lkLOCKED then (if off ∨ 10000 < phase.natAbs then lkHOLDOVER else lkLOCKED)
      else if st = lkHOLDOVER then (if 2 ≤ returns ∧ !off then lkACQUIRE else lkHOLDOVER)
      else st
    let follow := st' = lkACQUIRE ∨ st' = lkLOCKED
    let late := src = 2 ∨ src = 3
    let doStep := decide (rf s Reg.CUR_SERVO Fld.CUR_SERVO_STEP_LIMIT * 1000 < phase.natAbs) && !showing (mode s)
      && decide (st = lkACQUIRE ∨ st = lkLOCKED)
    [.cur (fun c => { c with
        lastRef := some at_, due := at_ + e.1 / e.2, missing := 0
        returns := if st' = lkHOLDOVER then returns else 0
        good := if st' = lkACQUIRE ∧ st = lkACQUIRE then good else 0
        mismatch := off
        lastAlign := if late then c.edge else c.lastAlign
        slew := if follow then (if doStep then 0 else slewOf s phase) else if st = lkLOCKED then meanSlew s else c.slew
        slewHist := if st' = lkLOCKED then
            (c.slewHist.filter (fun p => decide (now s ≤ p.1 + 16000000000))) ++ [(now s, slewOf s phase)]
          else c.slewHist }),
     .reg Reg.CUR_PHASE_ERR (phaseReg phase)]
    ++ (match iv with
        | some v => if late then [.fld Reg.CUR_LOCK Fld.CUR_LOCK_REF_RATE (refRateOf v)] else []
        | none => [])
    ++ (if off ∧ !s.cur.mismatch then eventNow s 1 7 allTenants 0 0 else [])
    ++ lockTo s st'
    ++ (if doStep then [.cur (stepClock (if late then phase else -phase) (src == 5))] else [])]

/-- Half an expected interval after a reference event was due it is counted missing; at the third in a row LOCKED becomes
HOLDOVER (R37, R650). -/
def referenceMissing : List Eff := [
  fun s => if s.cur.refSrc = 0 ∨ s.cur.lastRef = none then [] else
    [.clockTo (s.cur.due + (expected s).1 / (2 * (expected s).2))],
  fun s => if s.cur.refSrc = 0 ∨ s.cur.lastRef = none then [] else
    [.cur (fun c => { c with
        missing := c.missing + 1, good := 0, returns := 0, due := c.due + (expected s).1 / (expected s).2
        slew := if 3 ≤ c.missing + 1 ∧ lock s = lkLOCKED then meanSlew s else c.slew })]
    ++ (if 3 ≤ s.cur.missing + 1 ∧ lock s = lkLOCKED then lockTo s lkHOLDOVER else [])]

/-- The servo when CUR_SYNC.SRC of the pipeline state changes (R37). -/
def servoSelect (s : State) (src : Nat) : List Act :=
  if src = s.cur.refSrc then [] else
  [.cur (fun c => { c with
      refSrc := src, good := 0, missing := 0, returns := 0, mismatch := false, lastRef := none
      slew := if src = 0 then 0 else c.slew }),
   .fld Reg.CUR_LOCK Fld.CUR_LOCK_REF_RATE 0x1F]
  ++ lockTo s (if src = 0 then lkFREE else lkACQUIRE)

/-! ## The series (R42 to R44, R66, R651) -/

/-- The anchor edges of a series under reference 1: the ST 2059-1 alignment points, whole periods from the epoch, plus
CUR_PHASE (R43, log entry 21). -/
def ptpAnchor (r : Rd) : Int := sreg (r Reg.CUR_PHASE)

/-- Is instant `e` an anchor edge of a series of rate `rate` with phase and ratio as a reader gives them (R66)? -/
def isAnchor (s : State) (r : Rd) (rate : Nat) (e : Int) : Bool :=
  if s.cur.refSrc = 1 then
    let a := ptpAnchor r
    decide (edgeOf a rate (firstEdgeIdx a rate e) = e)
  else
    let base : Int := (s.cur.lastAlign : Nat)
    let m := ratioM r
    let k := firstEdgeIdx base rate e
    decide (edgeOf base rate k = e) && decide (k % m = 0)

/-- How many edges after E_{k+1} a changed rate takes over: the first edge of the old series that is an anchor of the new one
within 1 s, `lo` or more after it (R66). -/
def sharedEdge (s : State) (r : Rd) (rate lo : Nat) : Option Nat :=
  (List.range 242).find? (fun j => decide (lo ≤ j) &&
    let e := edgeOf s.cur.anchor s.cur.rate (s.cur.n + 2 + j) + s.cur.offset
    decide (e ≤ edgeOf s.cur.anchor s.cur.rate (s.cur.n + 2) + s.cur.offset + 1000000000) && isAnchor s r rate e)

/-- The series at an edge: a new rate takes over with the edge as its anchor (R66); moved anchors are reached by one longer
curtain, or in a showing mode by curtains longer or shorter by at most SLEW_PPM (R651); otherwise the next edge follows. -/
def nextEdge (s : State) (c : Cur) : Cur :=
  match c.rateNext with
  | some r =>
    let a : Int := if c.refSrc = 1 then ptpAnchor (rd s) else (c.next : Nat)
    let n := if c.refSrc = 1 then firstEdgeIdx a r (c.next : Nat) else 0
    { c with rate := r, anchor := a, offset := 0, n := n, edge := c.next, next := (edgeOf a r (n + 1)).toNat,
             rateNext := none, stretch := 0 }
  | none =>
    if c.moveNext then
      let a : Int := if c.refSrc = 4 then (s.cmp.leadEdge : Nat) else ptpAnchor (rd s)
      if showing (mode s) then
        let k := firstEdgeIdx a c.rate (c.next : Nat)
        let k' := if decide ((c.next : Int) - edgeOf a c.rate (k - 1) < edgeOf a c.rate k - (c.next : Int)) then k - 1 else k
        { c with anchor := a, n := k', offset := (c.next : Int) - edgeOf a c.rate k', edge := c.next,
                 next := (edgeOf a c.rate (k' + 1) + ((c.next : Int) - edgeOf a c.rate k')).toNat, moveNext := false, stretch := 0 }
      else
        let k := firstEdgeIdx a c.rate ((c.next : Int) + (period c.rate : Nat))
        { c with anchor := a, offset := 0, n := k - 1, edge := c.next, next := (edgeOf a c.rate k).toNat, moveNext := false,
                 stretch := (edgeOf a c.rate k).toNat - (c.next + period c.rate) }
    else
      let d : Int := (period c.rate * slewLimit s / 1000000 : Nat)
      let off := if 0 < c.offset then max 0 (c.offset - d) else min 0 (c.offset + d)
      { c with n := c.n + 1, offset := off, edge := c.next, next := (edgeOf c.anchor c.rate (c.n + 2) + off).toNat, stretch := 0 }

/-- The series starts, or resumes after a span without curtains: its first edge lies at or after `t`, and CUR_NUM advances by
the edges that would have occurred (R44, R80, R651). -/
def resumeSeries (t : Nat) : Eff := fun s =>
  let fresh := s.sys.coldCount && s.cur.refSrc != 1
  let a : Int := if s.cur.refSrc = 1 then ptpAnchor (rd s) else if fresh then ((t + Config.firstEdgeDelay s.free : Nat) : Int)
    else s.cur.anchor
  let n := if fresh then 0 else firstEdgeIdx a s.cur.rate (t : Nat)
  let passed := if s.sys.coldCount then 0 else n - 1 - s.cur.n
  [.cur (fun c => { c with running := true, anchor := a, offset := 0, n := n - 1, next := (edgeOf a c.rate n).toNat,
                           closed := false, decided := false, interval := false, stretch := 0, rateNext := none, moveNext := false }),
   .draw,
   .inc Reg.CUR_NUM Fld.CUR_NUM_NUM passed]

/-- Curtains stop being generated; outputs held inactive unless `keepSync` (R81). -/
def stopSeries (keepSync : Bool) : Eff := fun _ =>
  [.cur (fun c => { c with running := false, camsync := if keepSync then c.camsync else 0,
                           syncOut := if keepSync then c.syncOut else 0 })]

/-! ## One tick of the fabric clock (R34, log entry 1) -/

/-- The show clock advances on the fabric clock: 5/6 ns, corrected by the slew. -/
def tick (c : Cur) : Cur :=
  let f := c.frac + (5 * ((1000000 : Int) + c.slew)).toNat
  { c with clock := c.clock + f / 6000000, frac := f % 6000000 }

/-! ## CAMSYNC and SYNC_OUT (R52 to R56, R81) -/

/-- The instant at or after `t` among three, the earliest that qualifies. -/
def firstAt (t : Nat) (l : List Int) : Option Nat :=
  (l.filter (fun x => decide ((t : Int) ≤ x))).foldl (fun b x => match b with
    | none => some x.toNat
    | some y => some (min y x.toNat)) none

/-- Are the outputs alive: while curtains are generated, and in LOAD on the series in force before it (R81)? -/
def syncLive (s : State) : Bool := s.cur.running || mode s == mLOAD

/-- The instants of slot `j` plus a phase, in this curtain, the next and the one after. -/
def slotInstants (s : State) (j : Nat) (phase : Int) : List Int :=
  let st := slotStart (rdLamp s) s.cur.rate j
  [(s.cur.edge + st : Nat) + phase, (s.cur.next + st : Nat) + phase, (s.cur.next + period s.cur.rate + st : Nat) + phase]

/-- CAMSYNC m fires for slot `j` under the settings at the lamps (R52, R56). -/
def camsyncFire (m j : Nat) : List Eff := [
  fun s =>
    let r := rdLamp s
    let c := r (Reg.CUR_CAMSYNC_CTRL m)
    let hit := if getF c Fld.CUR_CAMSYNC_CTRL_MODE = 1 then bitsOf (getF c Fld.CUR_CAMSYNC_CTRL_SLOT_MASK) j j == 1
      else slotKind r j == 8 + m
    if syncLive s && getF c Fld.CUR_CAMSYNC_CTRL_EN == 1 && hit && decide (j < slotCount r) then
      match firstAt (now s) (slotInstants s j (sreg (r (Reg.CUR_CAMSYNC_PHASE m)))) with
      | some t => [.clockTo t, .cur (fun q => { q with
                     camsync := setBit q.camsync m true
                     camsyncEnd := q.camsyncEnd.set m (t + getF (r (Reg.CUR_CAMSYNC_WIDTH m)) Fld.CUR_CAMSYNC_WIDTH_WIDTH) })]
      | none => []
    else []]

/-- CAMSYNC m returns inactive when its width has elapsed. -/
def camsyncEnd (m : Nat) : Eff := fun s =>
  if bit s.cur.camsync m then
    [.clockTo (s.cur.camsyncEnd.getD m 0), .cur (fun q => { q with camsync := setBit q.camsync m false })]
  else []

/-- The instants of the event SYNC_OUT j is set to, plus its phase; `j` is the slot of event 1 (R54, R55). -/
def syncInstants (s : State) (r : Rd) (ev j : Nat) (phase : Int) : List Int :=
  let p := period s.cur.rate
  match ev with
  | 0 => [(s.cur.edge : Nat) + phase, (s.cur.next : Nat) + phase, (s.cur.next + p : Nat) + phase]
  | 1 => slotInstants s j phase
  | 2 => [(instD s : Nat) + phase, (instD s + p : Nat) + phase, (instD s + 2 * p : Nat) + phase]
  | 3 => let b := now s / 1000000000
    [(b * 1000000000 : Nat) + phase, ((b + 1) * 1000000000 : Nat) + phase, ((b + 2) * 1000000000 : Nat) + phase]
  | _ => let _ := r; [(instC s : Nat) + phase, (instC s + p : Nat) + phase, (instC s + 2 * p : Nat) + phase]

/-- SYNC_OUT o fires at its selected event (R54, R56, R81). -/
def syncOutFire (o j : Nat) : List Eff := [
  fun s =>
    let r := rdLamp s
    let c := r (Reg.CUR_SYNCOUT_CTRL o)
    let ev := getF c Fld.CUR_SYNCOUT_CTRL_EVENT
    let ok := if ev = 1 then bitsOf (getF c Fld.CUR_SYNCOUT_CTRL_SLOT_MASK) j j == 1 && decide (j < slotCount r) else true
    let dead := mode s == mLOAD && (ev == 2 || ev == 4)
    if syncLive s && getF c Fld.CUR_SYNCOUT_CTRL_EN == 1 && ok && !dead then
      match firstAt (now s) (syncInstants s r ev j (sreg (r (Reg.CUR_SYNCOUT_PHASE o)))) with
      | some t => [.clockTo t, .cur (fun q => { q with
                     syncOut := setBit q.syncOut o true
                     syncOutEnd := q.syncOutEnd.set o (t + getF (r (Reg.CUR_SYNCOUT_WIDTH o)) Fld.CUR_SYNCOUT_WIDTH_WIDTH) })]
      | none => []
    else []]

/-- SYNC_OUT o returns inactive when its width has elapsed. -/
def syncOutEnd (o : Nat) : Eff := fun s =>
  if bit s.cur.syncOut o then
    [.clockTo (s.cur.syncOutEnd.getD o 0), .cur (fun q => { q with syncOut := setBit q.syncOut o false })]
  else []

/-- The level of a CAMSYNC output at its ball: POL is its active level, 0 high and 1 low (R52, R88). -/
def camsyncLevel (s : State) (m : Nat) : Bool :=
  bit s.cur.camsync m == (getF (rdLamp s (Reg.CUR_CAMSYNC_CTRL m)) Fld.CUR_CAMSYNC_CTRL_POL == 0)

/-! ## Commit checks of this chapter (R41, R46, R48, R53, R55, R57, R59, R83, R84, R88) -/

/-- Does a staged list write a register in a range of addresses? -/
def touches (l : List Staged) (lo hi : Nat) : Bool := l.any (fun e => decide (lo ≤ e.addr ∧ e.addr < hi))

/-- Do two intervals of a curtain meet, the second starting at `b0` with length `bl`, over this curtain and its neighbours? -/
def overlaps (a0 al : Int) (b0 bl p : Int) : Bool :=
  [-1, 0, 1].any (fun k => decide (a0 < b0 + k * p + bl ∧ b0 + k * p < a0 + al))

/-- The slot starts that CAMSYNC m follows under a reader. -/
def camsyncSlots (r : Rd) (m : Nat) : List Nat :=
  (List.range (slotCount r)).filter (fun j =>
    if rrf r (Reg.CUR_CAMSYNC_CTRL m) Fld.CUR_CAMSYNC_CTRL_MODE = 1 then
      bitsOf (rrf r (Reg.CUR_CAMSYNC_CTRL m) Fld.CUR_CAMSYNC_CTRL_SLOT_MASK) j j == 1
    else slotKind r j == 8 + m)

/-- A CAMSYNC whose active interval meets a REHEARSAL slot (R57). -/
def camsyncClash (r : Rd) (m : Nat) : Bool :=
  let rate := rrf r Reg.CUR_RATE Fld.CUR_RATE_RATE
  let p := period rate
  rrf r (Reg.CUR_CAMSYNC_CTRL m) Fld.CUR_CAMSYNC_CTRL_EN == 1 &&
  (camsyncSlots r m).any (fun j => (List.range (slotCount r)).any (fun q => slotKind r q == 2 &&
    overlaps ((slotStart r rate j : Nat) + sreg (r (Reg.CUR_CAMSYNC_PHASE m)))
      (rrf r (Reg.CUR_CAMSYNC_WIDTH m) Fld.CUR_CAMSYNC_WIDTH_WIDTH : Nat) (slotStart r rate q : Nat)
      ((slotLen r rate p q : Nat) + 1) (p : Nat)))

/-- The period of a SYNC_OUT's event (R55). -/
def syncOutPeriod (r : Rd) (o : Nat) : Nat :=
  if rrf r (Reg.CUR_SYNCOUT_CTRL o) Fld.CUR_SYNCOUT_CTRL_EVENT = 3 then 1000000000
  else period (rrf r Reg.CUR_RATE Fld.CUR_RATE_RATE)

/-- The rules of 02_curtain.md that a commit breaks; `l` are its fields, `r` the state it would make. -/
def curBreaks (l : List Staged) (r : Rd) : Bool :=
  let rate := rrf r Reg.CUR_RATE Fld.CUR_RATE_RATE
  let p := period rate
  let n := slotCount r
  let plan := touches l Reg.CUR_SLOT_PLAN 0x001000A0 || touches l Reg.CUR_RATE (Reg.CUR_RATE + 4)
  (touches l Reg.CUR_RATE (Reg.CUR_RATE + 4) && decide (20 < rate))
  || (touches l Reg.CUR_SYNC (Reg.CUR_SYNC + 4) && decide (5 < rrf r Reg.CUR_SYNC Fld.CUR_SYNC_SRC))
  || ((touches l Reg.CUR_PHASE (Reg.CUR_PHASE + 4) || touches l Reg.CUR_RATE (Reg.CUR_RATE + 4))
      && decide (p ≤ 2 * (sreg (r Reg.CUR_PHASE)).natAbs))
  || (touches l Reg.CUR_TIMING (Reg.CUR_TIMING + 4)
      && (decide (tQuiet r < 40000) || decide (160000 < tQuiet r) || decide (tRescue r < 50000) || decide (1000000 < tRescue r)))
  || (plan && ((List.range n).any (fun j => decide (3 ≤ slotKind r j ∧ slotKind r j ≤ 7)
        || decide (slotLen r rate (periodFloor rate) j < 500000))))
  || ((List.range 8).any (fun m => touches l (Reg.CUR_CAMSYNC_CTRL m) (Reg.CUR_CAMSYNC_CTRL m + 12)
      && (decide (1 < rrf r (Reg.CUR_CAMSYNC_CTRL m) Fld.CUR_CAMSYNC_CTRL_MODE)
        || decide (p ≤ (sreg (r (Reg.CUR_CAMSYNC_PHASE m))).natAbs)
        || decide (rrf r (Reg.CUR_CAMSYNC_WIDTH m) Fld.CUR_CAMSYNC_WIDTH_WIDTH < 10)
        || decide (p < rrf r (Reg.CUR_CAMSYNC_WIDTH m) Fld.CUR_CAMSYNC_WIDTH_WIDTH))))
  || ((List.range 4).any (fun o => touches l (Reg.CUR_SYNCOUT_CTRL o) (Reg.CUR_SYNCOUT_CTRL o + 12)
      && (decide (4 < rrf r (Reg.CUR_SYNCOUT_CTRL o) Fld.CUR_SYNCOUT_CTRL_EVENT)
        || decide (syncOutPeriod r o ≤ (sreg (r (Reg.CUR_SYNCOUT_PHASE o))).natAbs)
        || decide (rrf r (Reg.CUR_SYNCOUT_WIDTH o) Fld.CUR_SYNCOUT_WIDTH_WIDTH < 10)
        || decide (p < rrf r (Reg.CUR_SYNCOUT_WIDTH o) Fld.CUR_SYNCOUT_WIDTH_WIDTH))))
  || ((plan || (List.range 8).any (fun m => touches l (Reg.CUR_CAMSYNC_CTRL m) (Reg.CUR_CAMSYNC_CTRL m + 12)))
      && (List.range 8).any (camsyncClash r))

end Sys2Proof.Machine
end

