-- ==== Sys2Proof/Machine/Banks.lean ====
section
/-! DEFINITION. Reassigning ownable things (R438 to R440, R565, R566); the banks: owners, refusals, power states, check bits,
scrubbing, atomics (R435 to R450); the DRAM controller: capacity, mapping, errors, interface delays, training primitives
(R451 to R464). -/

namespace Sys2Proof.Machine

/-! ## Ownership -/

/-- A thing is reassigned: where the new owner differs, its epoch increments and an OWNER_CHANGE record goes to T0 and to the
former and the new owner (R440, R566, R583). -/
def reassign (s : State) (kind obj owner by_ : Nat) : List Act :=
  let old := ownerOf s kind obj
  if old = owner then [] else
  let ep := (epochOf s kind obj + 1) % 65536
  [.reg (ownReg kind obj) (putF (putF 0 Fld.TEN_OWN_TILE_EPOCH ep) Fld.TEN_OWN_TILE_OWNER owner)]
  ++ logSystem s (0xB50 + by_) 5 (0 :: ([old, owner].filter (fun t => decide (t < 8))))
      (arg [(16, kind), (16, obj), (16, owner), (16, ep)])

/-- The owner of the MZ-9432's missing quadrant: does the part have quadrant `q` (R2)? -/
def quadPresent (s : State) (q : Nat) : Bool := decide (q < 3) || s.fuses.is9440

/-- May a bank have this owner (R438)? -/
def bankAllows (n code : Nat) : Bool :=
  if n < 384 then code == 0xFF || code == 0x10 + n / 24
  else
    let q := (n - 384) / 32
    code == 0xFF || decide (code < 8) || code == 0x20 || (decide (0x10 ≤ code ∧ code < 0x20) && (code - 0x10) / 4 == q)
      || (decide (0x30 ≤ code ∧ code < 0x40) && (code - 0x30) / 4 == q) || code == 0x40 + q

/-- The owner code of a bank. -/
def bankOwner (s : State) (n : Nat) : Nat := rf s (Reg.BANK_OWNER n) Fld.BANK_OWNER_OWNER

/-- The tenant that stands behind a bank's owner: the owning tenant, or the tenant that owns the owning cluster. -/
def bankTenant (s : State) (n : Nat) : Nat :=
  let o := bankOwner s n
  if 0x10 ≤ o ∧ o < 0x20 then ownerOf s 5 (o - 0x10) else o

/-- May tenant `t` write BANK_OWNER or BANK_PWR of a bank (R439, R442)? -/
def mayBank (s : State) (t n : Nat) : Bool := t == 0 || t == bankTenant s n

/-- A write of BANK_OWNER (R438 to R440). -/
def bankOwnerWrite (t n : Nat) (v : Word) : Eff := fun s =>
  if !mayBank s t n then tenantFault s t stNOT_OWNER (Reg.BANK_OWNER n)
  else if !bankAllows n (getF v Fld.BANK_OWNER_OWNER) then tenantFault s t stBAD_ARG (Reg.BANK_OWNER n)
  else reassign s 4 n (getF v Fld.BANK_OWNER_OWNER) t

/-! ## Power states (R442 to R444) -/

/-- The power state of a bank: 0 OFF, 1 RETENTION, 2 ON, 3 CHANGING. -/
def bankState (s : State) (n : Nat) : Nat := rf s (Reg.BANK_PWR n) Fld.BANK_PWR_STATE
def bankTarget (s : State) (n : Nat) : Nat := rf s (Reg.BANK_PWR n) Fld.BANK_PWR_PWR
def bankOut (s : State) (n : Nat) : Bool := rf s (Reg.BANK_PWR n) Fld.BANK_PWR_MAPPED_OUT == 1

/-- The contents of a bank are lost: every word reads 0 with valid check bits (R442). -/
def bankLose (n : Nat) : List Act :=
  [.sramDrop (0x40000 * n) 0x40000,
   .mem (fun m => { m with errs := mapDrop m.errs (0x8000 * n) 0x8000 })]

/-- A bank takes up the move to its target (R442); a mapped-out bank stays OFF (R449). -/
def bankMove (s : State) (n : Nat) : List Act :=
  if bankOut s n || bankState s n == bankTarget s n then [] else [.fld (Reg.BANK_PWR n) Fld.BANK_PWR_STATE 3]

/-- A bank completes its move (R442). -/
def bankArrive (n : Nat) : Eff := fun s =>
  if bankState s n = 3 then
    .fld (Reg.BANK_PWR n) Fld.BANK_PWR_STATE (bankTarget s n) :: (if bankTarget s n = 0 then bankLose n else [])
  else []

/-- A write of BANK_PWR.PWR (R442, R466). -/
def bankPwrWrite (t n : Nat) (v : Word) : List Eff := [
  fun s =>
    if !mayBank s t n then tenantFault s t stNOT_OWNER (Reg.BANK_PWR n)
    else if getF v Fld.BANK_PWR_PWR = 3 then tenantFault s t stBAD_ARG (Reg.BANK_PWR n)
    else [.fld (Reg.BANK_PWR n) Fld.BANK_PWR_PWR (getF v Fld.BANK_PWR_PWR)],
  fun s => bankMove s n]

/-! ## Access (R225, R435, R441, R447) -/

/-- The causes of MEM_REFUSE_LAST (R466). -/
def caNOT_OWNER : Nat := 0
def caASLEEP : Nat := 1
def caNO_PATH : Nat := 2
def caMAPPED_OUT : Nat := 3

/-- An access to a bank that moves to ON waits until it is there (R443). -/
def bankAwake (s : State) (n : Nat) : Bool := bankState s n == 2 || (bankState s n == 3 && bankTarget s n == 2)

/-- Why an access under an owner code is refused; the first cause that applies (R441). `path`: the master has a path. -/
def bankCause (s : State) (n code : Nat) (path : Bool) : Option Nat :=
  if !path then some caNO_PATH
  else if bankOut s n then some caMAPPED_OUT
  else if !bankAwake s n then some caASLEEP
  else if bankOwner s n != code then some caNOT_OWNER
  else none

/-- A refusal is counted, recorded and reported (R441). -/
def bankRefused (s : State) (n master cause off : Nat) : List Act :=
  [.inc Reg.MEM_REFUSE_CNT Fld.MEM_REFUSE_CNT_COUNT 1,
   .reg Reg.MEM_REFUSE_LAST (putF (putF (putF 0 Fld.MEM_REFUSE_LAST_CAUSE cause) Fld.MEM_REFUSE_LAST_MASTER master)
     Fld.MEM_REFUSE_LAST_BANK n),
   .reg Reg.MEM_REFUSE_ADDR (putF 0 Fld.MEM_REFUSE_ADDR_OFFSET off)]
  ++ eventLv s 10 0 3 (withT0 (bankTenant s n)) (0x900 + n) (arg [(16, n), (16, master), (16, cause)])

/-- The error state of the 8-byte word at an SRAM address (0 none, 1 one bit, 2 uncorrectable). -/
def wordErr (s : State) (a : Nat) : Nat := mapGet zeroNat s.mem.errs (a / 8)

/-- The words of an SRAM range. -/
def wordsOf (a n : Nat) : List Nat := (List.range ((a + n + 7) / 8 - a / 8)).map (fun k => 8 * (a / 8 + k))

/-- Does a read of an SRAM range meet an uncorrectable error (R447)? -/
def bankUE (s : State) (a n : Nat) : Bool := (wordsOf a n).any (fun w => wordErr s w == 2)

/-- What reading a word does to it and reports: corrected and counted, or BANK_ECC (R447). -/
def wordRead (s : State) (w : Nat) : List Act :=
  let n := w / 0x40000
  match wordErr s w with
  | 0 => []
  | 1 => [.inc Reg.MEM_ECC_CORR Fld.MEM_ECC_CORR_COUNT 1,
          .mem (fun m => { m with errs := mapPut zeroNat m.errs (w / 8) 0 })]
  | _ => [.inc Reg.MEM_ECC_UE Fld.MEM_ECC_UE_COUNT 1,
          .mem (fun m => { m with ueThis := mapPut zeroNat m.ueThis n (mapGet zeroNat m.ueThis n + 1) })]
         ++ eventLv s 10 1 2 (withT0 (bankTenant s n)) (0x900 + n) (arg [(16, n), (32, w % 0x40000)])

/-- Reading an SRAM range (R447). -/
def bankReadActs (s : State) (a n : Nat) : List Act := (wordsOf a n).flatMap (wordRead s)

/-- The words that a write covers only in part: a write reads those first (R437). -/
def partialWords (a n : Nat) : List Nat := (wordsOf a n).filter (fun w => decide (w < a ∨ a + n < w + 8))

/-- Does a write meet an uncorrectable error in the read it makes first (R437)? -/
def bankWriteUE (s : State) (a : Nat) (bs : List Byte) : Bool :=
  (partialWords a bs.length).any (fun w => wordErr s w == 2)

/-- A write of bytes to an SRAM range: a word covered in part that is uncorrectable keeps its contents; whole words are
repaired (R437). -/
def bankWrite (s : State) (a : Nat) (bs : List Byte) : List Act :=
  (partialWords a bs.length).flatMap (wordRead s)
  ++ (if bankWriteUE s a bs then
        (wordsOf a bs.length).flatMap (fun w =>
          if wordErr s w = 2 ∧ (w < a ∨ a + bs.length < w + 8) then [] else
          [.sram (max w a) ((bs.drop (w - a)).take (min (w + 8) (a + bs.length) - max w a))])
      else [.sram a bs])
  ++ [.mem (fun m => { m with errs := (wordsOf a bs.length).foldl (fun e w =>
        if a ≤ w ∧ w + 8 ≤ a + bs.length then mapPut zeroNat e (w / 8) 0 else e) m.errs })]

/-- A scrub read of a word through the service port: with `found`, an upset that the word has taken (1 one bit, 2
uncorrectable), it is seen and acted on (R447, R448). -/
def scrubRead (n word found : Nat) : List Eff := [
  fun s => if rf s Reg.MEM_CTRL Fld.MEM_CTRL_SCRUB = 1 ∧ bankState s n = 2 ∧ 0 < found then
      [.mem (fun m => { m with errs := mapPut zeroNat m.errs (0x8000 * n + word) (max found (mapGet zeroNat m.errs (0x8000 * n + word))) })]
    else [],
  fun s => if rf s Reg.MEM_CTRL Fld.MEM_CTRL_SCRUB = 1 ∧ bankState s n = 2 then wordRead s (0x40000 * n + 8 * word) else []]

/-- Banks that reach UE_LIMIT in a curtain period are mapped out at the next edge; the held bits of a lost held-plane bank are
cleared by the caller (R449). -/
def banksToMapOut (s : State) : List Nat :=
  (s.mem.ueThis.filter (fun e => decide (max 1 (rf s Reg.MEM_CTRL Fld.MEM_CTRL_UE_LIMIT) ≤ e.2) && !bankOut s e.1)).map (·.1)

/-- Those banks go OFF and are marked, with BANK_MAPPED_OUT; the period's counts start anew (R449). -/
def bankEdge : Eff := fun s =>
  (banksToMapOut s).flatMap (fun n =>
    [.fld (Reg.BANK_PWR n) Fld.BANK_PWR_MAPPED_OUT 1, .fld (Reg.BANK_PWR n) Fld.BANK_PWR_STATE 0] ++ bankLose n
    ++ eventLv s 10 2 3 (withT0 (bankTenant s n)) (0x900 + n) (arg [(16, n)]))
  ++ [.mem (fun m => { m with ueThis := [] })]

/-! ## The SRAM bank window (R436, R446) -/

/-- The tenant's access to an address of the window: its cause of refusal by the bank. -/
def windowCause (s : State) (t off : Nat) : Option Nat :=
  bankCause s (off / 0x40000) t (decide (384 ≤ off / 0x40000))

/-- A refused window access (R441). -/
def windowRefused (s : State) (t off cause : Nat) : List Act :=
  bankRefused s (off / 0x40000) (172 + t) cause (off % 0x40000) ++ tenantFault s t stNOT_OWNER (0x08000000 + off)

/-- The privilege SRAM_WIN (R569). -/
def hasPriv (s : State) (t p : Nat) : Bool := t == 0 || bitsOf (rd s (Reg.TEN_PRIV t)).toNat p p == 1

/-- Bits of TEN_PRIV (R569). -/
def pvSRAM_WIN : Nat := 2

/-- A 32-bit PCIe atomic at the window: FetchAdd, or Swap (R446). `bytes` is the operand width. The old word is read back. -/
def windowAtomic (swap : Bool) (t addr bytes : Nat) (v : Word) : List Eff := [
  fun s =>
    let off := addr - 0x08000000
    if addr < 0x08000000 ∨ 0x10000000 ≤ addr then tenantFault s t stBAD_ARG addr ++ [.out (fun o => { o with readData := 0 })]
    else if !hasPriv s t pvSRAM_WIN then tenantFault s t stNOT_OWNER addr ++ [.out (fun o => { o with readData := 0 })]
    else if addr % 4 ≠ 0 ∨ bytes ≠ 4 then tenantFault s t stBAD_ARG addr ++ [.out (fun o => { o with readData := 0 })]
    else match windowCause s t off with
    | some c => windowRefused s t off c ++ [.out (fun o => { o with readData := 0 })]
    | none =>
      seqE [bankArrive (off / 0x40000),
        fun s =>
          if bankUE s off 4 then bankReadActs s off 4 ++ [.draw, .out (fun o => { o with poisoned := o.poisoned + 1, readData := BitVec.ofNat 32 (leValue
              ((List.range 4).map (Config.undefinedByte s.free))) })]
          else
            let old := leValue (sramRead s off 4)
            bankWrite s off (leBytes 4 (if swap then v.toNat else old + v.toNat)) ++ [.out (fun o => { o with readData := BitVec.ofNat 32 old })]] s]

/-! ## DRAM (R451 to R456) -/

/-- Channels in service, ascending. -/
def channels (s : State) : List Nat :=
  (List.range 8).filter (fun c => bitsOf (rf s Reg.DDR_CFG Fld.DDR_CFG_CHANNELS) c c == 1 && (decide (c < 6) || s.fuses.is9440))

/-- Die density in Gb. -/
def dieGb (d : Nat) : Nat := match d with | 0 => 8 | 1 => 12 | 2 => 16 | 3 => 24 | 4 => 32 | _ => 0

/-- Installed capacity in MiB for a number of channels (R451). -/
def installedMiB (cfg : Word) (nch : Nat) : Nat :=
  nch * 2 * dieGb (getF cfg Fld.DDR_CFG_DENSITY) * 128 * (getF cfg Fld.DDR_CFG_RANKS + 1)

/-- Usable capacity in MiB (R455). -/
def usableMiB (cfg : Word) (nch : Nat) : Nat :=
  if getF cfg Fld.DDR_CFG_ECC = 1 then installedMiB cfg nch * 7 / 8 else installedMiB cfg nch

/-- The first address beyond the usable capacity (DDR_CAP). -/
def dramCap (s : State) : Nat := rf s Reg.DDR_CAP Fld.DDR_CAP_MIB * 0x100000

/-- The channel of a DRAM address and its granule index there (R452). -/
def dramChannel (s : State) (a : Nat) : Nat × Nat :=
  let cs := channels s
  let n := max 1 cs.length
  (cs.getD (a / 256 % n) 0, a / 256 / n)

/-- The channel address of a DRAM address (R453), and of its check byte with inline ECC. -/
def channelAddr (s : State) (a : Nat) : Nat :=
  let i := (dramChannel s a).2
  if rf s Reg.DDR_CFG Fld.DDR_CFG_ECC = 1 then 4096 * (i / 14) + 256 * (i % 14) + a % 256 else 256 * i + a % 256
def checkAddr (s : State) (a : Nat) : Nat :=
  let i := (dramChannel s a).2
  4096 * (i / 14) + 3584 + 32 * (i % 14) + a % 256 / 8

/-- Row, bank group, bank and rank of a channel address (R454). -/
def rowBank (cfg : Word) (ac : Nat) : Nat × Nat × Nat × Nat :=
  let d := getF cfg Fld.DDR_CFG_DENSITY
  let r := if d = 0 then 15 else if d = 1 ∨ d = 2 then 16 else 17
  let three := d == 1 || d == 3
  let cr := 3 * 2 ^ (r + 14)
  let rank := if getF cfg Fld.DDR_CFG_RANKS = 0 then 0 else if three then (if cr ≤ ac then 1 else 0) else bitsOf ac (16 + r) (16 + r)
  let a := if three && getF cfg Fld.DDR_CFG_RANKS == 1 && decide (cr ≤ ac) then ac - cr else ac
  let row := bitsOf a (15 + r) 16
  (row, (bitsOf a 15 14) ^^^ (bitsOf row 3 2), (bitsOf a 13 12) ^^^ (bitsOf row 1 0), rank)

/-- Does a DRAM range reach past the usable capacity (R455)? -/
def dramRange (s : State) (a n : Nat) : Bool := decide (dramCap s < a + n)

/-- The uncorrectable words of a range, with inline ECC (R456). -/
def dramBadWords (s : State) (a n : Nat) : List Nat :=
  if rf s Reg.DDR_CFG Fld.DDR_CFG_ECC = 1 then (wordsOf a n).filter (fun w => mapGet falseFlag s.ddr.bad (w / 8)) else []

/-- Is a read of a DRAM range told to its master as an uncorrectable error (R455, R456)? -/
def dramUE (s : State) (a n : Nat) : Bool := dramRange s a n || !(dramBadWords s a n).isEmpty

/-- What a read of a DRAM range reports (R455, R456). -/
def dramReadActs (s : State) (a n : Nat) : List Act :=
  (if dramRange s a n then [.fld Reg.DDR_ERR Fld.DDR_ERR_CAUSE 2] else [])
  ++ (dramBadWords s a n).flatMap (fun w =>
      let c := (dramChannel s w).1
      [.inc (Reg.CH_UE c) Fld.CH_UE_COUNT 1, .reg (Reg.CH_UE_ADDR_LO c) (BitVec.ofNat 32 w),
       .reg (Reg.CH_UE_ADDR_HI c) (putF 0 Fld.CH_UE_ADDR_HI_ADDR (w / 2 ^ 32)), .fld Reg.DDR_ERR Fld.DDR_ERR_CAUSE 1]
      ++ eventLv s 11 0 2 allTenants (0xB00 + c) (arg [(32, w), (16, c)]))

/-- The bytes of a DRAM range: those at or above the usable capacity read 0 (R455). -/
def dramBytes (s : State) (a n : Nat) : List Byte :=
  dramRead s a (min n (dramCap s - a)) ++ List.replicate (n - min n (dramCap s - a)) 0

/-- A write to a DRAM range: nothing is written at or above the usable capacity (R455); words written whole are good again. -/
def dramStore (s : State) (a : Nat) (bs : List Byte) : List Act :=
  [.dram a (bs.take (dramCap s - a)),
   .ddr (fun d => { d with bad := (wordsOf a bs.length).foldl (fun m w =>
      if a ≤ w ∧ w + 8 ≤ a + bs.length then mapPut falseFlag m (w / 8) false else m) d.bad })]
  ++ (if dramRange s a bs.length then [.fld Reg.DDR_ERR Fld.DDR_ERR_CAUSE 2] else [])

/-! ## Interface delays and training (R459 to R462) -/

/-- The delay registers of a channel (R466). -/
def delayRegs (c : Nat) : List Nat :=
  (List.range 8).map (Reg.DLY_CA c) ++ [Reg.DLY_WCK c] ++ (List.range 36).map (Reg.DLY_WR c) ++ (List.range 36).map (Reg.DLY_RD c)

/-- CH_APPLY: the channel's shadow delays are requested (R461). -/
def chApply (c : Nat) (v : Word) : Eff := fun _ =>
  if getF v Fld.CH_APPLY_GO = 1 then [.fld (Reg.CH_STAT c) Fld.CH_STAT_PENDING 1] else []

/-- At the all-bank refresh they take effect (R461). -/
def delayApplied (c : Nat) : Eff := fun s =>
  if rf s (Reg.CH_STAT c) Fld.CH_STAT_PENDING = 1 then
    [.fld (Reg.CH_STAT c) Fld.CH_STAT_PENDING 0,
     .ddr (fun d => { d with applied := (delayRegs c).foldl (fun m a => mapPut zeroWord m a (rd s a)) d.applied })]
    ++ eventNow s 11 1 allTenants (0xB00 + c) (arg [(16, c)])
  else []

/-- May a training primitive start: in SHOW and SLOTTED SHOW only between D and E (R460)? -/
def trainOk (s : State) : Bool := !showing (mode s) || s.cur.interval

/-- A primitive ends: DONE (R466). -/
def trainDone : List Act := [.fld Reg.DDR_TRN_CTRL Fld.DDR_TRN_CTRL_DONE 1]

/-- A comparing primitive reports its mismatch mask: DQ0 to DQ31, DMI0 to DMI3 (R460). -/
def trainCompare (mask : Nat) : Eff := fun s =>
  if trainOk s then
    [.reg Reg.DDR_TRN_ERR_LO (BitVec.ofNat 32 mask), .reg Reg.DDR_TRN_ERR_HI (putF 0 Fld.DDR_TRN_ERR_HI_MASK (mask / 2 ^ 32))]
      ++ trainDone
  else []

/-- DDR_TRN_CTRL written with GO (R460, R466): DONE falls until the primitive has run. -/
def trainGo (v : Word) : Eff := fun _ =>
  if getF v Fld.DDR_TRN_CTRL_GO = 1 then [.fld Reg.DDR_TRN_CTRL Fld.DDR_TRN_CTRL_DONE 0] else []

/-! ## The commands -/

/-- BANK_OWNER_WRITE (R438 to R440). -/
def execBankOwnerWrite (a : Acc) (n : Fin 512) (v : Word) (s : State) : Out := 
  done s (gate a (Reg.BANK_OWNER n) true false (fun u => bankOwnerWrite u n v) s)

/-- BANK_PWR_WRITE (R442). -/
def execBankPwrWrite (a : Acc) (n : Fin 512) (v : Word) (s : State) : Out := 
  done s (gate a (Reg.BANK_PWR n) true false (fun u => seqE (bankPwrWrite u n v)) s)

/-- BANK_POWER_MOVE_DONE (R442). -/
def execBankPowerMoveDone (n : Fin 512) (s : State) : Out := done s (bankArrive n s)

/-- BANK_SCRUB_READ (R448). -/
def execBankScrubRead (n : Fin 512) (word : Fin 32768) (found : Fin 3) (s : State) : Out := doneAll s (scrubRead n word found)

/-- ATOMIC_FETCHADD (R446). -/
def execAtomicFetchadd (a : Acc) (addr bytes : Nat) (v : Word) (s : State) : Out := 
  done s (gate a addr true true (fun u => seqE (windowAtomic false u addr bytes v)) s)

/-- ATOMIC_SWAP (R446). -/
def execAtomicSwap (a : Acc) (addr bytes : Nat) (v : Word) (s : State) : Out := 
  done s (gate a addr true true (fun u => seqE (windowAtomic true u addr bytes v)) s)

/-- MRW: a mode register of a channel's DRAMs is written (R460). -/
def execMrw (c : Fin 8) (mr data : Byte) (s : State) : Out :=
  done s (if trainOk s then
    .ddr (fun d => { d with modeRegs := mapPut noByte d.modeRegs (256 * c + mr.toNat) (some data) }) :: trainDone else [])

/-- MRR: a mode register is read into DDR_TRN_ARG (R460, R466). -/
def execMrr (c : Fin 8) (mr : Byte) (s : State) : Out :=
  done s (if trainOk s then
    .fld Reg.DDR_TRN_ARG Fld.DDR_TRN_ARG_RESULT
      (match mapGet noByte s.ddr.modeRegs (256 * c + mr.toNat) with
       | some b => b.toNat
       | none => (Config.modeRegister c mr.toNat).toNat) :: trainDone else [])

/-- WFF_RFF (R460). -/
def execWffRff (mask : Nat) (s : State) : Out := done s (trainCompare mask s)

/-- RDC (R460). -/
def execRdc (mask : Nat) (s : State) : Out := done s (trainCompare mask s)

/-- LOOPBACK (R460). -/
def execLoopback (mask : Nat) (s : State) : Out := done s (trainCompare mask s)

/-- CH_APPLY (R461). -/
def execChApply (a : Acc) (c : Fin 8) (v : Word) (s : State) : Out :=
  done s (gate a (Reg.CH_APPLY c) true false
    (fun u s => if u = 0 then chApply c v s else tenantFault s u stNOT_OWNER (Reg.CH_APPLY c)) s)

/-- DELAY_APPLIED (R461). -/
def execDelayApplied (c : Fin 8) (s : State) : Out := done s (delayApplied c s)

/-- MR4_POLL: the last MR4 read is held in CH_STAT (R451, R466). -/
def execMr4Poll (c : Fin 8) (mr4 : Byte) (s : State) : Out :=
  done s (if rf s (Reg.CH_STAT c) Fld.CH_STAT_STATE = 1 then [.fld (Reg.CH_STAT c) Fld.CH_STAT_MR4 mr4.toNat] else [])

/-- DELAY_CHECK: each shadow delay named moves by at most 2 steps, and the set is applied (R462). `steps` names delay registers
of the channel by their place in R466 order. -/
def execDelayCheck (c : Fin 8) (steps : List (Nat × Int)) (s : State) : Out :=
  let put := steps.filterMap (fun p => ((delayRegs c)[p.1]?).map (fun a =>
    Act.fld a Fld.DLY_CA_DELAY (clampInt ((rf s a Fld.DLY_CA_DELAY : Nat) + clampInt p.2 (-2) 2) 0 255).toNat))
  done s (if put.isEmpty then [] else put ++ [.fld (Reg.CH_STAT c) Fld.CH_STAT_PENDING 1])

/-- CHANNEL_FAULT: the pair of channels is mapped out at level 5; from the next edge no ticket is issued and nothing pushed
(R464). -/
def execChannelFault (c : Fin 8) (s : State) : Out :=
  let p := c.val / 2
  if !(channels s).contains c.val then done s [] else
  done s ([.fld (Reg.CH_STAT (2 * p)) Fld.CH_STAT_STATE 3, .fld (Reg.CH_STAT (2 * p + 1)) Fld.CH_STAT_STATE 3,
    .fld Reg.DDR_CFG Fld.DDR_CFG_CHANNELS (rf s Reg.DDR_CFG Fld.DDR_CFG_CHANNELS &&& (0xFF - 3 * 4 ^ p)),
    .ddr (fun d => { d with lost := true }), .sys (fun y => { y with degraded := true })]
    ++ eventLv s 11 2 5 allTenants (0xB00 + c) (arg [(16, c)]))

end Sys2Proof.Machine
end

