-- ==== Sys2Proof/Machine/Completions.lean ====
section
/-! DEFINITION. Cues and completions: taking cues from a tenant's cue queue, malformed and scheduled ones (R570 to R573, R575); the
completion queue of a tenant in host memory or its COMPLETION frames, held completions, fences, and the STATUS record of a cue that
fails (R576, R577, R580, R653). -/

namespace Sys2Proof.Machine

/-- A 64-bit host address held in two registers. -/
def addr64 (s : State) (lo hi : Nat) : Nat := (rd s lo).toNat + 2 ^ 32 * (rd s hi).toNat

/-- Entries in use of a ring of 2^n slots from its producer and consumer indexes (R653). -/
def ringUsed (n prod cons : Nat) : Nat := (prod % 2 ^ n + 2 ^ n - cons % 2 ^ n) % 2 ^ n

/-- Free slots of a ring: one slot always stays empty (R653). -/
def ringFree (n prod cons : Nat) : Nat := 2 ^ n - 1 - ringUsed n prod cons

/-- Free slots of a tenant's completion queue; none while CPQ_CTRL.EN is 0 (R572). -/
def cpqFree (s : State) (t : Nat) : Nat :=
  if rf s (Reg.CPQ_CTRL t) Fld.CPQ_CTRL_EN = 1 then
    ringFree (rf s (Reg.CPQ_CTRL t) Fld.CPQ_CTRL_SIZE) (rf s (Reg.CPQ_TAIL t) Fld.CPQ_TAIL_INDEX) (rf s (Reg.CPQ_HEAD t) Fld.CPQ_HEAD_INDEX)
  else 0

/-- The 16 bytes of a completion (R577). -/
def completionBytes (c : Completion) (phase : Nat) : List Byte :=
  leBytes 2 c.tag ++ leBytes 2 c.status ++ leBytes 8 c.result ++ leBytes 2 c.index
    ++ [BitVec.ofNat 8 c.opcode, BitVec.ofNat 8 (phase % 2 + if c.late then 2 else 0)]

/-- A completion is written at CPQ_TAIL; PHASE inverts at each wrap (R570); vector 0 signals it (R596). -/
def writeCompletion (t : Nat) (c : Completion) : Eff := fun s =>
  let n := rf s (Reg.CPQ_CTRL t) Fld.CPQ_CTRL_SIZE
  let i := rf s (Reg.CPQ_TAIL t) Fld.CPQ_TAIL_INDEX % 2 ^ n
  let ph := rf s (Reg.CPQ_TAIL t) Fld.CPQ_TAIL_PHASE
  [.host (addr64 s (Reg.CPQ_BASE_LO t) (Reg.CPQ_BASE_HI t) + 16 * i) (completionBytes c ph),
   .fld (Reg.CPQ_TAIL t) Fld.CPQ_TAIL_INDEX ((i + 1) % 2 ^ n),
   .fld (Reg.CPQ_TAIL t) Fld.CPQ_TAIL_PHASE (if i + 1 = 2 ^ n then 1 - ph else ph),
   .signal t 0]

/-- Held completions are written in order while slots are free (R572). -/
def flushHeld (t : Nat) : Eff := fun s =>
  let n := min (cpqFree s t) (ten s t).held.length
  seqE (((ten s t).held.take n).map (writeCompletion t)) s ++ [.ten t (fun q => { q with held := q.held.drop n })]

/-- A completion goes out: through the completion queue, or in a COMPLETION frame for a tenant bound to MGMT (R570). -/
def deliver (t : Nat) (c : Completion) : Eff := fun s =>
  if bindMode s t = 0 then seqE [fun _ => [.ten t (fun q => { q with held := q.held ++ [c] })], flushHeld t] s
  else if bindMode s t = 1 then [.out (fun o => { o with frames := o.frames ++ [mgmtFrame t 3 0 (completionBytes c 0)] })]
  else []

/-- Is a cue still owed a completion? A tenant reset forgets every cue (R581, R582). -/
def cueOpen (s : State) (t : Nat) (r : CueRef) : Bool := (ten s t).open_.any (fun q => q.serial == r.serial)

/-- One cue's outcome: a failure is logged as a STATUS record (R580); a QUIET cue has no completion when its status is OK
(R573). -/
def settle (t : Nat) (r : CueRef) (status result : Nat) : Eff := fun s =>
  if !cueOpen s t r then [] else
  .ten t (fun q => { q with open_ := q.open_.filter (fun p => p.serial != r.serial), fences := q.fences.filter (fun p => p.serial != r.serial) })
  :: (if status = stOK then [] else logStatus s (0xB50 + t) 15 status [t] 0)
  ++ (if status = stOK ∧ r.quiet then [] else
      seqE [deliver t ⟨r.tag, status, result, r.index, r.opcode, r.late⟩] s)

/-- The FENCE cues of a tenant whose earlier cues have all completed (R576). -/
def readyFences (s : State) (t : Nat) : List CueRef :=
  (ten s t).fences.filter (fun f => !(ten s t).open_.any (fun q => decide (q.serial < f.serial)))

/-- FENCE cues complete once every earlier cue of the queue has; each may free the next. -/
def settleFences (t : Nat) : Nat → Eff
  | 0, _ => []
  | n + 1, s => match readyFences s t with
    | [] => []
    | f :: _ => seqE [settle t f stOK 0, settleFences t n] s

/-! ## Taking cues -/

/-- The cue that 64 bytes spell (R573), from slot `index`. -/
def cueOf (bs : List Byte) (index serial : Nat) : Cue :=
  let n := fun (lo k : Nat) => leValue ((bs.drop lo).take k)
  ⟨serial, n 0 1, n 1 1, n 2 2, n 4 1, n 5 1, n 6 2, n 8 4, n 12 4, (bs.drop 16).take 48, index⟩

/-- What the cue's completion needs of it. -/
def cueRefOf (c : Cue) (late : Bool) : CueRef := ⟨c.serial, c.tag, c.index, c.opcode, c.flags / 4 % 2 == 1, late⟩

/-- The SCHEDULED flag. -/
def cueScheduled (c : Cue) : Bool := c.flags % 2 == 1

/-- Reserved fields that are not zero, and opcodes outside the table (R573, R576). -/
def cueMalformed (c : Cue) : Bool :=
  decide (8 ≤ c.flags) || c.res5 != 0 || decide (0x10000 ≤ c.epoch) || decide (0x0C ≤ c.opcode)

/-- Edges from the last one to edge AT, modulo 2^32. -/
def cueAhead (s : State) (c : Cue) : Nat := (c.at_ + 2 ^ 32 - rf s Reg.CUR_NUM Fld.CUR_NUM_NUM) % 2 ^ 32

/-- Has the release instant of edge AT passed (R575)? -/
def cuePast (s : State) (c : Cue) : Bool :=
  decide (2 ^ 31 ≤ cueAhead s c) || decide (cueAhead s c < 2)
  || (cueAhead s c == 2 && s.cur.running && decide (s.cur.next ≤ now s + 300000))

/-- TEN_STATUS.SCHED follows the scheduled store. -/
def schedCount (t : Nat) : Eff := fun s =>
  [.fld (Reg.TEN_STATUS t) Fld.TEN_STATUS_SCHED (s.book.sched.filter (fun q => q.tenant == t)).length]

/-- A cue is taken: it is owed a completion; a malformed one completes at once, a scheduled one is held or starts LATE, any other
waits for its start (R571, R573, R575). -/
def takeCue (t : Nat) (c : Cue) : Eff := seqE [
  fun _ => [.ten t (fun q => { q with serial := q.serial + 1, open_ := q.open_ ++ [cueRefOf c false] })],
  fun s =>
    let wait : List Act := [.ten t (fun q => { q with ready := q.ready ++ [c] })]
    if cueMalformed c then settle t (cueRefOf c false) stBAD_ARG 0 s
    else if !cueScheduled c then wait
    else if 2 ^ 20 < cueAhead s c ∧ cueAhead s c < 2 ^ 31 then settle t (cueRefOf c false) stBAD_ARG 0 s
    else if cuePast s c then wait
    else if 64 ≤ s.book.sched.length then settle t (cueRefOf c false) stBUSY 0 s
    else seqE [fun _ => [.book (fun b => { b with sched := b.sched ++ [⟨t, c, none⟩] })], schedCount t] s]

/-- Cues taken whose completions have not been written (R572). -/
def owed (s : State) (t : Nat) : Nat := (ten s t).open_.length + (ten s t).held.length

/-- May Roura take a further cue from the tenant's cue queue (R572)? -/
def mayTake (s : State) (t : Nat) : Bool :=
  bindMode s t == 0 && rf s (Reg.CUQ_CTRL t) Fld.CUQ_CTRL_EN == 1 && rf s (Reg.CPQ_CTRL t) Fld.CPQ_CTRL_EN == 1
  && decide (owed s t < cpqFree s t + 16)
  && decide (0 < ringUsed (rf s (Reg.CUQ_CTRL t) Fld.CUQ_CTRL_SIZE) (rf s (Reg.CUQ_TAIL t) Fld.CUQ_TAIL_INDEX)
                  (rf s (Reg.CUQ_HEAD t) Fld.CUQ_HEAD_INDEX))

/-- The cue at CUQ_HEAD is taken and CUQ_HEAD advances (R570). -/
def takeFront (t : Nat) : Eff := fun s =>
  let n := rf s (Reg.CUQ_CTRL t) Fld.CUQ_CTRL_SIZE
  let i := rf s (Reg.CUQ_HEAD t) Fld.CUQ_HEAD_INDEX % 2 ^ n
  .fld (Reg.CUQ_HEAD t) Fld.CUQ_HEAD_INDEX ((i + 1) % 2 ^ n)
  :: takeCue t (cueOf (hostRead s (addr64 s (Reg.CUQ_BASE_LO t) (Reg.CUQ_BASE_HI t) + 64 * i) 64) i (ten s t).serial) s

/-- At most `n` cues are taken, while R572 allows it. -/
def takeUpTo (t : Nat) : Nat → Eff
  | 0, _ => []
  | n + 1, s => if mayTake s t then seqE [takeFront t, takeUpTo t n] s else []

/-- Cues are taken from a tenant's cue queue. -/
def takeCues (t : Nat) : Eff := fun s =>
  takeUpTo t (ringUsed (rf s (Reg.CUQ_CTRL t) Fld.CUQ_CTRL_SIZE) (rf s (Reg.CUQ_TAIL t) Fld.CUQ_TAIL_INDEX)
    (rf s (Reg.CUQ_HEAD t) Fld.CUQ_HEAD_INDEX)) s

/-- A cue completes with a status and a result, and the fences behind it; further cues can be taken (R571, R572, R576, R577). -/
def complete (t : Nat) (r : CueRef) (status result : Nat) : Eff := fun s =>
  seqE [settle t r status result, fun s => settleFences t (ten s t).fences.length s, takeCues t] s

end Sys2Proof.Machine
end

