-- ==== Sys2Proof/Machine/Caddy.lean ====
section
/-! DEFINITION. The Caddy: its array, its two ports and their checks, the hold-up energy, margin scan and refresh
(13_caddy.md). -/

namespace Sys2Proof.Machine

/-! ## Array (R499 to R505) -/

/-- Bytes of the Caddy. -/
def cadSize : Nat := 0x400000

/-- The bank of a Caddy address. -/
def cadBank (a : Nat) : Nat := a / 0x200000

/-- The unit of the Caddy, and that of the image loader (R584). -/
def cadUnit : Nat := 0xB20
def pnxUnit : Nat := 0xB21

/-- An event of the Caddy, to T0, with the address or the status (R527). -/
def cadEvent (s : State) (b a : Nat) : List Act := eventNow s 13 b [0] cadUnit (arg [(32, a)])

/-- The data of a PROGRAM in its page: bytes beyond the end of the page wrap to its start (R501). -/
def wrapPage : Nat → List Byte → List (Nat × Byte)
  | _, [] => []
  | a, b :: bs => (a, b) :: wrapPage (a / 256 * 256 + (a + 1) % 256) bs

/-- The number of non-erased codewords at the start of a counter sector: the value of anti-rollback counter `n` (R504). -/
def rollbackCount (s : State) (n : Nat) : Nat :=
  ((List.range 256).takeWhile (fun k => (caddyRead s (0x7C000 + 0x1000 * n + 16 * k) 16).any (fun b => b != 0xFF))).length

/-- Does an address lie in an anti-rollback sector, and of which counter? -/
def counterOf (a : Nat) : Option Nat := if 0x7C000 ≤ a ∧ a < 0x80000 then some ((a - 0x7C000) / 0x1000) else none

/-- The lowest address that CAD_PROTECT.PROT protects (R512). -/
def protectFrom (s : State) : Nat :=
  match rf s Reg.CAD_PROTECT Fld.CAD_PROTECT_PROT with
  | 0 => cadSize | 1 => 0x300000 | 2 => 0x200000 | _ => 0

/-- The addresses an operation touches lie in one page or sector: its first. -/
def opBase (o : CadOp) : Nat := if o.op = 2 then o.addr / 4096 * 4096 else o.addr / 256 * 256
def opSize (o : CadOp) : Nat := if o.op = 2 then 4096 else 256

/-! ## Checks before an operation starts (R515, R516) -/

/-- E_op in microjoules and the longest duration in ns (R501). -/
def opEnergy (o : CadOp) : Nat := if o.op = 2 then 120 else 48
def opTime (o : CadOp) : Nat := if o.op = 2 then 2000000 else 800000

/-- Check 1 (R515). -/
def opBadArg (o : CadOp) : Bool :=
  !(o.op == 1 || o.op == 2) || decide (cadSize ≤ o.addr)
  || (o.op == 1 && (o.addr % 16 != 0 || o.data.isEmpty || decide (256 < o.data.length) || o.data.length % 16 != 0))
  || (o.op == 2 && o.addr % 4096 != 0)

/-- Check 2: R504, R505, R512 and the area rule of R514. -/
def opProtected (s : State) (o : CadOp) : Bool :=
  decide (protectFrom s < opBase o + opSize o)
  || decide (0x3FF000 ≤ o.addr)
  || (!o.house && !decide (0x21000 ≤ o.addr ∧ o.addr < 0x7C000))
  || (match counterOf o.addr with
      | some n => o.op != 1 || !o.house || o.data.length != 16 || o.data.all (· == 0xFF)
          || o.addr != 0x7C000 + 0x1000 * n + 16 * rollbackCount s n
      | none => false)

/-- The junction temperature limit of the grade in 1/16 degree (R515). -/
def gradeMax (s : State) : Int := if s.fuses.gradeE then 1760 else 1600

/-- The last reading of sensor `i`, in 1/16 degree. -/
def tempOf (s : State) (i : Nat) : Int := toSigned 16 (rf s (Reg.SYS_TEMP i) Fld.SYS_TEMP_TEMP)

/-- Check 4: a thermal trip since power-on, or a junction above the grade maximum. -/
def opHot (s : State) : Bool :=
  rf s Reg.SYS_STATUS Fld.SYS_STATUS_TRIPPED == 1 || (List.range 5).any (fun i => decide (gradeMax s < tempOf s i))

/-- C_eff in microfarads (R516): the declared capacitance, or the measured one where it is smaller. -/
def holdCap (s : State) : Nat := min (rf s Reg.CAD_HOLD Fld.CAD_HOLD_C_UF) (rf s Reg.CAD_CMEAS Fld.CAD_CMEAS_C_UF)

/-- The energy in eighths of a picojoule times 10^6 that a HOLDUP_SENSE code stands for above V_MIN: C_eff * ((3 code)^2 - (2 V_MIN)^2),
in units of 1/8 * 10^-6 microjoule; a code is 1.5 mV (R516, R637). -/
def holdEnergy (s : State) (code : Nat) : Nat :=
  holdCap s * ((3 * code) * (3 * code) - (2 * rf s Reg.CAD_HOLD Fld.CAD_HOLD_V_MIN) * (2 * rf s Reg.CAD_HOLD Fld.CAD_HOLD_V_MIN))

/-- Check 5: the energy is at least twice E_op (R516). -/
def energyOk (s : State) (o : CadOp) (code : Nat) : Bool := s.sys.vddHold && decide (2 * opEnergy o * 8000000 ≤ holdEnergy s code)

/-- CAD_ENERGY after a check: V in mV and the energy in microjoules, saturating (R516, R526). -/
def energyReg (s : State) (code : Nat) : List Act :=
  [.reg Reg.CAD_ENERGY (putF (putF 0 Fld.CAD_ENERGY_V_MV (3 * code / 2)) Fld.CAD_ENERGY_E_UJ (min 0xFFFF (holdEnergy s code / 8000000)))]

/-- The status of an operation's checks, in the table's order; OK where all pass (R515). `fetch` is the bank the issuing house core
fetches from, where it does; a refresh makes only the last two checks (R511). -/
def opCheck (s : State) (o : CadOp) (fetch : Option Nat) (code : Nat) : Nat :=
  if o.op ≠ 3 ∧ opBadArg o then stBAD_ARG
  else if o.op ≠ 3 ∧ opProtected s o then stPROTECTED
  else if o.op ≠ 3 ∧ o.house ∧ fetch = some (cadBank o.addr) then stSELF_TARGET
  else if opHot s then stTHERMAL_DEFER
  else if !energyOk s o code then stNO_ENERGY
  else stOK

/-! ## Operations (R501, R514, R518, R521, R527) -/

/-- An operation is queued on the house port. -/
def queueCad (op addr : Nat) (data : List Byte) (why : CadWhy) : Eff := fun s =>
  [.cad (fun c => { c with house := c.house ++ [⟨true, op, addr, data, why, now s⟩] })]

/-- The tenant port's operation ends with a status: CAD_STATUS, CADDY_DONE or CADDY_REFUSED (R526, R527). -/
def tenantEnds (st addr : Nat) : Eff := fun s =>
  [.fld Reg.CAD_STATUS Fld.CAD_STATUS_STATUS st, .cad (fun c => { c with tenant := none })]
  ++ (if st = stOK then cadEvent s 0 addr else cadEvent s 1 st)

/-- A house operation that is refused for good: an increment held back by protection is reported (R537). -/
def houseRefused (o : CadOp) (st : Nat) : Eff := fun s =>
  .cad (fun c => { c with house := c.house.drop 1, holdLow := false }) :: .fld Reg.CAD_STATUS Fld.CAD_STATUS_HOUSE_WAIT 0 ::
  (match o.why with
   | .rollback 0 => if st = stPROTECTED then
        .fld Reg.PNX_RUN_INFO Fld.PNX_RUN_INFO_RB_HELD 1 :: eventNow s 14 2 [0] pnxUnit
          (arg [(32, (rd s Reg.PNX_RUN_ID_LO).toNat), (32, (rd s Reg.PNX_RUN_ID_HI).toNat)]) else []
   | _ => [])

/-- An operation starts. -/
def opStart (o : CadOp) : Eff := fun s =>
  [.cad (fun c => { c with run := some ⟨o, now s, false⟩, house := if o.house && o.op != 3 then c.house.drop 1 else c.house, holdLow := false }),
   .fld Reg.CAD_STATUS Fld.CAD_STATUS_BUSY 1, .fld Reg.CAD_STATUS Fld.CAD_STATUS_BANK (cadBank o.addr)]
  ++ (if o.house && o.op != 3 then [.fld Reg.CAD_STATUS Fld.CAD_STATUS_HOUSE_WAIT 0] else [])

/-- Is a load test recent enough for an operation to start (R517)? -/
def testFresh (s : State) : Bool :=
  match s.cad.testAt with | some t => decide (now s ≤ t + 100000000) | none => false

/-- The front operation of the house port is checked, and starts, waits or ends (R515, R518). -/
def houseTry (fetch : Option Nat) (code : Nat) : Eff := fun s =>
  match s.cad.house with
  | [] => []
  | o :: _ =>
    if s.cad.run.isSome then [] else
    let st := opCheck s o fetch code
    if st = stOK then energyReg s code ++ opStart o s
    else if st = stNO_ENERGY ∨ st = stTHERMAL_DEFER then
      (if st = stNO_ENERGY then energyReg s code else [])
      ++ [.fld Reg.CAD_STATUS Fld.CAD_STATUS_HOUSE_WAIT 1, .cad (fun c => { c with checkAt := now s })]
      ++ (if st = stNO_ENERGY ∧ o.since + 1000000000 < now s ∧ !s.cad.holdLow then
            .cad (fun c => { c with holdLow := true }) :: cadEvent s 3 o.addr else [])
    else houseRefused o st s

/-- The tenant port's operation is checked and starts or ends; the house port goes first unless its operation waits (R514,
R515, R518). -/
def tenantTry (code : Nat) : Eff := fun s =>
  match s.cad.tenant with
  | none => []
  | some o =>
    if s.cad.run.isSome ∨ (s.cad.house ≠ [] ∧ rf s Reg.CAD_STATUS Fld.CAD_STATUS_HOUSE_WAIT = 0) then [] else
    let st := opCheck s o none code
    (if st = stOK ∨ st = stNO_ENERGY then energyReg s code else [])
    ++ (if st = stOK then opStart o s else tenantEnds st st s)

/-- Caddy control looks at the port's front operation of kind `op`, a load test being recent. -/
def cadGo (op : Nat) (house : Bool) (fetch : Option Nat) (code : Nat) : Eff := fun s =>
  if !testFresh s then []
  else if house then (match s.cad.house with | o :: _ => if o.op = op then houseTry fetch code s else [] | [] => [])
  else (match s.cad.tenant with | some o => if o.op = op ∨ (op = 1 ∧ o.op ≠ 2) then tenantTry code s else [] | none => [])

/-- What the array holds after an operation: the bytes programmed, the page read before with its bad codewords now free values, an
erased sector, or, where the store was removed, a page or sector left undefined (R501, R509, R521). -/
def opArray (s : State) (r : CadRun) : List Act :=
  let o := r.op
  let b := opBase o
  let free := (List.range 256).filterMap (fun i => if s.cad.bad.contains ((b + i) / 16) then some (b + i, Config.undefinedByte s.free i) else none)
  let good := Act.cad (fun c => { c with bad := c.bad.filter (fun w => !decide (b ≤ 16 * w ∧ 16 * w < b + opSize o)) })
  if r.spoiled then [.caddy b ((List.range (opSize o)).map (Config.undefinedByte s.free)), .draw, good]
  else if o.op = 2 then [.caddyDrop b 4096, good]
  else if o.op = 1 then
    (free.map (fun p => Act.caddy p.1 [p.2])) ++ ((wrapPage o.addr o.data).map (fun p => Act.caddy p.1 [p.2])) ++ [.draw, good]
  else []

/-- The operation in progress ends: the array, the port's outcome, the counters (R501, R511, R527). -/
def opComplete : Eff := fun s =>
  match s.cad.run with
  | none => []
  | some r =>
    opArray s r
    ++ [.cad (fun c => { c with run := none, refresh := c.refresh.filter (fun p => r.op.op != 1 || p != r.op.addr / 256) }),
        .fld Reg.CAD_STATUS Fld.CAD_STATUS_BUSY 0]
    ++ (if r.op.op = 3 then [.inc Reg.CAD_REFRESH_CNT Fld.CAD_REFRESH_CNT_COUNT 1]
        else if !r.op.house then tenantEnds stOK r.op.addr s else [])
    ++ (match r.op.why with
        | .rollback 0 => [.inc Reg.PNX_RUN_INFO Fld.PNX_RUN_INFO_COUNTER 1]
        | _ => [])

/-- The operation completes at the end of its longest duration. -/
def cadComplete : List Eff := [
  fun s => match s.cad.run with | some r => [.clockTo (r.startAt + opTime r.op)] | none => [],
  opComplete]

/-- A write of CAD_CMD.GO: the tenant port's latch takes CAD_ADDR, CAD_CMD and CAD_BUF, unless it is still pending (R514, R526). -/
def cadCmd (v : Word) : Eff := fun s =>
  if getF v Fld.CAD_CMD_GO = 0 then []
  else if s.cad.tenant.isSome then tenantFault s 0 stBUSY Reg.CAD_CMD
  else
    let n := 16 * (getF v Fld.CAD_CMD_LEN_M1 + 1)
    let data := ((List.range 64).flatMap (fun w => leBytes 4 (rd s (Reg.CAD_BUF w)).toNat)).take n
    [.cad (fun c => { c with tenant := some ⟨false, getF v Fld.CAD_CMD_OP, rf s Reg.CAD_ADDR Fld.CAD_ADDR_ADDR, data, .plain, now s⟩ }),
     .fld Reg.CAD_STATUS Fld.CAD_STATUS_STATUS stBUSY]

/-! ## Energy, load test, recheck (R516 to R518) -/

/-- A load test: C_MEAS = 10 uC / (the fall across the test less the trend), in converter codes of 1.5 mV; below two codes it
is unbounded (R517). It lasts 0.5 ms. -/
def loadTest (dTest dTrend : Int) : List Eff := [
  fun s => if s.sys.vddAo then [.clockTo (now s + 500000)] else [],
  fun s => if !s.sys.vddAo then [] else
    let d := dTest - dTrend
    [.reg Reg.CAD_CMEAS (putF 0 Fld.CAD_CMEAS_C_UF (if d < 2 then 0xFFFF else min 0xFFFE (divRound 20000 (3 * d)).toNat)),
     .cad (fun c => { c with testAt := some s.cur.clock })]]

/-- CAD_CMEAS as read: AGE is the time since the last load test in ms, saturating (R526). -/
def cmeasRead (s : State) : Word :=
  putF (rd s Reg.CAD_CMEAS) Fld.CAD_CMEAS_AGE (match s.cad.testAt with
    | some t => min 0xFFFF ((now s - t) / 1000000)
    | none => 0xFFFF)

/-- The waiting house operation is checked again 1 ms after the last check (R518). -/
def energyRecheck (code : Nat) : List Eff := [
  fun s => if rf s Reg.CAD_STATUS Fld.CAD_STATUS_HOUSE_WAIT = 1 then [.clockTo (s.cad.checkAt + 1000000)] else [],
  fun s => if rf s Reg.CAD_STATUS Fld.CAD_STATUS_HOUSE_WAIT = 1 then houseTry none code s else []]

/-! ## Reads, margin scan and refresh (R507 to R511) -/

/-- A page is queued for refresh once, unless a PROGRAM of it is queued (R511). -/
def queueRefresh (s : State) (page : Nat) : List Act :=
  if s.cad.refresh.contains page ∨ s.cad.house.any (fun o => o.op == 1 && o.addr / 256 == page) then []
  else [.cad (fun c => { c with refresh := c.refresh ++ [page] })]

/-- What reading a codeword with `found` bit errors does (R509): up to two are corrected, three are found uncorrectable. -/
def codewordRead (s : State) (w found : Nat) : List Act :=
  if found = 0 then []
  else if found < 3 then .inc Reg.CAD_CORR_CNT Fld.CAD_CORR_CNT_COUNT 1 :: queueRefresh s (w / 16)
  else
    [.inc Reg.CAD_UE_CNT Fld.CAD_UE_CNT_COUNT 1, .fld Reg.CAD_UE_ADDR Fld.CAD_UE_ADDR_ADDR (16 * w),
     .cad (fun c => { c with bad := if c.bad.contains w then c.bad else c.bad ++ [w] })]
    ++ eventLv s 13 2 2 [0] cadUnit (arg [(32, 16 * w)])

/-- The margin scan reads its next codeword: `found` bit errors at the normal reference, `near` a cell near its threshold (R510). -/
def marginRead (found : Nat) (near : Bool) : List Eff := [
  fun s => if rf s Reg.CAD_MARGIN Fld.CAD_MARGIN_EN = 1 then [.clockTo (s.cad.marginWhen + 1000 * rf s Reg.CAD_MARGIN Fld.CAD_MARGIN_INTERVAL)] else [],
  fun s => if rf s Reg.CAD_MARGIN Fld.CAD_MARGIN_EN = 0 then [] else
    let w := s.cad.marginAt
    codewordRead s w (if s.cad.bad.contains w then 3 else found)
    ++ (if near ∧ found = 0 ∧ !s.cad.bad.contains w then queueRefresh s (w / 16) else [])
    ++ [.cad (fun c => { c with marginAt := (w + 1) % (cadSize / 16), marginWhen := s.cur.clock })]]

/-- A refresh starts when both ports are idle; an uncorrectable page is not refreshed, and one with a PROGRAM queued is dropped
(R509, R511, R514). -/
def pageRefresh (code : Nat) : Eff := fun s =>
  if s.cad.run.isSome ∨ s.cad.house ≠ [] ∨ s.cad.tenant.isSome ∨ !testFresh s then [] else
  match s.cad.refresh with
  | [] => []
  | p :: _ =>
    let o : CadOp := ⟨true, 3, 256 * p, [], .plain, now s⟩
    if s.cad.bad.any (fun w => w / 16 == p) then [.cad (fun c => { c with refresh := c.refresh.drop 1 })]
    else if opCheck s o none code = stOK then .cad (fun c => { c with refresh := c.refresh.drop 1 }) :: opStart o s
    else []

/-- Four bytes of the read window as a register read (R507, R509). -/
def caddyWord (s : State) (a : Nat) : Word :=
  if s.cad.bad.contains (a / 16) then BitVec.ofNat 32 (leValue ((List.range 4).map (Config.undefinedByte s.free)))
  else BitVec.ofNat 32 (leValue (caddyRead s a 4))

/-- A read of the Caddy window (R507, R508, R509): T0 alone; it waits for VDD_HOLD, and for an operation on the bank it reads. An
uncorrectable codeword delivers a free value, poisoned (R456). -/
def caddyWindowRead (t addr : Nat) : List Eff := [
  fun s =>
    let a := (addr - 0x1000000) / 4 * 4
    if t ≠ 0 then .out (fun o => { o with readData := 0 }) :: tenantFault s t stNOT_OWNER addr
    else if !s.sys.holdReady then [.cad (fun c => { c with waits := c.waits ++ [⟨t, addr⟩] })]
    else seqE [fun s => if (s.cad.run.map (fun r => cadBank r.op.addr)) = some (cadBank a) then seqE cadComplete s else [],
               fun s => let v := caddyWord s a
                 (if s.cad.bad.contains (a / 16) then codewordRead s (a / 16) 3 ++ [.draw, .out (fun o => { o with poisoned := o.poisoned + 1 })] else [])
                 ++ [.out (fun o => { o with readData := v })]] s]

/-- VDD_HOLD reaches 2.7 V: 20 us later reads are served, those that waited first (R507). -/
def holdGood : List Eff := [
  fun _ => [.sys (fun y => { y with vddHold := true })],
  fun s => if s.sys.vddAo && !s.sys.holdReady then [.clockTo (now s + 20000), .sys (fun y => { y with holdReady := true })] else [],
  fun s => if s.sys.holdReady then
      .cad (fun c => { c with waits := [] }) :: seqE (s.cad.waits.flatMap (fun w => caddyWindowRead w.tenant w.addr)) s else []]

/-- VDD_HOLD falls below 2.7 V: reads wait; an operation in progress leaves its page or sector undefined (R521, R629). -/
def holdLoss : Eff := fun _ =>
  [.sys (fun y => { y with vddHold := false, holdReady := false }),
   .cad (fun c => { c with run := c.run.map (fun r => { r with spoiled := true }) })]

/-- A write of CAD_PROTECT (R513). -/
def protectWrite (t : Nat) (v : Word) : Eff := fun s =>
  if t ≠ 0 then tenantFault s t stNOT_OWNER Reg.CAD_PROTECT
  else if rf s Reg.CAD_PROTECT Fld.CAD_PROTECT_LOCK = 1 then tenantFault s t stPROTECTED Reg.CAD_PROTECT
  else [.fld Reg.CAD_PROTECT Fld.CAD_PROTECT_PROT (getF v Fld.CAD_PROTECT_PROT)]
    ++ (if getF v Fld.CAD_PROTECT_LOCK = 1 then [.fld Reg.CAD_PROTECT Fld.CAD_PROTECT_LOCK 1] else [])

/-! ## The commands -/

/-- CADDY_PROGRAM (R501, R514, R515): the tenant port's operation or the house port's front one; `own`, where given, is first queued
on the house port by house firmware; `fetch` is the bank its core fetches from, `code` the HOLDUP_SENSE conversion. -/
def execCaddyProgram (house : Bool) (own : Option (Nat × List Byte)) (fetch : Option (Fin 2)) (code : Fin 4096) (s : State) : Out :=
  doneAll s [fun s => match own with | some q => if house then queueCad 1 q.1 q.2 .plain s else [] | none => [],
             cadGo 1 house (fetch.map Fin.val) code]

/-- CADDY_ERASE (R501, R514, R515). -/
def execCaddyErase (house : Bool) (own : Option Nat) (fetch : Option (Fin 2)) (code : Fin 4096) (s : State) : Out :=
  doneAll s [fun s => match own with | some a => if house then queueCad 2 a [] .plain s else [] | none => [],
             cadGo 2 house (fetch.map Fin.val) code]

/-- CADDY_OP_COMPLETE (R501). -/
def execCaddyOpComplete (s : State) : Out := doneAll s cadComplete

/-- CADDY_ENERGY_RECHECK (R518). -/
def execCaddyEnergyRecheck (code : Fin 4096) (s : State) : Out := doneAll s (energyRecheck code)

/-- HOLDUP_LOAD_TEST (R517). -/
def execHoldupLoadTest (dTest dTrend : Int) (s : State) : Out := doneAll s (loadTest dTest dTrend)

/-- CADDY_MARGIN_READ (R510). -/
def execCaddyMarginRead (found : Fin 4) (near : Bool) (s : State) : Out := doneAll s (marginRead found near)

/-- PAGE_REFRESH (R511). -/
def execPageRefresh (code : Fin 4096) (s : State) : Out := done s (pageRefresh code s)

/-- CAD_PROTECT_LOCK (R513). -/
def execCadProtectLock (a : Acc) (v : Word) (s : State) : Out := 
  done s (gate a Reg.CAD_PROTECT true false (fun u => protectWrite u v) s)

/-- VDD_HOLD_GOOD (R507). -/
def execVddHoldGood (s : State) : Out := doneAll s holdGood

/-- VDD_HOLD_LOSS (R629). -/
def execVddHoldLoss (s : State) : Out := done s (holdLoss s)

end Sys2Proof.Machine
end

