-- ==== Sys2Proof/Machine/Packer.lean ====
section
/-! DEFINITION. The packer: the block format, its decoder and encoder, stream contexts, job rings and lanes (12_packer.md). -/

namespace Sys2Proof.Machine

/-! ## Bits (R471) -/

/-- The bits of bytes, bit 0 first. -/
def byteBits (bs : List Byte) : List Bool := bs.flatMap (fun b => (List.range 8).map (fun i => b.getLsbD i))

/-- A number read from bits, least significant first. -/
def bitsNat (l : List Bool) : Nat := l.foldr (fun b n => (if b then 1 else 0) + 2 * n) 0

/-- A field of `n` bits and the bits that follow. -/
def takeBits (n : Nat) (l : List Bool) : Option (Nat × List Bool) :=
  if l.length < n then none else some (bitsNat (l.take n), l.drop n)

/-- The bits of a number, least significant first. -/
def natBits : Nat → Nat → List Bool
  | 0, _ => []
  | k + 1, n => decide (n % 2 = 1) :: natBits k (n / 2)

/-- Bytes from bits, padded with zero bits. -/
def bitBytes (l : List Bool) : List Byte :=
  (List.range ((l.length + 7) / 8)).map (fun i => BitVec.ofNat 8 (bitsNat ((l.drop (8 * i)).take 8)))

/-! ## Tables (R473 to R475) -/

/-- The 313 code lengths: `need` are still to be read (R474). -/
def readLens : Nat → Nat → List Bool → Option (List Nat × List Bool)
  | _, 0, l => some ([], l)
  | 0, _, _ => none
  | fuel + 1, need + 1, l =>
    match takeBits 4 l with
    | none => none
    | some (0, l) =>
      match takeBits 4 l with
      | none => none
      | some (c, l) =>
        if need < c then none
        else (readLens fuel (need - c) l).map (fun q => (List.replicate (c + 1) 0 ++ q.1, q.2))
    | some (v, l) => (readLens fuel need l).map (fun q => (v :: q.1, q.2))

/-- The symbols of length `l`, ascending. -/
def symsOf (lens : List Nat) (l : Nat) : List Nat := (List.range lens.length).filter (fun s => lens.getD s 0 == l)

/-- The first code of length `l` (R475). -/
def firstCode (lens : List Nat) : Nat → Nat
  | 0 => 0
  | l + 1 => 2 * (firstCode lens l + (if l = 0 then 0 else (symsOf lens l).length))

/-- Do the lengths oversubscribe the code space (R475)? -/
def oversubscribed (lens : List Nat) : Bool :=
  decide (32768 < (lens.map (fun l => if l = 0 then 0 else 2 ^ (15 - l))).foldl (· + ·) 0)

/-- One symbol, most significant bit of its code first: `l` bits with value `c` have been read. -/
def readSym (lens : List Nat) : Nat → Nat → Nat → List Bool → Option (Nat × List Bool)
  | 0, _, _, _ => none
  | _ + 1, _, _, [] => none
  | fuel + 1, l, c, b :: bs =>
    let c' := 2 * c + (if b then 1 else 0)
    let f := firstCode lens (l + 1)
    match if f ≤ c' then (symsOf lens (l + 1))[c' - f]? else none with
    | some s => some (s, bs)
    | none => readSym lens fuel (l + 1) c' bs

/-- The code of a symbol as bits, most significant first. -/
def symBits (lens : List Nat) (s : Nat) : List Bool :=
  let l := lens.getD s 0
  (natBits l (firstCode lens l + (symsOf lens l).findIdx (· == s))).reverse

/-- A length symbol's base value of m and its extra bits (R473). -/
def lenBase (sym : Nat) : Nat × Nat :=
  if sym < 265 then (sym - 257, 0)
  else let e := (sym - 265) / 4 + 1; (((sym - 265) % 4 + 4) * 2 ^ e, e)

/-- A distance code's base value of m and its extra bits (R473). -/
def distBase (code : Nat) : Nat × Nat :=
  if code < 4 then (code, 0)
  else let e := (code - 4) / 2 + 1; (((code - 4) % 2 + 2) * 2 ^ e, e)

/-- floor(log2 n) for n > 0. -/
def log2 (n : Nat) : Nat := Nat.log2 n

/-- The symbol, extra bit count and extra value of a length (R473). -/
def lenSym (len : Nat) : Nat × Nat × Nat :=
  let m := len - 4
  if m < 8 then (257 + m, 0, 0)
  else let e := log2 m - 2; (265 + 4 * (e - 1) + (m / 2 ^ e - 4), e, m % 2 ^ e)

/-- The code, extra bit count and extra value of a distance (R473). -/
def distSym (d : Nat) : Nat × Nat × Nat :=
  let m := d - 1
  if m < 4 then (m, 0, 0)
  else let e := log2 m - 1; (4 + 2 * (e - 1) + (m / 2 ^ e - 2), e, m % 2 ^ e)

/-! ## Decoding (R469, R470, R476, R477) -/

/-- The outcome of a decode: its bytes, or the status of the error. -/
inductive Decoded where
  | ok (bs : List Byte)
  | err (status : Nat)
  deriving DecidableEq, Repr

/-- `n` bytes copied one at a time from `d` bytes back; the output is held newest first (R476). -/
def copyBack : Nat → Nat → List Byte → List Byte
  | 0, _, out => out
  | n + 1, d, out => copyBack n d (out.getD (d - 1) 0 :: out)

/-- The symbol stream: `out` is history and output newest first, `n` the bytes of output so far. -/
def decodeSyms (ll dd : List Nat) (rawLen : Nat) : Nat → List Bool → List Byte → Nat → Decoded
  | 0, _, _, _ => .err stILLEGAL_CODE
  | fuel + 1, l, out, n =>
    match readSym ll 15 0 0 l with
    | none => .err stILLEGAL_CODE
    | some (s, l) =>
      if s < 256 then
        if rawLen < n + 1 then .err stLEN_OVERRUN else decodeSyms ll dd rawLen fuel l (BitVec.ofNat 8 s :: out) (n + 1)
      else if s = 256 then
        if n < rawLen then .err stLEN_OVERRUN
        else if 8 ≤ l.length ∨ l.any id then .err stILLEGAL_CODE
        else .ok ((out.take n).reverse)
      else
        match takeBits (lenBase s).2 l with
        | none => .err stILLEGAL_CODE
        | some (x, l) =>
          match readSym dd 15 0 0 l with
          | none => .err stILLEGAL_CODE
          | some (c, l) =>
            match takeBits (distBase c).2 l with
            | none => .err stILLEGAL_CODE
            | some (y, l) =>
              let len := (lenBase s).1 + x + 4
              let d := (distBase c).1 + y + 1
              if out.length < d then .err stDIST_BEYOND
              else if rawLen < n + len then .err stLEN_OVERRUN
              else decodeSyms ll dd rawLen fuel l (copyBack len d out) (n + len)

/-- The fields of a block header (R468). -/
def hdrFlags (b : List Byte) : Nat := (b.getD 5 0).toNat
def hdrRawLen (b : List Byte) : Nat := leValue ((b.drop 6).take 3)
def hdrBlockLen (b : List Byte) : Nat := leValue ((b.drop 9).take 3)
def hdrCheck (b : List Byte) : Nat := leValue ((b.drop 12).take 4)
def hdrMode (b : List Byte) : Nat := hdrFlags b % 4
def hdrStream (b : List Byte) : Bool := bitsOf (hdrFlags b) 2 2 == 1
def hdrCont (b : List Byte) : Bool := bitsOf (hdrFlags b) 3 3 == 1
def hdrLast (b : List Byte) : Bool := bitsOf (hdrFlags b) 4 4 == 1

/-- Is a header refused (R469)? `ctx`: the decode has a stream context. -/
def headerBad (b : List Byte) (ctx : Bool) : Bool :=
  decide (b.length < 16) || (b.take 4 != [0x4D, 0x5A, 0x50, 0x4B]) || (b.getD 4 0 != 1)
  || decide (32 ≤ hdrFlags b) || decide (2 ≤ hdrMode b)
  || ((hdrCont b || hdrLast b) && !hdrStream b) || decide (65536 < hdrRawLen b)
  || (hdrMode b == 0 && hdrBlockLen b != 16 + hdrRawLen b)
  || (hdrMode b == 1 && (hdrRawLen b == 0 || decide (hdrBlockLen b < 17)))
  || (hdrBlockLen b != b.length) || (hdrCont b && !ctx)

/-- A block decoded: `b` is as long as the packed length the caller gives, `limit` its output limit, `ctx` its stream context's
history where it has one (R469 to R477). -/
def decodeBlock (b : List Byte) (limit : Nat) (ctx : Option (List Byte)) : Decoded :=
  if headerBad b ctx.isSome then .err stBAD_HEADER else
  let raw := hdrRawLen b
  let fin := fun (r : Decoded) => match r with
    | .ok o => if (crc32 o).toNat = hdrCheck b then Decoded.ok o else .err stCHECK_FAIL
    | e => e
  if hdrMode b = 0 then (if limit < raw then .err stLEN_OVERRUN else fin (.ok (b.drop 16)))
  else
    match readLens 313 313 (byteBits (b.drop 16)) with
    | none => .err stBAD_HEADER
    | some (lens, l) =>
      let ll := lens.take 285
      let dd := lens.drop 285
      if oversubscribed ll || oversubscribed dd || ll.getD 256 0 == 0 then .err stBAD_HEADER
      else if limit < raw then .err stLEN_OVERRUN
      else
        let hist := if hdrCont b then (ctx.getD []).reverse else []
        fin (decodeSyms ll dd raw (raw + 1) l hist 0)

/-! ## Encoding (R479 to R481) -/

/-- What the encoder emits for a position. -/
inductive PackTok where
  | lit (b : Byte)
  | cpy (len d : Nat)
  deriving DecidableEq, Repr

/-- How long the data at `a` and at `b` agree, up to a limit. -/
def agree : Nat → List Byte → List Byte → Nat
  | 0, _, _ => 0
  | n + 1, x :: xs, y :: ys => if x = y then agree n xs ys + 1 else 0
  | _ + 1, _, _ => 0

/-- The longest match at position `p` of `data`, at least 4 bytes, nearest on equal length, among the 4 most recent earlier
positions of the same hash within 16,384 bytes (R479). -/
def longestMatch (data : List Byte) (p : Nat) : Option (Nat × Nat) :=
  if data.length < p + 4 then none else
  let h := Config.packHash ((data.drop p).take 4)
  let cand := ((List.range (min p 16384)).map (fun k => k + 1)).filter (fun d => Config.packHash ((data.drop (p - d)).take 4) == h)
  let best := (cand.take 4).foldl (fun (b : Nat × Nat) d =>
    let n := agree 259 (data.drop (p - d)) (data.drop p)
    if b.1 < n then (n, d) else b) (0, 0)
  if 4 ≤ best.1 then some best else none

/-- The tokens of the data from position `p` on (R479). -/
def packToks (data : List Byte) : Nat → Nat → List PackTok
  | 0, _ => []
  | fuel + 1, p =>
    match data[p]? with
    | none => []
    | some b =>
      match longestMatch data p with
      | some (n, d) => .cpy n d :: packToks data fuel (p + n)
      | none => .lit b :: packToks data fuel (p + 1)

/-- The symbols used: literal/length, then distance at 285 on. -/
def tokSyms : PackTok → List Nat
  | .lit b => [b.toNat]
  | .cpy n d => [(lenSym n).1, 285 + (distSym d).1]

/-- The counts of the 313 symbols, end-of-block included. -/
def symCounts (toks : List PackTok) : List Nat :=
  let used := 256 :: toks.flatMap tokSyms
  (List.range 313).map (fun s => (used.filter (· == s)).length)

/-- Code lengths that cover the symbols used, as R475 and R480 ask. -/
def lensOk (counts lens : List Nat) : Bool :=
  lens.length == 313 && lens.all (fun l => decide (l ≤ 15)) && !oversubscribed (lens.take 285) && !oversubscribed (lens.drop 285)
  && (List.range 313).all (fun s => counts.getD s 0 == 0 || decide (0 < lens.getD s 0))

/-- The encoder's code lengths: open where R480 leaves them, of 9 and 5 bits where the open value does not conform. -/
def packLens (counts : List Nat) : List Nat :=
  if lensOk counts (Config.packLengths counts) then Config.packLengths counts
  else (List.range 313).map (fun s => if s < 285 then 9 else 5)

/-- The table section (R474). -/
def lensBits : Nat → List Nat → List Bool
  | 0, _ => []
  | _ + 1, [] => []
  | fuel + 1, 0 :: r =>
    let k := min 15 (r.takeWhile (· == 0)).length
    natBits 4 0 ++ natBits 4 k ++ lensBits fuel (r.drop k)
  | fuel + 1, l :: r => natBits 4 l ++ lensBits fuel r

/-- The bits of a token. -/
def tokBits (lens : List Nat) : PackTok → List Bool
  | .lit b => symBits (lens.take 285) b.toNat
  | .cpy n d =>
    symBits (lens.take 285) (lenSym n).1 ++ natBits (lenSym n).2.1 (lenSym n).2.2
      ++ symBits (lens.drop 285) (distSym d).1 ++ natBits (distSym d).2.1 (distSym d).2.2

/-- The packed payload of raw bytes after a history (R472). -/
def packPayload (hist raw : List Byte) : List Byte :=
  let toks := packToks (hist ++ raw) raw.length hist.length
  let lens := packLens (symCounts toks)
  bitBytes (lensBits 313 lens ++ toks.flatMap (tokBits lens) ++ symBits (lens.take 285) 256)

/-- A block header (R468). -/
def blockHeader (flags rawLen blockLen : Nat) (check : Word) : List Byte :=
  [0x4D, 0x5A, 0x50, 0x4B, 1, BitVec.ofNat 8 flags] ++ leBytes 3 rawLen ++ leBytes 3 blockLen ++ leBytes 4 check.toNat

/-- A raw block. -/
def rawBlock (flags : Nat) (raw : List Byte) : List Byte :=
  blockHeader (flags / 4 * 4) raw.length (16 + raw.length) (crc32 raw) ++ raw

/-- Does a block gain nothing by packing (R481)? -/
def noGain (hist raw : List Byte) : Bool := decide (raw.length ≤ (packPayload hist raw).length)

/-- The block of raw bytes: packed, or raw where packing gains nothing (R481). `flags` are STREAM, CONT and LAST. -/
def encodeBlock (flags : Nat) (hist raw : List Byte) : List Byte :=
  if raw.isEmpty || noGain hist raw then rawBlock flags raw
  else blockHeader (flags / 4 * 4 + 1) raw.length (16 + (packPayload hist raw).length) (crc32 raw) ++ packPayload hist raw

/-- The last 16,384 bytes (R476, R485). -/
def lastHist (l : List Byte) : List Byte := l.drop (l.length - 16384)

/-- The blocks a stream ENCODE writes of `pend` pending bytes, and the context that stays (R483). -/
def streamBlocks : Nat → StreamCtx → List Byte × StreamCtx
  | 0, c => ([], c)
  | fuel + 1, c =>
    if c.pend.length < 65536 then ([], c)
    else
      let raw := c.pend.take 65536
      let blk := encodeBlock (4 + (if c.begun then 8 else 0)) c.hist raw
      let r := streamBlocks fuel { c with pend := c.pend.drop 65536, hist := lastHist (c.hist ++ raw), begun := true }
      (blk ++ r.1, r.2)

/-! ## Jobs (R490 to R494) -/

/-- The context of a tenant. -/
def ctxOf (s : State) (t : Nat) : StreamCtx := mapGet ctxDflt s.pkr.ctx t

/-- The ring of a tenant: address, slots, HEAD and TAIL. -/
def ringBase (s : State) (t : Nat) : Nat :=
  rf s (Reg.PKR_RING_LO t) Fld.PKR_RING_LO_ADDR_LO * 64 + rf s (Reg.PKR_RING_HI t) Fld.PKR_RING_HI_ADDR_HI * 2 ^ 32
def ringSize (s : State) (t : Nat) : Nat := 2 ^ rf s (Reg.PKR_RING_SIZE t) Fld.PKR_RING_SIZE_N
def ringHead (s : State) (t : Nat) : Nat := rf s (Reg.PKR_HEAD t) Fld.PKR_HEAD_INDEX
def ringTail (s : State) (t : Nat) : Nat := rf s (Reg.PKR_TAIL t) Fld.PKR_TAIL_INDEX

/-- The slots of a tenant's ring that hold jobs, oldest first. -/
def jobSlots (s : State) (t : Nat) : List Nat :=
  (List.range ((ringHead s t + ringSize s t - ringTail s t) % ringSize s t)).map (fun k => (ringTail s t + k) % ringSize s t)

def jobDone (s : State) (t k : Nat) : Bool := mapGet falseFlag s.pkr.doneJobs (4096 * t + k)

/-- Word `w` of a job's descriptor. -/
def jobWord (s : State) (t k w : Nat) : Nat := leValue (dramRead s (ringBase s t + 32 * k + 4 * w) 4)

/-- Fields of a descriptor (R490). -/
def jobOp (s : State) (t k : Nat) : Nat := jobWord s t k 0 % 16
def jobStream (s : State) (t k : Nat) : Bool := bitsOf (jobWord s t k 0) 4 4 == 1
def jobRawOk (s : State) (t k : Nat) : Bool := bitsOf (jobWord s t k 0) 5 5 == 1
def jobLast (s : State) (t k : Nat) : Bool := bitsOf (jobWord s t k 0) 6 6 == 1
def jobSrcBank (s : State) (t k : Nat) : Bool := bitsOf (jobWord s t k 0) 7 7 == 1
def jobDstBank (s : State) (t k : Nat) : Bool := bitsOf (jobWord s t k 0) 8 8 == 1
def jobSrc (s : State) (t k : Nat) : Nat := jobWord s t k 1 + 2 ^ 32 * (jobWord s t k 2 % 16)
def jobDst (s : State) (t k : Nat) : Nat := jobWord s t k 3 + 2 ^ 32 * (jobWord s t k 4 % 16)
def jobLen (s : State) (t k : Nat) : Nat := jobWord s t k 5 % 0x1000000
def jobLimit (s : State) (t k : Nat) : Nat := jobWord s t k 6 % 0x1000000

/-- May a lane start the job in a slot: it is in the ring, not done, and no earlier stream job of the tenant is unfinished where
it is one itself (R493)? -/
def jobReady (s : State) (t k : Nat) : Bool :=
  (jobSlots s t).contains k && !jobDone s t k
  && (!jobStream s t k || ((jobSlots s t).takeWhile (· != k)).all (fun q => jobDone s t q || !jobStream s t q))

/-- Is a range of the SRAM bank window inside the shared banks (R491)? -/
def sharedRange (a n : Nat) : Bool := decide (0x08000000 + 0x40000 * 384 ≤ a ∧ a + n ≤ 0x10000000)

/-- Is a descriptor refused with BAD_ARG (R491)? -/
def jobBad (s : State) (t k : Nat) : Bool :=
  decide (3 ≤ jobOp s t k)
  || (jobOp s t k != 2 && (jobLen s t k == 0 || (jobOp s t k == 0 && !jobStream s t k && decide (65536 < jobLen s t k))))
  || bitsOf (jobWord s t k 0) 15 10 != 0 || bitsOf (jobWord s t k 2) 31 4 != 0 || bitsOf (jobWord s t k 4) 31 4 != 0
  || bitsOf (jobWord s t k 5) 31 24 != 0 || bitsOf (jobWord s t k 6) 31 24 != 0
  || (jobSrcBank s t k && jobOp s t k != 2 && !sharedRange (jobSrc s t k) (jobLen s t k))
  || (jobDstBank s t k && !sharedRange (jobDst s t k) (jobLimit s t k))

/-- The banks of a window range. -/
def banksIn (a n : Nat) : List Nat :=
  (List.range ((a + n + 0x3FFFF) / 0x40000 - a / 0x40000)).map (fun i => a / 0x40000 + i)

/-- The first bank of a window range that refuses the packer (owner 0x20, R492), with the cause. -/
def pkrRefusal (s : State) (a n : Nat) : Option (Nat × Nat) :=
  (banksIn (a - 0x08000000) n).findSome? (fun b => (bankCause s b 0x20 true).map (fun c => (b, c)))

/-- A lane reads a job's input: the status, and the bytes. -/
def jobInput (s : State) (t k : Nat) : Nat × List Byte :=
  let a := jobSrc s t k
  let n := jobLen s t k
  if jobOp s t k = 2 then (stOK, [])
  else if jobSrcBank s t k then
    match pkrRefusal s a n with
    | some _ => (stNOT_OWNER, [])
    | none => if bankUE s (a - 0x08000000) n then (stDATA_UE, []) else (stOK, sramRead s (a - 0x08000000) n)
  else if dramUE s a n then (stDATA_UE, []) else (stOK, dramBytes s a n)

/-- What the read reports. -/
def jobReadActs (s : State) (lane t k : Nat) : List Act :=
  let a := jobSrc s t k
  let n := jobLen s t k
  if jobOp s t k = 2 then []
  else if jobSrcBank s t k then
    match pkrRefusal s a n with
    | some q => bankRefused s q.1 (160 + lane) q.2 ((a - 0x08000000) % 0x40000)
    | none => bankReadActs s (a - 0x08000000) n
  else dramReadActs s a n

/-- What a job yields from its input: status, output bytes, and the tenant's context after it. -/
def jobResult (s : State) (t k : Nat) (inp : List Byte) : Nat × List Byte × StreamCtx :=
  let c := ctxOf s t
  let lim := jobLimit s t k
  let fit := fun (o : List Byte) (c' : StreamCtx) => if lim < o.length then (stLEN_OVERRUN, [], c) else (stOK, o, c')
  match jobOp s t k with
  | 0 =>
    if jobStream s t k then
      let r := streamBlocks (inp.length / 65536 + 2) { c with pend := c.pend ++ inp }
      fit r.1 r.2
    else if noGain [] inp && !jobRawOk s t k then (stNO_GAIN, [], c)
    else fit (encodeBlock 0 [] inp) c
  | 1 =>
    let ctx := if jobStream s t k then some c.dhist else none
    match decodeBlock inp lim ctx with
    | .ok o => (stOK, o, if jobStream s t k then
        { c with dhist := if hdrLast inp then [] else lastHist ((if hdrCont inp then c.dhist else []) ++ o) } else c)
    | .err e => (e, [], if jobStream s t k && hdrCont inp then { c with dhist := [] } else c)
  | _ =>
    let fl := 4 + (if c.begun then 8 else 0)
    if c.pend.isEmpty then
      if jobLast s t k then fit (rawBlock (4 + (if c.begun then 8 else 0) + 16) []) { c with pend := [], hist := [], begun := false }
      else (stOK, [], c)
    else
      let o := encodeBlock (fl + (if jobLast s t k then 16 else 0)) c.hist c.pend
      fit o (if jobLast s t k then { c with pend := [], hist := [], begun := false }
             else { c with pend := [], hist := lastHist (c.hist ++ c.pend), begun := true })

/-- A job's output written, or its destination left undefined up to DST_LIMIT after a failed decode or NO_GAIN (R478, R481). -/
def jobWrite (s : State) (t k st : Nat) (out : List Byte) : Nat × List Act :=
  let a := jobDst s t k
  let bytes := if st = stOK then out
    else if st = stNO_GAIN ∨ (jobOp s t k = 1 ∧ st ≠ stBAD_ARG ∧ st ≠ stNOT_OWNER ∧ st ≠ stDATA_UE) then
      (List.range (jobLimit s t k)).map (Config.undefinedByte s.free)
    else []
  if bytes.isEmpty then (st, [])
  else if jobDstBank s t k then
    match pkrRefusal s a bytes.length with
    | some q => (stNOT_OWNER, bankRefused s q.1 160 q.2 ((a - 0x08000000) % 0x40000))
    | none => (if bankWriteUE s (a - 0x08000000) bytes then stDATA_UE else st, bankWrite s (a - 0x08000000) bytes)
  else (if dramRange s a bytes.length then stDATA_UE else st, dramStore s a bytes)

/-- A packer error is counted, recorded and logged with its client (R478). -/
def packError (s : State) (lane st : Nat) (ts : List Nat) (a : BitVec 64) : List Act :=
  [.inc Reg.PKR_ERR_CNT Fld.PKR_ERR_CNT_COUNT 1,
   .reg Reg.PKR_ERR_LAST (putF (putF 0 Fld.PKR_ERR_LAST_MASTER (160 + lane)) Fld.PKR_ERR_LAST_CODE st)]
  ++ logStatus s (0xB10 + lane) 12 st ts a

/-- Is a status one of the decoder's errors (R477)? -/
def decodeError (st : Nat) : Bool := [stBAD_HEADER, stLEN_OVERRUN, stILLEGAL_CODE, stDIST_BEYOND, stCHECK_FAIL].contains st

/-- TAIL passes every job at the front of the ring that has completed (R493). -/
def retireJobs (t : Nat) : Eff := fun s =>
  let gone := (jobSlots s t).takeWhile (jobDone s t)
  if gone.isEmpty then [] else
  [.fld (Reg.PKR_TAIL t) Fld.PKR_TAIL_INDEX ((ringTail s t + gone.length) % ringSize s t),
   .pkr (fun p => { p with doneJobs := gone.foldl (fun m k => mapPut falseFlag m (4096 * t + k) false) p.doneJobs })]

/-- A lane runs a ring job whose OP is `op` (R490 to R493): its input, its output, the completion written back, the events. -/
def runJob (op lane t k : Nat) : List Eff := [
  fun s =>
    if bitsOf (rf s Reg.PKR_STATUS Fld.PKR_STATUS_OUT) lane lane = 1 ∨ !jobReady s t k ∨ s.sys.supplyLoss
        ∨ !(jobOp s t k = op ∨ (3 ≤ jobOp s t k ∧ op = 0)) then [] else
    let inp := if jobBad s t k then (stBAD_ARG, []) else jobInput s t k
    let r := if inp.1 = stOK then jobResult s t k inp.2 else (inp.1, [], ctxOf s t)
    let w := if jobBad s t k then (stBAD_ARG, []) else jobWrite s t k r.1 r.2.1
    let res := if w.1 = stOK then r.2.1.length else 0
    let d := ringBase s t + 32 * k
    (if jobBad s t k then [] else jobReadActs s lane t k)
    ++ w.2
    ++ [.draw]
    ++ dramStore s d (leBytes 4 (jobWord s t k 0 % 512 + 512 + 65536 * w.1))
    ++ dramStore s (d + 28) (leBytes 4 res)
    ++ [.pkr (fun p => { p with
          doneJobs := mapPut falseFlag p.doneJobs (4096 * t + k) true
          ctx := mapPut ctxDflt p.ctx t r.2.2
          inThis := p.inThis + inp.2.length
          outThis := p.outThis + res })]
    ++ (if decodeError w.1 then packError s lane w.1 [0, t] (arg [(16, lane), (16, t)]) else [])
    ++ eventNow s 12 (if w.1 = stOK ∨ w.1 = stNO_GAIN then 0 else 1) [t] (0xB10 + lane) (arg [(16, lane), (16, t)]),
  retireJobs t]

/-- PKR HEAD: the tenant advances it; new jobs become available (R493). The write needs the PACKER privilege (R569). -/
def pkrHeadWrite (by_ t : Nat) (v : Word) : Eff := fun s =>
  if by_ ≠ 0 ∧ by_ ≠ t then tenantFault s by_ stNOT_OWNER (Reg.PKR_HEAD t)
  else if !hasPriv s by_ 1 then tenantFault s by_ stNOT_OWNER (Reg.PKR_HEAD t)
  else [.fld (Reg.PKR_HEAD t) Fld.PKR_HEAD_INDEX (getF v Fld.PKR_HEAD_INDEX)]

/-- A write of RING_BASE or RING_SIZE while HEAD differs from TAIL is refused with BUSY, a size outside 4 to 12 with BAD_ARG
(R494, R497): the status of the refusal. -/
def pkrRingCheck (s : State) (t a : Nat) (v : Word) : Option Nat :=
  if ringHead s t ≠ ringTail s t then some stBUSY
  else if a = Reg.PKR_RING_SIZE t ∧ (getF v Fld.PKR_RING_SIZE_N < 4 ∨ 12 < getF v Fld.PKR_RING_SIZE_N) then some stBAD_ARG
  else none

/-- A tenant reset discards the jobs, and clears the ring's indexes and the contexts (R482, R494). -/
def pkrTenantReset (t : Nat) : Eff := fun _ =>
  [.reg (Reg.PKR_HEAD t) 0, .reg (Reg.PKR_TAIL t) 0,
   .pkr (fun p => { p with doneJobs := p.doneJobs.filter (fun e => e.1 / 4096 != t), ctx := mapPut ctxDflt p.ctx t (ctxDflt 0) })]

/-- At an edge the byte counts of the last completed curtain are shown (R497). -/
def pkrEdge : Eff := fun s =>
  [.reg Reg.PKR_IN_BYTES (BitVec.ofNat 32 s.pkr.inThis), .reg Reg.PKR_OUT_BYTES (BitVec.ofNat 32 s.pkr.outThis),
   .pkr (fun p => { p with inThis := 0, outThis := 0 })]

/-- A lane in service, the lowest. -/
def freeLane (s : State) : Option Nat :=
  (List.range 8).find? (fun l => bitsOf (rf s Reg.PKR_STATUS Fld.PKR_STATUS_OUT) l l == 0)

/-! ## The commands -/

/-- PKR_HEAD_WRITE (R493). -/
def execPkrHeadWrite (a : Acc) (t : Fin 8) (v : Word) (s : State) : Out := 
  done s (gate a (Reg.PKR_HEAD t) true false (fun u => pkrHeadWrite u t v) s)

/-- ENCODE (R479, R481, R483). -/
def execEncode (lane t : Fin 8) (slot : Fin 4096) (s : State) : Out := doneAll s (runJob 0 lane t slot)

/-- DECODE (R476, R485). -/
def execDecode (lane t : Fin 8) (slot : Fin 4096) (s : State) : Out := doneAll s (runJob 1 lane t slot)

/-- FLUSH (R484). -/
def execFlush (lane t : Fin 8) (slot : Fin 4096) (s : State) : Out := doneAll s (runJob 2 lane t slot)

/-- PACKER_FAULT: the lane is mapped out at level 4; its work starts again on another lane (R489). -/
def execPackerFault (lane : Fin 8) (s : State) : Out :=
  done s (if bitsOf (rf s Reg.PKR_STATUS Fld.PKR_STATUS_OUT) lane lane = 1 then [] else
    .fld Reg.PKR_STATUS Fld.PKR_STATUS_OUT (rf s Reg.PKR_STATUS Fld.PKR_STATUS_OUT + 2 ^ lane.val)
      :: eventLv s 12 2 4 allTenants (0xB10 + lane) (arg [(16, lane)]))

end Sys2Proof.Machine
end

