-- ==== Sys2Proof/Machine/Flags.lean ====
section
/-! DEFINITION. The flags and conditions of the programmable units: the engines' compare conditions (R213), saturation and
rounding (R216, R217), STICKY (R210), the event latch (R238); the sequencers' lane flags and conditions (R301). -/

namespace Sys2Proof.Machine

/-- The conditions of VCMP, VCMPI and the scalar branches: 0 EQ, 1 NE, 2 LT, 3 GE, 4 LTU, 5 GEU (R213). -/
def condHolds (c : Nat) (a b : Word) : Bool :=
  match c with
  | 0 => a == b
  | 1 => a != b
  | 2 => decide (a.toInt < b.toInt)
  | 3 => decide (b.toInt ≤ a.toInt)
  | 4 => decide (a.toNat < b.toNat)
  | _ => decide (b.toNat ≤ a.toNat)

/-- The ends of the 32-bit range that the unsigned bit selects (R217). -/
def rangeLo (uns : Bool) : Int := if uns then 0 else -2147483648
def rangeHi (uns : Bool) : Int := if uns then 4294967295 else 2147483647

/-- Saturation to it. -/
def satWord (uns : Bool) (x : Int) : Word := BitVec.ofInt 32 (clampInt x (rangeLo uns) (rangeHi uns))

/-- `a / b` for b ≠ 0 rounded: 0 half away from zero, 1 floor, 2 truncate toward zero (R217). -/
def roundQuot (rnd : Nat) (a b : Int) : Int :=
  let n := if b < 0 then -a else a
  let d := if b < 0 then -b else b
  match rnd with
  | 0 => divRound n d
  | 1 => n / d
  | _ => Int.tdiv n d

/-- The result of a VDIV lane: with divisor 0 the limit of the dividend's sign, or 0 for 0 (R217). -/
def vdivLane (rnd : Nat) (uns : Bool) (a b : Int) : Word :=
  if b = 0 then (if a = 0 then 0 else if 0 < a then satWord uns (rangeHi uns) else satWord uns (rangeLo uns))
  else satWord uns (roundQuot rnd a b)

/-- Bits of STICKY (R210). -/
def stDIVZ : Nat := 0
def stLUT_MISS : Nat := 1

/-- Bits of the event latch (R238). -/
def evEDGE : Nat := 0
def evRESCUE : Nat := 1
def evDEADLINE : Nat := 2
def evTICKET : Nat := 3
def evWITHDRAW : Nat := 4
def evSU0 : Nat := 5
def evSU1 : Nat := 6
def evCLOSE : Nat := 7

/-- A bit of an engine's STICKY is set. -/
def Engine.stick (g : Engine) (b : Nat) : Engine := { g with sticky := setBit g.sticky b true }

/-- A bit of an engine's event latch is set. -/
def Engine.latchEvt (g : Engine) (b : Nat) : Engine := { g with evt := setBit g.evt b true }

end Sys2Proof.Machine
end

