-- ==== Sys2Proof/Machine/Operands.lean ====
section
/-! DEFINITION. The operand forms of the steep engines: registers, lanes and guards (R208, R213), the data space (R224 to
R226), the syllable formats (R211, R212), and what the two syllables of a bundle yield. -/

namespace Sys2Proof.Machine

/-! ## Registers -/

/-- Engine `e`. -/
def eng (s : State) (e : Nat) : Engine := mapGet engDflt s.engs e

/-- Scalar register `n`; s0 reads 0 (R208). -/
def Engine.sr (g : Engine) (n : Nat) : Word := if n = 0 then 0 else mapGet zeroWord g.s n

/-- A write of scalar register `n`; writes of s0 are discarded (R208). -/
def Engine.putS (g : Engine) (n : Nat) (v : Word) : Engine := if n = 0 then g else { g with s := mapPut zeroWord g.s n v }

/-- Lane `i` of vector register `n`. -/
def Engine.lane (g : Engine) (n i : Nat) : Word := mapGet zeroWord g.v (32 * n + i)

/-- A write of a lane. -/
def Engine.putLane (g : Engine) (n i : Nat) (v : Word) : Engine := { g with v := mapPut zeroWord g.v (32 * n + i) v }

/-- The 64-bit value of a lane of the pair at even `n` (R208). -/
def Engine.pair (g : Engine) (n i : Nat) : Nat := (g.lane n i).toNat + 2 ^ 32 * (g.lane (n + 1) i).toNat

/-- Predicate register `n`; p0 reads all ones (R208). -/
def Engine.pr (g : Engine) (n : Nat) : Word := if n = 0 then 0xFFFFFFFF else mapGet zeroWord g.p n

/-- A write of predicate register `n`; writes of p0 are discarded (R208). -/
def Engine.putP (g : Engine) (n : Nat) (v : Word) : Engine := if n = 0 then g else { g with p := mapPut zeroWord g.p n v }

/-- The guard bit of a lane (R213). -/
def Engine.guard (g : Engine) (pg i : Nat) : Bool := bit (g.pr pg) i

/-- The guarded lanes, ascending. -/
def Engine.guarded (g : Engine) (pg : Nat) : List Nat := (List.range 32).filter (g.guard pg)

/-- Lane values written to register `n`. -/
def Engine.putLanes (g : Engine) (n : Nat) : List (Nat × Word) → Engine
  | [] => g
  | q :: qs => (g.putLane n q.1 q.2).putLanes n qs

/-- A 64-bit value written to a lane of the pair at `n`. -/
def Engine.putPair (g : Engine) (n i v : Nat) : Engine :=
  (g.putLane n i (BitVec.ofNat 32 v)).putLane (n + 1) i (BitVec.ofNat 32 (v / 2 ^ 32))

/-- A 64-bit value read as signed, or as unsigned. -/
def asInt64 (uns : Bool) (v : Nat) : Int := if uns then v else toSigned 64 v

/-- A 32-bit word read as signed, or as unsigned. -/
def asInt32 (uns : Bool) (v : Word) : Int := if uns then (v.toNat : Int) else v.toInt

/-! ## The data space (R224 to R226) -/

/-- The SRAM address of an engine data-space address, for cluster `c` (R224). -/
def spaceAddr (c a : Nat) : Option Nat :=
  if a < 0x600000 then some (0x40000 * 24 * c + a)
  else if 0x01000000 ≤ a ∧ a < 0x01800000 then some (0x40000 * (384 + 32 * (c / 4)) + (a - 0x01000000))
  else none

/-- An access of an engine's cluster: reached, a fault, or refused by a bank. -/
inductive Access where
  | ok (flat : Nat)
  | bad (code : Nat)
  | refused (bank cause off : Nat)
  deriving DecidableEq, Repr

/-- Codes of R247. -/
def flILLEGAL_OP : Nat := 0x01
def flILLEGAL_BUNDLE : Nat := 0x02
def flBANK_REFUSED : Nat := 0x03
def flADDR_RANGE : Nat := 0x04
def flMISALIGNED : Nat := 0x05
def flSAMPLE_WINDOW : Nat := 0x06
def flWATCHDOG : Nat := 0x07
def flPROGRAM : Nat := 0x08
def flREGFILE_PARITY : Nat := 0x10
def flPSTORE_ECC : Nat := 0x11
def flLANE_TEST : Nat := 0x12
def flUNIT : Nat := 0x13

/-- An access of `size` bytes by cluster `c` (R224 to R226). -/
def spaceAccess (s : State) (c a size : Nat) : Access :=
  if a % size ≠ 0 then .bad flMISALIGNED
  else match spaceAddr c a with
  | none => .bad flADDR_RANGE
  | some f =>
    match bankCause s (f / 0x40000) (0x10 + c) true with
    | some k => .refused (f / 0x40000) k (f % 0x40000)
    | none => .ok f

/-! ## What a syllable yields -/

/-- What a syllable does when its bundle issues. -/
structure SylRes where
  put : Engine → Engine             -- its register results
  mem : List Act                    -- its stores and what they report, in order
  jump : Option Nat                 -- a taken branch or jump
  skip : Option Nat                 -- LOOP of 0 runs: bundles skipped
  body : Option (Nat × Nat)         -- LOOP: bundles of the body, runs
  fault : Option (Nat × Nat)        -- code and AUX
  wait : Option EngWait
  ue : Bool                         -- its read met an uncorrectable error (R456)

/-- A syllable that does nothing. -/
def resNone : SylRes := ⟨id, [], none, none, none, none, none, false⟩

/-- A syllable that only writes registers. -/
def resPut (f : Engine → Engine) : SylRes := { resNone with put := f }

/-- A decoded syllable: whether it is illegal, the scalar registers it writes (R219), the vector registers it reads or writes,
whether it calls a unit (some true: the LUT unit), its issue clocks, and what it does to state `s` for engine `e` with
registers `g`. -/
structure Syl where
  illegal : Bool
  writes : List Nat
  vregs : List Nat
  calls : Option Bool
  clocks : Nat
  run : State → Nat → Engine → SylRes

/-- A syllable of one clock that never faults on its fields. -/
def syl (writes vregs : List Nat) (run : State → Nat → Engine → SylRes) : Syl := ⟨false, writes, vregs, none, 1, run⟩

/-- A reserved opcode or field value (R247). -/
def sylIllegal : Syl := ⟨true, [], [], none, 1, fun _ _ _ => resNone⟩

/-- A syllable, illegal under a condition. -/
def Syl.unless (bad : Bool) (y : Syl) : Syl := { y with illegal := bad || y.illegal }

/-! ## Fields of a syllable word (R212) -/

def fOp (w : Nat) : Nat := bitsOf w 31 26
def fSd (w : Nat) : Nat := bitsOf w 25 21
def fSa (w : Nat) : Nat := bitsOf w 20 16
def fSb (w : Nat) : Nat := bitsOf w 15 11
def fImm16 (w : Nat) : BitVec 16 := BitVec.ofNat 16 w
def fOff26 (w : Nat) : BitVec 26 := BitVec.ofNat 26 w
def fPg (w : Nat) : Nat := bitsOf w 25 23
def fVd (w : Nat) : Nat := bitsOf w 22 17
def fVa (w : Nat) : Nat := bitsOf w 16 11
def fVb (w : Nat) : Nat := bitsOf w 10 5
def fMd (w : Nat) : Nat := bitsOf w 4 0
def fImm11 (w : Nat) : BitVec 11 := BitVec.ofNat 11 w
def fVmSa (w : Nat) : Nat := bitsOf w 16 12
def fOff12 (w : Nat) : BitVec 12 := BitVec.ofNat 12 w
def fVxSa (w : Nat) : Nat := bitsOf w 10 6
def fSize (w : Nat) : Nat := bitsOf w 5 4
def fPd (w : Nat) : Nat := bitsOf w 22 20
def fCond (w : Nat) : Nat := bitsOf w 10 8
def fImm8 (w : Nat) : BitVec 8 := BitVec.ofNat 8 w

/-- A two's-complement immediate as a word. -/
def sext {n : Nat} (v : BitVec n) : Word := v.signExtend 32

/-- A zero-extended immediate as a word. -/
def zext {n : Nat} (v : BitVec n) : Word := v.zeroExtend 32

end Sys2Proof.Machine
end

