-- ==== Sys2Proof/Machine/Sources.lean ====
section
/-! DEFINITION. The source inputs, their frame stores, adoption and damage, PTP and the previews (03_sources.md). -/

namespace Sys2Proof.Machine

/-! ## Frame stores (R97 to R101) -/

/-- Source `x`. -/
def srcOf (s : State) (x : Nat) : Source := mapGet srcDflt s.srcs x

/-- The states of R106. -/
def ssOFF : Nat := 0
def ssSEEKING : Nat := 1
def ssACTIVE : Nat := 2
def ssLOST : Nat := 3
def ssREFUSED : Nat := 4

/-- The state a source reports in SRC_FMT.STATE. -/
def srcState (s : State) (x : Nat) : Nat := rf s (Reg.SRC_FMT x) Fld.SRC_FMT_STATE

/-- The packing of a component depth: 0 P8, 1 P10, 2 P12 (R97). -/
def packingOf (depth : Nat) : Nat := if depth ≤ 8 then 0 else if depth = 10 then 1 else 2

/-- Samples and bytes of one packing group. -/
def groupSamples (p : Nat) : Nat := match p with | 0 => 1 | 1 => 4 | _ => 2
def groupBytes (p : Nat) : Nat := match p with | 0 => 1 | 1 => 5 | _ => 3

/-- Bytes of `n` packed samples, the last group completed (R98). -/
def packedLen (p n : Nat) : Nat := (n + groupSamples p - 1) / groupSamples p * groupBytes p

/-- A line's pitch (R98). -/
def pitchOf (p n : Nat) : Nat := (packedLen p n + 255) / 256 * 256

/-- Samples of one line and lines of plane 1 (R97). -/
def chromaSamples (sampling w : Nat) : Nat := if sampling = 1 ∨ sampling = 2 then 2 * ((w + 1) / 2) else 2 * w
def chromaLines (sampling h : Nat) : Nat := if sampling = 2 then (h + 1) / 2 else h

/-- Samples packed into bytes (R97); 6-bit samples are left-justified with zero fill. -/
def packLine (depth : Nat) : List Nat → List Byte
  | [] => []
  | a :: rest =>
    if depth ≤ 8 then BitVec.ofNat 8 (if depth = 6 then a * 4 else a) :: packLine depth rest
    else if depth = 10 then
      match rest with
      | b :: c :: d :: rest' => leBytes 5 (a % 1024 + 1024 * (b % 1024) + 2 ^ 20 * (c % 1024) + 2 ^ 30 * (d % 1024)) ++ packLine depth rest'
      | b :: c :: [] => leBytes 5 (a % 1024 + 1024 * (b % 1024) + 2 ^ 20 * (c % 1024))
      | b :: [] => leBytes 5 (a % 1024 + 1024 * (b % 1024))
      | [] => leBytes 5 (a % 1024)
    else
      match rest with
      | b :: rest' => leBytes 3 (a % 4096 + 4096 * (b % 4096)) ++ packLine depth rest'
      | [] => leBytes 3 (a % 4096)

/-- BUF: both planes at P12 4:4:4 of the declared size, rounded up to 64 KiB (R99). -/
def bufSize (r : Rd) (x : Nat) : Nat :=
  let w := rrf r (Reg.SRC_MAXSIZE x) Fld.SRC_MAXSIZE_WIDTH
  let h := rrf r (Reg.SRC_MAXSIZE x) Fld.SRC_MAXSIZE_HEIGHT
  ((pitchOf 2 w + pitchOf 2 (2 * w)) * h + 65535) / 65536 * 65536

/-- The base of a source's frame store (R99). -/
def storeBase (r : Rd) (x : Nat) : Nat :=
  (r (Reg.SRC_STORE_LO x)).toNat + 2 ^ 32 * rrf r (Reg.SRC_STORE_HI x) Fld.SRC_STORE_HI_ADDR_HI

/-- The bytes a frame of a format needs in its buffer (R100). -/
def frameBytes (f : FrameFmt) : Nat :=
  let p := packingOf f.depth
  pitchOf p f.width * f.height + pitchOf p (chromaSamples f.sampling f.width) * chromaLines f.sampling f.height

/-- Does the format meet R90 and R93, at a frame period (0: not yet known)? -/
def fmtOk (x : Nat) (f : FrameFmt) (ns : Nat) : Bool :=
  decide (640 ≤ f.width ∧ f.width ≤ 8192 ∧ 480 ≤ f.height ∧ f.height ≤ 4352)
  && (f.depth == 8 || f.depth == 10 || f.depth == 12 || (f.depth == 6 && decide (x < 4)))
  && decide (f.sampling < 4)
  && (ns == 0 || decide (23 * ns ≤ 1000000000 ∧ 1000000000 ≤ 240 * ns))

/-- Blocks across and down (R110). -/
def blocksX (f : FrameFmt) : Nat := (f.width + 63) / 64
def blocksY (f : FrameFmt) : Nat := (f.height + 63) / 64

/-- Where the whole packing groups of one line that hold any of samples [a, b) lie: address and length (R111). -/
def groupSpan (line p a b : Nat) : Nat × Nat :=
  if b ≤ a then (line, 0) else
  let g0 := a / groupSamples p
  let g1 := (b - 1) / groupSamples p
  (line + g0 * groupBytes p, (g1 - g0 + 1) * groupBytes p)

/-- The stored bytes of block (bx, by) of the frame in buffer `b` of source `x`, line by line: plane 0, then plane 1 (R110, R111). -/
def blockSpans (r : Rd) (x b : Nat) (f : FrameFmt) (bx by_ : Nat) : List (Nat × Nat) :=
  let p := packingOf f.depth
  let base := storeBase r x + b * bufSize r x
  let x0 := 64 * bx
  let x1 := min f.width (x0 + 64)
  let y0 := 64 * by_
  let y1 := min f.height (y0 + 64)
  let p0 := pitchOf p f.width
  let p1 := pitchOf p (chromaSamples f.sampling f.width)
  let sub := f.sampling == 1 || f.sampling == 2
  let c0 := if sub then 2 * (x0 / 2) else 2 * x0
  let c1 := if sub then 2 * ((x1 - 1) / 2 + 1) else 2 * x1
  let l0 := if f.sampling = 2 then y0 / 2 else y0
  let l1 := if f.sampling = 2 then (y1 - 1) / 2 + 1 else y1
  ((List.range (y1 - y0)).map (fun i => groupSpan (base + (y0 + i) * p0) p x0 x1))
    ++ ((List.range (l1 - l0)).map (fun i => groupSpan (base + p0 * f.height + (l0 + i) * p1) p c0 c1))

/-- The stored bytes of a block (R110, R423). -/
def blockBytes (s : State) (x b : Nat) (f : FrameFmt) (bx by_ : Nat) : List Byte :=
  (blockSpans (rd s) x b f bx by_).flatMap (fun q => dramRead s q.1 q.2)

/-- The CRC of block (bx, by) of the frame in buffer `b` of source `x` (R110, R111). -/
def blockCrc (s : State) (x b : Nat) (f : FrameFmt) (bx by_ : Nat) : Word := crc32 (blockBytes s x b f bx by_)

/-- Where the CRC of a block of buffer `b` lies (R99). -/
def crcAddr (r : Rd) (x b : Nat) : Nat := storeBase r x + 3 * bufSize r x + b * 0x9000

/-- The block CRCs of the frame in buffer `b` are written (R99, R110). -/
def writeCrcs (x b : Nat) (f : FrameFmt) : Eff := fun s =>
  (List.range (blocksY f)).flatMap (fun by_ => (List.range (blocksX f)).flatMap (fun bx =>
    dramStore s (crcAddr (rd s) x b + 4 * (by_ * blocksX f + bx)) (leBytes 4 (blockCrc s x b f bx by_).toNat)))

/-- The lines of a frame written into buffer `b` (R97 to R99, R101). -/
def writeFrame (s : State) (x b : Nat) (f : FrameFmt) (pl0 pl1 : List (List Nat)) : List Act :=
  let p := packingOf f.depth
  let base := storeBase (rd s) x + b * bufSize (rd s) x
  let p0 := pitchOf p f.width
  let p1 := pitchOf p (chromaSamples f.sampling f.width)
  (pl0.mapIdx (fun i l => dramStore s (base + i * p0) (packLine f.depth l))).flatten
    ++ (pl1.mapIdx (fun i l => dramStore s (base + p0 * f.height + i * p1) (packLine f.depth l))).flatten

/-! ## States (R106, R107) -/

/-- An event of a source, to every tenant, with the source number (R123). -/
def srcEvent (s : State) (x b : Nat) : List Act := eventNow s 2 b allTenants (1 + x) (arg [(16, x)])

/-- A source enters a state (R106 to R108). -/
def srcEnter (s : State) (x st : Nat) : List Act :=
  if srcState s x = st then [] else
  [.fld (Reg.SRC_FMT x) Fld.SRC_FMT_STATE st,
   .src x (fun q => { q with
      stayed := if st = ssLOST ∨ st = ssREFUSED then true else if st = ssACTIVE ∨ st = ssOFF then false else q.stayed
      force := true })]
  ++ (if st = ssLOST then srcEvent s x 0 else [])
  ++ (if st = ssACTIVE ∧ (srcOf s x).stayed then srcEvent s x 1 else [])

/-- The fields that SRC_FMT and SRC_SIZE record for each frame (R101, R121). -/
def recordFmt (x : Nat) (f : FrameFmt) : List Act :=
  [.fld (Reg.SRC_FMT x) Fld.SRC_FMT_SAMPLING f.sampling, .fld (Reg.SRC_FMT x) Fld.SRC_FMT_PACKING (packingOf f.depth),
   .fld (Reg.SRC_FMT x) Fld.SRC_FMT_RANGE f.range, .fld (Reg.SRC_FMT x) Fld.SRC_FMT_DSC (if f.dsc then 1 else 0),
   .fld (Reg.SRC_FMT x) Fld.SRC_FMT_PSF (if f.psf then 1 else 0), .fld (Reg.SRC_FMT x) Fld.SRC_FMT_TF f.tf,
   .fld (Reg.SRC_FMT x) Fld.SRC_FMT_COLOR f.color, .fld (Reg.SRC_SIZE x) Fld.SRC_SIZE_WIDTH f.width,
   .fld (Reg.SRC_SIZE x) Fld.SRC_SIZE_HEIGHT f.height]

/-- A format is detected with signal present: a change raises FORMAT_CHANGE and returns the source to SEEKING, or refuses it
(R100, R106, R109). -/
def srcFormat (x : Nat) (f : FrameFmt) (ns : Nat) : List Eff := [
  fun s => if (srcOf s x).fmt = some f then [] else
    recordFmt x f
    ++ [.src x (fun q => { q with fmt := some f, force := true, arrived := [] })]
    ++ (if (srcOf s x).fmt.isSome then srcEvent s x 2 else []),
  fun s =>
    let bad := !fmtOk x f ns || decide (bufSize (rd s) x < frameBytes f)
    if bad then
      .fld (Reg.SRC_STATUS x) Fld.SRC_STATUS_FMT_ERR 1 :: .fld (Reg.SRC_STATUS x) Fld.SRC_STATUS_OVER_BUDGET 0
        :: .src x (fun q => { q with fmtRefused := true }) :: srcEnter s x ssREFUSED
    else if srcState s x = ssLOST ∨ (srcOf s x).fmtRefused ∨ (srcOf s x).arrived = [] ∧ (srcOf s x).lastArrival = none then
      .src x (fun q => { q with fmtRefused := false }) ::
        (if srcState s x = ssLOST ∨ srcState s x = ssREFUSED then srcEnter s x ssSEEKING else [])
    else []]

/-- A change of format of a source that is ACTIVE or waits on the budget returns it to SEEKING (R106). -/
def srcReseek (x : Nat) (f : FrameFmt) : Eff := fun s =>
  if (srcOf s x).fmt = some f ∨ (srcOf s x).fmt = none then [] else
    .src x (fun q => { q with lastArrival := none }) ::
    (if srcState s x = ssACTIVE ∨ (srcState s x = ssREFUSED ∧ rf s (Reg.SRC_STATUS x) Fld.SRC_STATUS_OVER_BUDGET = 1) then
      .fld (Reg.SRC_STATUS x) Fld.SRC_STATUS_OVER_BUDGET 0 :: srcEnter s x ssSEEKING else [])

/-- The format a network source's flow registers name (R93). -/
def flowFmt (s : State) (x w h : Nat) (psf : Bool) : FrameFmt :=
  let g := fun f => rf s (Reg.SRC_FLOW_CFG x) f
  { sampling := g Fld.SRC_FLOW_CFG_SAMPLING
    depth := match g Fld.SRC_FLOW_CFG_DEPTH with | 0 => 8 | 1 => 10 | _ => 12
    range := g Fld.SRC_FLOW_CFG_RANGE, dsc := false, psf := psf
    tf := g Fld.SRC_FLOW_CFG_TF, color := g Fld.SRC_FLOW_CFG_COLOR, width := w, height := h }

/-- The buffer the writer fills: the older of the two that are not adopted (R103). -/
def writeBuf (q : Source) : Nat :=
  let free := (List.range 3).filter (fun b => q.adopted != some b)
  free.foldl (fun b c => if q.bufAge.getD c 0 < q.bufAge.getD b 0 then c else b) (free.getD 0 0)

/-- A frame has arrived in buffer `b`: it waits for adoption; an unadopted frame it overwrote is dropped (R102, R103). -/
def arrive (x b : Nat) (f : FrameFmt) : Eff := fun s =>
  let lost := (srcOf s x).arrived.filter (fun a => a.buf == b)
  [.src x (fun q => { q with
      arrived := q.arrived.filter (fun a => a.buf != b) ++ [⟨b, now s, f⟩]
      bufFmt := q.bufFmt.set b (some f), bufAge := q.bufAge.set b (now s) }),
   .inc (Reg.SRC_DROP_CNT x) Fld.SRC_DROP_CNT_COUNT lost.length]

/-- Frame timing: SRC_PERIOD is the measured period once two frames have arrived (R121). -/
def framePeriod (x : Nat) : Eff := fun s =>
  (match (srcOf s x).lastArrival with
    | some l => [Act.reg (Reg.SRC_PERIOD x) (BitVec.ofNat 32 (now s - l))]
    | none => [])
  ++ [.src x (fun q => { q with lastArrival := some (now s) })]

/-- The last active pixel of a frame reaches the frame store (R102, R106, R109, R115). For SRC4 and SRC5 the frame is the one
whose packets have all been received (R95), and its lines are in the store already. -/
def frameArrival (x at_ : Nat) (fmt : FrameFmt) (pl0 pl1 : List (List Nat)) : List Eff :=
  let on := fun (s : State) => decide (srcState s x ≠ ssOFF) &&
    (if x < 4 then (srcOf s x).linkUp else (srcOf s x).netMarker.isSome)
  let f := fun (s : State) => if x < 4 then fmt else flowFmt s x fmt.width fmt.height fmt.psf
  [fun s => if on s then [.clockTo at_] else [],
   fun s => if on s then srcReseek x (f s) s else [],
   fun s => if on s then seqE (srcFormat x (f s) 0) s else [],
   fun s => if on s then framePeriod x s else [],
   fun s =>
    if !on s then [] else
    if (srcOf s x).discardFirst then
      [.src x (fun q => { q with discardFirst := false }), .fld (Reg.SRC_STATUS x) Fld.SRC_STATUS_DISCARD 1] ++ srcEvent s x 5
    else if srcState s x ≠ ssACTIVE then []
    else if x < 4 then
      let b := writeBuf (srcOf s x)
      writeFrame s x b fmt pl0 pl1 ++ arrive x b fmt s
    else match (srcOf s x).netBuf with
      | some b => arrive x b (f s) s
      | none => [],
   fun s => if on s && decide (srcState s x = ssACTIVE) then
      (match (srcOf s x).arrived.getLast? with
        | some a => if a.stamp = now s then writeCrcs x a.buf a.fmt s else []
        | none => []) else [],
   fun s => if on s && decide (4 ≤ x) then
      [.src x (fun q => { q with netFirst := none, netGot := [], netMarker := none, netBuf := none, netStarted := true,
                                 netLast := (q.netMarker.getD 0) + 1 })] else []]

/-- Link training on a DPRX ends (R90, R92, R100, R106). -/
def dprxTrained (x : Nat) (ok : Bool) (rate lanes : Nat) (fmt : FrameFmt) (pixelKHz ns : Nat) : List Eff :=
  let on := fun (s : State) => decide (srcState s x ≠ ssOFF) && rf s (Reg.SRC_CTRL x) Fld.SRC_CTRL_HPD == 1
  [fun s => if !on s then [] else
     if !ok then .fld (Reg.SRC_STATUS x) Fld.SRC_STATUS_FMT_ERR 1 :: srcEnter s x ssSEEKING
     else [.fld (Reg.SRC_STATUS x) Fld.SRC_STATUS_LINK_RATE rate, .fld (Reg.SRC_STATUS x) Fld.SRC_STATUS_LANES lanes,
           .reg (Reg.SRC_PERIOD x) (BitVec.ofNat 32 ns), .src x (fun q => { q with linkUp := true, lastArrival := none })],
   fun s => if on s && ok then srcReseek x fmt s else [],
   fun s => if on s && ok then
      seqE (srcFormat x fmt (if 2400000 < pixelKHz then 1 else ns)) s else []]

/-- A source enters LOST: link lost, paths down, or no frame for LOSS_FRAMES expected periods (R106, R107). -/
def srcLose (x : Nat) : Eff := fun s =>
  if srcState s x = ssOFF ∨ srcState s x = ssLOST then [] else
  .src x (fun q => { q with linkUp := if x < 4 then q.linkUp else false }) :: srcEnter s x ssLOST

/-- A DisplayPort link is lost (R107). -/
def dprxLost (x : Nat) : List Eff :=
  [fun s => if (srcOf s x).linkUp then srcLose x s else [],
   fun _ => [.src x (fun q => { q with linkUp := false })]]

/-- No frame for LOSS_FRAMES expected periods (R106); nothing is lost before the timeout has run from the last frame. -/
def srcLossTimeout (x : Nat) : List Eff :=
  let n := fun (s : State) => max 1 (rf s (Reg.SRC_CTRL x) Fld.SRC_CTRL_LOSS_FRAMES)
  let due : State → Option Nat := fun s => (srcOf s x).lastArrival.map (fun l => l + n s * (rd s (Reg.SRC_PERIOD x)).toNat)
  [fun s => match due s with
      | some t => if srcState s x = ssACTIVE ∨ srcState s x = ssSEEKING ∨ srcState s x = ssREFUSED then [.clockTo t] else []
      | none => [],
   fun s => if (due s).isSome ∧ (srcState s x = ssACTIVE ∨ srcState s x = ssSEEKING ∨ srcState s x = ssREFUSED)
      then srcLose x s else []]

/-! ## Network packets (R93 to R95) -/

/-- Sample `i` of a packed line that starts at `base`, written in place (R94, R97). -/
def putSample (s : State) (depth base i v : Nat) : List Act :=
  let p := packingOf depth
  let a := base + i / groupSamples p * groupBytes p
  let k := i % groupSamples p
  let w := match p with | 0 => 8 | 1 => 10 | _ => 12
  let old := leValue (dramRead s a (groupBytes p))
  let v' := if depth = 6 then v * 4 else v
  dramStore s a (leBytes (groupBytes p) (old - bitsOf old (w * k + w - 1) (w * k) * 2 ^ (w * k) + v' % 2 ^ w * 2 ^ (w * k)))

/-- The samples of a packet's segments, each one stage so that neighbours in one packing group meet (R94). -/
def segmentEffs (x : Nat) (f : FrameFmt) (g : NetSegment) : List Eff :=
  let line0 := fun (s : State) => storeBase (rd s) x + ((srcOf s x).netBuf.getD 0) * bufSize (rd s) x
    + g.line * pitchOf (packingOf f.depth) f.width
  let line1 := fun (s : State) => storeBase (rd s) x + ((srcOf s x).netBuf.getD 0) * bufSize (rd s) x
    + pitchOf (packingOf f.depth) f.width * f.height
    + (if f.sampling = 2 then g.line / 2 else g.line) * pitchOf (packingOf f.depth) (chromaSamples f.sampling f.width)
  let c0 := if f.sampling = 1 ∨ f.sampling = 2 then 2 * (g.pixel / 2) else 2 * g.pixel
  (g.plane0.mapIdx (fun i v => fun s => putSample s f.depth (line0 s) (g.pixel + i) v))
    ++ (g.plane1.mapIdx (fun i v => fun s => putSample s f.depth (line1 s) (c0 + i) v))

/-- The NET port that carries path `p` of network source `x` (R93, R121). -/
def pathPort (s : State) (x p : Nat) : Nat := (rf s (Reg.SRC_FLOW_CFG x) Fld.SRC_FLOW_CFG_PRIMARY + p) % 2

/-- Is path `p` of source `x` enabled: the primary always, the second with pairing? -/
def pathOn (s : State) (x p : Nat) : Bool := p == 0 || rf s (Reg.SRC_FLOW_CFG x) Fld.SRC_FLOW_CFG_PAIR == 1

/-- Does a packet match the flow registers of its path (R93)? -/
def packetOk (s : State) (x : Nat) (p : NetPacket) : Bool :=
  let grp := if p.path.val = 0 then rd s (Reg.SRC_FLOW_GRP_A x) else rd s (Reg.SRC_FLOW_GRP_B x)
  let prt := rf s (Reg.SRC_FLOW_PORT x)
    (if p.path.val = 0 then Fld.SRC_FLOW_PORT_PORT_A else Fld.SRC_FLOW_PORT_PORT_B)
  p.agrees && grp == p.group && prt == p.udpPort && pathOn s x p.path.val

/-- Is the packet the first copy of its sequence number (R94)? -/
def packetNew (s : State) (x : Nat) (p : NetPacket) : Bool :=
  !(srcOf s x).netGot.contains p.seq && (!(srcOf s x).netStarted || decide ((srcOf s x).netLast ≤ p.seq))

/-- An ST 2110 packet arrives at network source SRC(4 + n) (R93 to R95, R97). -/
def netPacket (x at_ : Nat) (p : NetPacket) : List Eff :=
  let go := fun (s : State) => decide (srcState s x ≠ ssOFF) && packetOk s x p && packetNew s x p
  let f := fun (s : State) => flowFmt s x p.width p.height false
  [fun _ => [.clockTo at_],
   fun s => if srcState s x = ssOFF then [] else
     if !packetOk s x p then [.fld (Reg.SRC_STATUS x) Fld.SRC_STATUS_FMT_ERR 1]
     else [.fld (Reg.SRC_STATUS x) (if p.path.val = 0 then Fld.SRC_STATUS_PATH_A else Fld.SRC_STATUS_PATH_B) 1]
       ++ (if srcState s x = ssLOST then srcEnter s x ssSEEKING else []),
   fun s => if !go s then [] else
     [.src x (fun q => { q with
        netBuf := if q.netBuf.isSome then q.netBuf else some (writeBuf q)
        netFirst := if q.netFirst.isSome then q.netFirst
          else some (if q.netStarted then q.netLast else p.seq) })]]
  ++ [fun s => if go s && decide (srcState s x = ssACTIVE) then
        seqE (p.segments.flatMap (segmentEffs x (f s))) s else []]
  ++ [fun s => if !go s then [] else
     [.src x (fun q => { q with
        netGot := q.netGot ++ [p.seq]
        netMarker := if p.marker then some p.seq else q.netMarker
        netMarkerAt := if p.marker ∧ q.netMarker = none then now s else q.netMarkerAt })]]

/-- Have all packets of the frame being received arrived (R95)? -/
def netComplete (q : Source) : Bool :=
  match q.netFirst, q.netMarker with
  | some a, some m => (List.range (m + 1 - a)).all (fun i => q.netGot.contains (a + i))
  | _, _ => false

/-- SKEW_MAX in ns, capped at the measured frame period (R95, R121). -/
def skewMax (s : State) (x : Nat) : Nat :=
  let k := 1000 * rf s (Reg.SRC_FLOW_CFG x) Fld.SRC_FLOW_CFG_SKEW_MAX
  let p := (rd s (Reg.SRC_PERIOD x)).toNat
  if p = 0 then k else min k p

/-- A packet is still missing SKEW_MAX after the marker packet: the frame is discarded (R95). -/
def netSkewTimeout (x : Nat) : List Eff :=
  let go := fun (s : State) => (srcOf s x).netMarker.isSome && !netComplete (srcOf s x)
  [fun s => if go s then [.clockTo ((srcOf s x).netMarkerAt + skewMax s x)] else [],
   fun s => if go s then
     [.inc (Reg.SRC_GAP_CNT x) Fld.SRC_GAP_CNT_COUNT 1] ++ srcEvent s x 4
     ++ [.src x (fun q => { q with netLast := (q.netMarker.getD 0) + 1, netStarted := true, netFirst := none, netGot := [],
                                   netMarker := none, netBuf := none })]
     else []]

/-- A NET port's link goes down: a network source whose every enabled path is down enters LOST (R106). -/
def netLinkDown (p : Nat) : List Eff :=
  [fun _ => [.ptp p (fun q => { q with linkUp := false })]]
  ++ [4, 5].flatMap (fun x => [
    (fun s => [0, 1].flatMap (fun k => if pathOn s x k && pathPort s x k == p then
        [Act.fld (Reg.SRC_STATUS x) (if k = 0 then Fld.SRC_STATUS_PATH_A else Fld.SRC_STATUS_PATH_B) 0] else [])),
    (fun s => if [0, 1].all (fun k => !pathOn s x k || !(mapGet ptpDflt s.ptp (pathPort s x k)).linkUp)
        && [0, 1].any (fun k => pathOn s x k && pathPort s x k == p) then srcLose x s else [])])

/-- The multicast groups joined on a NET port that comes up, each as its source and path (R93). -/
def joinsOn (s : State) (p : Nat) : List (Nat × Nat) :=
  [4, 5].flatMap (fun x => [0, 1].filterMap (fun k =>
    if decide (srcState s x ≠ ssOFF) && pathOn s x k && pathPort s x k == p then some (x, k) else none))

/-- An IGMPv3 membership report for each enabled path on the port (RFC 3376: type 0x22, one record of mode CHANGE_TO_EXCLUDE
with no source, log entry 22). -/
def igmpJoin (g : Word) : List Byte :=
  let body : List Byte := [4, 0, 0, 0] ++ (leBytes 4 g.toNat).reverse
  [0x22, 0, 0, 0, 0, 0, 0, 1] ++ body

/-- A NET port's link comes up (R93, R106). -/
def netLinkUp (p : Nat) : List Eff :=
  [fun _ => [.ptp p (fun q => { q with linkUp := true })],
   fun s => (joinsOn s p).map (fun xk =>
     Act.out (fun o => { o with frames := o.frames ++
       [igmpJoin (rd s (if xk.2 = 0 then Reg.SRC_FLOW_GRP_A xk.1 else Reg.SRC_FLOW_GRP_B xk.1))] }))]

/-! ## Adoption (R102 to R105, R107 to R113, R652) -/

/-- Eight times the bytes per pixel of a format (R97). -/
def bytes8 (f : FrameFmt) : Nat :=
  let i := if f.sampling = 1 then 1 else if f.sampling = 2 then 2 else 0
  match packingOf f.depth, i with
  | 0, 0 => 24 | 0, 1 => 16 | 0, _ => 12
  | 1, 0 => 30 | 1, 1 => 20 | 1, _ => 15
  | _, 0 => 36 | _, 1 => 24 | _, _ => 18

/-- A source's write rate in bytes per second as a fraction (R104). -/
def writeRate (s : State) (x : Nat) : Nat × Nat :=
  match (srcOf s x).fmt with
  | some f => (f.width * f.height * bytes8 f * 1000000000, 8 * (rd s (Reg.SRC_PERIOD x)).toNat)
  | none => (0, 1)

/-- The candidates of R104. -/
def candidate (s : State) (x : Nat) : Bool :=
  let q := srcOf s x
  decide (srcState s x = ssACTIVE)
  || (decide (srcState s x = ssREFUSED) && rf s (Reg.SRC_STATUS x) Fld.SRC_STATUS_OVER_BUDGET == 1)
  || (decide (srcState s x = ssSEEKING) && q.lastArrival.isSome && q.fmt.isSome && !q.fmtRefused
      && rd s (Reg.SRC_PERIOD x) != 0)

/-- The sources in descending PRIO, ties by ascending number (R104). -/
def byPrio (s : State) : List Nat :=
  ((List.range 16).reverse).flatMap (fun p => (List.range 6).filter (fun x => rf s (Reg.SRC_CTRL x) Fld.SRC_CTRL_PRIO == p))

/-- The admitted sources and the sum of their rates (R104). -/
def admissions (s : State) : List Nat × (Nat × Nat) :=
  (byPrio s).foldl (fun (q : List Nat × (Nat × Nat)) x =>
    if !candidate s x then q else
    let r := writeRate s x
    let t := (q.2.1 * r.2 + r.1 * q.2.2, q.2.2 * r.2)
    if t.1 ≤ 30000000000 * t.2 then (q.1 ++ [x], t) else q) ([], (0, 1))

/-- Admission against the write budget (R104, R105). -/
def admission : List Eff := [
  fun s =>
    let ad := admissions s
    (List.range 6).flatMap (fun x =>
      if !candidate s x then [] else
      if ad.1.contains x then
        .fld (Reg.SRC_STATUS x) Fld.SRC_STATUS_OVER_BUDGET 0 :: srcEnter s x ssACTIVE
      else
        .fld (Reg.SRC_STATUS x) Fld.SRC_STATUS_OVER_BUDGET 1 :: srcEnter s x ssREFUSED
        ++ (if rf s (Reg.SRC_STATUS x) Fld.SRC_STATUS_OVER_BUDGET = 1 then [] else srcEvent s x 3))
    ++ [.fld Reg.SRC_BUDGET Fld.SRC_BUDGET_MBPS (divRound ad.2.1 (1000000 * ad.2.2)).toNat]]

/-- Does the layer loss rule of R107 leave a source's layers out? -/
def leftOut (s : State) (x : Nat) : Bool :=
  let st := srcState s x
  (st == ssSEEKING || st == ssLOST || st == ssREFUSED) && rf s (Reg.SRC_CTRL x) Fld.SRC_CTRL_LOSS == 1

/-- Is block `i` of the newly adopted buffer damaged against the buffer adopted before (R112)? -/
def blockDiffers (s : State) (x old new i : Nat) : Bool :=
  dramRead s (crcAddr (rd s) x old + 4 * i) 4 != dramRead s (crcAddr (rd s) x new + 4 * i) 4

/-- The damage of an adoption: block CRCs, forced damage and the sweep row (R108, R112, R113). -/
def damageOf (s : State) (x : Nat) (old new : Option Nat) (f oldF : Option FrameFmt) : List Bool :=
  match f with
  | none => []
  | some f =>
    let q := srcOf s x
    let row := q.sweepRow % max 1 (blocksY f)
    let sweep := rf s (Reg.SRC_CTRL x) Fld.SRC_CTRL_SWEEP == 1
    (List.range (blocksX f * blocksY f)).map (fun i =>
      q.force || (sweep && i / max 1 (blocksX f) == row)
      || (match old, new with
          | some a, some b => if a = b then false else if oldF = some f then blockDiffers s x a b i else true
          | none, some _ => true
          | _, none => false))

/-- A damage bitmap as bytes, bit 0 of byte 0 first, over its 2,048 bytes (R99). -/
def bitmapBytes (d : List Bool) : List Byte :=
  (List.range 2048).map (fun i => BitVec.ofNat 8
    ((List.range 8).foldl (fun n k => if d.getD (8 * i + k) false then n + 2 ^ k else n) 0))

/-- One source adopts at A_k (R102, R652, R108, R112, R113). -/
def adoptOne (x : Nat) : Eff := fun s =>
  let q := srcOf s x
  let st := srcState s x
  let due := q.arrived.filter (fun a => decide (a.stamp + 20000 ≤ now s))
  let newest := if st = ssACTIVE then due.getLast? else none
  let held := if st = ssOFF then none else q.adopted
  let repeats := newest.isNone && held.isSome && !leftOut s x
  let buf := match newest with | some a => some a.buf | none => held
  let fmtOf := fun (b : Option Nat) => match b with | some b => q.bufFmt.getD b none | none => none
  let dmg := if newest.isSome || repeats then damageOf s x q.adopted buf (fmtOf buf) (fmtOf q.adopted) else []
  [.src x (fun q => { q with
      adopted := buf
      arrived := match newest with
        | some a => q.arrived.filter (fun b => decide (a.stamp < b.stamp))
        | none => if st = ssOFF then [] else q.arrived
      force := if newest.isSome || repeats then false else q.force
      sweepRow := if (newest.isSome || repeats) && rf s (Reg.SRC_CTRL x) Fld.SRC_CTRL_SWEEP == 1 then
          (match fmtOf buf with | some f => (q.sweepRow + 1) % max 1 (blocksY f) | none => 0) else q.sweepRow
      damage := dmg })]
  ++ (match newest with
      | some a => [.inc (Reg.SRC_ADOPT_CNT x) Fld.SRC_ADOPT_CNT_COUNT 1,
          .inc (Reg.SRC_DROP_CNT x) Fld.SRC_DROP_CNT_COUNT (due.length - 1),
          .fld (Reg.SRC_STATUS x) Fld.SRC_STATUS_ADOPTED a.buf]
      | none => if repeats then [.inc (Reg.SRC_REPEAT_CNT x) Fld.SRC_REPEAT_CNT_COUNT 1] else [])
  ++ (if newest.isSome || repeats then
        dramStore s (storeBase (rd s) x + 3 * bufSize (rd s) x + 0x1B000) (bitmapBytes dmg) else [])

/-- A_k: admission, then every source adopts or repeats (R102, R104, R652). -/
def sourceAdoption : List Eff := [
  whenE (fun s => s.cur.running) ([fun s => [.clockTo (instA s)]] ++ admission ++ (List.range 6).map adoptOne)]

/-- SRC_CTRL.FORCE: every block is damaged at the next adoption (R108, R121). -/
def srcForce (x : Nat) : Eff := fun _ => [.src x (fun q => { q with force := true })]

/-- A commit enters: EN and LOSS of each source (R106, R108, R652). -/
def srcCommitted (old : Rd) : Eff := fun s => (List.range 6).flatMap (fun x =>
  let was := rrf old (Reg.SRC_CTRL x) Fld.SRC_CTRL_EN
  let is := rf s (Reg.SRC_CTRL x) Fld.SRC_CTRL_EN
  (if was = 1 ∧ is = 0 then .src x (fun q => { q with arrived := [], fmt := none, lastArrival := none, fmtRefused := false })
      :: srcEnter s x ssOFF else [])
  ++ (if was = 0 ∧ is = 1 then .src x (fun q => { q with adopted := none }) :: srcEnter s x ssSEEKING else [])
  ++ (if rrf old (Reg.SRC_CTRL x) Fld.SRC_CTRL_LOSS ≠ rf s (Reg.SRC_CTRL x) Fld.SRC_CTRL_LOSS
      then [.src x (fun q => { q with force := true })] else []))

/-- The rules of 03_sources.md that a commit breaks: a flow depth or colour of 3 (R121). -/
def srcBreaks (l : List Staged) (r : Rd) : Bool :=
  [4, 5].any (fun x => touches l (Reg.SRC_FLOW_CFG x) (Reg.SRC_FLOW_CFG x + 4)
    && (rrf r (Reg.SRC_FLOW_CFG x) Fld.SRC_FLOW_CFG_COLOR == 3 || rrf r (Reg.SRC_FLOW_CFG x) Fld.SRC_FLOW_CFG_DEPTH == 3
      || decide (rrf r (Reg.SRC_FLOW_CFG x) Fld.SRC_FLOW_CFG_SKEW_MAX < 100)
      || decide (10000 < rrf r (Reg.SRC_FLOW_CFG x) Fld.SRC_FLOW_CFG_SKEW_MAX)))

/-! ## HPD and DisplayID (R91) -/

/-- SRC_CTRL.HPD is written: asserting it makes the DisplayID area take effect; clearing it loses the link. -/
def hpdWrite (x : Nat) (was is : Nat) : List Eff :=
  if was = 0 ∧ is = 1 then
    [fun s => [.src x (fun q => { q with did := (List.range 128).flatMap (fun i => leBytes 4 (rd s (Reg.SRC_DID x i)).toNat) })]]
  else if was = 1 ∧ is = 0 then dprxLost x else []

/-! ## Wake (R114, R115) -/

/-- Activity on a source: latched while HOLD is being entered, a wake cause in HOLD. The wake itself is `wakeFrom`. -/
def srcActivity (x : Nat) (entering : Bool) : Eff := fun s =>
  if bitsOf (rf s Reg.SRC_WAKE Fld.SRC_WAKE_EN) x x = 0 then [] else
  if entering && mode s != mHOLD then
    [.fld Reg.SRC_WAKE Fld.SRC_WAKE_LATCHED 1, .src x (fun q => { q with discardFirst := true })]
  else []

/-! ## PTP (R96) -/

/-- Is data set `a` better than `b`: the first value that differs is smaller (IEEE 1588 data set comparison, log entry 23)? -/
def betterSet : List Nat → List Nat → Bool
  | [], [] => false
  | [], _ :: _ => true
  | _ :: _, [] => false
  | a :: as, b :: bs => if a = b then betterSet as bs else decide (a < b)

/-- The port in use (R96, R122): the one selected, or with PORT 2 the one with the better grandmaster; 3 for none. -/
def ptpInUse (s : State) : Nat :=
  let p := rf s Reg.SRC_PTP Fld.SRC_PTP_PORT
  let d := fun i => (mapGet ptpDflt s.ptp i).dataset
  if rf s Reg.SRC_PTP Fld.SRC_PTP_EN = 0 then 3
  else if p = 2 then
    match d 0, d 1 with
    | none, none => 3
    | some _, none => 0
    | none, some _ => 1
    | some a, some b => if betterSet b a then 1 else 0
  else let q := if p = 3 then 0 else p; if (d q).isSome then q else 3

/-- SRC_PTP_STAT.IN_USE follows. -/
def ptpSelect : Eff := fun s => [.fld Reg.SRC_PTP_STAT Fld.SRC_PTP_STAT_IN_USE (ptpInUse s)]

/-- A PTP message arrives and is timestamped (R96). The offset is the show clock's reading at the Sync less the origin time less
the path delay; the delay is half of the two legs. -/
def ptpMessage (p at_ : Nat) (m : PtpMsg) : List Eff :=
  [fun _ => [.clockTo at_],
   fun s => if rf s Reg.SRC_PTP Fld.SRC_PTP_EN = 0 then [] else
     match m with
     | .announce d => [.ptp p (fun q => { q with dataset := some d, announceAt := at_ })]
     | .sync t1 iv => [.ptp p (fun q => { q with
         syncT1 := t1, syncT2 := at_, syncInterval := iv, offset := (at_ : Int) - t1 - q.delay })]
     | .delayResp seq t4 => if seq ≠ (mapGet ptpDflt s.ptp p).reqSeq then [] else
         [.ptp p (fun q =>
           let d := (((q.syncT2 : Int) - q.syncT1) + ((t4 : Int) - q.reqT3)) / 2
           { q with delay := d, offset := (q.syncT2 : Int) - q.syncT1 - d })],
   ptpSelect]

/-- Announce messages time out on a port: its grandmaster is forgotten and the instance fails over (R96). -/
def ptpTimeout (p : Nat) : List Eff :=
  [fun _ => [.ptp p (fun q => { q with dataset := none })], ptpSelect]

/-- A Delay_Req leaves: message type 1, 44 bytes of header and origin time (R96, IEEE 1588). -/
def ptpDelayReq (p at_ seq : Nat) : List Eff :=
  [fun s => if rf s Reg.SRC_PTP Fld.SRC_PTP_EN = 0 then [] else
    [.clockTo at_, .ptp p (fun q => { q with reqT3 := at_, reqSeq := seq }),
     .out (fun o => { o with frames := o.frames ++
       [[0x01, 0x02, 0, 44, BitVec.ofNat 8 (rf s Reg.SRC_PTP Fld.SRC_PTP_DOMAIN)] ++ List.replicate 25 0
        ++ (leBytes 2 seq).reverse ++ [1, 0x7F] ++ List.replicate 10 0] })]]

/-! ## Previews (R116 to R119, R122) -/

/-- The size of the picture a preview selects: a source's adopted frame, or the wall rectangle of the tiles in service (R117). -/
def pictureSize (s : State) (p : Nat) : Nat × Nat :=
  let sel := rf s (Reg.PVW_CTRL p) Fld.PVW_CTRL_SEL
  if sel < 6 then
    match (srcOf s sel).adopted with
    | some b => match (srcOf s sel).bufFmt.getD b none with | some f => (f.width, f.height) | none => (0, 0)
    | none => (0, 0)
  else (List.range 1024).foldl (fun (q : Nat × Nat) t =>
    if rf s (Reg.TD_CTRL t) Fld.TD_CTRL_EN = 0 then q else
    (max q.1 (rf s (Reg.TD_WALL t) Fld.TD_WALL_WALL_X + rf s (Reg.TD_GRID t) Fld.TD_GRID_W),
     max q.2 (rf s (Reg.TD_WALL t) Fld.TD_WALL_WALL_Y + rf s (Reg.TD_GRID t) Fld.TD_GRID_H))) (0, 0)

/-- The smallest integer that brings the curtain rate to 60 Hz or below (R118). -/
def previewDiv (rate : Nat) : Nat := ((rateHz rate).1 + 60 * (rateHz rate).2 - 1) / (60 * (rateHz rate).2)

/-- Output size at a downscale. -/
def downSize (sz : Nat × Nat) (d : Nat) : Nat × Nat := ((sz.1 + d - 1) / d, (sz.2 + d - 1) / d)

/-- log2 of the downscale factor, or none when not even 16 fits (R117). -/
def previewLog (s : State) (p : Nat) : Option Nat :=
  let sz := pictureSize s p
  let r := rateHz s.cur.rate
  let cap := (mapGet pvwDflt s.pvw p).capacity
  (List.range 5).find? (fun k =>
    let o := downSize sz (2 ^ k)
    decide (sz.1 ≤ 4096 * 2 ^ k ∧ sz.2 ≤ 2160 * 2 ^ k)
    && decide (o.1 * o.2 * r.1 ≤ cap * r.2 * previewDiv s.cur.rate))

/-- PVW_STATUS.DIV and PVW_SIZE follow the picture and the link (R117). -/
def previewSize (p : Nat) : Eff := fun s =>
  match previewLog s p with
  | some k =>
    let o := downSize (pictureSize s p) (2 ^ k)
    [.fld (Reg.PVW_STATUS p) Fld.PVW_STATUS_DIV k, .fld (Reg.PVW_SIZE p) Fld.PVW_SIZE_WIDTH o.1,
     .fld (Reg.PVW_SIZE p) Fld.PVW_SIZE_HEIGHT o.2]
  | none => [.fld (Reg.PVW_STATUS p) Fld.PVW_STATUS_DIV 4, .reg (Reg.PVW_SIZE p) 0]

/-- A preview link trains (R117). -/
def previewTrained (p lanes cap : Nat) : List Eff :=
  [fun s => if rf s (Reg.PVW_STATUS p) Fld.PVW_STATUS_HPD = 0 ∨ rf s (Reg.PVW_CTRL p) Fld.PVW_CTRL_EN = 0 then [] else
    [.fld (Reg.PVW_STATUS p) Fld.PVW_STATUS_TRAINED 1, .fld (Reg.PVW_STATUS p) Fld.PVW_STATUS_LANES lanes,
     .pvw p (fun q => { q with capacity := cap })],
   fun s => if rf s (Reg.PVW_STATUS p) Fld.PVW_STATUS_TRAINED = 1 then previewSize p s else []]

/-- A sink's HPD changes (R122). -/
def previewHpd (p : Nat) (up : Bool) : Eff := fun _ =>
  .fld (Reg.PVW_STATUS p) Fld.PVW_STATUS_HPD (if up then 1 else 0) ::
  (if up then [] else [.fld (Reg.PVW_STATUS p) Fld.PVW_STATUS_TRAINED 0, .fld (Reg.PVW_STATUS p) Fld.PVW_STATUS_LANES 0,
     .pvw p (fun q => { q with capacity := 0, live := false })])

/-- A preview frame starts (R116, R118, R119): it shows the picture adopted or composed for its curtain, repeats in LOAD, is the
status screen in BOOT, TEST and RECOVERY, and is not driven in HOLD, PILOT and OFF. -/
def previewFrame (p : Nat) : List Eff :=
  [fun s => let m := mode s
    if curtainMode m && rf s (Reg.PVW_CTRL p) Fld.PVW_CTRL_EN == 1 && rf s (Reg.PVW_STATUS p) Fld.PVW_STATUS_TRAINED == 1 then
      .pvw p (fun q => { q with
        shownSel := min 6 (rf s (Reg.PVW_CTRL p) Fld.PVW_CTRL_SEL), shownSlot := rf s (Reg.PVW_CTRL p) Fld.PVW_CTRL_SLOT
        shownBuf := if rf s (Reg.PVW_CTRL p) Fld.PVW_CTRL_SEL < 6 then (srcOf s (rf s (Reg.PVW_CTRL p) Fld.PVW_CTRL_SEL)).adopted else none
        shownCurtain := rf s Reg.CUR_NUM Fld.CUR_NUM_NUM, live := true, statusScreen := false }) :: previewSize p s
    else if m = mLOAD then []
    else if (m = mBOOT ∨ m = mTEST ∨ m = mRECOVERY) ∧ p = 0 then
      [.pvw p (fun q => { q with live := true, statusScreen := true }), .fld (Reg.PVW_SIZE p) Fld.PVW_SIZE_WIDTH 1920,
       .fld (Reg.PVW_SIZE p) Fld.PVW_SIZE_HEIGHT 1080]
    else [.pvw p (fun q => { q with live := false, statusScreen := false })]]

end Sys2Proof.Machine
end

