-- ==== Sys2Proof/Machine/Blocking.lean ====
section
/-! DEFINITION. Tiles, regions and lamp indices, meshes and composition positions, layers and crops, bounds and footprints, the
causes of tickets, and the footprint unit (04_blocking.md). -/

namespace Sys2Proof.Machine

/-! ## Tiles and their pixels (R124 to R130) -/

/-- Is tile `t` in service (R124)? -/
def tileOn (r : Rd) (t : Nat) : Bool := rrf r (Reg.TD_CTRL t) Fld.TD_CTRL_EN == 1
def tileW (r : Rd) (t : Nat) : Nat := rrf r (Reg.TD_GRID t) Fld.TD_GRID_W
def tileH (r : Rd) (t : Nat) : Nat := rrf r (Reg.TD_GRID t) Fld.TD_GRID_H
def tilePort0 (r : Rd) (t : Nat) : Nat := rrf r (Reg.TD_CTRL t) Fld.TD_CTRL_FIRST_PORT
def tilePorts (r : Rd) (t : Nat) : Nat := rrf r (Reg.TD_CTRL t) Fld.TD_CTRL_PORTS_M1 + 1
def tileLines (r : Rd) (t : Nat) : Nat := rrf r (Reg.TD_SPLIT t) Fld.TD_SPLIT_LINES
def wallX (r : Rd) (t : Nat) : Nat := rrf r (Reg.TD_WALL t) Fld.TD_WALL_WALL_X
def wallY (r : Rd) (t : Nat) : Nat := rrf r (Reg.TD_WALL t) Fld.TD_WALL_WALL_Y

/-- The tiles in service, ascending. -/
def tilesOn (r : Rd) : List Nat := (List.range 1024).filter (tileOn r)

/-- The quadrant and the bank that hold a tile's ports (R13, R18). -/
def tileBank (r : Rd) (t : Nat) : Nat := tilePort0 r t / 64
def tileQuad (r : Rd) (t : Nat) : Nat := tileBank r t / 4

/-- Bits of PIXEL_ORDER (R128). -/
def orderBit (r : Rd) (t k : Nat) : Bool := bitsOf (rrf r (Reg.TD_CTRL t) Fld.TD_CTRL_PIXEL_ORDER) k k == 1

/-- Pixels on a line and lines of a tile (R128). -/
def lineLen (r : Rd) (t : Nat) : Nat := if orderBit r t 2 then tileH r t else tileW r t
def lineCount (r : Rd) (t : Nat) : Nat := if orderBit r t 2 then tileW r t else tileH r t

/-- The line of pixel (u, v) and its position on it (R128). -/
def pixelLine (r : Rd) (t u v : Nat) : Nat × Nat :=
  let u1 := if orderBit r t 0 then tileW r t - 1 - u else u
  let v1 := if orderBit r t 1 then tileH r t - 1 - v else v
  if orderBit r t 2 then (u1, v1) else (v1, u1)

/-- The port of the tile that carries a line (R129). -/
def linePort (r : Rd) (t line : Nat) : Nat := line / max 1 (tileLines r t)

/-- The lamps on port `k` of a tile (R129). -/
def portLamps (r : Rd) (t k : Nat) : Nat :=
  (min ((k + 1) * tileLines r t) (lineCount r t) - k * tileLines r t) * lineLen r t * 3

/-- The position of a colour (0 red, 1 green, 2 blue) under LAMP_ORDER (R130). -/
def colourPos (order colour : Nat) : Nat :=
  match order, colour with
  | 0, c => c
  | 1, 0 => 0 | 1, 1 => 2 | 1, _ => 1
  | 2, 0 => 1 | 2, 1 => 0 | 2, _ => 2
  | 3, 0 => 2 | 3, 1 => 0 | 3, _ => 1
  | 4, 0 => 1 | 4, 1 => 2 | 4, _ => 0
  | _, 0 => 2 | _, 1 => 1 | _, _ => 0

/-- The colour of a lamp (0 red, 1 green, 2 blue) on pixel (u, v): its port of the tile and its lamp index (R130). -/
def lampIndex (r : Rd) (t u v colour : Nat) : Nat × Nat :=
  let lp := pixelLine r t u v
  let k := linePort r t lp.1
  let ll := lp.1 - k * tileLines r t
  let c := colourPos (rrf r (Reg.TD_CTRL t) Fld.TD_CTRL_LAMP_ORDER) colour
  (k, if rrf r (Reg.TD_CTRL t) Fld.TD_CTRL_LAMP_GROUP = 0 then 3 * (ll * lineLen r t + lp.2) + c
      else 3 * ll * lineLen r t + c * lineLen r t + lp.2)

/-! ## Regions (R131 to R133) -/

/-- Regions across and down. -/
def regX (r : Rd) (t : Nat) : Nat := (tileW r t + 63) / 64
def regY (r : Rd) (t : Nat) : Nat := (tileH r t + 15) / 16

/-- The global index of a tile's first region, assigned at image load (R132). -/
def regionBase (r : Rd) (t : Nat) : Nat := rrf r (Reg.TD_REGIONS t) Fld.TD_REGIONS_REGION_BASE

/-- The tile of a global region index, with the region's index in the tile. -/
def tileOf (r : Rd) (g : Nat) : Option (Nat × Nat) :=
  ((List.range 1024).find? (fun t => tileOn r t && decide (regionBase r t ≤ g ∧ g < regionBase r t + regX r t * regY r t))).map
    (fun t => (t, g - regionBase r t))

/-- The quadrant index of a region of a tile (R132). -/
def quadIndex (r : Rd) (t i : Nat) : Nat := rrf r (Reg.TD_QBASE t) Fld.TD_QBASE_QBASE + i

/-- Regions in service. -/
def regionCount (r : Rd) : Nat := rrf r Reg.BLK_REGIONS Fld.BLK_REGIONS_COUNT

/-- The pixels of region `i` of a tile: u from, u to, v from, v to (exclusive ends). -/
def regionBox (r : Rd) (t i : Nat) : Nat × Nat × Nat × Nat :=
  let rx := i % max 1 (regX r t)
  let ry := i / max 1 (regX r t)
  (64 * rx, min (tileW r t) (64 * rx + 64), 16 * ry, min (tileH r t) (16 * ry + 16))

/-- The pixels of a region, row by row (R176, R197). -/
def regionPixels (r : Rd) (t i : Nat) : List (Nat × Nat) :=
  let b := regionBox r t i
  (List.range (b.2.2.2 - b.2.2.1)).flatMap (fun y => (List.range (b.2.1 - b.1)).map (fun x => (b.1 + x, b.2.2.1 + y)))

/-- The ports of the tile that carry lamps of a region, ascending (R133). -/
def regionPorts (r : Rd) (t i : Nat) : List Nat :=
  (List.range (tilePorts r t)).filter (fun k =>
    let b := regionBox r t i
    let l0 := (pixelLine r t b.1 b.2.2.1).1
    let l1 := (pixelLine r t (b.2.1 - 1) (b.2.2.2 - 1)).1
    decide (linePort r t (min l0 l1) ≤ k ∧ k ≤ linePort r t (max l0 l1)))

/-- REGION_BASE and QBASE of every tile, BLK_REGIONS and BLK_QREGIONS, as an image load assigns them (R132). -/
def assignRegions : Eff := fun s =>
  let r := rd s
  let z := (tilesOn r).foldl (fun (q : List Act × Nat × List Nat) t =>
    let n := regX r t * regY r t
    let qd := tileQuad r t
    (q.1 ++ [.reg (Reg.TD_REGIONS t) (putF (putF (putF 0 Fld.TD_REGIONS_RY (regY r t)) Fld.TD_REGIONS_RX (regX r t))
                Fld.TD_REGIONS_REGION_BASE q.2.1),
             .reg (Reg.TD_QBASE t) (putF 0 Fld.TD_QBASE_QBASE (q.2.2.getD qd 0))],
     q.2.1 + n, q.2.2.modify qd (· + n))) ([], 0, [0, 0, 0, 0])
  z.1 ++ [.reg Reg.BLK_REGIONS (putF 0 Fld.BLK_REGIONS_COUNT z.2.1)]
    ++ (List.range 4).map (fun q => .reg (Reg.BLK_QREGIONS q) (putF 0 Fld.BLK_QREGIONS_COUNT (z.2.2.getD q 0)))

/-! ## Meshes (R134 to R137) -/

/-- A 32-bit little-endian signed number in DRAM. -/
def dramInt (s : State) (a : Nat) : Int := toSigned 32 (leValue (dramRead s a 4))

/-- Control point P(i, j) of a tile in a slot, in Q23.8 (R135, R137). -/
def meshPoint (s : State) (j t i k : Nat) : Int × Int :=
  let r := rd s
  if rrf r (Reg.BLK_MESH_MODE j) Fld.BLK_MESH_MODE_FLAT = 1 then
    ((256 * wallX r t + 16 * i * tileW r t : Nat), (256 * wallY r t + 16 * k * tileH r t : Nat))
  else
    let a := addr36 s (Reg.BLK_MESH_LO j) (Reg.BLK_MESH_HI j) + 2560 * t + 8 * (17 * k + i)
    (dramInt s a, dramInt s (a + 4))

/-- The mesh cell of a pixel coordinate and the offset in it (R136). -/
def meshCell (w u : Nat) : Nat × Nat := (16 * (2 * u + 1) / (2 * w), 16 * (2 * u + 1) % (2 * w))

/-- The composition position of tile pixel (u, v) in slot `j` (R136). -/
def compPos (s : State) (j t u v : Nat) : Int × Int :=
  let w := tileW (rd s) t
  let h := tileH (rd s) t
  let ia := meshCell w u
  let jb := meshCell h v
  let p00 := meshPoint s j t ia.1 jb.1
  let p10 := meshPoint s j t (ia.1 + 1) jb.1
  let p01 := meshPoint s j t ia.1 (jb.1 + 1)
  let p11 := meshPoint s j t (ia.1 + 1) (jb.1 + 1)
  let a : Int := ia.2
  let b : Int := jb.2
  let a' : Int := 2 * w - ia.2
  let b' : Int := 2 * h - jb.2
  let mix := fun (q : Int × Int → Int) =>
    divRound (a' * b' * q p00 + a * b' * q p10 + a' * b * q p01 + a * b * q p11) (4 * w * h)
  (mix (·.1), mix (·.2))

/-! ## Layers (R139 to R141) -/

/-- The fields of a layer. -/
structure LayerCfg where
  en : Bool
  blend : Nat
  policy : Nat
  mirH : Bool
  mirV : Bool
  z : Nat
  src : Nat
  tfOvr : Nat
  colorOvr : Nat
  alpha : Nat
  cx : Nat
  cy : Nat
  cw : Nat
  ch : Nat
  dx : Int
  dy : Int
  dw : Nat
  dh : Nat
  deriving DecidableEq, Repr

/-- Layer `l` of slot `j` under a reader (R154). -/
def layer (r : Rd) (j l : Nat) : LayerCfg :=
  let c := r (Reg.LY_CTRL j l)
  let xy := r (Reg.LY_CROP_XY j l)
  let wh := r (Reg.LY_CROP_WH j l)
  { en := getF c Fld.LY_CTRL_EN == 1, blend := getF c Fld.LY_CTRL_BLEND, policy := getF c Fld.LY_CTRL_POLICY
    mirH := getF c Fld.LY_CTRL_MIR_H == 1, mirV := getF c Fld.LY_CTRL_MIR_V == 1, z := getF c Fld.LY_CTRL_Z
    src := getF c Fld.LY_CTRL_SRC, tfOvr := getF c Fld.LY_CTRL_TF_OVR, colorOvr := getF c Fld.LY_CTRL_COLOR_OVR
    alpha := getF c Fld.LY_CTRL_ALPHA, cx := getF xy Fld.LY_CROP_XY_CX, cy := getF xy Fld.LY_CROP_XY_CY
    cw := getF wh Fld.LY_CROP_WH_CW, ch := getF wh Fld.LY_CROP_WH_CH, dx := sreg (r (Reg.LY_DST_X j l))
    dy := sreg (r (Reg.LY_DST_Y j l)), dw := (r (Reg.LY_DST_W j l)).toNat, dh := (r (Reg.LY_DST_H j l)).toNat }

/-- The format of a source's adopted frame. -/
def adoptedFmt (s : State) (x : Nat) : Option FrameFmt :=
  match (srcOf s x).adopted with
  | some b => (srcOf s x).bufFmt.getD b none
  | none => none

/-- The effective crop: x from, x to, y from, y to (exclusive ends), empty when an end does not exceed its start (R141). -/
def effCrop (c : LayerCfg) (f : FrameFmt) : Nat × Nat × Nat × Nat :=
  (c.cx, min (c.cx + c.cw) f.width, c.cy, min (c.cy + c.ch) f.height)

/-- Is layer `l` of slot `j` included in the composition (R139, R144)? -/
def layerIncluded (s : State) (j l : Nat) : Bool :=
  let c := layer (rd s) j l
  composing (slotKind (rd s) j) && c.en && c.alpha != 0 && decide (srcState s c.src ≠ ssOFF) && !leftOut s c.src &&
  (match adoptedFmt s c.src with
    | some f => let e := effCrop c f; decide (e.1 < e.2.1 ∧ e.2.2.1 < e.2.2.2)
    | none => false)

/-- The source position of a composition coordinate, in 1/256 source pixel (R140). -/
def srcPos (x d : Int) (dw : Nat) (c cw : Nat) (mir : Bool) : Int :=
  let q := divRound ((x - d) * 256 * (cw : Int)) (max 1 dw : Nat)
  if mir then 256 * ((c : Int) + cw) - q else 256 * (c : Int) + q

/-- Does the layer cover a composition position (R140)? -/
def covers (c : LayerCfg) (p : Int × Int) : Bool :=
  decide (c.dx ≤ p.1 ∧ p.1 < c.dx + c.dw ∧ c.dy ≤ p.2 ∧ p.2 < c.dy + c.dh)

/-! ## Bounds and footprints (R146, R147) -/

/-- The smallest and largest of a list, starting from a value. -/
def spanOf (l : List Int) (x : Int) : Int × Int := l.foldl (fun q y => (min q.1 y, max q.2 y)) (x, x)

/-- The bound of region `i` of tile `t` in slot `j`: x from, x to, y from, y to, inclusive (R146). -/
def bound (s : State) (j t i : Nat) : (Int × Int) × (Int × Int) :=
  let b := regionBox (rd s) t i
  let w := tileW (rd s) t
  let h := tileH (rd s) t
  let i0 := (meshCell w b.1).1
  let i1 := (meshCell w (b.2.1 - 1)).1
  let j0 := (meshCell h b.2.2.1).1
  let j1 := (meshCell h (b.2.2.2 - 1)).1
  let pts := (List.range (i1 + 2 - i0)).flatMap (fun a => (List.range (j1 + 2 - j0)).map (fun c => meshPoint s j t (i0 + a) (j0 + c)))
  let p0 := meshPoint s j t i0 j0
  (spanOf (pts.map (·.1)) p0.1, spanOf (pts.map (·.2)) p0.2)

/-- Does a bound meet a destination rectangle? -/
def meets (b : (Int × Int) × (Int × Int)) (q : SlotRect) : Bool :=
  decide (b.1.1 < q.x0 + q.w ∧ q.x0 ≤ b.1.2 ∧ b.2.1 < q.y0 + q.h ∧ q.y0 ≤ b.2.2)

/-- The rectangle of a layer. -/
def layerRect (c : LayerCfg) (j : Nat) : SlotRect := ⟨j, c.dx, c.dy, c.dw, c.dh⟩

/-- The taps of one axis: the columns that the source range reads, clamped to the effective crop (R147 steps 2 and 3). -/
def tapRange (a b : Int) (lo hi : Nat) : Nat × Nat :=
  let t0 := (min a b - 128) / 256 - 1
  let t1 := (max a b - 128) / 256 + 2
  ((clampInt t0 lo (hi - 1 : Nat)).toNat, (clampInt t1 lo (hi - 1 : Nat)).toNat)

/-- The footprint of a region for an included layer: block columns and block rows from and to, inclusive (R147). -/
def footprint (s : State) (j l t i : Nat) : Option ((Nat × Nat) × (Nat × Nat)) :=
  let c := layer (rd s) j l
  match adoptedFmt s c.src with
  | none => none
  | some f =>
    let b := bound s j t i
    let x0 := max b.1.1 c.dx
    let x1 := min b.1.2 (c.dx + c.dw - 1)
    let y0 := max b.2.1 c.dy
    let y1 := min b.2.2 (c.dy + c.dh - 1)
    if x1 < x0 ∨ y1 < y0 then none else
    let e := effCrop c f
    let tx := tapRange (srcPos x0 c.dx c.dw c.cx c.cw c.mirH) (srcPos x1 c.dx c.dw c.cx c.cw c.mirH) e.1 e.2.1
    let ty := tapRange (srcPos y0 c.dy c.dh c.cy c.ch c.mirV) (srcPos y1 c.dy c.dh c.cy c.ch c.mirV) e.2.2.1 e.2.2.2
    some ((tx.1 / 64, tx.2 / 64), (ty.1 / 64, ty.2 / 64))

/-- Does the damage of the adoption mark a block of a footprint (R148)? -/
def damaged (s : State) (x : Nat) (fp : (Nat × Nat) × (Nat × Nat)) : Bool :=
  match adoptedFmt s x with
  | none => false
  | some f => (List.range (fp.2.2 + 1 - fp.2.1)).any (fun y => (List.range (fp.1.2 + 1 - fp.1.1)).any (fun q =>
      (srcOf s x).damage.getD ((fp.2.1 + y) * blocksX f + fp.1.1 + q) false))

/-- The layers of a region whose footprint touches damaged blocks, as (slot, layer) (R69, R148). -/
def damagedLayers (s : State) (t i : Nat) : List (Nat × Nat) :=
  (List.range (slotCount (rd s))).flatMap (fun j => (List.range 16).filterMap (fun l =>
    if layerIncluded s j l then
      match footprint s j l t i with
      | some fp => if damaged s (layer (rd s) j l).src fp then some (j, l) else none
      | none => none
    else none))

/-! ## Causes (R148) -/

/-- Does a staged list change a register's value against the state before? -/
def changes (l : List Staged) (old new : Rd) (a : Nat) : Bool := touches l a (a + 4) && old a != new a

/-- The rectangles of layers whose fields other than POLICY changed: old and new (R148). -/
def layerRects (l : List Staged) (old new : Rd) : List SlotRect :=
  (List.range 8).flatMap (fun j => (List.range 16).flatMap (fun y =>
    let a := Reg.LY_CTRL j y
    if touches l a (a + 28) && ((old a &&& ~~~Fld.LY_CTRL_POLICY.mask) != (new a &&& ~~~Fld.LY_CTRL_POLICY.mask)
        || [4, 8, 12, 16, 20, 24].any (fun k => old (a + k) != new (a + k)))
    then [layerRect (layer old j y) j, layerRect (layer new j y) j] else []))

/-- Does a commit change what every region shows: a background, a mesh base (also when written unchanged, R138), MESH_MODE, a
KIND or the slot count (R148)? -/
def ticketsAll (l : List Staged) (old new : Rd) : Bool :=
  (List.range 8).any (fun j =>
    changes l old new (Reg.BLK_BG_R j) || changes l old new (Reg.BLK_BG_G j) || changes l old new (Reg.BLK_BG_B j)
    || touches l (Reg.BLK_MESH_LO j) (Reg.BLK_MESH_LO j + 8) || changes l old new (Reg.BLK_MESH_MODE j)
    || (touches l (Reg.CUR_SLOT j) (Reg.CUR_SLOT j + 4) && slotKind old j != slotKind new j))
  || slotCount old != slotCount new

/-- The slots whose background colour a commit changes (R202). -/
def bgChanged (l : List Staged) (old new : Rd) : Bool :=
  (List.range 8).any (fun j =>
    changes l old new (Reg.BLK_BG_R j) || changes l old new (Reg.BLK_BG_G j) || changes l old new (Reg.BLK_BG_B j))

/-- The tiles whose WALL_X, WALL_Y or SCAN_PLAN a commit changes (R148). -/
def tilesMoved (l : List Staged) (old new : Rd) : List Nat :=
  (List.range 1024).filter (fun t => changes l old new (Reg.TD_WALL t) || changes l old new (Reg.TD_SCAN t))

/-- The rectangles of layers that become included or stop being so at this edge, and the new record of inclusion (R148). -/
def inclusionRects (s : State) : List SlotRect × SMap Bool :=
  (List.range 128).foldl (fun (q : List SlotRect × SMap Bool) x =>
    let is := layerIncluded s (x / 16) (x % 16)
    let was := mapGet (fun _ => false) s.stp.included x
    if is = was then q else
    (q.1 ++ [layerRect (layer (rd s) (x / 16) (x % 16)) (x / 16)], mapPut (fun _ => false) q.2 x is)) ([], s.stp.included)

/-- The footprint unit's answer for region `i` of tile `t` with global index `g`: does any cause of R148 name it? -/
def wantsTicket (s : State) (g t i : Nat) : Bool :=
  let c := s.stp.causes
  c.all || c.tiles.contains t || c.regions.contains g
  || c.rects.any (fun q => decide (q.slot < slotCount (rd s)) && composing (slotKind (rd s) q.slot) && meets (bound s q.slot t i) q)
  || !(damagedLayers s t i).isEmpty

/-- A tile that a degradation step darkened is not ticketed (R615): it is DARK. -/
def ticketsTile (s : State) (t : Nat) : Bool := tileOn (rd s) t && !(rf s (Reg.TD_POWER t) Fld.TD_POWER_DARK == 1)

/-- The tickets issued in a quadrant for the coming curtain. -/
def quadTickets (s : State) (q : Nat) : List Ticket := s.stp.tickets.filter (fun k => tileQuad (rd s) k.tile == q)

/-- A new ticket of a region, with the next serial of its quadrant (R148, R149, R240). -/
def newTicket (s : State) (g t : Nat) (rescue : Bool) (remove : Option Nat) : Ticket :=
  { region := g, tile := t, serial := (quadTickets s (tileQuad (rd s) t)).length % 65536, state := .queued, engine := none,
    rescue := rescue, remove := remove, retry := false, heldAt := 0, returned := 0, status := 0, parts := [] }

/-- Q_DEPTH of every quadrant, and the most tickets QUEUED at once (R262). -/
def queueRegs : Eff := fun s =>
  (List.range 4).flatMap (fun q =>
    let n := ((quadTickets s q).filter (fun k => k.state == .queued)).length
    let h := ((quadTickets s q).filter (fun k => k.state == .held)).length
    [.reg (Reg.Q_DEPTH q) (putF (putF 0 Fld.Q_DEPTH_HELD (min h 0xFFF)) Fld.Q_DEPTH_QUEUED (min n 0xFFF)),
     .stp (fun p => { p with peaks := mapPut zeroNat p.peaks q (max n (mapGet zeroNat p.peaks q)) })])

/-- The footprint unit decides the next region in ascending global index and queues its ticket (R149). The region decided is the
command's operand; regions before it count as decided. A ticket ends QUIET (R599, R602); none is issued after a channel loss or while
supply-loss handling runs (R464, R611). -/
def decideRegion (g : Nat) : Eff := fun s =>
  if !s.cur.running || decide (g < s.stp.nextRegion) || decide (regionCount (rd s) ≤ g) then [] else
  match tileOf (rd s) g with
  | none => []
  | some (t, i) =>
    if ticketsTile s t && wantsTicket s g t i && !s.ddr.halted && !s.sys.supplyLoss then
      (if rf s Reg.SYS_STATUS Fld.SYS_STATUS_GATED = 1 then .fld Reg.SYS_STATUS Fld.SYS_STATUS_GATED 0
         :: (if mode s = mQUIET then setMode s (showMode (rdLamp s)) else []) else [])
      ++ [.stp (fun q => { q with
        tickets := q.tickets ++ [newTicket s g t false none], issued := q.issued + 1
        nextRegion := g + 1 }),
       .sys (fun q => { q with ticketsThis := q.ticketsThis + 1 })]
    else [.stp (fun q => { q with nextRegion := g + 1 })]

/-! ## Commit checks (R126, R142) -/

/-- A layer that breaks R142. -/
def layerBad (c : LayerCfg) : Bool :=
  decide (c.cw = 0) || decide (c.ch = 0) || decide (8192 < c.cx + c.cw) || decide (4352 < c.cy + c.ch)
  || decide (c.dw < 256) || decide (c.dh < 256)
  || decide (64 * 256 * c.cw < c.dw) || decide (4 * c.dw < 256 * c.cw)
  || decide (64 * 256 * c.ch < c.dh) || decide (4 * c.dh < 256 * c.ch)
  || decide (5 < c.src) || decide (5 < c.blend) || decide (4 < c.tfOvr)

/-- Does tile `t` leave the wall or overlap another tile in service (R126)? -/
def wallBad (r : Rd) (t : Nat) : Bool :=
  tileOn r t && (decide (32768 < wallX r t + tileW r t) || decide (32768 < wallY r t + tileH r t)
    || (List.range 1024).any (fun q => q != t && tileOn r q
        && decide (wallX r t < wallX r q + tileW r q ∧ wallX r q < wallX r t + tileW r t
          ∧ wallY r t < wallY r q + tileH r q ∧ wallY r q < wallY r t + tileH r t)))

/-- The rules of 04_blocking.md that a commit breaks. -/
def blkBreaks (l : List Staged) (r : Rd) : Bool :=
  (List.range 8).any (fun j => (List.range 16).any (fun y =>
    touches l (Reg.LY_CTRL j y) (Reg.LY_CTRL j y + 28) && layerBad (layer r j y)))
  || (List.range 1024).any (fun t => touches l (Reg.TD_WALL t) (Reg.TD_WALL t + 4) && wallBad r t)

end Sys2Proof.Machine
end

