-- ==== Sys2Proof/Machine/Steep.lean ====
section
/-! DEFINITION. The reference steep, stage by stage (05_steep.md), as functions of State: the values that the samplers and LUT
units deliver, and what a conforming program computes for a lamp. Also the CRC store, the held bits, the loads and the causes
of tickets that belong to the steep. -/

namespace Sys2Proof.Machine

/-! ## Stage 1: sampling (R161 to R165) -/

/-- WMAX of R143: wall reference white. -/
def wMax : Int := 1048575

/-- The four Q2.14 weights of the Keys cubic at phase `ph` of 256 (R164). -/
def cubicWeights (ph : Nat) : Int × Int × Int × Int :=
  let p : Int := ph
  let w0 := divRound (8192 * (-(p * p * p) + 2 * 256 * (p * p) - 65536 * p)) 16777216
  let w2 := divRound (8192 * (-3 * (p * p * p) + 4 * 256 * (p * p) + 65536 * p)) 16777216
  let w3 := divRound (8192 * (p * p * p - 256 * (p * p))) 16777216
  (w0, 16384 - w0 - w2 - w3, w2, w3)

/-- A weighted sum of four taps, rounded (R165). -/
def tap4 (w : Int × Int × Int × Int) (f : Int → Int) (z0 : Int) : Int :=
  divRound (w.1 * f (z0 - 1) + w.2.1 * f z0 + w.2.2.1 * f (z0 + 1) + w.2.2.2 * f (z0 + 2)) 16384

/-- One plane component sampled at a position in 1/256 units, with every tap clamped to a crop (R164, R165). `get` reads the
sample of a column and line, normalised to 12 bits. -/
def cubicSample (get : Nat → Nat → Nat) (crop : Nat × Nat × Nat × Nat) (x y : Int) : Nat :=
  let cx := fun (c : Int) => (clampInt c crop.1 (crop.2.1 - 1 : Nat)).toNat
  let cy := fun (c : Int) => (clampInt c crop.2.2.1 (crop.2.2.2 - 1 : Nat)).toNat
  let wx := cubicWeights (x % 256).toNat
  let wy := cubicWeights (y % 256).toNat
  let row := fun (l : Int) => tap4 wx (fun c => (get (cx c) (cy l) : Nat)) (x / 256)
  (clampInt (tap4 wy row (y / 256)) 0 4095).toNat

/-- A stored sample normalised to 12 bits (R161): sample `i` of the packed line at DRAM address `line`. -/
def storedSample (s : State) (p line i : Nat) : Nat :=
  let w := match p with | 0 => 8 | 1 => 10 | _ => 12
  let g := leValue (dramRead s (line + i / groupSamples p * groupBytes p) (groupBytes p))
  let v := bitsOf g (w * (i % groupSamples p) + w - 1) (w * (i % groupSamples p))
  match p with | 0 => 16 * v | 1 => 4 * v | _ => v

/-- The chroma position that goes with a plane-0 position (R163). -/
def chromaPos (sampling : Nat) (p : Int × Int) : Int × Int :=
  if sampling = 1 then (p.1 / 2, p.2) else if sampling = 2 then (p.1 / 2, (p.2 - 128) / 2) else p

/-- The chroma crop (R165). -/
def chromaCrop (sampling : Nat) (c : Nat × Nat × Nat × Nat) : Nat × Nat × Nat × Nat :=
  let hx := fun (a b : Nat) => (a / 2, (b - 1) / 2 + 1)
  if sampling = 1 ∨ sampling = 2 then
    let x := hx c.1 c.2.1
    let y := if sampling = 2 then hx c.2.2.1 c.2.2.2 else (c.2.2.1, c.2.2.2)
    (x.1, x.2, y.1, y.2)
  else c

/-- The three sampled components of a frame at a plane-0 position: plane 0, then the two of plane 1 (R163 to R165). -/
def sampleFrame (s : State) (base : Nat) (f : FrameFmt) (crop : Nat × Nat × Nat × Nat) (pos : Int × Int) : Nat × Nat × Nat :=
  let p := packingOf f.depth
  let p0 := pitchOf p f.width
  let p1 := pitchOf p (chromaSamples f.sampling f.width)
  let b1 := base + p0 * f.height
  let q := chromaPos f.sampling pos
  let cc := chromaCrop f.sampling crop
  (cubicSample (fun c l => storedSample s p (base + l * p0) c) crop pos.1 pos.2,
   cubicSample (fun c l => storedSample s p (b1 + l * p1) (2 * c)) cc q.1 q.2,
   cubicSample (fun c l => storedSample s p (b1 + l * p1) (2 * c + 1)) cc q.1 q.2)

/-! ## Stage 2: decode to linear (R166 to R170) -/

/-- Luma or an RGB component to E' (R166). -/
def eLuma (full : Bool) (v : Nat) : Int :=
  if full then clampInt (divRound ((v : Int) * 65536) 4095) 0 65536
  else clampInt (divRound (((v : Int) - 256) * 65536) 3504) 0 65536

/-- A chroma component to signed e (R166). -/
def eChroma (full : Bool) (v : Nat) : Int := divRound (((v : Int) - 2048) * 65536) (if full then 4095 else 3584)

/-- The Q2.14 coefficients of a colorimetry: R from Cr, G from Cb, G from Cr, B from Cb (R167). -/
def ycbcrCoef (color : Nat) : Int × Int × Int × Int :=
  if color = 1 then (24160, -2696, -9361, 30825) else (25802, -3069, -7670, 30402)

/-- Sampled components to R'G'B' (R166, R167). `v` is plane 0 and the pair of plane 1 (Cb, Cr or B, R). -/
def toRgb (f : FrameFmt) (color : Nat) (v : Nat × Nat × Nat) : Int × Int × Int :=
  let full := f.range == 1
  if f.sampling = 3 then (eLuma full v.2.2, eLuma full v.1, eLuma full v.2.1)
  else
    let y := eLuma full v.1
    let cb := eChroma full v.2.1
    let cr := eChroma full v.2.2
    let k := ycbcrCoef color
    let o := fun (x : Int) => clampInt (divRound (16384 * y + x) 16384) 0 65536
    (o (k.1 * cr), o (k.2.1 * cb + k.2.2.1 * cr), o (k.2.2.2 * cb))

/-! The tables of R169, in exact integers and in fixed point of 96 fraction bits. No entry of any table, for PQ at no white from 48 to
10,000, lies nearer to a half than 1 part in 10^11, so that IEEE 754 doubles round to the same integer (log entry 10). -/

/-- 1 in fixed point. -/
def fixOne : Int := 2 ^ 96

/-- The area tangent of a fixed-point number of at most 1/3. -/
def atanhFix (z : Int) : Int :=
  ((List.range 45).foldl (fun (q : Int × Int) i => (q.1 + q.2 / (2 * i + 1 : Nat), q.2 * z / fixOne * z / fixOne)) (0, z)).1

/-- The natural logarithm of a fixed-point number from above 0 to 1. -/
def lnFix (v : Nat) : Int :=
  let k := 96 - Nat.log2 v
  let m : Int := (v * 2 ^ k : Nat)
  2 * atanhFix ((m - fixOne) * fixOne / (m + fixOne)) - 2 * k * atanhFix (fixOne / 3)

/-- The exponential of a fixed-point number: the 64th power of the series for its 64th part. -/
def expFix (a : Int) : Int :=
  let e := ((List.range 30).foldl (fun (q : Int × Int) i => (q.1 + q.2, q.2 * (a / 64) / (fixOne * (i + 1 : Nat)))) (0, fixOne)).1
  (List.range 6).foldl (fun e _ => e * e / fixOne) e

/-- 2.4 power: the largest entry whose value less one half is at most that of the curve, both raised to the fifth power. -/
def powerEntry (n : Nat) : Nat :=
  (List.range 20).foldl (fun k b =>
    let m := k + 2 ^ (19 - b)
    if (2 * m - 1) ^ 5 * 1024 ^ 12 ≤ 32 * 1048575 ^ 5 * n ^ 12 then m else k) 0

/-- PQ for a white. -/
def pqEntry (white n : Nat) : Int :=
  if n = 0 then 0 else
  let y := expFix (lnFix (n * 2 ^ 86) * 32 / 2523)
  let z := (y - 3424 * fixOne / 4096) * fixOne / (2413 * fixOne / 128 - 2392 * y / 128)
  if z ≤ 0 then 0 else min 1048575 (divRound (10000 * expFix (lnFix z.toNat * 16384 / 2610) * 1048575) (white * fixOne))

/-- HLG. -/
def hlgEntry (n : Nat) : Int :=
  if n ≤ 512 then divRound ((n * n : Nat) * 1048575) 3145728
  else
    let e := expFix (((n * 100000000 : Nat) - 1024 * 55991073) * fixOne / (1024 * 17883277))
    min 1048575 (divRound ((e + 28466892 * fixOne / 100000000) * 1048575) (12 * fixOne))

/-- Entry `n` of the decode table of a transfer function (R169). -/
def decodeT (tf white n : Nat) : Int :=
  match tf with
  | 0 => powerEntry (min n 1024)
  | 1 => pqEntry white (min n 1024)
  | 2 => hlgEntry (min n 1024)
  | _ => divRound ((min n 1024 : Nat) * 1048575) 1024

/-- E' to linear light (R168). -/
def decodeLin (tf white : Nat) (e : Int) : Int :=
  let idx := min (e.toNat / 64) 1023
  let fr : Int := e - 64 * (idx : Nat)
  decodeT tf white idx + divRound ((decodeT tf white (idx + 1) - decodeT tf white idx) * fr) 64

/-- A Q2.14 matrix, row by row, on three components, clamped to W20 (R170, R174). -/
def mat3 (m : List Int) (w : Int × Int × Int) : Int × Int × Int :=
  let row := fun (k : Nat) => clampInt (divRound (m.getD (3 * k) 0 * w.1 + m.getD (3 * k + 1) 0 * w.2.1 + m.getD (3 * k + 2) 0 * w.2.2) 16384) 0 wMax
  (row 0, row 1, row 2)

/-- The nine coefficients of a five-word matrix at address `a` (R206). -/
def matAt (r : Rd) (a : Nat) : List Int :=
  let h := fun (k : Nat) => toSigned 16 (bitsOf (r (a + 4 * (k / 2))).toNat (if k % 2 = 0 then 15 else 31) (if k % 2 = 0 then 0 else 16))
  (List.range 9).map h

/-- The matrix to the working primaries of a colorimetry (R170). -/
def toWorking (r : Rd) (color src : Nat) : List Int :=
  if color = 1 then [16384, 0, 0, 0, 16384, 0, 0, 0, 16384]
  else if color = 0 then [10280, 5395, 709, 1132, 15065, 187, 269, 1442, 14673]
  else matAt r (Reg.STP_SRCMAT_00 src)

/-- The stage-2 value of a layer at a composition position it covers (R140, R163 to R170). -/
def layerValue (s : State) (c : LayerCfg) (p : Int × Int) : Int × Int × Int :=
  match adoptedFmt s c.src, (srcOf s c.src).adopted with
  | some f, some b =>
    let x := srcPos p.1 c.dx c.dw c.cx c.cw c.mirH - 128
    let y := srcPos p.2 c.dy c.dh c.cy c.ch c.mirV - 128
    let v := sampleFrame s (storeBase (rd s) c.src + b * bufSize (rd s) c.src) f (effCrop c f) (x, y)
    let color := if c.colorOvr = 0 then f.color else c.colorOvr - 1
    let tf := if c.tfOvr = 0 then f.tf else c.tfOvr - 1
    let e := toRgb f color v
    let white := rf s Reg.STP_PQ_WHITE Fld.STP_PQ_WHITE_NITS
    mat3 (toWorking (rd s) color c.src) (decodeLin tf white e.1, decodeLin tf white e.2.1, decodeLin tf white e.2.2)
  | _, _ => (0, 0, 0)

/-! ## Stage 3: compose (R143) -/

/-- One layer's value over the value beneath it. -/
def blend (mode : Nat) (a l b : Int) : Int :=
  match mode with
  | 0 => divRound (a * l + (1023 - a) * b) 1023
  | 1 => min wMax (b + divRound (a * l) 1023)
  | 2 => divRound (b * ((1023 - a) * wMax + a * l)) (1023 * wMax)
  | 3 => b + divRound (a * l * (wMax - b)) (1023 * wMax)
  | 4 => b + divRound (a * max 0 (l - b)) 1023
  | _ => b - divRound (a * max 0 (b - l)) 1023

/-- The included layers of a slot in ascending Z, equal Z in ascending layer number (R143). -/
def layerOrder (s : State) (j : Nat) : List Nat :=
  (List.range 16).flatMap (fun z => (List.range 16).filter (fun l => layerIncluded s j l && (layer (rd s) j l).z == z))

/-- The composite at a composition position, with some layers removed (R70, R143). -/
def compose (s : State) (j : Nat) (off : List (Nat × Nat)) (p : Int × Int) : Int × Int × Int :=
  let bg : Int × Int × Int := (rf s (Reg.BLK_BG_R j) Fld.BLK_BG_R_VALUE, rf s (Reg.BLK_BG_G j) Fld.BLK_BG_G_VALUE, rf s (Reg.BLK_BG_B j) Fld.BLK_BG_B_VALUE)
  (layerOrder s j).foldl (fun b l =>
    let c := layer (rd s) j l
    if !covers c p || off.contains (j, l) then b else
    let v := layerValue s c p
    (blend c.blend c.alpha v.1 b.1, blend c.blend c.alpha v.2.1 b.2.1, blend c.blend c.alpha v.2.2 b.2.2)) bg

/-- The slot composite of a wall pixel that a preview shows: black where no tile in service covers it (R145). -/
def wallComposite (s : State) (j x y : Nat) : Int × Int × Int :=
  match (tilesOn (rd s)).find? (fun t => decide (wallX (rd s) t ≤ x ∧ x < wallX (rd s) t + tileW (rd s) t
      ∧ wallY (rd s) t ≤ y ∧ y < wallY (rd s) t + tileH (rd s) t)) with
  | some t => if composing (slotKind (rd s) j) then compose s j [] (compPos s j t (x - wallX (rd s) t) (y - wallY (rd s) t)) else (0, 0, 0)
  | none => (0, 0, 0)

/-! ## Stage 4: gamut (R171 to R174) -/

/-- Shaper entry `i` of a table at `base` (R173). -/
def shaperAt (s : State) (base i : Nat) : Int := leValue (dramRead s (base + 287496 + 2 * i) 2)

/-- The shaper on one working component (R171). -/
def shape (s : State) (base : Nat) (w : Int) : Nat :=
  let idx := w.toNat / 1024
  let fr : Int := (w.toNat % 1024 : Nat)
  (shaperAt s base idx + divRound ((shaperAt s base (idx + 1) - shaperAt s base idx) * fr) 1024).toNat

/-- Lattice entry (ir, ig, ib): red, green, blue (R173). -/
def latticeAt (s : State) (base ir ig ib : Nat) : Int × Int × Int :=
  let v := leValue (dramRead s (base + 8 * (ir + 33 * ig + 1089 * ib)) 8)
  (bitsOf v 19 0, bitsOf v 39 20, bitsOf v 59 40)

/-- The corners and weights of the first case of R172 that holds: each corner as its three bits. -/
def tetra (fr fg fb : Int) : List ((Nat × Nat × Nat) × Int) :=
  if fg ≤ fr ∧ fb ≤ fg then [((0, 0, 0), 2048 - fr), ((1, 0, 0), fr - fg), ((1, 1, 0), fg - fb), ((1, 1, 1), fb)]
  else if fb ≤ fr ∧ fg < fb then [((0, 0, 0), 2048 - fr), ((1, 0, 0), fr - fb), ((1, 0, 1), fb - fg), ((1, 1, 1), fg)]
  else if fr < fb ∧ fg ≤ fr then [((0, 0, 0), 2048 - fb), ((0, 0, 1), fb - fr), ((1, 0, 1), fr - fg), ((1, 1, 1), fg)]
  else if fr < fg ∧ fb ≤ fr then [((0, 0, 0), 2048 - fg), ((0, 1, 0), fg - fr), ((1, 1, 0), fr - fb), ((1, 1, 1), fb)]
  else if fb ≤ fg ∧ fr < fb then [((0, 0, 0), 2048 - fg), ((0, 1, 0), fg - fb), ((0, 1, 1), fb - fr), ((1, 1, 1), fr)]
  else [((0, 0, 0), 2048 - fb), ((0, 0, 1), fb - fg), ((0, 1, 1), fg - fr), ((1, 1, 1), fr)]

/-- The shaper and the 3D LUT on three working components (R171, R172). -/
def lutLookup (s : State) (base : Nat) (w : Int × Int × Int) : Int × Int × Int :=
  let sr := shape s base w.1
  let sg := shape s base w.2.1
  let sb := shape s base w.2.2
  let corners := tetra (sr % 2048 : Nat) (sg % 2048 : Nat) (sb % 2048 : Nat)
  let acc := corners.foldl (fun (q : Int × Int × Int) c =>
    let v := latticeAt s base (sr / 2048 + c.1.1) (sg / 2048 + c.1.2.1) (sb / 2048 + c.1.2.2)
    (q.1 + v.1 * c.2, q.2.1 + v.2.1 * c.2, q.2.2 + v.2.2 * c.2)) (0, 0, 0)
  (divRound acc.1 2048, divRound acc.2.1 2048, divRound acc.2.2 2048)

/-- Stage 4 of a slot (R171 to R174). -/
def gamut (s : State) (j : Nat) (w : Int × Int × Int) : Int × Int × Int :=
  let v := if rf s (Reg.STP_GAMUT_CTRL j) Fld.STP_GAMUT_CTRL_LUT_EN = 1
    then lutLookup s (addr36 s (Reg.STP_LUT_LO j) (Reg.STP_LUT_HI j)) w else w
  mat3 (matAt (rd s) (Reg.STP_GMAT_00 j)) v

/-! ## Stages 5 to 9 for one lamp (R175 to R189) -/

/-- A coefficient record as its 192-bit value (R175). -/
def coefM (rec r col : Nat) : Int := toSigned 12 (bitsOf rec (12 * (3 * r + col) + 11) (12 * (3 * r + col)))
def coefG (rec k : Nat) : Nat := bitsOf rec (108 + 16 * k + 7) (108 + 16 * k)
def coefB (rec k : Nat) : Nat := bitsOf rec (108 + 16 * k + 15) (108 + 16 * k + 8)
def coefTrim (rec k : Nat) : Int := toSigned 8 (bitsOf rec (156 + 8 * k + 7) (156 + 8 * k))
def coefSt (rec k : Nat) : Nat := bitsOf rec (181 + 2 * k) (180 + 2 * k)
def coefWsel (rec : Nat) : Nat := bitsOf rec 189 186

/-- The coefficient index entry of region `i` of a tile: block address and packed length (R177). -/
def coefEntry (s : State) (t i : Nat) : Nat × Nat :=
  let e := leValue (dramRead s (addr36 s (Reg.TS_COEF_LO t) (Reg.TS_COEF_HI t) + 8 * i) 8)
  (bitsOf e 39 0, bitsOf e 56 40)

/-- Stage 5: lamp demand after uniformity, colour gain and load scale (R179). -/
def stage5 (rec k : Nat) (w : Int × Int × Int) (gain scale : Nat) : Int :=
  let d := clampInt (divRound (coefM rec k 0 * w.1 + coefM rec k 1 * w.2.1 + coefM rec k 2 * w.2.2) 1024) 0 wMax
  min wMax (divRound (d * gain * scale) 1073741824)

/-- The effective state of a lamp: the live state where it is OPEN, SHORT or WEAK (codes 1 to 3), else the recorded one (R180). -/
def effective (live recorded : Nat) : Nat := if live = 1 ∨ live = 2 ∨ live = 3 then live else recorded

/-- Stage 6, own value and residual of a lamp (R181 step 1). -/
def defectOwn (st : Nat) (wg : Nat) (d5 : Int) : Int × Int :=
  match st with
  | 0 => (d5, 0)
  | 3 =>
    let d := min wMax (divRound (d5 * wg) 256)
    (d, d5 - divRound (d * 256) wg)
  | _ => (0, d5)

/-- A share given to a neighbour (R181 step 2). -/
def defectShare (w : Nat) (r : Int) : Int := if 0 < r then divRound (w * r) 256 else 0

/-- Stage 6 of a lamp from its own value and the shares it receives (R181 step 3); with DEFECT at 0 the demand passes, and OPEN and
SHORT lamps are driven at 0. -/
def stage6 (enabled : Bool) (st : Nat) (wg : Nat) (d5 : Int) (shares : List Int) : Int :=
  if st = 1 ∨ st = 2 then 0
  else if enabled then min wMax ((defectOwn st wg d5).1 + shares.foldl (· + ·) 0) else d5

/-- An overdrive entry (R184). -/
def odEntry (s : State) (table k idx : Nat) : Int :=
  toSigned 16 (leValue (dramRead s (addr36 s Reg.STP_OD_BASE_LO Reg.STP_OD_BASE_HI + 384 * table + 128 * k + 2 * idx) 2))

/-- Stage 7: coupling overdrive on a first line (R183). -/
def stage7 (first : Bool) (e d6 : Int) : Int := if first ∧ d6 ≠ 0 then clampInt (d6 + 16 * e) 0 wMax else d6

/-- Stage 8: the low-grey curve (R185). -/
def stage8 (lgc : Bool) (g b : Nat) (d7 : Int) : Int :=
  let t : Int := (256 * g : Nat)
  if lgc ∧ 0 < d7 ∧ d7 < t then d7 + divRound (16 * b * (t - d7)) t else d7

/-- Stage 9: the nominal current code of a slot (R186). -/
def slotCode (floor_ : Nat) (d8 : Int) : Nat :=
  if floor_ * 1048575 ≤ 255 * d8 then (divRound (255 * d8) 1048575).toNat else floor_

/-- The curtain's current code: the largest over the slots that show, or the floor (R187). -/
def curtainCode (floor_ : Nat) (codes : List Nat) : Nat := if codes.isEmpty then floor_ else codes.foldl max 0

/-- PWM demand against the code that applies, with 8 fraction bits (R188). -/
def pwmDemand (d8 : Int) (ca : Nat) : Nat := min 16776960 (65535 * 255 * d8.toNat * 256 / (1048575 * ca))

/-- The code sent after the trim (R189). -/
def sentCode (c : Nat) (trim : Int) : Nat := (clampInt (divRound ((c : Int) * (256 + trim)) 256) 1 255).toNat

/-! ## Stages 10 and 11 (R196 to R200) -/

/-- The threshold of the ordered matrix (R196). -/
def ditherT (seedX seedY num j k x y : Nat) : Nat :=
  let n := num % 64
  let ox := (seedX + 37 * n + 11 * j + 21 * k) % 64
  let oy := (seedY + 29 * n + 53 * j + 43 * k) % 64
  let x' := (x + ox) % 64
  let y' := (y + oy) % 64
  let a := x' ^^^ y'
  ((List.range 6).foldl (fun m b => 4 * m + 2 * bitsOf a b b + bitsOf y' b b) 0) / 16

/-- The PWM code (R196). -/
def pwmCode (dither : Bool) (t px : Nat) : Nat := min 65535 ((px + (if dither then t else 128)) / 256)

/-- A lamp of a page part: PWM code, sent code and whether the code is sent (R197). -/
structure LampCode where
  p : Nat
  cs : Nat
  changed : Bool
  deriving DecidableEq, Repr

/-- A change bitmap, bit i mod 8 of byte i / 8 (R197). -/
def changeBytes (l : List Bool) : List Byte :=
  (List.range ((l.length + 7) / 8)).map (fun i => BitVec.ofNat 8
    ((List.range 8).foldl (fun n k => if l.getD (8 * i + k) false then n + 2 ^ k else n) 0))

/-- A port part of a packed page (R197). -/
def packPart (l : List LampCode) : List Byte :=
  l.flatMap (fun c => leBytes 2 c.p) ++ changeBytes (l.map (·.changed))
    ++ (l.filter (·.changed)).map (fun c => BitVec.ofNat 8 c.cs)

/-- The CRC of a page or of a port part: three bytes a lamp (R198). -/
def partCrc (l : List LampCode) : Word := crc32 (l.flatMap (fun c => leBytes 2 c.p ++ [BitVec.ofNat 8 c.cs]))

/-- The load of a region in a slot (R200). -/
def regionLoad (l : List LampCode) : Nat := (l.map (fun c => c.cs * c.p)).foldl (· + ·) 0 / 65536

/-- The home cluster of a region: EC(4q + (g_q mod 4)) (R190, R241). -/
def homeCluster (r : Rd) (t i : Nat) : Nat := 4 * tileQuad r t + quadIndex r t i % 4

/-- Where the held codes of a region lie: SRAM address of its 3,072 bytes in banks MB(24c + 15) on (R190). -/
def heldAddr (r : Rd) (t i : Nat) : Nat :=
  0x40000 * (24 * homeCluster r t i + 15) + 3072 * (quadIndex r t i / 4)

/-! ## Held bits and the CRC store (R191, R192, R199) -/

/-- The held bit of a region (R191). -/
def heldBit (s : State) (g : Nat) : Bool := bitsOf (rd s (Reg.STP_HELD_VALID (g / 32))).toNat (g % 32) (g % 32) == 1

/-- The held bit of a region set or cleared; clearing tickets the region at the next edge (R192). -/
def setHeld (s : State) (g : Nat) (v : Bool) : List Act :=
  let a := Reg.STP_HELD_VALID (g / 32)
  [.reg a (setBit (rd s a) (g % 32) v)]
  ++ (if v then [] else [.stp (fun q => { q with nextCauses := { q.nextCauses with regions := q.nextCauses.regions ++ [g] } })])

/-- Key of the CRC store. -/
def crcKey (g j k : Nat) : Nat := (g * 8 + j) * 16 + k

/-- The CRC store starts UNKNOWN. -/
def crcDflt (_ : Nat) : Option Word := none

/-- STP_HELD_INV: one held bit or every one is cleared, and the regions ticketed (R192, R205). -/
def heldInv (v : Word) : Eff := fun s =>
  if getF v Fld.STP_HELD_INV_ALL = 1 then
    (List.range 384).map (fun w => Act.reg (Reg.STP_HELD_VALID w) 0)
      ++ [.stp (fun q => { q with nextCauses := { q.nextCauses with all := true } })]
  else if getF v Fld.STP_HELD_INV_REGION < 12288 then setHeld s (getF v Fld.STP_HELD_INV_REGION) false else []

/-- STP_FORCE.ALL: every page of the next curtain is pushed (R199). -/
def forceAll (v : Word) : Eff := fun _ =>
  if getF v Fld.STP_FORCE_ALL = 1 then [.stp (fun q => { q with pushAll := true })] else []

/-! ## Causes and checks of this chapter (R184, R201, R205, R207) -/

/-- Tiles whose coefficients, drive words, overdrive, gains or load scale a commit changes (R201). -/
def tilesSteep (l : List Staged) (old new : Rd) : List Nat :=
  (List.range 1024).filter (fun t =>
    touches l (Reg.TS_COEF_LO t) (Reg.TS_COEF_LO t + 8) && (old (Reg.TS_COEF_LO t) != new (Reg.TS_COEF_LO t) || old (Reg.TS_COEF_HI t) != new (Reg.TS_COEF_HI t))
    || changes l old new (Reg.TS_DRIVE t) || changes l old new (Reg.TS_OD t)
    || changes l old new (Reg.TC_GAIN_RG t) || changes l old new (Reg.TC_GAIN_B t))

/-- Does a commit change a table, matrix or switch that every region depends on (R201)? -/
def steepAll (l : List Staged) (old new : Rd) : Bool :=
  (List.range 8).any (fun j => changes l old new (Reg.STP_GAMUT_CTRL j)
    || touches l (Reg.STP_LUT_LO j) (Reg.STP_LUT_LO j + 8)
    || (List.range 5).any (fun k => changes l old new (Reg.STP_GMAT_00 j + 4 * k)))
  || (List.range 6).any (fun x => (List.range 5).any (fun k => changes l old new (Reg.STP_SRCMAT_00 x + 4 * k)))
  || (List.range 16).any (fun n => changes l old new (Reg.STP_WEIGHT n))
  || [Reg.STP_CTRL, Reg.STP_PQ_WHITE, Reg.STP_SEED, Reg.STP_OD_BASE_LO, Reg.STP_OD_BASE_HI].any (changes l old new)

/-- The overdrive tables in use under a reader (R184). -/
def odTables (r : Rd) : List Nat :=
  if rrf r Reg.STP_CTRL Fld.STP_CTRL_OD = 0 then [] else
  (List.range 64).filter (fun n => (tilesOn r).any (fun t => rrf r (Reg.TS_OD t) Fld.TS_OD_EN == 1 && rrf r (Reg.TS_OD t) Fld.TS_OD_TABLE == n))

/-- An overdrive table in use with an entry outside -2,048 to 2,047 (R184). -/
def odBad (s : State) (r : Rd) : Bool :=
  let base := (r Reg.STP_OD_BASE_LO).toNat + 2 ^ 32 * rrf r Reg.STP_OD_BASE_HI Fld.STP_OD_BASE_HI_ADDR_HI
  (odTables r).any (fun n => (List.range 192).any (fun i =>
    let e := toSigned 16 (leValue (dramRead s (base + 384 * n + 2 * i) 2))
    decide (e < -2048 ∨ 2047 < e)))

/-- The rules of 05_steep.md that a commit breaks. -/
def stpBreaks (s : State) (l : List Staged) (r : Rd) : Bool :=
  (touches l Reg.STP_PQ_WHITE (Reg.STP_PQ_WHITE + 4)
    && (decide (rrf r Reg.STP_PQ_WHITE Fld.STP_PQ_WHITE_NITS < 48) || decide (10000 < rrf r Reg.STP_PQ_WHITE Fld.STP_PQ_WHITE_NITS)))
  || (List.range 1024).any (fun t => touches l (Reg.TS_DRIVE t) (Reg.TS_DRIVE t + 4)
      && (decide (rrf r (Reg.TS_DRIVE t) Fld.TS_DRIVE_WEAK_GAIN < 256) || rrf r (Reg.TS_DRIVE t) Fld.TS_DRIVE_C_FLOOR == 0))
  || ((touches l Reg.STP_OD_BASE_LO (Reg.STP_OD_BASE_LO + 8) || touches l Reg.STP_CTRL (Reg.STP_CTRL + 4)
        || (List.range 1024).any (fun t => touches l (Reg.TS_OD t) (Reg.TS_OD t + 4))) && odBad s r)

end Sys2Proof.Machine
end

