-- ==== Sys2Proof/Machine/Engines.lean ====
section
/-! DEFINITION. The steep engines' issue of bundles, loops, faults, waits, barriers, tickets, map-out and understudies
(06_steep_engines.md, R208 to R223, R238 to R259). -/

namespace Sys2Proof.Machine

/-! ## Engines and their registers -/

/-- STATE of ENG_STATUS (R261). -/
def esOFF : Nat := 0
def esSTANDBY : Nat := 1
def esRUN : Nat := 2
def esWAIT : Nat := 3
def esHALT : Nat := 4
def esMAPPED_OUT : Nat := 5

def engState (s : State) (e : Nat) : Nat := rf s (Reg.ENG_STATUS e) Fld.ENG_STATUS_STATE
def engPC (s : State) (e : Nat) : Nat := rf s (Reg.ENG_STATUS e) Fld.ENG_STATUS_PC
def engHome (s : State) (e : Nat) : Nat := rf s (Reg.ENG_STATUS e) Fld.ENG_STATUS_HOME
def engCovers (s : State) (e : Nat) : Nat := rf s (Reg.ENG_STATUS e) Fld.ENG_STATUS_COVERS

/-- STATE of an engine is set. -/
def engTo (e st : Nat) : Act := .fld (Reg.ENG_STATUS e) Fld.ENG_STATUS_STATE st

/-- The engines of the part (R2). -/
def allEngines (s : State) : List Nat := List.range (if s.fuses.is9440 then 96 else 72)

/-- An engine in service: it runs, waits or stands until the next edge (R248, R262). -/
def inService (s : State) (e : Nat) : Bool := engState s e == esRUN || engState s e == esWAIT || engState s e == esHALT

/-- T0 and the owner of a cluster (R263). -/
def clusterTenants (s : State) (c : Nat) : List Nat := withT0 (ownerOf s 5 c)

/-- An ENG event with the engine number (R263). -/
def engEvent (s : State) (b e : Nat) : List Act := eventNow s 5 b (clusterTenants s (e / 6)) (0x010 + e) (arg [(16, e)])

/-- A latch bit set in the engines that have a HOME (R238). -/
def latchHome (home b : Nat) : Eff := fun s =>
  (allEngines s).filterMap (fun e => if engHome s e = home ∧ inService s e then some (.eng e (fun g => g.latchEvt b)) else none)

/-- A latch bit set in every engine (R238). -/
def latchAll (b : Nat) : Eff := fun s => (allEngines s).map (fun e => .eng e (fun g => g.latchEvt b))

/-! ## Loops and the PC (R215) -/

/-- Does bundle `t` lie in a loop's body? -/
def inBody (t : Nat) (l : LoopLevel) : Bool := decide ((t + 4096 - l.start) % 4096 < l.len)

/-- A taken branch ends each open loop whose body its target leaves, innermost first. -/
def leaveLoops (t : Nat) : List LoopLevel → List LoopLevel
  | [] => []
  | l :: ls => if inBody t l then l :: ls else leaveLoops t ls

/-- What follows bundle `pc`: the next bundle, or the first bundle of a body that `pc` ends. -/
def seqNext (pc : Nat) : List LoopLevel → Nat × List LoopLevel
  | [] => ((pc + 1) % 4096, [])
  | l :: ls =>
    if (l.start + l.len + 4095) % 4096 = pc then
      (if 1 < l.left then (l.start, { l with left := l.left - 1 } :: ls) else seqNext pc ls)
    else ((pc + 1) % 4096, l :: ls)

/-- The PC and loop levels after a bundle whose scalar syllable yields `r`. -/
def afterBundle (pc : Nat) (loops : List LoopLevel) (r : SylRes) : Nat × List LoopLevel :=
  match r.jump, r.skip, r.body with
  | some t, _, _ => (t, leaveLoops t loops)
  | none, some n, _ => seqNext ((pc + n) % 4096) loops
  | none, none, some (n, k) => ((pc + 1) % 4096, ⟨(pc + 1) % 4096, n, k⟩ :: loops)
  | none, none, none => seqNext pc loops

/-! ## Tickets (R240 to R248) -/

/-- The ticket an engine holds. -/
def heldTicket (s : State) (e : Nat) : Option Ticket := s.stp.tickets.find? (fun k => k.engine == some e && k.state == .held)

/-- Two tickets of the coming curtain are the same: their quadrant and serial. -/
def sameTicket (s : State) (k q : Ticket) : Bool := k.serial == q.serial && tileQuad (rd s) k.tile == tileQuad (rd s) q.tile

/-- A ticket is replaced in place. -/
def setTicket (s : State) (k : Ticket) (f : Ticket → Ticket) : List Act :=
  [.stp (fun p => { p with tickets := p.tickets.map (fun q => if sameTicket s k q then f q else q) })]

/-- The region index in its tile. -/
def ticketIndex (s : State) (k : Ticket) : Nat := k.region - regionBase (rd s) k.tile

/-- The home cluster of a ticket (R241). -/
def ticketHome (s : State) (k : Ticket) : Nat := homeCluster (rd s) k.tile (ticketIndex s k)

/-- An engine's ticket goes back to the head of its queue with RETRY, or becomes FAILED at its second program fault in the
curtain (R248, R249). -/
def returnTicket (e : Nat) (program : Bool) : Eff := fun s =>
  match heldTicket s e with
  | none => []
  | some k =>
    if program ∧ 1 ≤ k.returned then setTicket s k (fun q => { q with state := .failed, engine := none })
    else
      [.stp (fun p => { p with tickets :=
          { k with state := .queued, engine := none, retry := true, returned := if program then k.returned + 1 else k.returned }
            :: p.tickets.filter (fun q => !sameTicket s k q) })]
      ++ latchHome (ticketHome s k) evTICKET s

/-- The ticket of an engine becomes FAILED and the engine sees WITHDRAW: a read of its own met an uncorrectable error (R456). -/
def failTicket (e : Nat) : Eff := fun s =>
  match heldTicket s e with
  | none => []
  | some k => setTicket s k (fun q => { q with state := .failed, engine := none }) ++ [.eng e (fun g => g.latchEvt evWITHDRAW)]

/-! ## Barriers (R239) -/

/-- The engine in service that counts in a barrier as engine `p`. -/
def atPlace (s : State) (p : Nat) : Option Nat := (allEngines s).find? (fun e => inService s e && (eng s e).place == p)

/-- Does an engine wait at barrier `b`? -/
def waitsBar (s : State) (e b : Nat) : Bool := match (eng s e).wait with | some (.bar b' _) => b' == b | _ => false

/-- The engines that a barrier's mask names in cluster `c`. -/
def barPlaces (s : State) (c b : Nat) : List Nat :=
  ((List.range 6).filter (fun k => bitsOf (rf s (Reg.CL_BAR c b) Fld.CL_BAR_MASK) k k == 1)).map (fun k => 6 * c + k)

/-- Has every engine that the mask names arrived? -/
def barComplete (s : State) (c b : Nat) : Bool :=
  (barPlaces s c b).all (fun p => match atPlace s p with | some e => waitsBar s e b | none => false)

/-! ## Waits -/

/-- An engine's wait ends: its result is written, and it goes on after its bundle. -/
def finishWait (s : State) (e : Nat) (res : Option (Nat × Word)) : List Act :=
  let n := seqNext (engPC s e) (eng s e).loops
  [.eng e (fun g => { (match res with | some q => g.putS q.1 q.2 | none => g) with
      wait := none
      loops := n.2 }),
   .fld (Reg.ENG_STATUS e) Fld.ENG_STATUS_PC n.1, engTo e esRUN]

/-- The engines that wait at barrier `b` of the cluster that place `p` belongs to are released with 1, where the mask names `p`:
`p` was mapped out or halted on a fault (R239). -/
def breakBarriers (p : Nat) : Eff := fun s =>
  (List.range 4).flatMap (fun b =>
    if (barPlaces s (p / 6) b).contains p then
      (allEngines s).flatMap (fun e =>
        if engHome s e = p / 6 ∧ (eng s e).place ≠ p then
          match (eng s e).wait with
          | some (.bar b' sd) => if b' = b then finishWait s e (some (sd, 1)) else []
          | _ => []
        else [])
    else [])

/-- The stream unit of an engine. -/
def Engine.su (g : Engine) (u : Nat) : StreamUnit := if u = 0 then g.su0 else g.su1

/-- A stream unit of an engine changed. -/
def Engine.setSu (g : Engine) (u : Nat) (f : StreamUnit → StreamUnit) : Engine :=
  if u = 0 then { g with su0 := f g.su0 } else { g with su1 := f g.su1 }

/-- Calls of an engine that no unit has served. -/
def callsOf (s : State) (e : Nat) (lut : Bool) : List UnitCall := s.stp.calls.filter (fun c => c.engine == e && c.lut == lut)

/-! ## Faults (R247 to R249) -/

/-- The level of a fault code (R247). -/
def faultLevel (code : Nat) : Nat := if code = 3 ∨ code = 0x10 ∨ code = 0x12 then 3 else if code = 0x11 then 2 else 4

/-- A fault is recorded, counted, logged and raised (R247, R263). -/
def recordFault (e code aux : Nat) : Eff := fun s =>
  [.reg (Reg.ENG_FAULT e) (putF (putF (putF (putF (putF 0 Fld.ENG_FAULT_VALID 1) Fld.ENG_FAULT_LEVEL (faultLevel code))
      Fld.ENG_FAULT_CODE code) Fld.ENG_FAULT_AUX aux) Fld.ENG_FAULT_PC (engPC s e)),
   .inc (Reg.ENG_FAULT_CNT e) Fld.ENG_FAULT_CNT_COUNT 1]
  ++ logFault s (0x010 + e) 5 code (faultLevel code) (clusterTenants s (e / 6)) (arg [(16, engPC s e), (16, aux)])
  ++ engEvent s 0 e

/-- A program fault: the engine stops until the next edge, and its ticket returns or fails (R248). -/
def programFault (e code aux : Nat) : Eff :=
  whenE (fun s => engState s e == esRUN || engState s e == esWAIT)
    [recordFault e code aux, returnTicket e true,
     fun _ => [.eng e (fun g => { g with faulted := true, wait := none }), engTo e esHALT],
     fun s => breakBarriers (eng s e).place s, queueRegs]

/-! ## Ticket completion (R243, R244, R254) -/

/-- What a failed region brings about: the status is logged with tile and region, COEF_ERROR is raised, and the region is
ticketed at the next edge (R178). -/
def regionFailed (s : State) (k : Ticket) (st : Nat) : List Act :=
  logStatus s 0x090 5 st (withT0 (ownerOf s 3 k.tile)) (arg [(16, k.tile), (16, k.region)])
  ++ eventNow s 8 0 (withT0 (ownerOf s 3 k.tile)) (0x500 + k.tile) (arg [(16, k.tile), (16, k.region)])
  ++ [.stp (fun p => { p with nextCauses := { p.nextCauses with regions := p.nextCauses.regions ++ [k.region] } })]

/-- The ticket of a serial that an engine has taken, in whatever state. -/
def ticketOf (s : State) (e serial : Nat) : Option Ticket :=
  s.stp.tickets.find? (fun k => k.engine == some e && k.serial == serial)

/-- TKDONE once its POSTs have completed: the completion record is read, and the ticket retires (R243). -/
def retireTicket (e serial record sd : Nat) : List Eff := [
  fun s =>
    match ticketOf s e serial with
    | none => finishWait s e (some (sd, 1))
    | some k =>
      if k.state ≠ .held then finishWait s e (some (sd, 1)) else
      match spaceAccess s (e / 6) record 4 with
      | .bad c => programFault e c 0 s
      | .refused b c o => bankRefused s b e c o ++ programFault e flBANK_REFUSED 0 s
      | .ok f =>
        let word := fun (n : Nat) => leValue (sramRead s (f + 4 * n) 4)
        let st := word 0 % 65536
        let foreign := engHome s e != e / 6
        (if st = 0 then
          setTicket s k (fun q => { q with state := .done })
          ++ [.stp (fun p => { p with latestLoad := (List.range (slotCount (rd s))).foldl (fun m j =>
                mapPut zeroNat m (8 * k.region + j) (word (j + 1))) p.latestLoad })]
          ++ (if s.stp.causes.allBackground || s.stp.causes.background.contains k.tile then
                [.stp (fun p => { p with bgReady := mapPut falseFlag p.bgReady k.region true })] else [])
          ++ (if !foreign && !k.rescue then setHeld s k.region true else [])
          ++ (if foreign then setHeld s k.region false else [])
        else setTicket s k (fun q => { q with state := .done, status := st }) ++ regionFailed s k st)
        ++ [.inc (Reg.ENG_TICKETS e) Fld.ENG_TICKETS_COUNT 1]
        ++ finishWait s e (some (sd, 0)),
  queueRegs]

/-! ## Ending waits -/

/-- Word `k` of a stream descriptor of engine `e` at address `a` of its cluster's local banks (R228, R229). -/
def descWord (s : State) (e a k : Nat) : Nat := leValue (sramRead s (0x40000 * 24 * (e / 6) + a + 4 * k) 4)

/-- POSTs of a serial that have not completed: they stand in the engine's stream units (R231, R243). -/
def postsPending (s : State) (e serial : Nat) : Bool :=
  ((eng s e).su0.queue ++ (eng s e).su1.queue).any (fun a => descWord s e a 0 % 16 == 3 && descWord s e a 5 / 65536 == serial)

/-- An engine that waits goes on where its condition holds (R214, R228, R238, R239, R243). -/
def wakeEngine (e : Nat) : Eff := fun s =>
  let g := eng s e
  match g.wait with
  | none => []
  | some (.su u sd) =>
    if (g.su u).queue.isEmpty then
      .eng e (fun g => g.setSu u (fun q => { q with status := 0 })) :: finishWait s e (some (sd, BitVec.ofNat 32 (g.su u).status))
    else []
  | some (.ev mask sd) =>
    let hit := g.evt &&& BitVec.ofNat 8 mask
    if hit = 0 then []
    else .eng e (fun g => { g with evt := g.evt &&& ~~~hit }) :: finishWait s e (some (sd, hit.zeroExtend 32))
  | some (.bar b sd) => if barComplete s (engHome s e) b then finishWait s e (some (sd, 0)) else []
  | some (.tkdone serial record sd) =>
    if postsPending s e serial then [] else seqE (retireTicket e serial record sd) s
  | some (.sugo u a) =>
    if (g.su u).queue.length < 4 then .eng e (fun g => g.setSu u (fun q => { q with queue := q.queue ++ [a] })) :: finishWait s e none
    else []
  | some .fence => if (callsOf s e true).isEmpty && (callsOf s e false).isEmpty then finishWait s e none else []

/-- The engines that wait. -/
def waiting (s : State) : List Nat := (allEngines s).filter (fun e => (eng s e).wait.isSome)

/-- Every engine that waits at a barrier that is complete is released with 0, all together (R239). -/
def releaseBarriers : Eff := fun s =>
  (waiting s).flatMap (fun e => match (eng s e).wait with | some (.bar _ _) => wakeEngine e s | _ => [])

/-- Every other wait whose condition holds ends. -/
def wakeAll : List Eff := [
  releaseBarriers,
  fun s => seqE ((waiting s).map (fun e => fun s => match (eng s e).wait with | some (.bar _ _) => [] | _ => wakeEngine e s)) s]

/-! ## Issue (R211, R218 to R223) -/

/-- Does a bundle meet a register that an unserved call of its engine has locked (R220, R222)? -/
def locked (s : State) (e : Nat) (regs : List Nat) : Bool :=
  s.stp.calls.any (fun c => c.engine == e && regs.any (fun r => decide (c.vd ≤ r ∧ r ≤ c.vd + 2)))

/-- Are the units that a bundle calls free for a further call of the engine: two SMP and one LUTL (R222)? -/
def callFits (s : State) (e : Nat) : Option Bool → Bool
  | none => true
  | some true => (callsOf s e true).isEmpty
  | some false => decide ((callsOf s e false).length < 2)

/-- Clocks in RUN, with the clocks stalled among them (R261). -/
def cycleActs (s : State) (e n : Nat) : List Act :=
  let st := Config.stallClocks s.free
  let c := (rd s (Reg.ENG_CYCLES_LO e)).toNat + 2 ^ 32 * (rd s (Reg.ENG_CYCLES_HI e)).toNat + n + st
  [.reg (Reg.ENG_CYCLES_LO e) (BitVec.ofNat 32 c), .reg (Reg.ENG_CYCLES_HI e) (BitVec.ofNat 32 (c / 2 ^ 32)),
   .inc (Reg.ENG_STALL e) Fld.ENG_STALL_COUNT st, .draw]

/-- The bundle of engine `e` with scalar syllable `sy` and vector syllable `vy` issues, where the engine runs, no register or unit
it needs is locked or taken, and it is legal; both syllables read their sources before either writes, and the scalar syllable's
memory operations come first (R218, R219, R223). -/
def issueBundle (e : Nat) (sy vy : Syl) : Eff := fun s =>
  if engState s e ≠ esRUN then []
  else if sy.illegal || vy.illegal then programFault e flILLEGAL_OP 0 s
  else if sy.writes.any vy.writes.contains then programFault e flILLEGAL_BUNDLE 0 s
  else if locked s e (sy.vregs ++ vy.vregs) || !callFits s e sy.calls || !callFits s e vy.calls then []
  else
    let g := eng s e
    let a := sy.run s e g
    let b := vy.run (applyActs s a.mem) e g
    match a.fault, b.fault with
    | none, none =>
      let n := afterBundle (engPC s e) g.loops a
      cycleActs s e (max sy.clocks vy.clocks) ++ a.mem ++ b.mem
      ++ [.eng e (fun g => b.put (a.put g))]
      ++ (if a.ue || b.ue then failTicket e (applyActs s (a.mem ++ b.mem)) else [])
      ++ (match a.wait with
          | some w => [.eng e (fun g => { g with wait := some w }), engTo e esWAIT]
          | none => [.eng e (fun g => { g with loops := n.2 }), .fld (Reg.ENG_STATUS e) Fld.ENG_STATUS_PC n.1])
    | some f, _ =>
      let beside := b.fault.isSome || Config.besideFault s.free 32
      .draw :: a.mem ++ (if beside then b.mem else [])
      ++ [.eng e (fun g => if beside then b.put (a.put g) else a.put g)]
      ++ programFault e f.1 f.2 (applyActs s a.mem)
    | none, some f =>
      let beside := Config.besideFault s.free 32
      .draw :: (if beside then a.mem else []) ++ b.mem
      ++ [.eng e (fun g => if beside then b.put (a.put g) else b.put g)]
      ++ programFault e f.1 f.2 (applyActs s (a.mem ++ b.mem))

/-- A bundle issues, and the waits that it ends or starts are settled. -/
def issue (e : Nat) (sy vy : Syl) : List Eff := issueBundle e sy vy :: wakeAll

/-! ## Map-out (R249, R250) -/

/-- The understudy number of an engine designated in ENG_US (R252). -/
def understudyOf (s : State) (e : Nat) : Option Nat :=
  (List.range 8).find? (fun u => rf s (Reg.ENG_US u) Fld.ENG_US_EN == 1 && rf s (Reg.ENG_US u) Fld.ENG_US_ENGINE == e)

/-- The engine of understudy `u`. -/
def usEngine (s : State) (u : Nat) : Nat := rf s (Reg.ENG_US u) Fld.ENG_US_ENGINE

/-- An understudy releases its cover and idles, or stays in state `st` (R255). -/
def releaseCover (e st : Nat) : Eff := fun s =>
  [.fld (Reg.ENG_STATUS e) Fld.ENG_STATUS_COVERS 0x7F, .fld (Reg.ENG_STATUS e) Fld.ENG_STATUS_HOME (e / 6), engTo e st,
   .eng e (fun g => { g with place := e, wait := none })]
  ++ (match understudyOf s e with | some u => [.fld (Reg.ENG_US u) Fld.ENG_US_COVERING 0x7F] | none => [])

/-- The regions in service whose home cluster is `c`. -/
def homeRegions (s : State) (c : Nat) : List Nat :=
  (tilesOn (rd s)).flatMap (fun t => (List.range (regX (rd s) t * regY (rd s) t)).filterMap (fun i =>
    if homeCluster (rd s) t i = c then some (regionBase (rd s) t + i) else none))

/-- The held bits of a cluster's regions are cleared, and those regions ticketed at the next edge (R192, R254). -/
def clearHome (c : Nat) : Eff := fun s => seqE ((homeRegions s c).map (fun g => fun s => setHeld s g false)) s

/-- An engine is mapped out at level 4: its ticket returns, a cover it gave is released (R249, R250, R255). -/
def mapOut (e : Nat) : Eff :=
  whenE (fun s => engState s e != esMAPPED_OUT)
    [returnTicket e false, fun s => breakBarriers (eng s e).place s,
     fun s => if engCovers s e ≠ 0x7F then releaseCover e esMAPPED_OUT s
              else [engTo e esMAPPED_OUT, .eng e (fun g => { g with wait := none })],
     fun s => eventLv s 5 1 4 (clusterTenants s (e / 6)) (0x010 + e) (arg [(16, e)]),
     queueRegs]

/-- CL_SERVE of every cluster (R262). -/
def serveRegs : Eff := fun s =>
  (List.range 16).map (fun c => .reg (Reg.CL_SERVE c)
    (putF (putF 0 Fld.CL_SERVE_FOREIGN (min 15 ((allEngines s).filter (fun e => inService s e && engHome s e == c && e / 6 != c)).length))
      Fld.CL_SERVE_IN_SERVICE (((List.range 6).filter (fun k => (allEngines s).contains (6 * c + k) && inService s (6 * c + k))).foldl
        (fun n k => n + 2 ^ k) 0)))

/-- Is the LUT unit, or sampler `n`, of a cluster mapped out (R262)? -/
def lutOut (s : State) (c : Nat) : Bool := rf s (Reg.CL_UNITS c) Fld.CL_UNITS_LUT_OUT == 1
def smpOut (s : State) (c n : Nat) : Bool := bitsOf (rf s (Reg.CL_UNITS c) Fld.CL_UNITS_SMP_OUT) n n == 1

/-- A cluster with no sampler, or with no LUT unit left in its pair (R237). -/
def clusterDead (s : State) (c : Nat) : Bool :=
  rf s (Reg.CL_UNITS c) Fld.CL_UNITS_SMP_OUT == 7 || (lutOut s c && lutOut s (c ^^^ 1))

/-- Such a cluster is mapped out at level 5: all its engines, and its held plane is lost to its regions (R192, R237). -/
def clusterOut (c : Nat) : Eff :=
  whenE (fun s => clusterDead s c) ((List.range 6).map (fun k => mapOut (6 * c + k)) ++ [clearHome c,
    fun _ => [.sys (fun y => { y with degraded := true })]])

/-- A hardware fault of an engine (R249). -/
def hardwareFault (e code : Nat) : List Eff :=
  [whenE (fun s => (allEngines s).contains e && engState s e != esMAPPED_OUT && engState s e != esOFF)
    [recordFault e code 0, mapOut e, serveRegs]]

/-- A parity error of a sampler (units 0 to 2) or of the LUT unit (unit 3) that engine `e` meets (R236, R237, R249). -/
def unitFault (e unit : Nat) : List Eff :=
  let c := e / 6
  [whenE (fun s => (allEngines s).contains e) [recordFault e flUNIT unit,
    fun s => if unit = 3 then [.fld (Reg.CL_UNITS c) Fld.CL_UNITS_LUT_OUT 1]
      else [.fld (Reg.CL_UNITS c) Fld.CL_UNITS_SMP_OUT (rf s (Reg.CL_UNITS c) Fld.CL_UNITS_SMP_OUT ||| 2 ^ unit)],
    clusterOut c, clusterOut (c ^^^ 1), serveRegs]]

/-! ## Capacity (R257) -/

/-- The lamps of a region. -/
def regionLamps (r : Rd) (t i : Nat) : Nat :=
  let b := regionBox r t i
  3 * (b.2.1 - b.1) * (b.2.2.2 - b.2.2.1)

/-- The lamps of the regions whose home is each cluster. -/
def homeLamps (s : State) (c : Nat) : Nat :=
  ((tilesOn (rd s)).flatMap (fun t => if ticketsTile s t then
    (List.range (regX (rd s) t * regY (rd s) t)).map (fun i => if homeCluster (rd s) t i = c then regionLamps (rd s) t i else 0)
    else [])).foldl (· + ·) 0

/-- The engines in service with a HOME, covering understudies included. -/
def homeEngines (s : State) (c : Nat) : List Nat := (allEngines s).filter (fun e => inService s e && engHome s e == c)

/-- Engine clocks of a curtain before X, in units of 1/1000: the clock is 1.5 GHz (R20, R257). -/
def clocksBeforeX (s : State) : Nat := 1500 * (period s.cur.rate - tQuiet (rd s) - tRescue (rd s)) / 1000

/-- Does a cluster's work exceed its capacity (R257)? -/
def clusterShort (s : State) (c : Nat) : Bool :=
  let es := homeEngines s c
  let cost := (es.map (fun e => rf s (Reg.ENG_COST e) Fld.ENG_COST_COST)).foldl max 0
  decide (es.length * clocksBeforeX s * 256 < homeLamps s c * slotCount (rd s) * cost)
    || (es.isEmpty && decide (0 < homeLamps s c))

/-- The clusters whose work exceeds their capacity. -/
def shortClusters (s : State) : List Nat := (List.range 16).filter (clusterShort s)

/-- The evaluation at each map-out, change of structure and commit of rate or slots: CAPACITY_SHORT (R257). -/
def capacityCheck : Eff := fun s =>
  (shortClusters s).flatMap (fun c => eventNow s 5 3 (clusterTenants s c) (0x070 + c) (arg [(16, c)]))

/-! ## Understudies and swaps at an edge (R252 to R256) -/

/-- Is an engine covered? -/
def covered (s : State) (e : Nat) : Bool := (allEngines s).any (fun q => engCovers s q == e)

/-- The mapped-out engines that no understudy covers, ascending; an understudy that is itself mapped out needs none. -/
def uncovered (s : State) : List Nat :=
  (allEngines s).filter (fun e => engState s e == esMAPPED_OUT && (understudyOf s e).isNone && !covered s e)

/-- Is understudy `u` free? -/
def usFree (s : State) (u : Nat) : Bool :=
  rf s (Reg.ENG_US u) Fld.ENG_US_EN == 1 && engState s (usEngine s u) == esSTANDBY && engCovers s (usEngine s u) == 0x7F

/-- The understudy that an engine is due at this edge: same cluster, then quadrant, then elsewhere; lowest u first (R253). -/
def coverFor (s : State) (e : Nat) : Option Nat :=
  let us := (List.range 8).filter (usFree s)
  let scope := fun (u : Nat) => rf s (Reg.ENG_US u) Fld.ENG_US_SCOPE
  match us.find? (fun u => usEngine s u / 6 == e / 6) with
  | some u => some u
  | none =>
    match us.find? (fun u => (scope u == 1 || scope u == 2) && usEngine s u / 24 == e / 24) with
    | some u => some u
    | none => us.find? (fun u => scope u == 2)

/-- Is the program of the covered engine in its understudy's store in time (R255)? -/
def copyReady (s : State) (u e : Nat) : Bool :=
  (eng s (usEngine s u)).prog == (eng s e).copy && !(eng s (usEngine s u)).copyLate

/-- An engine starts from its ENG_ENTRY with no loop open (R209). -/
def restartEngine (e : Nat) : Eff := fun s =>
  [.fld (Reg.ENG_STATUS e) Fld.ENG_STATUS_PC (rf s (Reg.ENG_ENTRY e) Fld.ENG_ENTRY_ENTRY), engTo e esRUN,
   .eng e (fun g => { g with loops := [], wait := none })]

/-- Understudy `u` takes the cover of engine `e` (R253, R254). -/
def giveCover (u e : Nat) : List Eff := [
  fun s => restartEngine (usEngine s u) s,
  fun s =>
    let x := usEngine s u
    [.fld (Reg.ENG_STATUS x) Fld.ENG_STATUS_COVERS e, .fld (Reg.ENG_STATUS x) Fld.ENG_STATUS_HOME (e / 6),
     .fld (Reg.ENG_US u) Fld.ENG_US_COVERING e, .eng x (fun g => { g with place := e })]
    ++ eventNow s 5 2 (clusterTenants s (e / 6)) (0x010 + x) (arg [(16, x), (16, e)]),
  fun s => if usEngine s u / 6 ≠ e / 6 then clearHome (e / 6) s else []]

/-- Covers are given, lower engine numbers first (R253, R255). -/
def coverEdge : Eff := fun s =>
  seqE ((uncovered s).map (fun e => fun s =>
    match coverFor s e with
    | some u => if copyReady s u e then seqE (giveCover u e) s else []
    | none => [])) s

/-- The swaps whose GO stands in the pipeline state (R256). -/
def swapsDue (s : State) : List Nat := (List.range 8).filter (fun u => rf s (Reg.ENG_SWAP u) Fld.ENG_SWAP_GO == 1)

/-- GO is cleared (R256). -/
def swapClear (u : Nat) : Act := .fld (Reg.ENG_SWAP u) Fld.ENG_SWAP_GO 0

/-- A swap whose target was mapped out at this same edge: the understudy covers it, and SWAP_DONE is raised (R256). -/
def swapCover (wasOut : List Nat) : Eff := fun s =>
  seqE ((swapsDue s).map (fun u => fun s =>
    let e := rf s (Reg.ENG_SWAP u) Fld.ENG_SWAP_TARGET
    if engState s e = esMAPPED_OUT ∧ !wasOut.contains e ∧ usFree s u then
      seqE (giveCover u e ++ [fun s => swapClear u :: eventNow s 5 4 (clusterTenants s (e / 6)) (0x010 + e) (arg [(16, u), (16, e)])]) s
    else [])) s

/-- The other swaps: understudy and engine exchange, or the swap is abandoned with BUSY because the understudy took a cover or
was mapped out at this edge (R256). -/
def swapEdge : Eff := fun s =>
  seqE ((swapsDue s).map (fun u => fun s =>
    let e := rf s (Reg.ENG_SWAP u) Fld.ENG_SWAP_TARGET
    let x := usEngine s u
    if usFree s u ∧ inService s e then
      seqE [returnTicket e false, restartEngine x,
        fun s =>
          [.fld (Reg.ENG_STATUS x) Fld.ENG_STATUS_HOME (engHome s e), .fld (Reg.ENG_STATUS x) Fld.ENG_STATUS_UNDERSTUDY 0,
           .eng x (fun g => { g with place := (eng s e).place }),
           .fld (Reg.ENG_STATUS e) Fld.ENG_STATUS_HOME (e / 6), .fld (Reg.ENG_STATUS e) Fld.ENG_STATUS_UNDERSTUDY 1,
           engTo e esSTANDBY, .eng e (fun g => { g with place := e, wait := none }),
           .fld (Reg.ENG_US u) Fld.ENG_US_ENGINE e, swapClear u]
          ++ eventNow s 5 4 (clusterTenants s (e / 6)) (0x010 + e) (arg [(16, u), (16, e)]),
        fun s => if x / 6 ≠ engHome s x then clearHome (engHome s x) s else []] s
    else swapClear u :: logStatus s (0x010 + x) 5 stBUSY (clusterTenants s (x / 6)) (arg [(16, u)]))) s

/-- Engines that faulted or halted restart; engines at their fault limit are mapped out; the commit's MAP_OUT and EN take effect
(R209, R248, R250). `old` and `new` are the pipeline state before and after the edge's commits. -/
def engineEdge (old new : Rd) (l : List Staged) : Eff := fun s =>
  seqE ((allEngines s).map (fun e => fun s =>
    let g := eng s e
    let streak := if g.faulted then g.streak + 1 else 0
    let lim := rf s (Reg.ENG_CTRL e) Fld.ENG_CTRL_FAULT_LIMIT
    let t := touches l (Reg.ENG_CTRL e) (Reg.ENG_CTRL e + 4)
    let out := t && rrf new (Reg.ENG_CTRL e) Fld.ENG_CTRL_MAP_OUT == 1
    let back := t && rrf new (Reg.ENG_CTRL e) Fld.ENG_CTRL_MAP_OUT == 0 && rrf old (Reg.ENG_CTRL e) Fld.ENG_CTRL_MAP_OUT == 1
    let en := rrf new (Reg.ENG_CTRL e) Fld.ENG_CTRL_EN == 1
    (.eng e (fun g => { g with streak := streak, faulted := false, copyLate := false }) : Act) ::
    (if (decide (0 < lim ∧ lim ≤ streak) || out) && engState s e != esMAPPED_OUT then mapOut e s
     else if back ∧ engState s e = esMAPPED_OUT ∧ Config.lanesPass s.free e then
       .draw :: (match (allEngines s).find? (fun q => engCovers s q == e) with
         | some q => releaseCover q esSTANDBY s
         | none => []) ++ (if (understudyOf s e).isSome then [engTo e esSTANDBY] else if en then restartEngine e s else [engTo e esOFF])
     else if engState s e = esHALT then restartEngine e s
     else if t ∧ (understudyOf s e).isNone ∧ engState s e ≠ esMAPPED_OUT ∧ engCovers s e = 0x7F then
       (if en ∧ engState s e = esOFF then restartEngine e s else if !en ∧ engState s e ≠ esOFF then returnTicket e false s ++ [engTo e esOFF]
        else [])
     else []))) s

/-- Everything R248 to R257 do at an edge. -/
def engineEdges (old new : Rd) (l : List Staged) : Eff := fun s =>
  let wasOut := (allEngines s).filter (fun e => engState s e == esMAPPED_OUT)
  seqE ([engineEdge old new l, swapCover wasOut, coverEdge, swapEdge, serveRegs] ++ wakeAll) s

/-- The commit checks of R256 and R250. -/
def engBreaks (s : State) (l : List Staged) (r : Rd) : Bool :=
  (List.range 8).any (fun u => touches l (Reg.ENG_SWAP u) (Reg.ENG_SWAP u + 4) && rrf r (Reg.ENG_SWAP u) Fld.ENG_SWAP_GO == 1 &&
    (let e := rrf r (Reg.ENG_SWAP u) Fld.ENG_SWAP_TARGET
     rf s (Reg.ENG_US u) Fld.ENG_US_EN == 0 || engCovers s (usEngine s u) != 0x7F || engState s (usEngine s u) == esMAPPED_OUT
     || (understudyOf s e).isSome || !inService s e || !(allEngines s).contains e))

/-! ## The program store (R255, R259, R261) -/

/-- May ENG_PDATA be written (R259)? -/
def storeOpen (s : State) (e : Nat) : Bool := engState s e == esOFF || engState s e == esSTANDBY || engState s e == esMAPPED_OUT

/-- The bundle at ENG_PADDR.ADDR. -/
def storeAddr (s : State) (e : Nat) : Nat := rf s (Reg.ENG_PADDR e) Fld.ENG_PADDR_ADDR
def storedBundle (s : State) (e : Nat) : BitVec 64 := mapGet zeroBundle (eng s e).prog (storeAddr s e)

/-- ADDR advances under AUTOINC (R261). -/
def storeAdvance (s : State) (e : Nat) : List Act :=
  if rf s (Reg.ENG_PADDR e) Fld.ENG_PADDR_AUTOINC = 1 then [.fld (Reg.ENG_PADDR e) Fld.ENG_PADDR_ADDR ((storeAddr s e + 1) % 4096)] else []

/-- May a tenant write the engine's window (R258)? -/
def mayEngine (s : State) (t e : Nat) : Bool := t == 0 || t == ownerOf s 5 (e / 6)

/-- A write of ENG_PDATA_LO (R259, R261). -/
def pdataLoWrite (t e : Nat) (v : Word) : Eff := fun s =>
  if !mayEngine s t e then tenantFault s t stNOT_OWNER (Reg.ENG_PDATA_LO e)
  else if !storeOpen s e then tenantFault s t stBUSY (Reg.ENG_PDATA_LO e)
  else [.eng e (fun g => { g with latch := v })]

/-- A write of ENG_PDATA_HI (R259, R261). -/
def pdataHiWrite (t e : Nat) (v : Word) : Eff := fun s =>
  if !mayEngine s t e then tenantFault s t stNOT_OWNER (Reg.ENG_PDATA_HI e)
  else if !storeOpen s e then tenantFault s t stBUSY (Reg.ENG_PDATA_HI e)
  else .eng e (fun g => { g with prog := mapPut zeroBundle g.prog (storeAddr s e) (v ++ g.latch) }) :: storeAdvance s e

/-- A read of ENG_PDATA_HI (R259, R261). -/
def pdataHiRead (e : Nat) : Eff := fun s =>
  .out (fun o => { o with readData := (storedBundle s e).extractLsb' 32 32 }) :: storeAdvance s e

/-- A read of ENG_PDATA_LO (R259, R261). -/
def pdataLoRead (e : Nat) : Eff := fun s => [.out (fun o => { o with readData := (storedBundle s e).extractLsb' 0 32 })]

/-! ## The commands -/

/-- FOOTPRINT_REGION_DECIDED (R149); the ticket sets TICKET in the engines of its HOME (R238). -/
def execFootprintRegionDecided (g : Nat) (s : State) : Out :=
  doneAll s ([fun s =>
      let n := s.stp.tickets.length
      let a := decideRegion g s
      let s' := applyActs s a
      a ++ (match s'.stp.tickets[n]? with | some k => latchHome (ticketHome s' k) evTICKET s' | none => []),
    queueRegs] ++ wakeAll)

/-- ENG_WATCHDOG: the ticket has been held for ENG_WDOG (R247). -/
def execEngWatchdog (e : Fin 96) (s : State) : Out :=
  doneAll s ([fun s =>
      let lim := rf s (Reg.ENG_WDOG e) Fld.ENG_WDOG_LIMIT
      match heldTicket s e with
      | some k => if lim = 0 then [] else
          .clockTo (k.heldAt + 1000 * lim) :: programFault e flWATCHDOG 0 (applyAct s (.clockTo (k.heldAt + 1000 * lim)))
      | none => []] ++ wakeAll)

/-- REGFILE_PARITY (R249). -/
def execRegfileParity (e : Fin 96) (s : State) : Out := doneAll s (hardwareFault e flREGFILE_PARITY ++ [capacityCheck] ++ wakeAll)

/-- PSTORE_ECC (R249). -/
def execPstoreEcc (e : Fin 96) (s : State) : Out := doneAll s (hardwareFault e flPSTORE_ECC ++ [capacityCheck] ++ wakeAll)

/-- UNIT_FAULT: units 0 to 2 are the samplers, 3 the LUT unit, of the cluster of engine `e` (R249). -/
def execUnitFault (e : Fin 96) (unit : Fin 4) (s : State) : Out := doneAll s (unitFault e unit ++ [capacityCheck] ++ wakeAll)

/-- PROGRAM_STORE_COPY: the image's copy of engine `e`'s program is in understudy `u`; after commit close the takeover moves to
the following edge (R255). -/
def execProgramStoreCopy (u : Fin 8) (e : Fin 96) (s : State) : Out :=
  done s (if usFree s u then
    [.eng (usEngine s u) (fun g => { g with prog := (eng s e).copy, copyLate := s.cur.closed })] else [])

/-- ENG_PDATA_LO_WRITE (R261). -/
def execEngPdataLoWrite (a : Acc) (e : Fin 96) (v : Word) (s : State) : Out := 
  done s (gate a (Reg.ENG_PDATA_LO e) true false (fun u => pdataLoWrite u e v) s)

/-- ENG_PDATA_HI_WRITE (R259). -/
def execEngPdataHiWrite (a : Acc) (e : Fin 96) (v : Word) (s : State) : Out := 
  done s (gate a (Reg.ENG_PDATA_HI e) true false (fun u => pdataHiWrite u e v) s)

/-- ENG_PDATA_HI_READ (R261). -/
def execEngPdataHiRead (a : Acc) (e : Fin 96) (s : State) : Out := 
  done s (gate a (Reg.ENG_PDATA_HI e) false true (fun _ => pdataHiRead e) s)

end Sys2Proof.Machine
end

