-- ==== Sys2Proof/Machine/Scalar.lean ====
section
/-! DEFINITION. The scalar operations of the steep engines (R210, R214, R215), their decoding (R211, R212), and the stream units'
and tickets' instructions as a program issues them (R228, R240, R243). -/

namespace Sys2Proof.Machine

/-! ## Forms -/

/-- sd = f sa sb. -/
def sAlu (f : Word → Word → Word) (sd sa sb : Nat) : Syl :=
  syl [sd] [] (fun _ _ g => resPut (fun h => h.putS sd (f (g.sr sa) (g.sr sb))))

/-- sd = f sa imm. -/
def sImm (f : Word → Word) (sd sa : Nat) : Syl :=
  syl [sd] [] (fun _ _ g => resPut (fun h => h.putS sd (f (g.sr sa))))

/-- A conditional branch (R214). -/
def sBranch (cond : Nat) (sa sb : Nat) (off : BitVec 16) : Syl :=
  { syl [] [] (fun s e g => { resNone with
      jump := if condHolds cond (g.sr sa) (g.sr sb) then some ((engPC s e + (sext off).toNat) % 4096) else none }) with clocks := 3 }

/-- 1 or 0. -/
def boolWord (b : Bool) : Word := if b then 1 else 0

/-- The result of an access that does not reach its bank: a fault; a refused load reads 0 (R224 to R226). -/
def accessFault (s : State) (e : Nat) (sd : Option Nat) : Access → SylRes
  | .ok _ => resNone
  | .bad c => { resNone with fault := some (c, 0) }
  | .refused b c o =>
    { resNone with
      put := fun h => match sd with | some d => h.putS d 0 | none => h
      mem := bankRefused s b e c o
      fault := some (flBANK_REFUSED, 0) }

/-- Undefined bytes as a number. -/
def undefNat (s : State) (n : Nat) : Nat := leValue ((List.range n).map (Config.undefinedByte s.free))

/-- A load of `size` bytes, zero-extended (R214, R447, R456). -/
def sLoad (size sd sa : Nat) (imm : BitVec 16) : Syl :=
  syl [sd] [] (fun s e g =>
    match spaceAccess s (e / 6) (g.sr sa + sext imm).toNat size with
    | .ok f =>
      let v := if bankUE s f size then undefNat s size else leValue (sramRead s f size)
      { resNone with put := fun h => h.putS sd (BitVec.ofNat 32 v), mem := bankArrive (f / 0x40000) s ++ bankReadActs s f size,
                     ue := bankUE s f size }
    | a => accessFault s e (some sd) a)

/-- A store of the low `size` bytes of the register named by sd (R214, R437). -/
def sStore (size sd sa : Nat) (imm : BitVec 16) : Syl :=
  syl [] [] (fun s e g =>
    match spaceAccess s (e / 6) (g.sr sa + sext imm).toNat size with
    | .ok f =>
      let bs := leBytes size (g.sr sd).toNat
      { resNone with mem := bankArrive (f / 0x40000) s ++ bankWrite s f bs, ue := bankWriteUE s f bs }
    | a => accessFault s e none a)

/-- An atomic at a bank word: sd takes the old word, which `f` replaces (R214, R446). -/
def sAmo (f : Word → Word → Word) (sd sa sb : Nat) : Syl :=
  syl [sd] [] (fun s e g =>
    match spaceAccess s (e / 6) (g.sr sa).toNat 4 with
    | .ok a =>
      if bankUE s a 4 then
        { resNone with put := fun h => h.putS sd (BitVec.ofNat 32 (undefNat s 4)), mem := bankReadActs s a 4, ue := true }
      else
        let old : Word := BitVec.ofNat 32 (leValue (sramRead s a 4))
        { resNone with put := fun h => h.putS sd old,
                       mem := bankArrive (a / 0x40000) s ++ bankWrite s a (leBytes 4 (f old (g.sr sb)).toNat) }
    | a => accessFault s e (some sd) a)

/-! ## Special registers (R210) -/

/-- What special register `k` reads as. -/
def specialRead (s : State) (e k : Nat) (g : Engine) : Word :=
  match k with
  | 0 => BitVec.ofNat 32 e
  | 1 => BitVec.ofNat 32 (e / 6)
  | 2 => BitVec.ofNat 32 (engHome s e)
  | 3 => (Config.engineClocks s.free e).extractLsb' 0 32
  | 4 => (Config.engineClocks s.free e).extractLsb' 32 32
  | 5 => BitVec.ofNat 32 (rf s Reg.CUR_NUM Fld.CUR_NUM_NUM + 1)
  | 6 => BitVec.ofNat 32 (slotCount (rd s))
  | 7 => g.sticky.zeroExtend 32
  | 8 => mapGet zeroWord g.crc 0
  | 9 => mapGet zeroWord g.crc 1
  | 10 => mapGet zeroWord g.crc 2
  | 11 => mapGet zeroWord g.crc 3
  | 12 => g.evt.zeroExtend 32
  | _ => 0

/-- A write of special register `k`: STICKY clears each bit written as 1, CRC0 to CRC3 take the value, the others discard it. -/
def specialWrite (k : Nat) (v : Word) (g : Engine) : Engine :=
  match k with
  | 7 => { g with sticky := g.sticky &&& ~~~(v.setWidth 2) }
  | 8 => { g with crc := mapPut zeroWord g.crc 0 v }
  | 9 => { g with crc := mapPut zeroWord g.crc 1 v }
  | 10 => { g with crc := mapPut zeroWord g.crc 2 v }
  | 11 => { g with crc := mapPut zeroWord g.crc 3 v }
  | _ => g

def sMfs (sd : Nat) (imm : BitVec 16) : Syl :=
  syl [sd] [] (fun s e g => resPut (fun h => h.putS sd (specialRead s e (imm.toNat % 16) g)))
def sMts (sa : Nat) (imm : BitVec 16) : Syl :=
  syl [] [] (fun _ _ g => resPut (specialWrite (imm.toNat % 16) (g.sr sa)))

/-! ## Control flow -/

def sJal (off : BitVec 26) : Syl :=
  { syl [31] [] (fun s e _ =>
      { resNone with
        put := fun h => h.putS 31 (BitVec.ofNat 32 (engPC s e + 1))
        jump := some ((engPC s e + (off.signExtend 32 : Word).toNat) % 4096) }) with clocks := 3 }
def sJalr (sd sa : Nat) (imm : BitVec 16) : Syl :=
  { syl [sd] [] (fun s e g =>
      { resNone with
        put := fun h => h.putS sd (BitVec.ofNat 32 (engPC s e + 1))
        jump := some ((g.sr sa + sext imm).toNat % 4096) }) with clocks := 3 }

/-- LOOP: a third level inside two open bodies is an illegal operation; 0 runs skip the body (R214, R215). -/
def sLoop (sa : Nat) (imm : BitVec 16) : Syl :=
  syl [] [] (fun _ _ g =>
    if 2 ≤ g.loops.length then { resNone with fault := some (flILLEGAL_OP, 0) }
    else if (g.sr sa).toNat = 0 then { resNone with skip := some (imm.toNat % 4096) }
    else if imm.toNat % 4096 = 0 then resNone
    else { resNone with body := some (imm.toNat % 4096, (g.sr sa).toNat) })

/-! ## Tickets, stream units, waits -/

/-- The ticket TKGET gives: the QUEUED ticket nearest the head of the quadrant's queue whose home is the engine's HOME (R241). -/
def nextTicket (s : State) (e : Nat) : Option Ticket :=
  s.stp.tickets.find? (fun k => k.state == .queued && tileQuad (rd s) k.tile == engHome s e / 4 && ticketHome s k == engHome s e)

/-- Must the steeping of a region prepare its background pages (R202)? -/
def needsBackground (s : State) (k : Ticket) : Bool :=
  !k.rescue && (s.stp.causes.allBackground || s.stp.causes.background.contains k.tile)

/-- The four words of a ticket (R240). -/
def ticketWords (s : State) (e : Nat) (k : Ticket) : Word × Word × Word × Word :=
  let i := ticketIndex s k
  let rx := max 1 (regX (rd s) k.tile)
  (BitVec.ofNat 32 (2 ^ 31 + (if k.rescue then 2 ^ 30 else 0) + k.tile % 1024 * 2 ^ 14 + k.region % 2 ^ 14),
   BitVec.ofNat 32 ((slotCount (rd s) - 1) % 8 * 2 ^ 29 + i / rx % 128 * 2 ^ 22 + i % rx % 64 * 2 ^ 16 + i % 65536),
   BitVec.ofNat 32 (rf s Reg.CUR_NUM Fld.CUR_NUM_NUM + 1),
   BitVec.ofNat 32 ((if engHome s e ≠ e / 6 then 2 ^ 31 else 0) + (if k.retry then 2 ^ 30 else 0)
     + (if needsBackground s k then 2 ^ 29 else 0)
     + (match k.remove with | some l => 2 ^ 28 + l % 16 * 2 ^ 24 | none => 0) + k.serial % 65536))

/-- TKGET (R240, R241). -/
def sTkget (sd : Nat) : Syl :=
  (syl [sd, sd + 1, sd + 2, sd + 3] [] (fun s e _ =>
    match nextTicket s e with
    | none => resPut (fun h => (((h.putS sd 0).putS (sd + 1) 0).putS (sd + 2) 0).putS (sd + 3) 0)
    | some k =>
      let w := ticketWords s e k
      let took := setTicket s k (fun q => { q with state := .held, engine := some e, heldAt := now s })
      { resPut (fun h => (((h.putS sd w.1).putS (sd + 1) w.2.1).putS (sd + 2) w.2.2.1).putS (sd + 3) w.2.2.2) with
        mem := took ++ queueRegs (applyActs s took) })).unless (decide (28 < sd))

/-- TKDONE waits for the ticket's POSTs, then retires it (R243). -/
def sTkdone (sd sa sb : Nat) : Syl :=
  syl [sd] [] (fun _ _ g => { resNone with wait := some (.tkdone ((g.sr sa).toNat % 65536) (g.sr sb).toNat sd) })

/-- SUGO: the descriptor lies 32-byte aligned in a local bank (R228). -/
def sSugo (sa : Nat) (imm : BitVec 16) : Syl :=
  syl [] [] (fun _ _ g =>
    let a := (g.sr sa).toNat
    if a % 32 ≠ 0 then { resNone with fault := some (flMISALIGNED, 0) }
    else if 0x600000 ≤ a then { resNone with fault := some (flADDR_RANGE, 0) }
    else { resNone with wait := some (.sugo (imm.toNat % 2) a) })

def sSuwait (sd : Nat) (imm : BitVec 16) : Syl := syl [sd] [] (fun _ _ _ => { resNone with wait := some (.su (imm.toNat % 2) sd) })
def sBar (sd : Nat) (imm : BitVec 16) : Syl := syl [sd] [] (fun _ _ _ => { resNone with wait := some (.bar (imm.toNat % 4) sd) })
def sWaitev (sd : Nat) (imm : BitVec 16) : Syl := syl [sd] [] (fun _ _ _ => { resNone with wait := some (.ev (imm.toNat % 256) sd) })
def sFence : Syl := syl [] [] (fun _ _ _ => { resNone with wait := some .fence })
def sFault (imm : BitVec 16) : Syl := syl [] [] (fun _ _ _ => { resNone with fault := some (flPROGRAM, imm.toNat % 256) })

/-- HALT: the engine stops until the next edge (R214). -/
def sHalt : Syl := syl [] [] (fun _ e _ => { resNone with mem := [engTo e esHALT] })

/-! ## The operations of R214 -/

def opSll (a b : Word) : Word := a <<< (b.toNat % 32)
def opSrl (a b : Word) : Word := a >>> (b.toNat % 32)
def opSra (a b : Word) : Word := a.sshiftRight (b.toNat % 32)
def opSlt (a b : Word) : Word := boolWord (decide (a.toInt < b.toInt))
def opSltu (a b : Word) : Word := boolWord (decide (a.toNat < b.toNat))
def opMulh (a b : Word) : Word := BitVec.ofInt 32 (a.toInt * b.toInt / 2 ^ 32)
def opMulhu (a b : Word) : Word := BitVec.ofNat 32 (a.toNat * b.toNat / 2 ^ 32)
def opMin (a b : Word) : Word := if a.toInt < b.toInt then a else b
def opMax (a b : Word) : Word := if a.toInt < b.toInt then b else a

/-- The scalar syllable of a bundle whose low word is `w` and high word `hi` (R211, R212, R214). -/
def decodeS (w hi : Nat) : Syl :=
  let d := fSd w
  let a := fSa w
  let b := fSb w
  let i := fImm16 w
  let sr := fun (y : Syl) => y.unless (bitsOf w 10 0 != 0)
  match fOp w with
  | 0x00 => syl [] [] (fun _ _ _ => resNone)
  | 0x01 => sr (sAlu (· + ·) d a b)
  | 0x02 => sr (sAlu (· - ·) d a b)
  | 0x03 => sr (sAlu (· &&& ·) d a b)
  | 0x04 => sr (sAlu (· ||| ·) d a b)
  | 0x05 => sr (sAlu (· ^^^ ·) d a b)
  | 0x06 => sr (sAlu opSll d a b)
  | 0x07 => sr (sAlu opSrl d a b)
  | 0x08 => sr (sAlu opSra d a b)
  | 0x09 => sr (sAlu opSlt d a b)
  | 0x0A => sr (sAlu opSltu d a b)
  | 0x0B => sr (sAlu (· * ·) d a b)
  | 0x0C => sr (sAlu opMulh d a b)
  | 0x0D => sr (sAlu opMulhu d a b)
  | 0x0E => sr (sAlu opMin d a b)
  | 0x0F => sr (sAlu opMax d a b)
  | 0x10 => sImm (· + sext i) d a
  | 0x11 => sImm (· &&& zext i) d a
  | 0x12 => sImm (· ||| zext i) d a
  | 0x13 => sImm (· ^^^ zext i) d a
  | 0x14 => sImm (fun x => opSll x (zext i)) d a
  | 0x15 => sImm (fun x => opSrl x (zext i)) d a
  | 0x16 => sImm (fun x => opSra x (zext i)) d a
  | 0x17 => sImm (fun x => opSlt x (sext i)) d a
  | 0x18 => (sImm (fun _ => BitVec.ofNat 32 hi) d 0).unless (bitsOf w 20 0 != 0)
  | 0x19 => sImm (fun _ => zext i <<< 16) d a
  | 0x1A => sLoad 4 d a i
  | 0x1B => sLoad 2 d a i
  | 0x1C => sLoad 1 d a i
  | 0x1D => sStore 4 d a i
  | 0x1E => sStore 2 d a i
  | 0x1F => sStore 1 d a i
  | 0x20 => sBranch 0 d a i
  | 0x21 => sBranch 1 d a i
  | 0x22 => sBranch 2 d a i
  | 0x23 => sBranch 3 d a i
  | 0x24 => sBranch 4 d a i
  | 0x25 => sBranch 5 d a i
  | 0x26 => sJal (fOff26 w)
  | 0x27 => sJalr d a i
  | 0x28 => sLoop a i
  | 0x29 => sr (sAmo (· + ·) d a b)
  | 0x2A => sr (sAmo (fun _ y => y) d a b)
  | 0x2B => sMfs d i
  | 0x2C => sMts a i
  | 0x2D => sr (sTkget d)
  | 0x2E => sr (sTkdone d a b)
  | 0x2F => sSugo a i
  | 0x30 => sSuwait d i
  | 0x31 => sBar d i
  | 0x32 => sWaitev d i
  | 0x33 => sFence
  | 0x34 => sFault i
  | 0x35 => sHalt
  | _ => sylIllegal

end Sys2Proof.Machine
end

