-- ==== Sys2Proof/Machine/Vector.lean ====
section
/-! DEFINITION. The vector operations of the steep engines (R213, R216, R217) and their decoding (R212). -/

namespace Sys2Proof.Machine

/-! ## Forms -/

/-- vd[i] = f i for each guarded lane; `uses` are the vector registers read. -/
def vMap (pg vd : Nat) (uses : List Nat) (f : Engine → Nat → Word) : Syl :=
  syl [] (vd :: uses) (fun _ _ g => resPut (fun h => h.putLanes vd ((g.guarded pg).map (fun i => (i, f g i)))))

/-- vd[i] = f va[i] vb[i]. -/
def vAlu (f : Word → Word → Word) (pg vd va vb : Nat) : Syl := vMap pg vd [va, vb] (fun g i => f (g.lane va i) (g.lane vb i))

/-- vd[i] = f va[i]. -/
def vUn (f : Word → Word) (pg vd va : Nat) : Syl := vMap pg vd [va] (fun g i => f (g.lane va i))

/-- {vd+1:vd}[i] = f i for each guarded lane; an odd vd is illegal (R216). -/
def vPair (pg vd : Nat) (uses : List Nat) (f : Engine → Nat → Int) : Syl :=
  (syl [] (vd :: (vd + 1) :: uses) (fun _ _ g => resPut (fun h =>
    (g.guarded pg).foldl (fun h i => h.putPair vd i (f g i % 2 ^ 64).toNat) h))).unless (decide (vd % 2 = 1))

/-- Addition or subtraction that wraps or saturates by md[1:0] (R216). -/
def vAddSub (sub : Bool) (pg vd va vb md : Nat) : Syl :=
  (vAlu (fun x y =>
    match md % 4 with
    | 0 => if sub then x - y else x + y
    | 1 => satWord false (if sub then x.toInt - y.toInt else x.toInt + y.toInt)
    | _ => satWord true (if sub then (x.toNat : Int) - y.toNat else (x.toNat : Int) + y.toNat)) pg vd va vb).unless (decide (md % 4 = 3))

/-- The smaller or larger, signed or unsigned by md[0]. -/
def vMinMax (mx : Bool) (pg vd va vb md : Nat) : Syl :=
  vAlu (fun x y =>
    let less := if md % 2 = 1 then decide (x.toNat < y.toNat) else decide (x.toInt < y.toInt)
    if less then (if mx then y else x) else (if mx then x else y)) pg vd va vb

def vMulh (pg vd va vb md : Nat) : Syl := vAlu (if md % 2 = 1 then opMulhu else opMulh) pg vd va vb

/-- VMAC: md[0] 1 unsigned, md[1] 1 subtract (R216). -/
def vMac (pg vd va vb md : Nat) : Syl :=
  vPair pg vd [va, vb] (fun g i =>
    let u := decide (md % 2 = 1)
    let x := asInt32 u (g.lane va i) * asInt32 u (g.lane vb i)
    if bitsOf md 1 1 = 1 then (g.pair vd i : Int) - x else (g.pair vd i : Int) + x)

def vMul64 (pg vd va vb md : Nat) : Syl :=
  vPair pg vd [va, vb] (fun g i => asInt32 (md % 2 == 1) (g.lane va i) * asInt32 (md % 2 == 1) (g.lane vb i))

/-- VNARROW: sh = md + 32 * vb[2], rounding vb[1:0], unsigned vb[3] (R216, R217). -/
def vNarrow (pg vd va vb md : Nat) : Syl :=
  (vMap pg vd [va, va + 1] (fun g i =>
    let u := bitsOf vb 3 3 == 1
    satWord u (roundQuot (vb % 4) (asInt64 u (g.pair va i)) (2 ^ (md + 32 * bitsOf vb 2 2))))).unless
      (decide (va % 2 = 1) || decide (vb % 4 = 3))

/-- VDIV: rounding md[1:0], unsigned md[2]; a divisor of 0 sets STICKY.DIVZ (R216, R217). -/
def vDiv (pg vd va vb md : Nat) : Syl :=
  { (syl [] [vd, va, va + 1, vb] (fun _ _ g => resPut (fun h =>
      let u := bitsOf md 2 2 == 1
      let h' := h.putLanes vd ((g.guarded pg).map (fun i =>
        (i, vdivLane (md % 4) u (asInt64 u (g.pair va i)) (asInt32 u (g.lane vb i)))))
      if (g.guarded pg).any (fun i => g.lane vb i == 0) then h'.stick stDIVZ else h'))).unless
        (decide (va % 2 = 1) || decide (md % 4 = 3)) with clocks := 16 }

def vClamp (pg vd va md : Nat) : Syl :=
  (vMap pg vd [va] (fun g i => opMin (opMax (g.lane va i) (g.sr md)) (g.sr (md + 1)))).unless (decide (30 < md))
def vBcast (pg vd md : Nat) : Syl := vMap pg vd [] (fun g _ => g.sr md)
def vLaneid (pg vd : Nat) : Syl := vMap pg vd [] (fun _ i => BitVec.ofNat 32 i)

/-- VSLIDE by md read as a signed 5-bit number (R216). -/
def vSlide (pg vd va vb md : Nat) : Syl :=
  vMap pg vd [va, vb] (fun g i =>
    let j : Int := (i : Int) + toSigned 5 md
    if 0 ≤ j ∧ j < 32 then g.lane va j.toNat else g.lane vb (j % 32).toNat)
def vPerm (pg vd va vb : Nat) : Syl := vMap pg vd [va, vb] (fun g i => g.lane va ((g.lane vb i).toNat % 32))

/-- A word from a bit for each lane. -/
def laneBits (f : Nat → Bool) : Word :=
  (List.range 32).foldl (fun (w : Word) i => if f i then w ||| BitVec.ofNat 32 (2 ^ i) else w) 0

/-- pd = guard AND condition (R213, R216). -/
def vCmp (pg pd va : Nat) (uses : List Nat) (cond : Nat) (y : Engine → Nat → Word) : Syl :=
  (syl [] (va :: uses) (fun _ _ g => resPut (fun h =>
    h.putP pd (laneBits (fun i => g.guard pg i && condHolds cond (g.lane va i) (y g i)))))).unless (decide (5 < cond))

/-- VPOP on p[va[2:0]] and p[vb[2:0]]; unguarded lanes keep their bit (R213, R216). -/
def vPop (pg pd va vb md : Nat) : Syl :=
  (syl [] [] (fun _ _ g => resPut (fun h =>
    let x := g.pr (va % 8)
    let y := g.pr (vb % 8)
    let r := match md with | 0 => x &&& y | 1 => x ||| y | 2 => x ^^^ y | 3 => x &&& ~~~y | _ => ~~~x
    h.putP pd ((r &&& g.pr pg) ||| (g.pr pd &&& ~~~g.pr pg))))).unless (decide (4 < md))

/-- VPMOVS: unguarded lanes keep their bit of s[md] (R213, R216). -/
def vPmovs (pg va md : Nat) : Syl :=
  syl [md] [] (fun _ _ g => resPut (fun h => h.putS md ((g.pr (va % 8) &&& g.pr pg) ||| (g.sr md &&& ~~~g.pr pg))))

def vSpmov (pg vd md : Nat) : Syl :=
  syl [] [] (fun _ _ g => resPut (fun h => h.putP (vd % 8) ((g.sr md &&& g.pr pg) ||| (g.pr (vd % 8) &&& ~~~g.pr pg))))

/-- VEXT: s[md] = va[vb[4:0]], where that lane is guarded (R213, R216). -/
def vExt (pg va vb md : Nat) : Syl :=
  syl [md] [va] (fun _ _ g => resPut (fun h => if g.guard pg (vb % 32) then h.putS md (g.lane va (vb % 32)) else h))

def vRedacc (pg va md : Nat) : Syl :=
  (syl [md, md + 1] [va] (fun _ _ g => resPut (fun h =>
    let n := (g.sr md).toNat + 2 ^ 32 * (g.sr (md + 1)).toNat + ((g.guarded pg).map (fun i => (g.lane va i).toNat)).foldl (· + ·) 0
    (h.putS md (BitVec.ofNat 32 n)).putS (md + 1) (BitVec.ofNat 32 (n / 2 ^ 32))))).unless (decide (30 < md))

/-! ## Memory (R216, R223 to R226) -/

/-- The first fault among the accesses of a vector operation. -/
def firstFault : List (Nat × Access) → Option Nat
  | [] => none
  | (_, .ok _) :: r => firstFault r
  | (_, .bad c) :: _ => some c
  | (_, .refused _ _ _) :: _ => some flBANK_REFUSED

/-- Is an access one that a range or alignment fault stops? -/
def isBad : Access → Bool
  | .bad _ => true
  | _ => false

/-- Does a lane's access take effect: where another lane of the operation faults on its address, that is open. -/
def laneTakes (s : State) (l : List (Nat × Access)) (i : Nat) : Bool := !l.any (fun q => isBad q.2) || Config.besideFault s.free i

/-- Loads of `size` bytes for lanes at addresses; `sgn` sign-extends. -/
def vLoadAt (size : Nat) (sgn : Bool) (vd : Nat) (addr : Engine → List (Nat × Nat)) : State → Nat → Engine → SylRes :=
  fun s e g =>
    let l := (addr g).map (fun q => (q.1, spaceAccess s (e / 6) q.2 size))
    let vals := l.filterMap (fun q =>
      if !laneTakes s l q.1 then none else
      match q.2 with
      | .ok f =>
        let n := if bankUE s f size then leValue ((List.range size).map (fun k => Config.undefinedByte s.free (4 * q.1 + k)))
          else leValue (sramRead s f size)
        some (q.1, if sgn then BitVec.ofInt 32 (toSigned (8 * size) n) else BitVec.ofNat 32 n)
      | .refused _ _ _ => some (q.1, 0)
      | .bad _ => none)
    { resNone with
      put := fun h => h.putLanes vd vals
      mem := l.flatMap (fun q => match q.2 with
        | .ok f => bankArrive (f / 0x40000) s ++ bankReadActs s f size
        | .refused b c o => bankRefused s b e c o
        | .bad _ => [])
      fault := (firstFault l).map (fun c => (c, 0))
      ue := l.any (fun q => match q.2 with | .ok f => bankUE s f size | _ => false) }

/-- Stores of the low `size` bytes of lanes at addresses, in lane order. -/
def vStoreAt (size vd : Nat) (addr : Engine → List (Nat × Nat)) : State → Nat → Engine → SylRes :=
  fun s e g =>
    let l := (addr g).map (fun q => (q.1, spaceAccess s (e / 6) q.2 size))
    { resNone with
      mem := l.flatMap (fun q => match q.2 with
        | .ok f => if laneTakes s l q.1 then bankArrive (f / 0x40000) s ++ bankWrite s f (leBytes size (g.lane vd q.1).toNat) else []
        | .refused b c o => bankRefused s b e c o
        | .bad _ => [])
      fault := (firstFault l).map (fun c => (c, 0))
      ue := l.any (fun q => match q.2 with | .ok f => bankWriteUE s f (leBytes size (g.lane vd q.1).toNat) | _ => false) }

/-- The lane addresses of a contiguous access: s[sa] plus off12 in units of 32 elements (R212, R216). -/
def vmAddr (size pg sa : Nat) (off : BitVec 12) (g : Engine) : List (Nat × Nat) :=
  let base := g.sr sa + (sext off) * BitVec.ofNat 32 (32 * size)
  (g.guarded pg).map (fun i => (i, (base + BitVec.ofNat 32 (size * i)).toNat))

def vLoad (size : Nat) (sgn : Bool) (pg vd sa : Nat) (off : BitVec 12) : Syl :=
  syl [] [vd] (vLoadAt size sgn vd (vmAddr size pg sa off))
def vStore (size pg vd sa : Nat) (off : BitVec 12) : Syl := syl [] [vd] (vStoreAt size vd (vmAddr size pg sa off))

/-- The lane addresses of VGATHER and VSCATTER. -/
def vxAddr (size pg va sa : Nat) (g : Engine) : List (Nat × Nat) :=
  (g.guarded pg).map (fun i => (i, (g.sr sa + g.lane va i * BitVec.ofNat 32 size).toNat))

/-- The element size of a VX format: size 0 byte, 1 halfword, 2 word (R212). -/
def elemSize (size : Nat) : Nat := 2 ^ size

def vGather (pg vd va sa size : Nat) : Syl :=
  { (syl [] [vd, va] (vLoadAt (elemSize size) false vd (vxAddr (elemSize size) pg va sa))).unless (decide (2 < size)) with clocks := 8 }
def vScatter (pg vd va sa size : Nat) : Syl :=
  { (syl [] [vd, va] (vStoreAt (elemSize size) vd (vxAddr (elemSize size) pg va sa))).unless (decide (2 < size)) with clocks := 8 }

/-- VSTC: the guarded lanes contiguously from s[sa] in lane order; s[sa] advances (R216). -/
def vStc (pg vd sa size : Nat) : Syl :=
  (syl [sa] [vd] (fun s e g =>
    let ls := g.guarded pg
    let n := elemSize size
    let r := vStoreAt n vd (fun g => ls.mapIdx (fun k i => (i, (g.sr sa + BitVec.ofNat 32 (n * k)).toNat))) s e g
    { r with put := fun h => h.putS sa (g.sr sa + BitVec.ofNat 32 (ls.length * n)) })).unless (decide (2 < size))

/-! ## CRC and the units -/

/-- A CRC state after a byte. -/
def feedCrc (k : Nat) (b : Byte) (g : Engine) : Engine := { g with crc := mapPut zeroWord g.crc k (crc32Byte (mapGet zeroWord g.crc k) b) }

/-- VCRC: va[7:0], va[15:8] and vb[7:0] of each guarded lane, ascending, to crc(md[1:0]), and to crc(md[3:2]) when md[4] is 1
(R216). -/
def vCrc (pg va vb md : Nat) : Syl :=
  { syl [] [va, vb] (fun _ _ g => resPut (fun h =>
      (g.guarded pg).foldl (fun h i =>
        [(g.lane va i).extractLsb' 0 8, (g.lane va i).extractLsb' 8 8, (g.lane vb i).extractLsb' 0 8].foldl (fun h b =>
          let h1 := feedCrc (md % 4) b h
          if bitsOf md 4 4 = 1 then feedCrc (bitsOf md 3 2) b h1 else h1) h) h)) with clocks := 3 }

/-- The lanes of a register. -/
def Engine.lanes (g : Engine) (n : Nat) : List Word := (List.range 32).map (g.lane n)

/-- SMP and LUTL put a call in the queue of the cluster's units (R222, R232, R235). -/
def vCall (lut : Bool) (pg vd va vb vc md : Nat) (uses : List Nat) : Syl :=
  { syl [] (vd :: (vd + 1) :: (vd + 2) :: uses) (fun _ e g =>
      { resNone with mem := [.stp (fun p => { p with calls := p.calls ++
          [⟨e, lut, vd, g.pr pg, g.lanes va, g.lanes vb, g.lanes vc, g.sr md⟩] })] }) with calls := some lut }
def vSmp (pg vd va vb md : Nat) : Syl := (vCall false pg vd va vb vb md [va, vb]).unless (decide (61 < vd))
def vLutl (pg vd va md : Nat) : Syl :=
  (vCall true pg vd va (va + 1) (va + 2) md [va, va + 1, va + 2]).unless (decide (61 < vd) || decide (61 < va))

/-- The vector syllable of a word (R212, R216). -/
def decodeV (w : Nat) : Syl :=
  let pg := fPg w
  let vd := fVd w
  let va := fVa w
  let vb := fVb w
  let md := fMd w
  let i := fImm11 w
  let sa := fVmSa w
  let o := fOff12 w
  let xs := fVxSa w
  let vx := fun (y : Syl) => y.unless (bitsOf w 3 0 != 0)
  let vp := fun (y : Syl) => y.unless (bitsOf w 19 17 != 0)
  match fOp w with
  | 0x00 => syl [] [] (fun _ _ _ => resNone)
  | 0x01 => vAddSub false pg vd va vb md
  | 0x02 => vAddSub true pg vd va vb md
  | 0x03 => vAlu (· &&& ·) pg vd va vb
  | 0x04 => vAlu (· ||| ·) pg vd va vb
  | 0x05 => vAlu (· ^^^ ·) pg vd va vb
  | 0x06 => vAlu opSll pg vd va vb
  | 0x07 => vAlu opSrl pg vd va vb
  | 0x08 => vAlu opSra pg vd va vb
  | 0x09 => vMinMax false pg vd va vb md
  | 0x0A => vMinMax true pg vd va vb md
  | 0x0B => vAlu (· * ·) pg vd va vb
  | 0x0C => vMulh pg vd va vb md
  | 0x0D => vMac pg vd va vb md
  | 0x0E => vMul64 pg vd va vb md
  | 0x0F => vNarrow pg vd va vb md
  | 0x10 => vDiv pg vd va vb md
  | 0x11 => vUn (· + sext i) pg vd va
  | 0x12 => vUn (· &&& sext i) pg vd va
  | 0x13 => vUn (fun x => opSll x (zext i)) pg vd va
  | 0x14 => vUn (fun x => opSrl x (zext i)) pg vd va
  | 0x15 => vUn (fun x => opSra x (zext i)) pg vd va
  | 0x16 => vClamp pg vd va md
  | 0x17 => vUn id pg vd va
  | 0x18 => vBcast pg vd md
  | 0x19 => vLaneid pg vd
  | 0x1A => vSlide pg vd va vb md
  | 0x1B => vPerm pg vd va vb
  | 0x1C => vp (vCmp pg (fPd w) va [vb] (md % 8) (fun g i => g.lane vb i))
  | 0x1D => vp (vCmp pg (fPd w) va [] (fCond w) (fun _ _ => sext (fImm8 w)))
  | 0x1E => vp (vPop pg (fPd w) va vb md)
  | 0x1F => vPmovs pg va md
  | 0x20 => vSpmov pg vd md
  | 0x21 => vExt pg va vb md
  | 0x22 => vRedacc pg va md
  | 0x23 => vLoad 4 false pg vd sa o
  | 0x24 => vLoad 2 false pg vd sa o
  | 0x25 => vLoad 2 true pg vd sa o
  | 0x26 => vLoad 1 false pg vd sa o
  | 0x27 => vStore 4 pg vd sa o
  | 0x28 => vStore 2 pg vd sa o
  | 0x29 => vStore 1 pg vd sa o
  | 0x2A => vx (vGather pg vd va xs (fSize w))
  | 0x2B => vx (vScatter pg vd va xs (fSize w))
  | 0x2C => vx (vStc pg vd xs (fSize w))
  | 0x2D => vCrc pg va vb md
  | 0x2E => vSmp pg vd va vb md
  | 0x2F => vLutl pg vd va md
  | _ => sylIllegal

end Sys2Proof.Machine
end

