-- ==== Sys2Proof/Machine/Units.lean ====
section
/-! DEFINITION. The fixed units of a cluster and the stream units: samplers, LUT units, READ2D, WRITE2D and UNPACK
(06_steep_engines.md, R228 to R237). -/

namespace Sys2Proof.Machine

/-! ## Accesses of a unit -/

/-- A range of the data space of cluster `c` that a unit reads or writes: no alignment is asked of it. -/
def unitAccess (s : State) (c a n : Nat) : Access :=
  match spaceAddr c a, spaceAddr c (a + n - 1) with
  | some f, some l =>
    if l ≠ f + n - 1 then .bad flADDR_RANGE else
    match (banksIn f n).findSome? (fun b => (bankCause s b (0x10 + c) true).map (fun k => (b, k))) with
    | some q => .refused q.1 q.2 (f % 0x40000)
    | none => .ok f
  | _, _ => .bad flADDR_RANGE

/-- Words for the lanes that a failed read leaves undefined. -/
def undefLane (s : State) (i k : Nat) : Word :=
  BitVec.ofNat 32 (leValue ((List.range 4).map (fun j => Config.undefinedByte s.free (128 * k + 4 * i + j))))

/-! ## Samplers (R232 to R234) -/

/-- A sampler descriptor (R233). -/
structure SmpDesc where
  base0 : Nat
  base1 : Nat
  pitch0 : Nat
  pitch1 : Nat
  x0 : Nat
  y0 : Nat
  crop : Nat × Nat × Nat × Nat
  sampling : Nat
  packing : Nat
  w : Nat
  h : Nat
  deriving DecidableEq, Repr

/-- The descriptor at SRAM address `f`. -/
def smpDesc (s : State) (f : Nat) : SmpDesc :=
  let w := fun (k : Nat) => leValue (sramRead s (f + 4 * k) 4)
  let lo := fun (k : Nat) => w k % 65536
  let hi := fun (k : Nat) => w k / 65536
  { base0 := w 0, base1 := w 1, pitch0 := lo 2, pitch1 := hi 2, x0 := lo 3, y0 := hi 3
    crop := (lo 4, lo 5 + 1, hi 4, hi 5 + 1), sampling := w 6 % 4, packing := w 6 / 4 % 4, w := lo 7, h := hi 7 }

/-- The columns and lines that a sample at a position taps, clamped to a crop (R164, R165). -/
def tapsOf (crop : Nat × Nat × Nat × Nat) (p : Int × Int) : List (Nat × Nat) :=
  let cx := fun (c : Int) => (clampInt c crop.1 (crop.2.1 - 1 : Nat)).toNat
  let cy := fun (c : Int) => (clampInt c crop.2.2.1 (crop.2.2.2 - 1 : Nat)).toNat
  ([-1, 0, 1, 2] : List Int).flatMap (fun j => ([-1, 0, 1, 2] : List Int).map (fun i => (cx (p.1 / 256 + i), cy (p.2 / 256 + j))))

/-- The subsampling of plane 1 across and down (R163). -/
def subX (sampling : Nat) : Nat := if sampling = 1 ∨ sampling = 2 then 2 else 1
def subY (sampling : Nat) : Nat := if sampling = 2 then 2 else 1

/-- Does a tap lie in the window: plane 0, or plane 1 (R234)? -/
def inWindow (d : SmpDesc) (plane1 : Bool) (t : Nat × Nat) : Bool :=
  let sx := if plane1 then subX d.sampling else 1
  let sy := if plane1 then subY d.sampling else 1
  decide (d.x0 / sx ≤ t.1 ∧ t.1 < (d.x0 + d.w + sx - 1) / sx ∧ d.y0 / sy ≤ t.2 ∧ t.2 < (d.y0 + d.h + sy - 1) / sy)

/-- The data-space address of the packing group that holds sample `i` of a window line. -/
def groupAddr (d : SmpDesc) (plane1 : Bool) (line i : Nat) : Nat :=
  let y := if plane1 then line - d.y0 / subY d.sampling else line - d.y0
  (if plane1 then d.base1 + y * d.pitch1 else d.base0 + y * d.pitch0) + i / groupSamples d.packing * groupBytes d.packing

/-- The sample indexes of a tap on its window line: one in plane 0, two in plane 1. -/
def tapSamples (d : SmpDesc) (plane1 : Bool) (c : Nat) : List Nat :=
  if plane1 then [2 * (c - d.x0 / subX d.sampling), 2 * (c - d.x0 / subX d.sampling) + 1] else [c - d.x0]

/-- The data-space addresses that a lane reads. -/
def laneReads (d : SmpDesc) (p : Int × Int) : List Nat :=
  (tapsOf d.crop p).flatMap (fun t => (tapSamples d false t.1).map (groupAddr d false t.2))
  ++ (tapsOf (chromaCrop d.sampling d.crop) (chromaPos d.sampling p)).flatMap (fun t =>
      (tapSamples d true t.1).map (groupAddr d true t.2))

/-- A stored sample of a window normalised to 12 bits (R161). -/
def windowSample (s : State) (c : Nat) (d : SmpDesc) (plane1 : Bool) (line i : Nat) : Nat :=
  let g := leValue (sramRead s ((spaceAddr c (groupAddr d plane1 line i)).getD 0) (groupBytes d.packing))
  let w := match d.packing with | 0 => 8 | 1 => 10 | _ => 12
  let k := i % groupSamples d.packing
  let v := bitsOf g (w * k + w - 1) (w * k)
  match d.packing with | 0 => 16 * v | 1 => 4 * v | _ => v

/-- The three components at a position (R163 to R165, R234). -/
def windowPoint (s : State) (c : Nat) (d : SmpDesc) (p : Int × Int) : Nat × Nat × Nat :=
  let cx := d.x0 / subX d.sampling
  let q := chromaPos d.sampling p
  let cc := chromaCrop d.sampling d.crop
  (cubicSample (fun x l => windowSample s c d false l (x - d.x0)) d.crop p.1 p.2,
   cubicSample (fun x l => windowSample s c d true l (2 * (x - cx))) cc q.1 q.2,
   cubicSample (fun x l => windowSample s c d true l (2 * (x - cx) + 1)) cc q.1 q.2)

/-- The position of a call's lane. -/
def lanePos (k : UnitCall) (i : Nat) : Int × Int := ((k.a.getD i 0).toInt, (k.b.getD i 0).toInt)

/-- The guarded lanes of a call. -/
def callLanes (k : UnitCall) : List Nat := (List.range 32).filter (bit k.guard)

/-- The call leaves the queue. -/
def dropCall (k : UnitCall) : Act := .stp (fun p => { p with calls := p.calls.erase k })

/-- The registers after the results of a call are written to vd, vd+1 and vd+2. -/
def putCall (k : UnitCall) (f : Nat → Word × Word × Word) (g : Engine) : Engine :=
  ((g.putLanes k.vd ((callLanes k).map (fun i => (i, (f i).1)))).putLanes (k.vd + 1)
    ((callLanes k).map (fun i => (i, (f i).2.1)))).putLanes (k.vd + 2) ((callLanes k).map (fun i => (i, (f i).2.2)))

/-- The results of a call reach its engine. -/
def callResults (k : UnitCall) (f : Nat → Word × Word × Word) : Act := .eng k.engine (putCall k f)

/-- A sampler serves a call (R232 to R234, R441, R456). -/
def serveSmp (k : UnitCall) : Eff := fun s =>
  let c := k.engine / 6
  let fail := fun (code : Nat) (l : List Act) => dropCall k :: l ++ programFault k.engine code 0 s
  if k.desc.toNat % 32 ≠ 0 then fail flMISALIGNED []
  else if 0x600000 ≤ k.desc.toNat then fail flADDR_RANGE []
  else match unitAccess s c k.desc.toNat 32 with
  | .bad f => fail f []
  | .refused b q o => fail flBANK_REFUSED (bankRefused s b (96 + 3 * c) q o)
  | .ok f =>
    let d := smpDesc s f
    let outside := (callLanes k).any (fun i =>
      (tapsOf d.crop (lanePos k i)).any (fun t => !inWindow d false t)
      || (tapsOf (chromaCrop d.sampling d.crop) (chromaPos d.sampling (lanePos k i))).any (fun t => !inWindow d true t))
    if outside then fail flSAMPLE_WINDOW []
    else
      let reads := ((callLanes k).flatMap (fun i => laneReads d (lanePos k i))).map (fun a => unitAccess s c a (groupBytes d.packing))
      match reads.find? (fun a => match a with | .ok _ => false | _ => true) with
      | some (.bad x) => fail x []
      | some (.refused b q o) => fail flBANK_REFUSED (bankRefused s b (96 + 3 * c) q o)
      | _ =>
        let flats := reads.filterMap (fun a => match a with | .ok x => some x | _ => none)
        let ue := bankUE s f 32 || flats.any (fun x => bankUE s x (groupBytes d.packing))
        dropCall k :: bankReadActs s f 32 ++ flats.flatMap (fun x => bankReadActs s x (groupBytes d.packing))
        ++ (if ue then failTicket k.engine s ++ [callResults k (fun i => (undefLane s i 0, undefLane s i 1, undefLane s i 2)), .draw]
            else [callResults k (fun i =>
              let v := windowPoint s c d (lanePos k i)
              (BitVec.ofNat 32 v.1, BitVec.ofNat 32 v.2.1, BitVec.ofNat 32 v.2.2))])

/-! ## LUT units (R235, R236) -/

/-- The W20 values of a call's lane. -/
def laneW (k : UnitCall) (i : Nat) : Int × Int × Int := (((k.a.getD i 0).toNat : Nat), ((k.b.getD i 0).toNat : Nat), ((k.c.getD i 0).toNat : Nat))

/-- Are the three values W20? -/
def isW20 (w : Int × Int × Int) : Bool := decide (w.1 ≤ wMax ∧ w.2.1 ≤ wMax ∧ w.2.2 ≤ wMax)

/-- The DRAM entries that a lookup reads: the shaper's and the corners of its tetrahedron (R171, R172). -/
def lutReads (s : State) (base : Nat) (w : Int × Int × Int) : List Nat :=
  let sr := shape s base w.1
  let sg := shape s base w.2.1
  let sb := shape s base w.2.2
  ([w.1, w.2.1, w.2.2].flatMap (fun x => [base + 287496 + 2 * (x.toNat / 1024), base + 287496 + 2 * (x.toNat / 1024 + 1)]))
  ++ (tetra (sr % 2048 : Nat) (sg % 2048 : Nat) (sb % 2048 : Nat)).map (fun q =>
      base + 8 * ((sr / 2048 + q.1.1) + 33 * (sg / 2048 + q.1.2.1) + 1089 * (sb / 2048 + q.1.2.2)))

/-- The LUT unit of cluster `u` serves a call (R235, R236, R456). A lane whose values are no W20 values has no result that the
spec states (log entry 24). -/
def serveLut (u : Nat) (k : UnitCall) : Eff := fun s =>
  let c := k.engine / 6
  let fail := fun (code : Nat) (l : List Act) => dropCall k :: l ++ programFault k.engine code 0 s
  match unitAccess s c k.desc.toNat 8 with
  | .bad f => fail f []
  | .refused b q o => fail flBANK_REFUSED (bankRefused s b (96 + 3 * c) q o)
  | .ok f =>
    let base := leValue (sramRead s f 4) + 2 ^ 32 * (leValue (sramRead s (f + 4) 4) % 16)
    let good := (callLanes k).filter (fun i => isW20 (laneW k i))
    let reads := good.flatMap (fun i => lutReads s base (laneW k i))
    let ue := bankUE s f 8 || reads.any (fun a => dramUE s a 2)
    let total := 4 * (callLanes k).length
    let miss := min (Config.latticeMisses s.free) total
    dropCall k :: bankReadActs s f 8 ++ reads.flatMap (fun a => dramReadActs s a 2)
    ++ [.inc (Reg.CL_LUT_HIT u) Fld.CL_LUT_HIT_COUNT (total - miss), .inc (Reg.CL_LUT_MISS u) Fld.CL_LUT_MISS_COUNT miss,
        .eng k.engine (fun g => if 0 < miss then g.stick stLUT_MISS else g)]
    ++ (if ue then failTicket k.engine s else [])
    ++ [callResults k (fun i =>
          if ue || !isW20 (laneW k i) then (undefLane s i 0, undefLane s i 1, undefLane s i 2)
          else
            let v := lutLookup s base (laneW k i)
            (BitVec.ofInt 32 v.1, BitVec.ofInt 32 v.2.1, BitVec.ofInt 32 v.2.2)),
        .draw]

/-- The call a LUT unit takes: its own cluster's first, then those of its neighbour whose unit is out (R236). -/
def lutCall (s : State) (u : Nat) : Option UnitCall :=
  match s.stp.calls.find? (fun k => k.lut && k.engine / 6 == u) with
  | some k => some k
  | none => if lutOut s (u ^^^ 1) then s.stp.calls.find? (fun k => k.lut && k.engine / 6 == (u ^^^ 1)) else none

/-! ## Stream units (R228 to R231) -/

/-- The descriptor that stream unit `u` of engine `e` executes. -/
def headDesc (s : State) (e u : Nat) : Option Nat := ((eng s e).su u).queue.head?

/-- A descriptor completes: DONE, DISC and STATUS are written back, the latch bit is set, the next descriptor follows (R228). -/
def descDone (e u a : Nat) (disc : Bool) (st : Nat) : Eff := fun s =>
  let f := 0x40000 * 24 * (e / 6) + a
  (match unitAccess s (e / 6) a 4 with
   | .ok _ => bankWrite s f (leBytes 4 (descWord s e a 0 % 16 + 16 + (if disc then 32 else 0)
       + bitsOf (descWord s e a 0) 15 8 * 256 + st * 65536))
   | .refused b q o => bankRefused s b e q o
   | .bad _ => [])
  ++ [.eng e (fun g => (g.setSu u (fun q => { queue := q.queue.drop 1, status := if q.status = 0 then st else q.status })).latchEvt
        (if u = 0 then evSU0 else evSU1))]

/-- The bytes that a read of a DRAM range delivers: words with an uncorrectable error are undefined (R455, R456). -/
def dramDeliver (s : State) (a n : Nat) : List Byte :=
  if (dramBadWords s a n).isEmpty then dramBytes s a n
  else (dramBytes s a n).mapIdx (fun i b => if (dramBadWords s (a + i) 1).isEmpty then b else Config.undefinedByte s.free i)

/-- The rectangle of a READ2D or WRITE2D descriptor: for each line its bank address and its DRAM address (R229). -/
def descLines (s : State) (e a : Nat) : List (Nat × Nat) :=
  let w := descWord s e a
  (List.range (w 4 / 65536)).map (fun i =>
    (w 1 + i * (w 6 % 0x1000000), w 2 + 2 ^ 32 * (w 3 % 16) + i * (w 5 % 0x1000000)))

/-- LINE_BYTES. -/
def lineBytes (s : State) (e a : Nat) : Nat := descWord s e a 4 % 65536

/-- Is a rectangle malformed: a zero length, or outside the data space (R230)? -/
def rectBad (s : State) (e a : Nat) : Bool :=
  lineBytes s e a == 0 || descWord s e a 4 / 65536 == 0
  || (descLines s e a).any (fun q => match unitAccess s (e / 6) q.1 (lineBytes s e a) with | .bad _ => true | _ => false)

/-- The worse of the statuses of a rectangle's lines: NOT_OWNER, DATA_UE, OK (R230). -/
def lineStatus (sts : List Nat) : Nat :=
  if sts.contains stNOT_OWNER then stNOT_OWNER else if sts.contains stDATA_UE then stDATA_UE else stOK

/-- READ2D: each line is copied from DRAM to the bank (R229, R230). -/
def read2d (e u a : Nat) : List Eff :=
  let line := fun (n : Nat) (q : Nat × Nat) (s : State) =>
    match unitAccess s (e / 6) q.1 n with
    | .ok f => dramReadActs s q.2 n ++ bankWrite s f (dramDeliver s q.2 n) ++ [Act.draw]
    | .refused b k o => bankRefused s b e k o
    | .bad _ => []
  [fun s =>
    if rectBad s e a then descDone e u a false stBAD_ARG s else
    let st := lineStatus ((descLines s e a).map (fun q =>
      match unitAccess s (e / 6) q.1 (lineBytes s e a) with
      | .ok _ => if dramUE s q.2 (lineBytes s e a) then stDATA_UE else stOK
      | _ => stNOT_OWNER))
    seqE ((descLines s e a).map (line (lineBytes s e a)) ++ [descDone e u a false st]) s]

/-- WRITE2D: each line is copied from the bank to DRAM (R229, R230). -/
def write2d (e u a : Nat) : List Eff :=
  let line := fun (n : Nat) (q : Nat × Nat) (s : State) =>
    match unitAccess s (e / 6) q.1 n with
    | .ok f => bankReadActs s f n ++ (if bankUE s f n then [] else dramStore s q.2 (sramRead s f n))
    | .refused b k o => bankRefused s b e k o
    | .bad _ => []
  [fun s =>
    if rectBad s e a then descDone e u a false stBAD_ARG s else
    let st := lineStatus ((descLines s e a).map (fun q =>
      match unitAccess s (e / 6) q.1 (lineBytes s e a) with
      | .ok f => if bankUE s f (lineBytes s e a) || dramRange s q.2 (lineBytes s e a) then stDATA_UE else stOK
      | _ => stNOT_OWNER))
    seqE ((descLines s e a).map (line (lineBytes s e a)) ++ [descDone e u a false st]) s]

/-- The ticket's tile and region, and the tenants told of a failure of engine `e`'s work. -/
def clientArg (s : State) (e : Nat) : List (Nat × Nat) × List Nat :=
  match heldTicket s e with
  | some k => ([(16, k.tile), (16, k.region)], withT0 (ownerOf s 3 k.tile))
  | none => ([(16, e)], clusterTenants s (e / 6))

/-- UNPACK: a packer lane decodes a block into the bank (R229, R230, R478, R485, R492). -/
def unpackDesc (e u a : Nat) : List Eff := [
  fun s =>
    match freeLane s with
    | none => []
    | some lane =>
      let w := descWord s e a
      let src := w 2 + 2 ^ 32 * (w 3 % 16)
      let len := w 5 % 0x20000
      let lim := w 4 % 65536
      let bad : Bool := match unitAccess s (e / 6) (w 1) lim with | .bad _ => true | _ => false
      if len == 0 || lim == 0 || bad then descDone e u a false stBAD_ARG s else
      let dec := if dramUE s src len then Decoded.err stDATA_UE else decodeBlock (dramBytes s src len) lim none
      let out := match dec with | .ok o => o | .err _ => (List.range lim).map (Config.undefinedByte s.free)
      let st := match dec with | .ok _ => stOK | .err x => x
      let counts := Act.pkr (fun p => { p with inThis := p.inThis + len, outThis := p.outThis + (if st = stOK then out.length else 0) })
      let c := clientArg s e
      dramReadActs s src len ++ [counts, .draw]
      ++ (match unitAccess s (e / 6) (w 1) (max 1 out.length) with
          | .ok f => seqE [fun s => if out.isEmpty then [] else bankWrite s f out, descDone e u a false st] s
          | .refused b k o => bankRefused s b e k o ++ descDone e u a false stNOT_OWNER s
          | .bad _ => descDone e u a false stBAD_ARG s)
      ++ (if decodeError st then packError s lane st c.2 (arg ((16, lane) :: c.1)) else [])]

/-- A stream unit executes its descriptor where its KIND is `kind`; a KIND of 4 to 15 is malformed and goes with READ2D's (R230). -/
def runDesc (kind e u : Nat) (run : Nat → List Eff) : List Eff :=
  (fun s => match headDesc s e u with
    | some a =>
      let k := descWord s e a 0 % 16
      if k = kind then seqE (run a) s
      else if kind = 0 ∧ 4 ≤ k then descDone e u a false stBAD_ARG s
      else []
    | none => []) :: wakeAll

/-! ## The commands -/

/-- SAMPLER_SERVE: sampler `n` of cluster `c` takes the call issued first (R232, R234). -/
def execSamplerServe (c : Fin 16) (n : Fin 3) (s : State) : Out :=
  doneAll s ((fun s => if smpOut s c n then [] else
    match s.stp.calls.find? (fun k => !k.lut && k.engine / 6 == c.val) with
    | some k => serveSmp k s
    | none => []) :: wakeAll)

/-- LUT_UNIT_SERVE: the LUT unit of cluster `u` takes a call (R235, R236). -/
def execLutUnitServe (u : Fin 16) (s : State) : Out :=
  doneAll s ((fun s => if lutOut s u then [] else
    match lutCall s u with
    | some k => serveLut u k s
    | none => []) :: wakeAll)

/-- READ2D (R229). -/
def execRead2d (e : Fin 96) (u : Fin 2) (s : State) : Out := doneAll s (runDesc 0 e u (read2d e u))

/-- WRITE2D (R229). -/
def execWrite2d (e : Fin 96) (u : Fin 2) (s : State) : Out := doneAll s (runDesc 1 e u (write2d e u))

/-- UNPACK (R229). -/
def execUnpack (e : Fin 96) (u : Fin 2) (s : State) : Out := doneAll s (runDesc 2 e u (unpackDesc e u))

end Sys2Proof.Machine
end

