-- ==== Sys2Proof/Machine/Ports.lean ====
section
/-! DEFINITION. Lamp ports: line rates, packets, marks and guards, framing efficiency, posted parts and the page ring, reserve pages,
the queues of a port, and the bank sequencer with its program (07_lamp_ports.md). -/

namespace Sys2Proof.Machine

/-! ## Reading ports -/

def port (s : State) (p : Nat) : Port := mapGet portDflt s.ports p
def bseq (s : State) (b : Nat) : BankSeq := mapGet seqDflt s.seqs b

/-- Is port `p` in service? -/
def portOn (r : Rd) (p : Nat) : Bool := rrf r (Reg.PORT_CTRL (p / 64) (p % 64)) Fld.PORT_CTRL_EN == 1

/-- The ports of bank `b`. -/
def bankPorts (b : Nat) : List Nat := (List.range 64).map (64 * b + ·)

/-- The ports of a tile. -/
def tilePortList (r : Rd) (t : Nat) : List Nat := (List.range (tilePorts r t)).map (tilePort0 r t + ·)

/-- The tile that a port serves. -/
def portTile (r : Rd) (p : Nat) : Option Nat :=
  (List.range 1024).find? (fun t => tileOn r t && decide (tilePort0 r t ≤ p ∧ p < tilePort0 r t + tilePorts r t))

/-- Port states (R315). -/
def psOFF : Nat := 0
def psALIVE : Nat := 1
def psSILENT : Nat := 2
def portState (s : State) (p : Nat) : Nat := rf s (Reg.PORT_STATE (p / 64) (p % 64)) Fld.PORT_STATE_STATE

/-- Sequencer states (R314). -/
def bsOFF : Nat := 0
def bsRUN : Nat := 1
def bsHALT : Nat := 2
def bsFAULT : Nat := 3
def bsState (s : State) (b : Nat) : Nat := rf s (Reg.BS_STATUS b) Fld.BS_STATUS_STATE

/-- Tenants told of an event of port `p`: T0 and the owner of the tile that it serves (R316). -/
def portTenants (s : State) (p : Nat) : List Nat :=
  match portTile (rd s) p with
  | some t => withT0 (ownerOf s 3 t)
  | none => [0]

/-- An event of a port, with bank, port, chain and driver (R316). -/
def portEvent (s : State) (b p c d : Nat) : List Act :=
  eventNow s 6 b (portTenants s p) (0x100 + p) (arg [(16, p / 64), (16, p), (16, c), (16, d)])

/-! ## Rates and symbol times (R264, R270, R287) -/

/-- The symbol time of bank `b` under a reader: 400 / M ns in DIFF, 3,200 / M ns in SPLIT; as numerator and denominator. -/
def symTime (r : Rd) (b : Nat) : Nat × Nat :=
  (if rrf r (Reg.BS_CTRL b) Fld.BS_CTRL_PERS = 0 then 400 else 3200, max 1 (rrf r (Reg.BS_CTRL b) Fld.BS_CTRL_RATE_M))

/-- M is in the range of the personality (R264). -/
def rateOk (r : Rd) (b : Nat) : Bool :=
  let m := rrf r (Reg.BS_CTRL b) Fld.BS_CTRL_RATE_M
  if rrf r (Reg.BS_CTRL b) Fld.BS_CTRL_PERS = 0 then decide (16 ≤ m ∧ m ≤ 128) else decide (2 ≤ m ∧ m ≤ 16)

/-- The line rate in b/s (R264). -/
def lineRate (r : Rd) (b : Nat) : Nat :=
  (if rrf r (Reg.BS_CTRL b) Fld.BS_CTRL_PERS = 0 then 25000000 else 3125000) * rrf r (Reg.BS_CTRL b) Fld.BS_CTRL_RATE_M

def retEvery (r : Rd) (b : Nat) : Nat := rrf r (Reg.BS_FRAME b) Fld.BS_FRAME_RET_EVERY
def retWin (r : Rd) (b : Nat) : Nat := rrf r (Reg.BS_FRAME b) Fld.BS_FRAME_RET_WIN

/-- E_frame of a bank as a fraction (R287). -/
def eFrame (r : Rd) (b : Nat) : Nat × Nat := (512 * retEvery r b, 523 * retEvery r b + retWin r b + 8)

/-- E_time of a bank as a fraction (R287). -/
def eTime (r : Rd) (b : Nat) : Nat × Nat :=
  let f := rateHz (rrf r Reg.CUR_RATE Fld.CUR_RATE_RATE)
  let t := symTime r b
  let d := 1000000000 * f.2 * t.2
  (d - f.1 * (tQuiet r * t.2 + slotCount r * (1024 * t.2 + 24 * t.1)), d)

/-- Does the bank meet E_frame * E_time >= 8/9 (R287)? -/
def effOk (r : Rd) (b : Nat) : Bool :=
  decide (8 * ((eFrame r b).2 * (eTime r b).2) ≤ 9 * ((eFrame r b).1 * (eTime r b).1))

/-- BS_EFF (R287). -/
def effReg (r : Rd) (b : Nat) : Nat :=
  65536 * ((eFrame r b).1 * (eTime r b).1) / max 1 ((eFrame r b).2 * (eTime r b).2)

/-- Lamps of a port. -/
def lampsOfPort (r : Rd) (p : Nat) : Nat :=
  match portTile r p with
  | some t => portLamps r t (p - tilePort0 r t)
  | none => 0

/-- The current-code capacity K of a port (R289). -/
def portCap (r : Rd) (p : Nat) : Nat :=
  let f := rateHz (rrf r Reg.CUR_RATE Fld.CUR_RATE_RATE)
  let d := 45 * slotCount r * f.1
  (32 * lineRate r (p / 64) * f.2 - 16 * lampsOfPort r p * d) / (8 * d)

/-- A port's page load against its payload capacity (R24, R25), for a number of bits per lamp: 16 with PWM codes alone, 24 with every
current code. -/
def portLoadOk (r : Rd) (p bits : Nat) : Bool :=
  let f := rateHz (rrf r Reg.CUR_RATE Fld.CUR_RATE_RATE)
  decide (lampsOfPort r p * bits * 45 * slotCount r * f.1 ≤ 32 * lineRate r (p / 64) * f.2)

/-- TS_DRIVE.DEFER of a tile (R195). -/
def tileDefers (r : Rd) (t : Nat) : Bool := (tilePortList r t).any (fun p => !portLoadOk r p 24)

/-- DEFER, PORT_K and BS_EFF of a bank's tiles and ports, as LOAD and a change of rate set them (R287, R289, R311). -/
def bankRates (b : Nat) : Eff := fun s =>
  let r := rd s
  [.fld (Reg.BS_EFF b) Fld.BS_EFF_EFF (effReg r b)]
  ++ ((bankPorts b).filter (portOn r)).map (fun p => Act.fld (Reg.PORT_K (p / 64) (p % 64)) Fld.PORT_K_K (min 131071 (portCap r p)))
  ++ ((tilesOn r).filter (fun t => tileBank r t == b)).map (fun t =>
      Act.fld (Reg.TS_DRIVE t) Fld.TS_DRIVE_DEFER (if tileDefers r t then 1 else 0))

/-! ## Packets (R274 to R281) -/

/-- Packet types (R276). -/
def pkPAGE_WRITE : Nat := 1
def pkCODE_DENSE : Nat := 2
def pkCODE_SPARSE : Nat := 3
def pkPAGE_COPY : Nat := 4
def pkREG_WRITE : Nat := 5
def pkREAD_REQ : Nat := 6
def pkCURTAIN : Nat := 7
def pkSLOT_SCHED : Nat := 8
def pkSERVICE : Nat := 9
def pkECHO : Nat := 10
def pkSTATUS : Nat := 12
def pkREAD_DATA : Nat := 13
def pkSERVICE_DATA : Nat := 14
def pkECHO_REPLY : Nat := 15

/-- K-codes (R267, R268). -/
def kIDL : Nat := 0xBC
def kSOP : Nat := 0xFB
def kCUR : Nat := 0x3C
def kSTB : Nat := 0xDC
def kTA : Nat := 0xF7
def kABT : Nat := 0xFE

/-- A packet to every driver of a port (R277). -/
def toAll (typ addr : Nat) (payload : List Byte) : Pkt := ⟨typ, 15, 255, addr, payload⟩

/-- Header, payload and CRC-16 of a forward packet, high byte of the CRC first (R274, R275). -/
def pktBytes (p : Pkt) : List Byte :=
  let h := [BitVec.ofNat 8 (16 * p.typ + p.chain % 16), BitVec.ofNat 8 p.driver] ++ leBytes 3 p.addr ++ leBytes 2 p.payload.length ++ p.payload
  let c := crc16 h
  h ++ [c.extractLsb' 8 8, c.extractLsb' 0 8]

/-- Header, payload and CRC-16 of a return packet (R274, R275). -/
def retBytes (typ chain driver tag : Nat) (payload : List Byte) : List Byte :=
  let h := [BitVec.ofNat 8 (16 * typ + chain % 16), BitVec.ofNat 8 driver, BitVec.ofNat 8 tag, BitVec.ofNat 8 payload.length] ++ payload
  let c := crc16 h
  h ++ [c.extractLsb' 8 8, c.extractLsb' 0 8]

/-- Symbols of a forward packet on the line (R274). -/
def pktSyms (p : Pkt) : Nat := 11 + p.payload.length

/-- The page that slot `j` shows from the edge with CUR_NUM `num` (R317). -/
def pageOf (s : State) (num j : Nat) : Nat :=
  j + slotCount (rd s) * ((num + rf s Reg.DRV_CTRL Fld.DRV_CTRL_PARITY) % 2)

/-- The page that receives slot `j` of the coming curtain. -/
def pageNext (s : State) (j : Nat) : Nat := pageOf s (rf s Reg.CUR_NUM Fld.CUR_NUM_NUM + 1) j

/-- The CURTAIN payload for the coming edge (R278). -/
def curtainPayload (s : State) (dark : Bool) : List Byte :=
  let n := slotCount (rd s)
  leBytes 4 (rf s Reg.CUR_NUM Fld.CUR_NUM_NUM + 1) ++ [BitVec.ofNat 8 n, if dark then 1 else 0]
    ++ (List.range 8).map (fun j => if j < n then BitVec.ofNat 8 (pageNext s j) else 0xFF) ++ [0, 0]

/-- N(t, j): refresh periods of slot `j` of a tile in a curtain of `p` ns (R49). -/
def refreshes (r : Rd) (rate p t j : Nat) : Nat :=
  let f := rrf r (Reg.SP_FREF (rrf r (Reg.TD_SCAN t) Fld.TD_SCAN_SCAN_PLAN)) Fld.SP_FREF_HZ
  max 1 ((slotLen r rate p j * f + 999999999) / 1000000000)

/-- The SLOT_SCHED payload of a tile for the coming curtain (R279). -/
def schedPayload (s : State) (t : Nat) : List Byte :=
  let r := rd s
  let n := slotCount r
  let p := period s.cur.rate
  [BitVec.ofNat 8 n, 0] ++ (List.range n).flatMap (fun j =>
    BitVec.ofNat 8 (slotKind r j) :: leBytes 2 (refreshes r s.cur.rate p t j) ++ leBytes 4 (slotLen r s.cur.rate p j))

/-- A PAGE_COPY payload (R280). -/
def copyPayload (first run stride count src : Nat) : List Byte :=
  leBytes 2 first ++ leBytes 2 run ++ leBytes 2 stride ++ leBytes 2 count ++ [BitVec.ofNat 8 src, 0]

/-- A READ_REQ payload (R281). -/
def readPayload (kind tag count : Nat) : List Byte := [BitVec.ofNat 8 kind, BitVec.ofNat 8 tag] ++ leBytes 2 count

/-! ## Region parts on a port (R129, R130, R197, R288) -/

/-- The port lines of region `i` of a tile on its port `k`, and the positions on each line, from and to (exclusive). -/
def partLines (r : Rd) (t i k : Nat) : (Nat × Nat) × (Nat × Nat) :=
  let b := regionBox r t i
  let a := pixelLine r t b.1 b.2.2.1
  let z := pixelLine r t (b.2.1 - 1) (b.2.2.2 - 1)
  let n := tileLines r t
  ((max (min a.1 z.1) (k * n) - k * n, min (max a.1 z.1 + 1) ((k + 1) * n) - k * n), (min a.2 z.2, max a.2 z.2 + 1))

/-- The runs of consecutive lamp indices of a part, line by line: first lamp and length (R197, R288). -/
def partRuns (r : Rd) (t i k : Nat) : List (Nat × Nat) :=
  let q := partLines r t i k
  let len := q.2.2 - q.2.1
  let ll := lineLen r t
  (List.range (q.1.2 - q.1.1)).flatMap (fun y =>
    let l := q.1.1 + y
    if rrf r (Reg.TD_CTRL t) Fld.TD_CTRL_LAMP_GROUP = 0 then [(3 * (l * ll + q.2.1), 3 * len)]
    else (List.range 3).map (fun c => (3 * l * ll + c * ll + q.2.1, len)))

/-- The lamps of a part, in the order of the packed page (R197). -/
def partLamps (r : Rd) (t i k : Nat) : List Nat := (partRuns r t i k).flatMap (fun q => (List.range q.2).map (q.1 + ·))

/-- Key of a lamp in a map by page or slot. -/
def lampKey (page lamp : Nat) : Nat := 65536 * page + lamp

/-- What was last sent for a part on a port, as the CRC's input (R198). -/
def sentCodes (s : State) (p j : Nat) (lamps : List Nat) : List LampCode :=
  lamps.map (fun x => ⟨mapGet zeroNat (port s p).sentP (lampKey j x), mapGet oneNat (port s p).sentC (lampKey j x), false⟩)

/-- The expected CRC of a part as Roura last wrote it (R350). -/
def partSentCrc (s : State) (t i k j : Nat) : Word := partCrc (sentCodes s (tilePort0 (rd s) t + k) j (partLamps (rd s) t i k))

/-- The region CRC over what was last sent on every port (R198, R290). -/
def regionSentCrc (s : State) (t i j : Nat) : Word :=
  partCrc ((regionPorts (rd s) t i).flatMap (fun k => sentCodes s (tilePort0 (rd s) t + k) j (partLamps (rd s) t i k)))

/-! ## Work of a part as packets (R288) -/

/-- Code packets of `n` lamps of a run: dense or sparse, whichever is shorter, dense when equal. -/
def codePacket (page first : Nat) (vals : List (Nat × Bool)) : Pkt :=
  let ch := vals.filter (·.2)
  let sparse := 2 + (vals.length + 7) / 8 + ch.length
  if vals.length ≤ sparse then toAll pkCODE_DENSE (65536 * page + first) (vals.map (fun v => BitVec.ofNat 8 v.1))
  else toAll pkCODE_SPARSE (65536 * page + first)
    (leBytes 2 vals.length ++ changeBytes (vals.map (·.2)) ++ ch.map (fun v => BitVec.ofNat 8 v.1))

/-- The most lamps of a run of code work whose packet fits in `room` symbols, at most 512. -/
def codeFit (page first room : Nat) (vals : List (Nat × Bool)) : Nat → Nat
  | 0 => 0
  | n + 1 => if pktSyms (codePacket page first (vals.take (n + 1))) ≤ room then n + 1 else codeFit page first room vals n

/-- The next packet of a part's work in `room` symbols, and the work that remains (R270, R288): none where nothing fits. -/
def nextPacket (room : Nat) : List Work → Option (Pkt × List Work)
  | [] => none
  | .raw p :: w => if pktSyms p ≤ room then some (p, w) else none
  | .pwm page first vals :: w =>
    let n := min vals.length (min 256 ((room - 11) / 2))
    if n = 0 then none else
    some (toAll pkPAGE_WRITE (65536 * page + first) ((vals.take n).flatMap (leBytes 2)),
      if n < vals.length then .pwm page (first + n) (vals.drop n) :: w else w)
  | .code page first vals :: w =>
    let n := codeFit page first room vals (min 512 vals.length)
    if n = 0 then none else
    some (codePacket page first (vals.take n),
      if (vals.drop n).any (·.2) then .code page (first + n) (vals.drop n) :: w else w)

/-- Symbols that a part's work needs, sent in full packets. -/
def workSyms : List Work → Nat
  | [] => 0
  | .raw p :: w => pktSyms p + workSyms w
  | .pwm _ _ vals :: w => 2 * vals.length + 11 * ((vals.length + 255) / 256) + workSyms w
  | .code page first vals :: w => pktSyms (codePacket page first vals) + 11 * ((vals.length - 1) / 512) + workSyms w

/-- The works of a part from its lamps' codes, run by run: PWM codes first, then the runs with a changed lamp (R288). -/
def partWork (page : Nat) (runs : List (Nat × Nat)) (codes : List LampCode) : List Work :=
  let cut := (runs.foldl (fun (q : List (Nat × List LampCode) × List LampCode) x =>
    (q.1 ++ [(x.1, q.2.take x.2)], q.2.drop x.2)) ([], codes)).1
  cut.map (fun q => .pwm page q.1 (q.2.map (·.p)))
  ++ (cut.filter (fun q => q.2.any (·.changed))).map (fun q => .code page q.1 (q.2.map (fun c => (c.cs, c.changed))))

/-- A code list from the bytes of a packed part of `n` lamps (R197); unchanged lamps keep what was last sent. -/
def unpackPart (bs : List Byte) (n : Nat) (old : Nat → Nat) : List LampCode :=
  let pw := (List.range n).map (fun i => leValue ((bs.drop (2 * i)).take 2))
  let ch := (List.range n).map (fun i => bitsOf ((bs.getD (2 * n + i / 8) 0).toNat) (i % 8) (i % 8) == 1)
  let cs := bs.drop (2 * n + (n + 7) / 8)
  ((List.range n).foldl (fun (q : List LampCode × List Byte) i =>
    if ch.getD i false then (q.1 ++ [⟨pw.getD i 0, ((q.2.headD 0).toNat), true⟩], q.2.drop 1)
    else (q.1 ++ [⟨pw.getD i 0, old i, false⟩], q.2)) ([], cs)).1

/-! ## Deferral (R27, R289, R290) -/

/-- The lamps deferred on the part of a region and port in this curtain, decided when its first slot's part arrives: changes are taken
increases first, each in ascending lamp order, until the share is used. -/
def deferred (lamps : List Nat) (codes : List LampCode) (old : Nat → Nat) (share : Nat) : List Nat :=
  let ch := ((lamps.zip codes).zipIdx.filter (fun q => q.1.2.changed)).map (fun q => (q.1.1, decide (old q.2 ≤ q.1.2.cs)))
  (((ch.filter (·.2)) ++ (ch.filter (fun q => !q.2))).drop share).map (·.1)

/-- An alternate in bank memory: for each lamp whose code differs, in lamp order, the held code, its trimmed value, and the PWM code of
each slot (R195, log entry 30). -/
def altPwm (alt : List Byte) (n j x : Nat) : Nat := leValue ((alt.drop ((2 + 2 * n) * x + 2 + 2 * j)).take 2)

/-! ## The page ring and POST (R231, R199) -/

/-- Bytes of a bank's page ring in use by parts not yet sent. -/
def pageRingUsed (s : State) (b : Nat) : Nat :=
  ((bankPorts b).flatMap (fun p => ((port s p).parts.filter (fun j => j.kind == 0)).map (·.bytes))).foldl (· + ·) 0

/-- Bytes that the page ring holds (R314). -/
def pageRingSize (s : State) (b : Nat) : Nat := 0x40000 * rf s (Reg.BS_RING b) Fld.BS_RING_COUNT

/-- Does R199 push a part: a CRC that differs from the store, a change bitmap that is not empty, or STP_FORCE.ALL? -/
def pushesPart (s : State) (key : Nat) (crc : Word) (codes : List LampCode) : Bool :=
  mapGet crcDflt s.stp.crc key != some crc || codes.any (·.changed) || s.stp.pushAll

/-- A part of a region counts as pushed on a port for a slot (R133). -/
def markPart (s : State) (k : Ticket) (j port_ : Nat) : List Act :=
  setTicket s k (fun q => { q with parts := if q.parts.contains (j, port_) then q.parts else q.parts ++ [(j, port_)] })

/-- The slots that have pages: every slot of the plan, DARK and REHEARSAL slots included (R160, R187). -/
def pageSlots (r : Rd) : List Nat := List.range (slotCount r)

/-- Is every part of a ticket's region pushed (R133)? -/
def regionPushed (s : State) (k : Ticket) : Bool :=
  (pageSlots (rd s)).all (fun j => (regionPorts (rd s) k.tile (ticketIndex s k)).all (fun q => k.parts.contains (j, q)))

/-- The region row that CUR_ROW_MATCH of tenant `t` names: its tile and row (R89). -/
def rowSel (s : State) (t : Nat) : Nat × Nat :=
  (rf s (Reg.CUR_ROW_MATCH t) Fld.CUR_ROW_MATCH_TILE, rf s (Reg.CUR_ROW_MATCH t) Fld.CUR_ROW_MATCH_ROW)

/-- Every ticketed region of a region row of a tile has been pushed (R72). -/
def rowPushed (s : State) (t row : Nat) : Bool :=
  (s.stp.tickets.filter (fun k => k.tile == t && ticketIndex s k / max 1 (regX (rd s) t) == row)).all (regionPushed s)

/-- ROW_MATCH for the tenants whose armed row is complete (R72): at the last push of the row, or at X for a row without tickets. -/
def rowMatches : Eff := fun s =>
  allTenants.flatMap (fun t =>
    let q := rowSel s t
    if bit s.cur.rowArmed t && !bit s.cur.rowDone t && rowPushed s q.1 q.2
        && (s.cur.decided || s.stp.tickets.any (fun k => k.tile == q.1 && ticketIndex s k / max 1 (regX (rd s) q.1) == q.2)) then
      .cur (fun c => { c with rowDone := setBit c.rowDone t true }) :: eventNow s 1 1 [t] 0 (arg [(16, q.1), (16, q.2)])
    else [])

/-- After a part has counted as pushed: the region counts when all of them have, and rows may complete (R72, R74, R133). -/
def afterPart (serial region : Nat) : Eff := fun s =>
  match s.stp.tickets.find? (fun k => k.serial == serial && k.region == region) with
  | some k => (if regionPushed s k then [.cur (fun c => { c with pushed := c.pushed + 1 })] else []) ++ rowMatches s
  | none => []

/-- What POST would hand over (R229, R231). -/
structure PostWork where
  ticket : Ticket
  port_ : Nat
  slot : Nat
  k : Nat
  bytes : List Byte
  alt : List Byte
  lamps : Nat
  crc : Word
  deriving DecidableEq, Repr

/-- The POST descriptor at `a` of engine `e`: malformed (none), or its parts. -/
def postOf (s : State) (e a : Nat) : Option PostWork :=
  let w := descWord s e a
  let p := w 5 % 1024
  match ticketOf s e (w 5 / 65536) with
  | none => none
  | some k =>
    let len := w 2 % 0x40000
    if len = 0 ∨ w 4 / 65536 = 0 ∨ p / 64 ≠ tileBank (rd s) k.tile then none
    else if p < tilePort0 (rd s) k.tile ∨ tilePort0 (rd s) k.tile + tilePorts (rd s) k.tile ≤ p then none
    else
      let f := fun (x : Nat) => 0x40000 * 24 * (e / 6) + x
      let alt := w 3 / 16 * 16
      some { ticket := k, port_ := p, slot := w 5 / 4096 % 8, k := p - tilePort0 (rd s) k.tile,
             bytes := sramRead s (f (w 1)) len, alt := if alt = 0 then [] else sramRead s (f alt) (w 4 % 65536),
             lamps := w 4 / 65536, crc := BitVec.ofNat 32 (w 7) }

/-- The ticket that a POST's serial names is withdrawn, or no ticket of the engine has it (R231). -/
def postWithdrawn (s : State) (e a : Nat) : Bool :=
  match ticketOf s e (descWord s e a 5 / 65536) with
  | none => true
  | some k => k.state == .withdrawn

/-- Is a POST malformed (R230)? -/
def postBad (s : State) (e a : Nat) : Bool :=
  match unitAccess s (e / 6) (descWord s e a 1) (descWord s e a 2 % 0x40000) with
  | .bad _ => true
  | _ => !postWithdrawn s e a && (postOf s e a).isNone

/-- Symbols of the rescue parts queued on a port. -/
def rescueSyms (s : State) (p : Nat) : Nat := (((port s p).parts.filter (·.rescue)).map (fun j => workSyms j.rest)).foldl (· + ·) 0

/-- Can a rescue part of `n` symbols be sent whole before D - 1,024 ns - 8 * t_sym (R295)? -/
def rescueFits (s : State) (p n : Nat) : Bool :=
  let t := symTime (rd s) (p / 64)
  decide ((now s) * t.2 + (rescueSyms s p + n) * t.1 + 1024 * t.2 + 8 * t.1 ≤ instD s * t.2)

/-- Bytes of sent parts that still lie in a bank's page ring. -/
def keptBytes (s : State) (b : Nat) : Nat :=
  ((bankPorts b).flatMap (fun p => (port s p).kept.map (·.bytes))).foldl (· + ·) 0

/-- Reads queued for a part that is written again are dropped and counted (R349). -/
def skipReads (s : State) (p t g j : Nat) : List Act :=
  let n := ((port s p).house.filter (fun q => q.why == .part g j)).length
  if n = 0 then [] else
  [.port p (fun q => { q with house := q.house.filter (fun x => x.why != .part g j) }), .inc (Reg.TD_RB_SKIP t) Fld.TD_RB_SKIP_COUNT n]

/-- The pages of a port are being cleared: its tile has not met R341 since its drivers reset, or the port is brought up alone (R344).
Nothing is sent to its pages but CLEAR's own writes (log entry 31). -/
def portClearing (s : State) (p : Nat) : Bool :=
  match portTile (rd s) p with
  | some t => let q := mapGet tileDflt s.tiles t; !q.met || q.again.contains p
  | none => true

/-- A part is accepted into the page ring: its deferrals decided, its work laid out (R231, R288 to R290). -/
def acceptPart (w : PostWork) : Eff := fun s =>
  let r := rd s
  let q := port s w.port_
  let i := ticketIndex s w.ticket
  let lamps := partLamps r w.ticket.tile i w.k
  let runs := partRuns r w.ticket.tile i w.k
  let old := fun (x : Nat) => mapGet oneNat q.sentC (lampKey w.slot (lamps.getD x 0))
  let codes := unpackPart w.bytes lamps.length old
  let may := rf s (Reg.TS_DRIVE w.ticket.tile) Fld.TS_DRIVE_DEFER == 1 && !w.alt.isEmpty
  let known := q.defers.find? (fun d => d.1 == w.ticket.region)
  let share := portCap r w.port_ * lamps.length / max 1 (lampsOfPort r w.port_) + q.carry
  let dl := match known with
    | some d => d.2
    | none => if may then deferred lamps codes old share else []
  let nch := (codes.filter (·.changed)).length
  let sent := (codes.mapIdx (fun x c =>
    if c.changed && dl.contains (lamps.getD x 0) then
      ⟨altPwm w.alt (slotCount r) w.slot ((codes.take x).filter (·.changed)).length, old x, false⟩
    else c))
  let work := partWork (pageNext s w.slot) runs sent
  let job : PartJob := ⟨0, w.ticket.region, w.slot, w.ticket.tile, w.ticket.serial, w.ticket.rescue, w.bytes.length + w.alt.length,
    false, !dl.isEmpty, w.crc, work, work⟩
  let fresh := known.isNone && may
  [.port w.port_ (fun q => { q with
      parts := if job.rescue then (q.parts.filter (·.rescue)) ++ [job] ++ q.parts.filter (fun x => !x.rescue) else q.parts ++ [job]
      carry := if fresh then share - (nch - dl.length) else q.carry
      defers := if fresh then q.defers ++ [(w.ticket.region, dl)] else q.defers
      deferN := if fresh then q.deferN + dl.length else q.deferN })]
  ++ skipReads s w.port_ w.ticket.tile w.ticket.region w.slot
  ++ (if pageRingSize s (w.port_ / 64) < pageRingUsed s (w.port_ / 64) + keptBytes s (w.port_ / 64) + w.bytes.length + w.alt.length then
        (bankPorts (w.port_ / 64)).map (fun p => .port p (fun q => { q with kept := [] })) else [])
  ++ (if fresh && !dl.isEmpty then setHeld s w.ticket.region false else [])

/-- What becomes of the POST at the head of stream unit `u` of engine `e` (R199, R230, R231, R295). `wait`: it may wait for room. -/
def post (e u a : Nat) : Eff := fun s =>
  let bank := fun (x : Nat) => 0x40000 * 24 * (e / 6) + x
  let len := descWord s e a 2 % 0x40000
  if postBad s e a then descDone e u a false stBAD_ARG s
  else if postWithdrawn s e a then descDone e u a true stOK s
  else match unitAccess s (e / 6) (descWord s e a 1) len, postOf s e a with
  | .refused b c o, _ => bankRefused s b e c o ++ descDone e u a false stNOT_OWNER s
  | _, some w =>
    if bankUE s (bank (descWord s e a 1)) len then
      bankReadActs s (bank (descWord s e a 1)) len ++ descDone e u a false stDATA_UE s else
    let i := ticketIndex s w.ticket
    let lamps := partLamps (rd s) w.ticket.tile i w.k
    let codes := unpackPart w.bytes lamps.length (fun _ => 0)
    let key := crcKey w.ticket.region w.slot w.k
    let work := partWork 0 (partRuns (rd s) w.ticket.tile i w.k) codes
    if !pushesPart s key w.crc codes then
      seqE [fun s => markPart s w.ticket w.slot w.k, afterPart w.ticket.serial w.ticket.region, descDone e u a true stOK] s
    else if portClearing s w.port_ then
      seqE [fun s => markPart s w.ticket w.slot w.k, afterPart w.ticket.serial w.ticket.region, descDone e u a false stOK] s
    else if w.ticket.rescue && !rescueFits s w.port_ (workSyms work) then
      seqE [fun _ => (bankPorts (w.port_ / 64)).map (fun p => .port p (fun q => { q with
              parts := q.parts.filter (fun j => !(j.rescue && j.region == w.ticket.region && j.slot == w.slot)) })),
            descDone e u a true stOK] s
    else if pageRingSize s (w.port_ / 64) < pageRingUsed s (w.port_ / 64) + w.bytes.length + w.alt.length then []
    else seqE [fun s => bankReadActs s (bank (descWord s e a 1)) len, acceptPart w, descDone e u a false stOK] s
  | _, none => descDone e u a false stBAD_ARG s

/-! ## The end of a part's sending (R133, R192, R199, R294) -/

/-- The driver that holds a line of a port: its chain and number (R327). -/
def lineDriver (s : State) (p l : Nat) : Nat × Nat :=
  match s.far.find? (fun f => decide (4096 * p ≤ f.1 ∧ f.1 < 4096 * (p + 1) ∧ f.2.line0 ≤ l ∧ l < f.2.line1)) with
  | some f => (f.1 / 256 % 16, f.1 % 256)
  | none => (0, 0)

/-- A page-CRC read of the part of region `i` of a tile on its port `k` (R281, R335), not before REC_TIME after the mark at which the
page became a receiving page (R349). The tag is never 0. -/
def partRead (s : State) (t i k page : Nat) (why : ReqWhy) (exp : Word) : Req :=
  let p := tilePort0 (rd s) t + k
  let run := (partRuns (rd s) t i k).headD (0, 0)
  let d := lineDriver s p (run.1 / max 1 (3 * lineLen (rd s) t))
  ⟨⟨pkREAD_REQ, d.1, d.2, 65536 * page + run.1, readPayload 1 (1 + (rd s (Reg.PORT_TX_PKTS (p / 64) (p % 64))).toNat % 255) run.2⟩, true, 0, why,
    s.cur.edge + 1000 * rf s (Reg.TD_PAGES t) Fld.TD_PAGES_REC_TIME, exp⟩

/-- A part's last packet has been sent. -/
def partSent (p : Nat) (j : PartJob) : Eff := fun s =>
  let k := p - tilePort0 (rd s) j.tile
  let i := j.region - regionBase (rd s) j.tile
  match j.kind with
  | 0 =>
    let crc := if j.deferred then regionSentCrc s j.tile i j.slot else j.regionCrc
    let tk := s.stp.tickets.find? (fun q => q.serial == j.serial && q.region == j.region)
    let fresh := match tk with | some q => !q.parts.contains (j.slot, k) | none => false
    [.stp (fun q => { q with crc := mapPut crcDflt q.crc (crcKey j.region j.slot k) (some crc) })]
    ++ (match tk with
        | some q => if fresh then seqE [fun s => markPart s q j.slot k, afterPart j.serial j.region] s else []
        | none => [])
    ++ [.port p (fun q => { q with
          house := q.house ++ [partRead s j.tile i k (pageNext s j.slot) (.part j.region j.slot) (partSentCrc s j.tile i k j.slot)]
          kept := q.kept ++ [{ j with rest := j.orig }] })]
  | 1 => [.port p (fun q => { q with resCrc := mapPut falseFlag q.resCrc (8 * j.region + j.slot) true })]
  | _ => []

/-! ## Reserve pages (R202, R293, R294) -/

/-- Background pages of a region prepared by the steep are queued for the reserve pages: each part with every lamp's codes, from
its place in STP_BG_BASE (R202, R294). -/
def offerReserve (g : Nat) : Eff := fun s =>
  match tileOf (rd s) g with
  | none => []
  | some (t, i) =>
    (pageSlots (rd s)).flatMap (fun j =>
      let base := addr36 s Reg.STP_BG_BASE_LO Reg.STP_BG_BASE_HI + 9728 * (8 * g + j)
      ((regionPorts (rd s) t i).foldl (fun (q : List Act × Nat) k =>
        let n := (partLamps (rd s) t i k).length
        let len := 2 * n + (n + 7) / 8 + n
        let p := tilePort0 (rd s) t + k
        let rest := partWork (16 + j) (partRuns (rd s) t i k) (unpackPart (dramBytes s q.2 len) n (fun _ => 1))
        let job : PartJob := ⟨1, g, j, t, 0, false, 0, false, false, 0, rest, rest⟩
        (q.1 ++ dramReadActs s q.2 len ++ [Act.port p (fun x => { x with
            reserve := x.reserve.filter (fun y => !(y.region == g && y.slot == j)) ++ [job] })], q.2 + len)) ([], base)).1)
    ++ [.stp (fun q => { q with bgReady := mapPut falseFlag q.bgReady g false })]

/-- The region CRC over the reserve pages of slot `j` (R198, R294). -/
def reserveCrc (s : State) (t i j : Nat) : Word :=
  partCrc ((regionPorts (rd s) t i).flatMap (fun k => sentCodes s (tilePort0 (rd s) t + k) (16 + j) (partLamps (rd s) t i k)))

/-- At X a region takes its background pages: one PAGE_COPY per slot on every port that carries it; the CRC store takes the reserve CRC,
or becomes UNKNOWN (R293, R294); the held bit is cleared (R192). -/
def copyBackground (g : Nat) : Eff := fun s =>
  match tileOf (rd s) g with
  | none => []
  | some (t, i) =>
    setHeld s g false
    ++ (pageSlots (rd s)).flatMap (fun j => (regionPorts (rd s) t i).flatMap (fun k => skipReads s (tilePort0 (rd s) t + k) t g j))
    ++ (pageSlots (rd s)).flatMap (fun j => ((regionPorts (rd s) t i).filter (fun k => !portClearing s (tilePort0 (rd s) t + k))).flatMap (fun k =>
      let p := tilePort0 (rd s) t + k
      let runs := partRuns (rd s) t i k
      let first := (runs.headD (0, 0)).1
      let stride := if runs.length < 2 then 0 else (runs.getD 1 (0, 0)).1 - first
      let known := mapGet falseFlag (port s p).resCrc (8 * g + j) && !(port s p).reserve.any (fun x => x.begun && x.region == g && x.slot == j)
      let lamps := partLamps (rd s) t i k
      [.port p (fun q => { q with
          copies := q.copies ++ [(g, j, toAll pkPAGE_COPY (65536 * pageNext s j) (copyPayload first (runs.headD (0, 0)).2 stride runs.length (16 + j)))]
          resCrc := if known then q.resCrc else mapPut falseFlag q.resCrc (8 * g + j) false
          sentP := lamps.foldl (fun m x => mapPut zeroNat m (lampKey j x) (mapGet zeroNat m (lampKey (16 + j) x))) q.sentP
          sentC := lamps.foldl (fun m x => mapPut oneNat m (lampKey j x) (mapGet oneNat m (lampKey (16 + j) x))) q.sentC }),
       .stp (fun q => { q with crc := mapPut crcDflt q.crc (crcKey g j k) (if known then some (reserveCrc s t i j) else none) })]))

/-- At X reserve parts whose update has begun and not ended become UNKNOWN (R294). -/
def reserveUnknown : Eff := fun s =>
  s.ports.flatMap (fun q => (q.2.reserve.filter (·.begun)).map (fun j =>
    Act.port q.1 (fun x => { x with resCrc := mapPut falseFlag x.resCrc (8 * j.region + j.slot) false })))

/-! ## The backlog at X (R292, R296) -/

/-- Guard spans of slot strobes between two instants. -/
def guardsBetween (s : State) (a b : Nat) : Nat :=
  ((List.range (slotCount (rdLamp s))).filter (fun j => 0 < j && decide (a ≤ s.cur.edge + slotStart (rdLamp s) s.cur.rate j
    ∧ s.cur.edge + slotStart (rdLamp s) s.cur.rate j < b))).length

/-- Symbol times left on a port from X to D after the guards and `copies` background copies. -/
def symsLeft (s : State) (p copies : Nat) : Nat :=
  let t := symTime (rd s) (p / 64)
  ((instD s - instX s) * t.2 - guardsBetween s (instX s) (instD s) * (1024 * t.2 + 12 * t.1)) / max 1 t.1 - 21 * copies

/-- The parts kept from the head of a queue in a number of symbol times at E_frame; a part that is being sent is kept. -/
def keepParts (e : Nat × Nat) (room : Nat) : List PartJob → Nat → List PartJob
  | [], _ => []
  | j :: js, used =>
    let u := used + workSyms j.rest
    if j.begun || decide (u * e.2 ≤ room * e.1) then j :: keepParts e room js u else []

/-- The regions that lose a part to the backlog of a port, `copies` background copies standing ahead (R292). -/
def backlog (s : State) (p copies : Nat) : List PartJob :=
  let l := (port s p).parts
  l.drop (keepParts (eFrame (rd s) (p / 64)) (symsLeft s p copies) l 0).length

/-- The fill time F_p in symbol times, as a fraction (R296). -/
def fillTime (r : Rd) (p : Nat) : Nat × Nat :=
  let parts := match portTile r p with
    | some t => ((List.range (regX r t * regY r t)).filter (fun i => (regionPorts r t i).contains (p - tilePort0 r t))).length
    | none => 0
  let e := eFrame r (p / 64)
  ((523 + 21 * parts * slotCount r) * e.2, max 1 e.1)

/-- Is T_rescue at least F_p (R71, R296)? -/
def rescueLongEnough (r : Rd) (p : Nat) : Bool :=
  let f := fillTime r p
  let t := symTime r (p / 64)
  decide (f.1 * t.1 ≤ tRescue r * f.2 * t.2)

/-! ## Time on a bank's lines (R270, R300) -/

/-- Symbol times since the line's start at which the bank's next instruction begins. -/
def bankSym (s : State) (b : Nat) : Nat :=
  let t := symTime (rd s) b
  max (bseq s b).syms (((now s - (bseq s b).lineAt) * t.2 + t.1 - 1) / max 1 t.1)

/-- The instant in ns (rounded down) of a symbol of the bank's lines. -/
def symNs (s : State) (b n : Nat) : Nat := (bseq s b).lineAt + n * (symTime (rd s) b).1 / (symTime (rd s) b).2

/-- The marks to come: slot strobes of this curtain, the edge, strobes of the next. -/
def markTimes (s : State) : List Nat :=
  if s.cur.running then
    let st := fun (e : Nat) => (List.range (slotCount (rdLamp s))).map (fun j => e + slotStart (rdLamp s) s.cur.rate j)
    (st s.cur.edge).drop 1 ++ st s.cur.next
  else []

/-- The guard span of a mark on a bank, in symbols since the line's start: the first symbol inside, the first after (R270). -/
def guardSpan (s : State) (b m : Nat) : Nat × Nat :=
  let t := symTime (rd s) b
  let l := (bseq s b).lineAt
  (((m - 1024 - l) * t.2 - 8 * t.1) / max 1 t.1, ((m - l) * t.2 + 4 * t.1 + t.1 - 1) / max 1 t.1)

/-- The first symbol at or after `n` that lies in no guard span. -/
def afterGuards (s : State) (b n : Nat) : Nat :=
  (markTimes s).foldl (fun n m => let g := guardSpan s b m; if g.1 ≤ n ∧ n < g.2 then g.2 else n) n

/-- Symbols from `n` to the next guard span. -/
def roomAt (s : State) (b n : Nat) : Nat :=
  (markTimes s).foldl (fun r m => let g := guardSpan s b m; if n ≤ g.1 then min r (g.1 - n) else r) 100000

/-- Where an emission of `len` symbols from `n` begins: after a guard span that it would meet (R270). -/
def emitAt (s : State) (b n len : Nat) : Nat :=
  let n := afterGuards s b n
  if len ≤ roomAt s b n then n else afterGuards s b (n + roomAt s b n)

/-! ## Lanes (R297, R301) -/

/-- Is the window of port `p` due at an instant (R286)? -/
def windowDue (s : State) (p at_ : Nat) : Bool :=
  decide (retEvery (rd s) (p / 64) ≤ (port s p).since)
    || decide ((port s p).lastWin + 1000 * rf s (Reg.BS_RET_IDLE (p / 64)) Fld.BS_RET_IDLE_US ≤ at_)

/-- Flag `k` of a lane (R301). -/
def laneFlag (s : State) (p k : Nat) : Bool :=
  let q := port s p
  match k with
  | 0 => !q.bufs.isEmpty
  | 1 => !q.ivl.isEmpty
  | 2 => windowDue s p (symNs s (p / 64) (bankSym s (p / 64)))
  | 3 => !q.house.isEmpty || !q.txns.isEmpty
  | 4 => portState s p == psSILENT
  | 5 => bit q.flags 0
  | 6 => bit q.flags 1
  | _ => false

/-- The lanes a bank's instruction acts on (R298). -/
def lanes (s : State) (b pred : Nat) : List Nat :=
  (bankPorts b).filter (fun p => portOn (rd s) p && (port s p).up && (pred == 0 || laneFlag s p (pred - 1)))

/-- Does a condition of R301 hold? none: illegal. -/
def bsCond (s : State) (b c : Nat) : Option Bool :=
  match c with
  | 0 => some true
  | 1 => some ((lanes s b 0).any (fun p => laneFlag s p 0))
  | 2 => some ((lanes s b 0).any (fun p => laneFlag s p 2))
  | 3 => some s.cur.interval
  | 4 => some s.cur.decided
  | 5 => some ((bseq s b).counter == 0)
  | 6 => some ((bseq s b).counter != 0)
  | 7 => some (rf s (Reg.BS_CTRL b) Fld.BS_CTRL_STOP == 1)
  | _ => none

/-! ## Windows that miss (R304) -/

/-- A request fails: a tenant transaction completes with the status (R304 to R306). -/
def reqFails (q : Req) (status : Nat) : Eff :=
  match q.why with
  | .txn t _ _ c => complete t c status 0
  | _ => fun _ => []

/-- The queue count of tenant transactions of a port (R315). -/
def queuedReg (p : Nat) : Eff := fun s =>
  if p < 1024 then [.fld (Reg.PORT_STATE (p / 64) (p % 64)) Fld.PORT_STATE_QUEUED (port s p).txns.length] else []

/-- A window ends without a return: misses are counted, and the port may become SILENT (R304). -/
def windowMiss (p : Nat) : Eff := fun s =>
  match (port s p).window with
  | none => []
  | some (c, d) =>
    let n := rf s (Reg.PORT_STATE (p / 64) (p % 64)) Fld.PORT_STATE_MISSES + 1
    let dead := decide (max 1 (rf s (Reg.BS_FRAME (p / 64)) Fld.BS_FRAME_SILENT_LIMIT) ≤ n) || portState s p == psSILENT
    let silent := dead && portState s p != psSILENT
    let lost := (port s p).sent.filter (fun q => q.pkt.chain == c && q.pkt.driver == d)
    [.port p (fun q => { q with window := none }), .inc (Reg.PORT_RET_MISS (p / 64) (p % 64)) Fld.PORT_RET_MISS_COUNT 1,
     .fld (Reg.PORT_STATE (p / 64) (p % 64)) Fld.PORT_STATE_MISSES (min 15 n)]
    ++ (if silent then
          .fld (Reg.PORT_STATE (p / 64) (p % 64)) Fld.PORT_STATE_STATE psSILENT
          :: (portEvent s 0 p c d ++ logStatus s (0x100 + p) 6 stDRIVER_SILENT (portTenants s p) (arg [(16, p / 64), (16, p), (16, c), (16, d)]))
        else [])
    ++ (if dead then
          .port p (fun q => { q with sent := q.sent.filter (fun x => !(x.pkt.chain == c && x.pkt.driver == d)) })
          :: seqE (lost.map (fun q => reqFails q stDRIVER_SILENT)) s
        else [])

/-! ## FETCH (R291, R305 to R307) -/

/-- Does the CRC store hold UNKNOWN for a part (R349)? -/
def unknownPart (s : State) (p g j : Nat) : Bool :=
  match portTile (rd s) p with
  | some t => (mapGet crcDflt s.stp.crc (crcKey g j (p - tilePort0 (rd s) t))).isNone
  | none => true

/-- Is the next request of class 3 ripe, and what the queues are after it is taken: house firmware first, then tenants (R291). A
transaction whose tile's epoch has changed completes with STALE_ROLE and the next is looked at (R306); a CAL_FLAT is not sent within 1,000 us
of the edge (R381). -/
def takeReq (s : State) (p : Nat) : List Req → List Req × List Act × Option Req
  | [] => ([], [], none)
  | q :: l =>
    match q.why with
    | .txn t tile ep c =>
      if epochOf s 3 tile = ep then (l, [], some q)
      else let z := takeReq s p l; (z.1, complete t c stSTALE_ROLE 0 s ++ z.2.1, z.2.2)
    | .part g j =>
      if unknownPart s p g j then takeReq s p l
      else if q.after ≤ now s then (l, [], some q) else let z := takeReq s p l; (q :: z.1, z.2.1, z.2.2)
    | .flat _ =>
      if now s + 1000000 ≤ s.cur.next then (l, [], some q) else let z := takeReq s p l; (q :: z.1, z.2.1, z.2.2)
    | _ => if q.after ≤ now s then (l, [], some q) else let z := takeReq s p l; (q :: z.1, z.2.1, z.2.2)

/-- The packet that a lane takes next, as its buffer entry and the updates of its queues (R291). `room`: symbols to the next guard
span after the packets that it already holds. -/
def takePacket (p room : Nat) : Eff := fun s =>
  let q := port s p
  let put := fun (b : LineBuf) (f : Port → Port) => [Act.port p (fun x => { f x with bufs := (f x).bufs ++ [b] })]
  let ivl := s.cur.interval
  match ivl, q.ivl with
  | true, k :: _ => put ⟨1, k, none, none⟩ (fun x => { x with ivl := x.ivl.drop 1 })
  | _, _ =>
  match decide (s.cur.decided = true ∧ ivl = false), q.copies with
  | true, c :: _ => put ⟨2, c.2.2, none, none⟩ (fun x => { x with copies := x.copies.drop 1, bgN := x.bgN + 1 })
  | _, _ =>
  let due := laneFlag s p 2 && q.sent.isEmpty && !q.bufs.any (fun b => b.cls == 3)
  let h := takeReq s p q.house
  let t := takeReq s p q.txns
  let parts := fun (_ : Unit) =>
    if ivl then [] else
    match q.parts, (if portClearing s p then [] else q.reserve) with
    | j :: _, _ =>
      (match (nextPacket room j.rest).orElse (fun _ => nextPacket 600 j.rest) with
       | some (k, rest) =>
         put ⟨4, k, none, if rest.isEmpty then some j else none⟩
           (fun x => { x with parts := if rest.isEmpty then x.parts.drop 1 else { j with rest := rest, begun := true } :: x.parts.drop 1 })
       | none => [.port p (fun x => { x with parts := x.parts.drop 1 })] ++ partSent p j s)
    | [], j :: _ =>
      (match (nextPacket room j.rest).orElse (fun _ => nextPacket 600 j.rest) with
       | some (k, rest) =>
         put ⟨5, k, none, if rest.isEmpty then some j else none⟩
           (fun x => { x with reserve := if rest.isEmpty then x.reserve.drop 1 else { j with rest := rest, begun := true } :: x.reserve.drop 1 })
       | none => [.port p (fun x => { x with reserve := x.reserve.drop 1 })])
    | [], [] => []
  if due then
    match h.2.2, t.2.2 with
    | some k, _ => put ⟨3, k.pkt, some k, none⟩ (fun x => { x with house := h.1 })
    | none, some k => t.2.1 ++ put ⟨3, k.pkt, some k, none⟩ (fun x => { x with txns := t.1 }) ++ queuedReg p (applyAct s (.port p (fun x => { x with txns := t.1 })))
    | none, none => t.2.1 ++ [.port p (fun x => { x with txns := t.1 })] ++ parts ()
  else parts ()

/-- FETCH on one lane: an empty buffer is filled (R291, R299). -/
def fetchLane (p : Nat) : Eff := fun s =>
  let q := port s p
  if 2 ≤ q.bufs.length then [] else
  let b := p / 64
  let n := afterGuards s b (bankSym s b + (q.bufs.map (fun x => pktSyms x.pkt)).foldl (· + ·) 0)
  takePacket p (roomAt s b n) s

/-! ## SEND (R274, R288, R349) -/

/-- What a sent packet leaves at the drivers, as Roura keeps it: PWM and current codes by slot page (R350). -/
def noteSent (s : State) (k : Pkt) (q : Port) : Port :=
  let page := k.addr / 65536
  let slot := if page < 16 then page % max 1 (slotCount (rd s)) else page
  let first := k.addr % 65536
  if k.typ = pkPAGE_WRITE then
    { q with sentP := mapPuts zeroNat q.sentP (lampKey slot first) ((List.range (k.payload.length / 2)).map (fun i => leValue ((k.payload.drop (2 * i)).take 2))) }
  else if k.typ = pkCODE_DENSE then
    { q with sentC := mapPuts oneNat q.sentC (lampKey slot first) (k.payload.map (·.toNat)) }
  else if k.typ = pkCODE_SPARSE then
    let n := leValue (k.payload.take 2)
    let vals := unpackPart (List.replicate (2 * n) 0 ++ k.payload.drop 2) n (fun i => mapGet oneNat q.sentC (lampKey slot (first + i)))
    { q with sentC := mapPuts oneNat q.sentC (lampKey slot first) (vals.map (·.cs)) }
  else q

/-- The tile whose last POWER packet about its rail has been sent starts its wait (R340). -/
def railSent (t : Nat) : Eff := fun s =>
  let left := (tilePortList (rd s) t).any (fun p => (port s p).house.any (fun q => q.why == .rail t)
    || (port s p).bufs.any (fun b => match b.req with | some q => q.why == .rail t | none => false))
  if left then [] else [.tile t (fun x => { x with railAt := some (now s), waitFrom := now s, railDone := false })]

/-- A lane sends its oldest packet, whose symbols begin at symbol `n` of the line. -/
def sendLane (p n : Nat) : Eff := fun s =>
  match (port s p).bufs with
  | [] => []
  | b :: _ =>
    let t := symNs s (p / 64) n
    [.out (fun o => { o with lines := o.lines ++ [⟨p, t + 1023 - rf s (Reg.PORT_ADV (p / 64) (p % 64)) Fld.PORT_ADV_ADV, kSOP, pktBytes b.pkt⟩] }),
     .inc (Reg.PORT_TX_PKTS (p / 64) (p % 64)) Fld.PORT_TX_PKTS_COUNT 1,
     .port p (fun q => noteSent s b.pkt { q with
       bufs := q.bufs.drop 1, since := q.since + 1
       sent := match b.req with
         | some r => if r.reply then q.sent ++ [r] else q.sent
         | none => q.sent })]
    ++ (match b.req with
        | some r => if r.reply then [] else
          (match r.why with
           | .txn t _ _ c => complete t c stOK 0 s
           | .rail t => seqE [fun _ => [.port p (fun q => { q with bufs := q.bufs.drop 1 })], railSent t] s |>.drop 1
           | _ => [])
        | none => [])
    ++ (match b.ends with
        | some j => seqE [fun s => [.port p (fun q => noteSent s b.pkt q)], partSent p j] s
        | none => [])

/-! ## The sequencer's instructions (R298 to R303) -/

/-- The sequencer stops in FAULT with the cause and the PC; a packet in progress is aborted (R302). -/
def seqFault (b cause : Nat) : Eff := fun s =>
  [.fld (Reg.BS_STATUS b) Fld.BS_STATUS_STATE bsFAULT, .fld (Reg.BS_STATUS b) Fld.BS_STATUS_FAULT cause]
  ++ (if now s < symNs s b (bseq s b).syms then
        [.out (fun o => { o with lines := o.lines ++ ((bankPorts b).filter (fun p => portOn (rd s) p && (port s p).up)).map (fun p => ⟨p, now s, kABT, []⟩) })]
      else [])
  ++ logFault s (0x080 + b) 6 cause 4 [0] (arg [(16, b), (16, rf s (Reg.BS_STATUS b) Fld.BS_STATUS_PC)])
  ++ eventNow s 6 4 [0] (0x080 + b) (arg [(16, b), (16, 64 * b), (16, 0), (16, 0)])

/-- How an instruction uses the line: emitting symbols (whose last symbol time hides up to 8 others), or at no cost there (R300). -/
inductive BsCost where
  | emit (n : Nat)
  | free
  deriving DecidableEq, Repr

/-- The next PC. -/
def bsNext (pc : Nat) : Nat := (pc + 1) % 4096

/-- What an instruction of bank `b` does itself: it takes its time on the lines, the PC moves, and its effect follows from the symbol at
which its emission begins (R299, R300). -/
def bsStep (b : Nat) (cost : BsCost) (pc : Nat → Nat) (eff : Nat → Eff) : Eff := fun s =>
  let n0 := afterGuards s b (bankSym s b)
  let z := (bseq s b).zeros
  let n := match cost with | .emit k => emitAt s b n0 k | .free => n0
  let n' := match cost with | .emit k => n + k | .free => if z < 8 then n0 else n0 + 1
  [.bseq b (fun q => { q with syms := n', zeros := match cost with | .emit _ => 0 | .free => z + 1 }),
   .fld (Reg.BS_STATUS b) Fld.BS_STATUS_PC (pc (rf s (Reg.BS_STATUS b) Fld.BS_STATUS_PC))]
  ++ eff n s

/-- A running sequencer executes an instruction: windows still open have missed, then the instruction acts (R284, R304). -/
def bsRun (b : Nat) (f : Eff) : List Eff := [whenE (fun s => bsState s b == bsRUN) ((bankPorts b).map windowMiss ++ [f])]

/-- The longest packet among the lanes that send. -/
def longest (s : State) (b pred : Nat) : Nat :=
  ((lanes s b pred).map (fun p => match (port s p).bufs with | x :: _ => pktSyms x.pkt | [] => 0)).foldl max 1

/-- SEND (R299). -/
def bsSend (b pred : Nat) : Eff := fun s =>
  bsStep b (.emit (longest s b pred)) bsNext (fun n s => seqE ((lanes s b pred).map (fun p => sendLane p n)) s) s

/-- The responder of a port's window: of the oldest request outstanding, else driver 0 of the chains in turn (R284). -/
def responder (s : State) (p : Nat) : Nat × Nat :=
  match (port s p).sent with
  | q :: _ => (q.pkt.chain, q.pkt.driver)
  | [] => ((port s p).turn, 0)

/-- TURN opens a return window on each lane acted on (R283, R284, R299). -/
def bsTurn (b pred : Nat) : Eff := fun s =>
  let len := retWin (rd s) b + 8
  bsStep b (.emit len) bsNext (fun n s => (lanes s b pred).flatMap (fun p =>
    let c := responder s p
    let adv := 1023 - rf s (Reg.PORT_ADV (p / 64) (p % 64)) Fld.PORT_ADV_ADV
    [.out (fun o => { o with lines := o.lines ++ [⟨p, symNs s b n + adv, kTA, [BitVec.ofNat 8 c.1, BitVec.ofNat 8 c.2]⟩] }),
     .port p (fun q => { q with
       window := some c, since := 0, lastWin := symNs s b (n + len)
       turn := if q.sent.isEmpty then (q.turn + 1) % (rf s (Reg.PORT_CTRL (p / 64) (p % 64)) Fld.PORT_CTRL_CHAINS + 1) else q.turn })])) s

/-- KSYM: CUR and STB are illegal (R299). -/
def bsKsym (b pred imm : Nat) : Eff := fun s =>
  if imm / 256 = kCUR ∨ imm / 256 = kSTB then seqFault b 1 s
  else bsStep b (.emit 2) bsNext (fun n s => [.out (fun o => { o with
    lines := o.lines ++ (lanes s b pred).map (fun p => ⟨p, symNs s b n + 1023 - rf s (Reg.PORT_ADV (p / 64) (p % 64)) Fld.PORT_ADV_ADV, imm / 256 % 256, [BitVec.ofNat 8 imm]⟩) })]) s

/-- SETF and CLRF of the program's flags F5 and F6; the hardware sets and clears the others (R301). -/
def bsFlag (b pred k : Nat) (v : Bool) : Eff :=
  bsStep b .free bsNext (fun _ s =>
    if k = 5 ∨ k = 6 then (lanes s b pred).map (fun p => .port p (fun q => { q with flags := setBit q.flags (k - 5) v })) else [])

/-- BR and WAITC: an illegal condition halts (R301, R302). -/
def bsBr (b a c : Nat) : Eff := fun s =>
  match bsCond s b c with
  | none => seqFault b 1 s
  | some v => bsStep b .free (fun pc => if v then a else bsNext pc) (fun _ _ => []) s
def bsWaitc (b c : Nat) : Eff := fun s =>
  match bsCond s b c with
  | none => seqFault b 1 s
  | some v => bsStep b (.emit 1) (fun pc => if v then bsNext pc else pc) (fun _ _ => []) s

/-- DJNZ (R299). -/
def bsDjnz (b a : Nat) : Eff := fun s =>
  let c := (bseq s b).counter - 1
  bsStep b .free (fun pc => if c = 0 then bsNext pc else a) (fun _ _ => [.bseq b (fun q => { q with counter := c })]) s

/-- CALL: a second return address overflows the stack (R302). -/
def bsCall (b a : Nat) : Eff := fun s =>
  if (bseq s b).full then seqFault b 3 s
  else
    let ret := bsNext (rf s (Reg.BS_STATUS b) Fld.BS_STATUS_PC)
    bsStep b .free (fun _ => a) (fun _ _ => [.bseq b (fun q => { q with stack := BitVec.ofNat 16 ret, full := true })]) s

/-- RTN (R299). -/
def bsRtn (b : Nat) : Eff := fun s =>
  let ret := (bseq s b).stack.toNat % 4096
  bsStep b .free (fun _ => ret) (fun _ _ => [.bseq b (fun q => { q with full := false })]) s

/-- EVT (R299, R314). -/
def bsEvt (b imm : Nat) : Eff :=
  bsStep b .free bsNext (fun _ _ => [.fld (Reg.BS_STATUS b) Fld.BS_STATUS_PEVT 1, .fld (Reg.BS_STATUS b) Fld.BS_STATUS_EVT_IMM imm])

/-- HALT (R299). -/
def bsHalt (b : Nat) : Eff := fun _ => [.fld (Reg.BS_STATUS b) Fld.BS_STATUS_STATE bsHALT]

/-! ## Lines (R265, R310, R338) -/

/-- The line of port `p` starts: only IDL for 50 us (R310); disparity and windows start anew. -/
def startPort (p at_ : Nat) : Act :=
  .port p (fun q => { q with up := true, startAt := at_, lastWin := at_ + 50000, since := 0, window := none, turn := 0, bufs := [], sent := [] })

/-- Bank `b` starts: its ports' lines, then its program at BS_ENTRY after 50 us (R310). A bank whose supply does not suit it stays OFF
with PORT_SUPPLY (R265). -/
def startBank (b : Nat) : Eff := fun s =>
  if rf s (Reg.BS_CTRL b) Fld.BS_CTRL_EN = 0 then [] else
  if (bseq s b).supplyBad then
    [.fld (Reg.BS_STATUS b) Fld.BS_STATUS_STATE bsOFF, .fld (Reg.BS_STATUS b) Fld.BS_STATUS_FAULT 4] else
  let t := symTime (rd s) b
  [.fld (Reg.BS_STATUS b) Fld.BS_STATUS_STATE bsRUN, .fld (Reg.BS_STATUS b) Fld.BS_STATUS_FAULT 0,
   .fld (Reg.BS_STATUS b) Fld.BS_STATUS_PC (rf s (Reg.BS_ENTRY b) Fld.BS_ENTRY_ENTRY),
   .bseq b (fun q => { q with lineAt := now s, syms := (50000 * t.2 + t.1 - 1) / max 1 t.1, zeros := 8, full := false })]
  ++ ((bankPorts b).filter (portOn (rd s))).map (fun p => startPort p (now s))

/-- Bank `b` stops sending: packets in progress are aborted; queued parts are lost and their CRCs UNKNOWN. -/
def stopBank (b : Nat) : Eff := fun s =>
  let up := (bankPorts b).filter (fun p => (port s p).up)
  let lost := up.flatMap (fun p => ((port s p).parts ++ (port s p).bufs.filterMap (·.ends)).map (fun j => (p, j)))
  (if bsState s b = bsRUN ∧ now s < symNs s b (bseq s b).syms then
    [.out (fun o => { o with lines := o.lines ++ up.map (fun p => ⟨p, now s, kABT, []⟩) })] else [])
  ++ [.fld (Reg.BS_STATUS b) Fld.BS_STATUS_STATE bsOFF]
  ++ up.map (fun p => .port p (fun q => { q with
      up := false, bufs := [], ivl := [], copies := [], parts := [], reserve := [], window := none
      house := q.sent.filter (fun x => match x.why with | .txn .. => false | _ => true) ++ q.house
      txns := q.sent.filter (fun x => match x.why with | .txn .. => true | _ => false) ++ q.txns, sent := []
      resCrc := (q.reserve.filter (·.begun)).foldl (fun m j => mapPut falseFlag m (8 * j.region + j.slot) false) q.resCrc }))
  ++ [.stp (fun q => { q with crc := lost.foldl (fun m x => mapPut crcDflt m (crcKey x.2.region x.2.slot (x.1 - tilePort0 (rd s) x.2.tile)) none) q.crc })]

/-- A VDD_PORT rail leaves its range: the bank stops with PORT_SUPPLY and SEQ_FAULT (R265, R629). -/
def portSupplyFault (b : Nat) : List Eff := [
  stopBank b,
  fun s => [.bseq b (fun q => { q with supplyBad := true }), .fld (Reg.BS_STATUS b) Fld.BS_STATUS_FAULT 4]
    ++ eventNow s 6 4 [0] (0x080 + b) (arg [(16, b), (16, 64 * b), (16, 0), (16, 0)])]

/-! ## Marks (R269, R270) -/

/-- The scheduled instant of a mark: the edge for 0, else the start of slot `j` of this curtain. -/
def markInstant (s : State) (j : Nat) : Nat := if j = 0 then s.cur.next else s.cur.edge + slotStart (rdLamp s) s.cur.rate j

/-- The mark unit of bank `b` emits the mark of the edge (0) or of slot `j`: at S - 1,023 ns into the delays, so that it leaves port p at
S - A_p; its data symbol is CUR_NUM[7:0] of the edge, or the slot (R268, R269). -/
def markEmit (b j : Nat) : Eff := fun s =>
  let m := markInstant s j
  let live := ((bankPorts b).filter (fun p => portOn (rd s) p && (port s p).up && decide ((port s p).startAt + 50000 ≤ m - 1023)))
  if s.cur.running && decide (j < slotCount (rdLamp s)) && decide (now s ≤ m) then
    [.clockTo (m - 1023),
     .out (fun o => { o with lines := o.lines ++ live.map (fun p => ⟨p, m - rf s (Reg.PORT_ADV (p / 64) (p % 64)) Fld.PORT_ADV_ADV, if j = 0 then kCUR else kSTB,
        [if j = 0 then BitVec.ofNat 8 (rf s Reg.CUR_NUM Fld.CUR_NUM_NUM + 1) else BitVec.ofNat 8 j]⟩) })]
  else []

/-! ## The microinstruction store (R303, R314) -/

/-- BS_UDATA_HI written: the word is stored, or the write refused with BUSY (R303). -/
def udataHiWrite (t b : Nat) (v : Word) : Eff := fun s =>
  if t ≠ 0 then tenantFault s t stNOT_OWNER (Reg.BS_UDATA_HI b)
  else if bsState s b ≠ bsOFF ∧ bsState s b ≠ bsHALT then tenantFault s t stBUSY (Reg.BS_UDATA_HI b)
  else
    let a := rf s (Reg.BS_UADDR b) Fld.BS_UADDR_ADDR
    [.reg (Reg.BS_UDATA_HI b) v,
     .bseq b (fun q => { q with store := mapPut zeroMicro q.store a (BitVec.ofNat 48 ((rd s (Reg.BS_UDATA_LO b)).toNat + 2 ^ 32 * getF v Fld.BS_UDATA_HI_DATA)) })]
    ++ (if rf s (Reg.BS_UADDR b) Fld.BS_UADDR_AUTOINC = 1 then [.fld (Reg.BS_UADDR b) Fld.BS_UADDR_ADDR ((a + 1) % 4096)] else [])

/-- BS_UDATA_LO and BS_UDATA_HI read the word at ADDR; an access of HI advances it where AUTOINC is 1 (R314). -/
def udataRead (b : Nat) (hi : Bool) : Eff := fun s =>
  let a := rf s (Reg.BS_UADDR b) Fld.BS_UADDR_ADDR
  let w := (mapGet zeroMicro (bseq s b).store a).toNat
  [.out (fun o => { o with readData := BitVec.ofNat 32 (if hi then w / 2 ^ 32 else w) })]
  ++ (if hi && rf s (Reg.BS_UADDR b) Fld.BS_UADDR_AUTOINC == 1 then [.fld (Reg.BS_UADDR b) Fld.BS_UADDR_ADDR ((a + 1) % 4096)] else [])

/-- A read of BS_STATUS returns it and clears PEVT (R314). -/
def bsStatusRead (b : Nat) : Eff := fun s =>
  [.out (fun o => { o with readData := rd s (Reg.BS_STATUS b) }), .fld (Reg.BS_STATUS b) Fld.BS_STATUS_PEVT 0]

/-! ## Commit checks (R264, R285, R287, R296, R311) -/

/-- Banks in service. -/
def banksOn (r : Rd) : List Nat := (List.range 16).filter (fun b => rrf r (Reg.BS_CTRL b) Fld.BS_CTRL_EN == 1)

/-- The rules of 07_lamp_ports.md that a commit breaks. -/
def prtBreaks (s : State) (l : List Staged) (r : Rd) : Bool :=
  let timing := touches l Reg.CUR_TIMING (Reg.CUR_TIMING + 4) || touches l Reg.CUR_RATE (Reg.CUR_RATE + 4)
    || touches l Reg.CUR_SLOT_PLAN (Reg.CUR_SLOT_PLAN + 4)
  let rate := fun b => touches l (Reg.BS_CTRL b) (Reg.BS_CTRL b + 4)
  (List.range 16).any (fun b => rate b && (!rateOk r b || showing (mode s)))
  || (banksOn r).any (fun b => (timing || rate b) && (!effOk r b
      || ((bankPorts b).filter (portOn r)).any (fun p => !portLoadOk r p 16 || !rescueLongEnough r p)))

/-! ## The commands -/

/-- POST (R231): a stream unit hands over the port part of its descriptor. -/
def execPost (e : Fin 96) (u : Fin 2) (s : State) : Out := doneAll s (runDesc 3 e u (fun a => [post e u a]))

/-- POST_ACCEPT (R231): a POST that waits is looked at again. -/
def execPostAccept (e : Fin 96) (u : Fin 2) (s : State) : Out :=
  doneAll s ((fun s => match headDesc s e u with
    | some a => if descWord s e a 0 % 16 = 3 then post e u a s else []
    | none => []) :: wakeAll)

/-- BS_NOP. -/
def execBsNop (b : Fin 16) (s : State) : Out := doneAll s (bsRun b (bsStep b .free bsNext (fun _ _ => [])))
/-- BS_IDLE. -/
def execBsIdle (b : Fin 16) (cnt : Fin 2048) (s : State) : Out := doneAll s (bsRun b (bsStep b (.emit (cnt + 1)) bsNext (fun _ _ => [])))
/-- BS_FETCH: background pages prepared since the last are offered to the reserve first (R294). -/
def execBsFetch (b : Fin 16) (pred : Fin 8) (s : State) : Out :=
  doneAll s ((fun s => seqE ((s.stp.bgReady.filter (·.2)).map (fun g => offerReserve g.1)) s)
    :: bsRun b (bsStep b .free bsNext (fun _ s => seqE ((lanes s b pred).map fetchLane) s)))
/-- BS_SEND. -/
def execBsSend (b : Fin 16) (pred : Fin 8) (s : State) : Out := doneAll s (bsRun b (bsSend b pred))
/-- BS_KSYM. -/
def execBsKsym (b : Fin 16) (pred : Fin 8) (imm : Fin 65536) (s : State) : Out := doneAll s (bsRun b (bsKsym b pred imm))
/-- BS_TURN. -/
def execBsTurn (b : Fin 16) (pred : Fin 8) (s : State) : Out := doneAll s (bsRun b (bsTurn b pred))
/-- BS_SETF. -/
def execBsSetf (b : Fin 16) (pred : Fin 8) (flag : Fin 8) (s : State) : Out := doneAll s (bsRun b (bsFlag b pred flag true))
/-- BS_CLRF. -/
def execBsClrf (b : Fin 16) (pred : Fin 8) (flag : Fin 8) (s : State) : Out := doneAll s (bsRun b (bsFlag b pred flag false))
/-- BS_JMP. -/
def execBsJmp (b : Fin 16) (a : Fin 4096) (s : State) : Out := doneAll s (bsRun b (bsStep b .free (fun _ => a) (fun _ _ => [])))
/-- BS_BR. -/
def execBsBr (b : Fin 16) (a : Fin 4096) (cond : Fin 16) (s : State) : Out := doneAll s (bsRun b (bsBr b a cond))
/-- BS_LDC. -/
def execBsLdc (b : Fin 16) (imm : BitVec 16) (s : State) : Out :=
  doneAll s (bsRun b (bsStep b .free bsNext (fun _ _ => [.bseq b (fun q => { q with counter := imm })])))
/-- BS_DJNZ. -/
def execBsDjnz (b : Fin 16) (a : Fin 4096) (s : State) : Out := doneAll s (bsRun b (bsDjnz b a))
/-- BS_WAITC. -/
def execBsWaitc (b : Fin 16) (cond : Fin 16) (s : State) : Out := doneAll s (bsRun b (bsWaitc b cond))
/-- BS_CALL. -/
def execBsCall (b : Fin 16) (a : Fin 4096) (s : State) : Out := doneAll s (bsRun b (bsCall b a))
/-- BS_RTN. -/
def execBsRtn (b : Fin 16) (s : State) : Out := doneAll s (bsRun b (bsRtn b))
/-- BS_EVT. -/
def execBsEvt (b : Fin 16) (imm : Fin 65536) (s : State) : Out := doneAll s (bsRun b (bsEvt b imm))
/-- BS_HALT. -/
def execBsHalt (b : Fin 16) (s : State) : Out := doneAll s (bsRun b (bsHalt b))
/-- BS_ILLEGAL_OP: an illegal opcode, or with `ecc` an uncorrectable microinstruction (R302). -/
def execBsIllegalOp (b : Fin 16) (ecc : Bool) (s : State) : Out :=
  doneAll s (bsRun b (seqFault b (if ecc then 2 else 1)))
/-- BS_STATUS_READ (R314). -/
def execBsStatusRead (a : Acc) (b : Fin 16) (s : State) : Out := 
  done s (gate a (Reg.BS_STATUS b) false true (fun _ => bsStatusRead b) s)
/-- BS_UDATA_HI_WRITE (R303). -/
def execBsUdataHiWrite (a : Acc) (b : Fin 16) (v : Word) (s : State) : Out := 
  done s (gate a (Reg.BS_UDATA_HI b) true false (fun u => udataHiWrite u b v) s)
/-- RETURN_WINDOW_DUE: BS_RET_IDLE passes since the port's last window (R286). -/
def execReturnWindowDue (p : Fin 1024) (s : State) : Out :=
  done s (if (port s p).up then
    [.clockTo ((port s p).lastWin + 1000 * rf s (Reg.BS_RET_IDLE (p / 64)) Fld.BS_RET_IDLE_US)] else [])
/-- MARK_EMIT (R269). -/
def execMarkEmit (b : Fin 16) (j : Fin 8) (s : State) : Out := done s (markEmit b j s)
/-- PORT_SUPPLY_FAULT (R265, R629). -/
def execPortSupplyFault (b : Fin 16) (s : State) : Out := doneAll s (portSupplyFault b)

end Sys2Proof.Machine
end

