-- ==== Sys2Proof/Machine/Drivers.lean ====
section
/-! DEFINITION. The lamp drivers at the far end of the lines: acceptance, page memory and reconciliation, marks, power, answers, diagnosis
codes, borrowed pulses and footlight sensors (the driver contract of 07_lamp_ports.md R308, 08_lamp_drive.md, 09_calibration.md R373
to R376, R389). -/

namespace Sys2Proof.Machine

/-! ## Reading a driver -/

/-- The key of a driver. -/
def drvKey (w : DrvAt) : Nat := 4096 * w.port + 256 * w.chain + w.driver
def drv (s : State) (k : Nat) : Driver := mapGet drvDflt s.drvs k

/-- Registers whose values the driver itself declares or measures (R309, R334, R376). -/
def drvFacts : List Nat := [0x0000, 0x0004, 0x0008, 0x000C, 0x0010, 0x0100, 0x0104, 0x0108, 0x0140, 0x014C, 0x0180, 0x0184]

/-- A driver register. -/
def dreg (s : State) (k a : Nat) : Nat :=
  if drvFacts.contains a then (Config.driverFact k a).toNat else (mapGet drvWord (drv s k).regs (a / 4)).toNat

/-- A driver register set. -/
def Driver.setReg (d : Driver) (a v : Nat) : Driver :=
  { d with
    regs := mapPut drvWord d.regs (a / 4) (BitVec.ofNat 32 v)
    inited := if a = 0x14 then setBit d.inited 0 true else if a = 0x18 then setBit d.inited 1 true
      else if a = 0x1C then setBit d.inited 2 true else if a = 0x20 then setBit d.inited 3 true else d.inited }

/-- Does the driver's POWER_CAP have a bit (R334)? -/
def powerCap (s : State) (k b : Nat) : Bool := bitsOf (dreg s k 0x140) b b == 1

/-- The lamp rail and the logic supply of a driver's chain. -/
def chainRail (s : State) (k : Nat) : Bool := mapGet falseFlag s.drive.rails (k / 256)
def chainOff (s : State) (k : Nat) : Bool := mapGet falseFlag s.drive.logics (k / 256)

/-- The STATE byte (R339). -/
def drvState (s : State) (k : Nat) : Nat :=
  let d := drv s k
  if d.fault then 5 else if d.holds then 4 else if d.lit then 3
  else if d.inited = 0xF then (if chainRail s k then 2 else 1) else 0

/-- Does the driver hold a lamp (R308)? -/
def holdsLamp (s : State) (k lamp : Nat) : Bool := decide (dreg s k 0x1C ≤ lamp ∧ lamp < dreg s k 0x1C + dreg s k 0x20)

/-- Is a page being shown (R321)? A driver with its outputs off shows none (log entry 32). -/
def showsPage (d : Driver) (page : Nat) : Bool := (d.lit || d.holds) && d.shown.contains page

/-! ## Acceptance (R276, R308) -/

/-- Does a driver act on a packet's addressing: its own chain or 15, its own number or 255 (R308)? -/
def addressed (w : DrvAt) (h : FwdHead) : Bool := (h.chain == 15 || h.chain.val == w.chain.val) && (h.driver == 255 || h.driver.val == w.driver.val)

/-- A discarded packet is counted in FWD_ERR (R308). -/
def discardPkt (s : State) (k : Nat) : List Act :=
  [.drv k (fun d => d.setReg 0x24 ((dreg s k 0x24 + 1) % 2 ^ 32))]

/-- A driver takes a packet: with its logic off or its line lost it does nothing; a packet in error, or whose LEN breaks R276, is
discarded; one that is not addressed to it is ignored. -/
def drvTake (w : DrvAt) (h : FwdHead) (lenOk : Bool) (f : Nat → Eff) : Eff := fun s =>
  let k := drvKey w
  if chainOff s k || !(drv s k).locked then []
  else if !h.ok || !lenOk then discardPkt s k
  else if !addressed w h then []
  else f k s

/-! ## Page memory (R276, R280, R320, R321) -/

/-- A PWM code written: the written flag is set, a stale mark removed. -/
def Driver.putP (d : Driver) (page lamp v : Nat) : Driver :=
  { d with
    pwm := mapPut zeroNat d.pwm (lampKey page lamp) v
    wroteP := mapPut falseFlag d.wroteP (lampKey page lamp) true
    staleP := mapPut zeroNat d.staleP (lampKey page lamp) 0 }

/-- A current code written. -/
def Driver.putC (d : Driver) (page lamp v : Nat) : Driver :=
  { d with
    code := mapPut zeroNat d.code (lampKey page lamp) v
    wroteC := mapPut falseFlag d.wroteC (lampKey page lamp) true
    staleC := mapPut zeroNat d.staleC (lampKey page lamp) 0 }

/-- Every field still marked stale is copied from the page it was marked from (R320). -/
def Driver.reconcile (d : Driver) : Driver :=
  { d with
    pwm := d.staleP.foldl (fun m q => mapPut zeroNat m q.1 (mapGet zeroNat d.pwm (lampKey (q.2 - 1) (q.1 % 65536)))) d.pwm
    code := d.staleC.foldl (fun m q => mapPut zeroNat m q.1 (mapGet zeroNat d.code (lampKey (q.2 - 1) (q.1 % 65536)))) d.code
    staleP := [], staleC := [] }

/-- Reconciliation is over once REC_TIME has passed since the mark (R320). -/
def settleDrv (k : Nat) : Eff := fun s =>
  if (drv s k).markAt + 1000 * dreg s k 0x104 ≤ now s then [.drv k Driver.reconcile] else []

/-- Writes of codes to a page, a list of (lamp, code): discarded and counted for a page being shown (R321), and limited to the
driver's own lamps (R308). -/
def writeCodes (pwm : Bool) (page : Nat) (l : List (Nat × Nat)) (k : Nat) : Eff := fun s =>
  if showsPage (drv s k) page then [.drv k (fun d => d.setReg 0x144 ((dreg s k 0x144 + 1) % 2 ^ 32))]
  else
    let own := l.filter (fun q => holdsLamp s k q.1)
    seqE [settleDrv k, fun _ => [.drv k (fun d => own.foldl (fun d q => if pwm then d.putP page q.1 q.2 else d.putC page q.1 q.2) d)]] s

/-- The codes of a sparse code packet (R276). -/
def sparseCodes (first : Nat) (bs : List Byte) : List (Nat × Nat) :=
  let n := leValue (bs.take 2)
  let v := unpackPart (List.replicate (2 * n) 0 ++ bs.drop 2) n (fun _ => 0)
  (v.mapIdx (fun i c => (first + i, c))).filterMap (fun q => if q.2.changed then some (q.1, q.2.cs) else none)

/-- Does the payload of a sparse code packet have the length that its bitmap gives? -/
def sparseLen (bs : List Byte) : Bool :=
  let n := leValue (bs.take 2)
  let ones := ((List.range n).filter (fun i => bitsOf ((bs.getD (2 + i / 8) 0).toNat) (i % 8) (i % 8) == 1)).length
  decide (2 ≤ bs.length) && bs.length == 2 + (n + 7) / 8 + ones && decide (bs.length ≤ 512)

/-- PAGE_COPY: each lamp of the runs, both codes, from the source page (R280). -/
def pageCopy (page : Nat) (bs : List Byte) (k : Nat) : Eff := fun s =>
  let w := fun i => leValue ((bs.drop (2 * i)).take 2)
  let src := (bs.getD 8 0).toNat
  if showsPage (drv s k) page then [.drv k (fun d => d.setReg 0x144 ((dreg s k 0x144 + 1) % 2 ^ 32))]
  else
    let lamps := ((List.range (w 3)).flatMap (fun c => (List.range (w 1)).map (fun i => w 0 + c * w 2 + i))).filter (holdsLamp s k)
    seqE [settleDrv k, fun _ => [.drv k (fun d => lamps.foldl (fun d x =>
      (d.putP page x (mapGet zeroNat d.pwm (lampKey src x))).putC page x (mapGet zeroNat d.code (lampKey src x))) d)]] s

/-- Registers written by consecutive words; scan registers wait for the CUR mark (R333). -/
def drvRegWrite (a : Nat) (bs : List Byte) (k : Nat) : Eff := fun _ =>
  (List.range (bs.length / 4)).map (fun i =>
    let v := leValue ((bs.drop (4 * i)).take 4)
    let x := a + 4 * i
    if 0x10C ≤ x ∧ x < 0x134 then .drv k (fun d => { d with writes := d.writes ++ [(x, BitVec.ofNat 32 v)] })
    else if drvFacts.contains x then .drv k id
    else .drv k (fun d => d.setReg x v))

/-! ## Requests and answers (R281, R308, R335, R336) -/

/-- A request is held until a turnaround names the driver. -/
def holdReq (typ tag : Nat) (bs : List Byte) (k : Nat) : Eff := fun _ =>
  [.drv k (fun d => { d with reqs := d.reqs ++ [⟨typ, tag, bs⟩] })]

/-- The lamps of a page-CRC read: runs of COUNT lamps from the ADDR lamp, line by line, to the end of the line before the next line
at which a region row begins, or to the end of the driver's range (R335). -/
def readLamps (s : State) (k first count : Nat) : List Nat :=
  let cfg := dreg s k 0x134
  let ll3 := cfg % 65536
  let ph := bitsOf cfg 19 16
  let stop := dreg s k 0x1C + dreg s k 0x20
  if ll3 = 0 then [] else
  let l0 := first / ll3
  let off := first % ll3
  let n := ((List.range 16).find? (fun i => 0 < i ∧ (l0 + i + 16 - ph) % 16 = 0)).getD 16
  ((List.range n).flatMap (fun i =>
    (if bitsOf cfg 20 20 = 1 then [0, 1, 2] else [0]).flatMap (fun r =>
      (List.range count).map (fun x => (l0 + i) * ll3 + off + r * (ll3 / 3) + x)))).filter (· < stop)

/-- The answer to a READ_REQ: registers, or a page CRC over the page as it stands (R281, R335). -/
def readAnswer (s : State) (k addr : Nat) (bs : List Byte) : List Byte :=
  let n := leValue ((bs.drop 2).take 2)
  let d := drv s k
  if bs.getD 0 0 = 0 then (List.range n).flatMap (fun i => leBytes 4 (dreg s k (addr + 4 * i)))
  else leBytes 4 (partCrc ((readLamps s k (addr % 65536) n).map (fun x =>
    ⟨mapGet zeroNat d.pwm (lampKey (addr / 65536) x), mapGet zeroNat d.code (lampKey (addr / 65536) x), false⟩))).toNat

/-- The STATUS payload (R282). -/
def statusBytes (s : State) (k : Nat) : List Byte :=
  let d := drv s k
  [d.flags.zeroExtend 8, BitVec.ofNat 8 d.lastCur] ++ leBytes 2 (dreg s k 0x24) ++ [BitVec.ofNat 8 (drvState s k), 0, 0, 0]

/-- A turnaround names the driver: it answers its oldest request, else with STATUS (R308). -/
def drvAnswer (w : DrvAt) (chain : Fin 16) (driver : Fin 256) : Eff := fun s =>
  let k := drvKey w
  if chainOff s k || !(drv s k).locked || chain.val != w.chain.val || driver.val != w.driver.val then [] else
  let up := fun (bs : List Byte) => Act.out (fun o => { o with ups := o.ups ++ [⟨w.port, now s + dreg s k 0xC, kSOP, bs⟩] })
  match (drv s k).reqs with
  | q :: _ => [up (retBytes q.typ w.chain w.driver q.tag q.bytes), .drv k (fun d => { d with reqs := d.reqs.drop 1 })]
  | [] => [up (retBytes pkSTATUS w.chain w.driver 0 (statusBytes s k)), .drv k (fun d => { d with flags := 0 })]

/-! ## Borrowed pulses (R328, R329, R361, R362) -/

/-- Segments of slot `j` of the schedule in effect: S_j, and LEN_j (R279, R328). -/
def slotSegs (s : State) (k j : Nat) : Nat × Nat :=
  let q := (drv s k).sched
  let n := leValue ((q.drop (2 + 7 * j + 1)).take 2)
  (n * (bitsOf (dreg s k 0x10C) 11 8 + 1), leValue ((q.drop (2 + 7 * j + 3)).take 4))

/-- The share of a PWM code in segment `i` of `n` (R329). -/
def segShare (p n i : Nat) : Nat := p * (i + 1) / n - p * i / n

/-- D = ceil(T_DET / t_g) in slot `j` (R328, R361). -/
def borrowLen (s : State) (k j : Nat) : Nat :=
  let q := slotSegs s k j
  let rows := bitsOf (dreg s k 0x10C) 5 0 + 1
  let dead := bitsOf (dreg s k 0x110) 9 0 + bitsOf (dreg s k 0x110) 25 16
  let nsr := q.1 * rows
  let g := (65535 + q.1 - 1) / max 1 q.1
  let win := q.2 - dead * nsr
  (dreg s k 0x138 * g * nsr + win - 1) / max 1 win

/-- The debts of a borrowing curtain (R361). -/
def borrowDebts (s : State) (k j : Nat) (d : Driver) : SMap (Nat × Nat) :=
  let page := d.shown.getD j 0xFF
  let n := max 1 (slotSegs s k j).1
  let len := borrowLen s k j
  (d.pwm.filter (fun q => q.1 / 65536 == page)).foldl (fun m q =>
    let delta := len - q.2 / n
    let key := lampKey j (q.1 % 65536)
    if 0 < q.2 ∧ 0 < delta ∧ delta ≤ q.2 ∧ (mapGet noDebt m key).1 = 0 then
      mapPut noDebt m key (delta * mapGet zeroNat d.code q.1, 0) else m) d.debts

/-- One curtain's repayment of a debt: r = min(p, floor(e / c)); what is left, or a drop (R362). -/
def repay (p c : Nat) (e : Nat × Nat) : (Nat × Nat) × Bool :=
  let r := if c = 0 then 0 else min p (e.1 / c)
  let e' := e.1 - r * c
  if e' = 0 then ((0, 0), false)
  else if (e' < c ∧ 1 ≤ p) ∨ 8 ≤ e.2 + 1 then ((0, 0), true)
  else ((e', e.2 + 1), false)

/-- Every debt is repaid in part in the curtain that begins; drops are counted in BORROW_DROP (R334, R362). -/
def Driver.repayAll (d : Driver) : Driver :=
  let z := d.debts.foldl (fun (q : SMap (Nat × Nat) × Nat) x =>
    let page := d.shown.getD (x.1 / 65536) 0xFF
    let r := repay (mapGet zeroNat d.pwm (lampKey page (x.1 % 65536))) (mapGet zeroNat d.code (lampKey page (x.1 % 65536))) x.2
    (mapPut noDebt q.1 x.1 r.1, q.2 + if r.2 then 1 else 0)) (d.debts, 0)
  { d with debts := z.1, regs := mapPut drvWord d.regs 0x52 (mapGet drvWord d.regs 0x52 + BitVec.ofNat 32 z.2) }

/-- Every debt is dropped and counted (R362). -/
def Driver.dropDebts (d : Driver) : Driver :=
  { d with debts := [], borrow := none, regs := mapPut drvWord d.regs 0x52 (mapGet drvWord d.regs 0x52 + BitVec.ofNat 32 d.debts.length) }

/-! ## Marks (R308, R320, R333, R337, R348) -/

/-- The stale marks that a switch of a slot from page `a` to page `b` sets, and the written flags of `a` cleared (R320). -/
def Driver.switchPage (d : Driver) (a b : Nat) : Driver :=
  if a = b then d else
  let of := fun (m : SMap Bool) => m.filter (fun q => q.1 / 65536 == b)
  { d with
    staleP := (of d.wroteP).foldl (fun m q => mapPut zeroNat m (lampKey a (q.1 % 65536)) (b + 1)) d.staleP
    staleC := (of d.wroteC).foldl (fun m q => mapPut zeroNat m (lampKey a (q.1 % 65536)) (b + 1)) d.staleC
    wroteP := d.wroteP.filter (fun q => q.1 / 65536 != a)
    wroteC := d.wroteC.filter (fun q => q.1 / 65536 != a) }

/-- A POWER argument that acts at a mark (R337): LIGHT_ON needs the rail, LIGHT_OFF and HOLD drop every debt. -/
def Driver.power1 (d : Driver) (rail : Bool) (a : Nat) : Driver :=
  match a with
  | 2 => { d with lit := rail && d.inited == 0xF && !d.fault }
  | 3 => { d.dropDebts with lit := false }
  | 5 => { d.dropDebts with holds := d.lit }
  | _ => d

/-- A CUR mark (R308): with a valid CURTAIN packet of its number the driver switches to its PAGE_MAP; without one it keeps its pages and
sets MISSED_CURTAIN. -/
def curMark (w : DrvAt) (sym : Byte) : Eff := fun s =>
  let k := drvKey w
  if chainOff s k || !(drv s k).locked then [] else
  let d0 := (drv s k).reconcile
  let base := fun (d : Driver) => { d with
    slot := 0, markAt := now s, writes := [], curs := []
    armLive := if d0.arm.any (fun q => q.1 == sym.toNat) then some sym.toNat else none
    arm := if d0.arm.any (fun q => q.1 == sym.toNat) then none else d0.arm
    taken := (match d0.armLive with
      | some c => (List.range 4).foldl (fun (l : List (Nat × Nat)) x => if l.any (fun q => q.1 == x) then l else l ++ [(x, c)]) d0.taken
      | none => d0.taken)
    flat := none }
  let d1 := d0.writes.foldl (fun (d : Driver) q => d.setReg q.1 q.2.toNat) (base d0)
  let d2 := if d0.flat = some sym.toNat then
      { d1 with taken := (List.range 4).foldl (fun (l : List (Nat × Nat)) x => if l.any (fun q => q.1 == x) then l else l ++ [(x, sym.toNat)]) d1.taken }
    else d1
  match d0.curs.find? (fun q => q.1 % 256 == sym.toNat) with
  | none => [.drv k (fun _ => { d2 with flags := setBit d2.flags 0 true, lent := false }.repayAll)]
  | some c =>
    let n := (c.2.getD 4 0).toNat
    let map := ((c.2.drop 6).take n).map (·.toNat)
    let d3 := ((d0.shown.zip map)).foldl (fun (d : Driver) q => d.switchPage q.1 q.2) d2
    let d4 := { d3 with
      shown := map, dark := (c.2.getD 5 0).getLsbD 0, lastCur := sym.toNat
      sched := if d0.schedNext.isEmpty then d0.sched else d0.schedNext
      schedNext := [], lit := d0.lit || d0.holds, holds := false, power := [] }
    let d5 := (d0.power.foldl (fun d a => d.power1 (chainRail s k) a) d4).repayAll
    let lend := d5.borrow.any (fun q => q.2 == sym.toNat) && !d5.holds
    [.drv k (fun _ => { d5 with lent := lend, borrow := none }),
     .drv k (fun d => if lend then { d with debts := borrowDebts (applyAct s (.drv k (fun _ => d5))) k ((d5.borrow.map (·.1)).getD 0) d } else d)]

/-- A slot strobe (R308): a strobe whose number does not follow sets MISSED_STROBE. -/
def stbMark (w : DrvAt) (sym : Byte) : Eff := fun s =>
  let k := drvKey w
  if chainOff s k || !(drv s k).locked then [] else
  [.drv k (fun d => { d with slot := sym.toNat, flags := if sym.toNat = d.slot + 1 then d.flags else setBit d.flags 1 true })]

/-! ## Power and the line (R337, R338, R346, R347) -/

/-- A chain's drivers that State lists. -/
def chainDrivers (s : State) (k : Nat) : List Nat := (s.drvs.filter (fun q => q.1 / 256 == k / 256)).map (·.1)

/-- LOGIC_OFF: a capable driver switches its chain's logic supply off; the chain's drivers lose their state (R337, R338). -/
def logicOff (k : Nat) : Eff := fun s =>
  if powerCap s k 1 then
    .drive (fun q => { q with logics := mapPut falseFlag q.logics (k / 256) true })
      :: (chainDrivers s k).map (fun x => .drv x (fun d => { drvDflt x with locked := d.locked, lostAt := d.lostAt }))
  else []

/-- RAIL_ON and RAIL_OFF (R337): without its rail a driver's outputs are off. -/
def railSwitch (v : Bool) (k : Nat) : Eff := fun s =>
  if powerCap s k 0 then
    .drive (fun q => { q with rails := mapPut falseFlag q.rails (k / 256) v })
      :: (if v then [] else (chainDrivers s k).map (fun x => .drv x (fun d => { d with lit := false, holds := false })))
  else []

/-- LIGHT_ON, LIGHT_OFF and HOLD wait for the next mark (R337). -/
def powerAtMark (a k : Nat) : Eff := fun _ => [.drv k (fun d => { d with power := d.power ++ [a] })]

/-- A POWER packet: SERVICE code 1 with its argument (R336). -/
def powerPkt (w : DrvAt) (h : FwdHead) (f : Nat → Eff) : Eff := drvTake w h true f

/-- Symbol lock is lost (R282, R347). -/
def lockLoss (w : DrvAt) : Eff := fun s =>
  let k := drvKey w
  if (drv s k).locked then [.drv k (fun d => { d with locked := false, lostAt := some (now s), flags := setBit d.flags 2 true })] else []

/-- Lock is gained; after at least 1 ms without transitions a line detector switches the logic supply on again (R308, R338). -/
def lockGain (w : DrvAt) : Eff := fun s =>
  let k := drvKey w
  let quiet := match (drv s k).lostAt with | some t => decide (t + 1000000 ≤ now s) | none => false
  [.drv k (fun d => { d with locked := true, lostAt := none })]
  ++ (if chainOff s k && powerCap s k 1 && quiet then [.drive (fun q => { q with logics := mapPut falseFlag q.logics (k / 256) false })] else [])

/-- LINE_LOSS_HOLD has passed since lock was lost without HOLD: outputs off, STATE 2 (R347). -/
def lineLossHold (w : DrvAt) : Eff := fun s =>
  let k := drvKey w
  match (drv s k).lostAt with
  | some t => if (drv s k).lit && !(drv s k).holds then
      [.clockTo (t + 1000000 * dreg s k 0x13C), .drv k (fun d => { d with lit := false })] else []
  | none => []

/-! ## Diagnosis and sensors (R336, R354, R375, R389) -/

/-- A diagnosis code after a test: 1 sound, 2 open, 3 shorted; 0 no test (R354). -/
def diagAfter (code test : Nat) : Nat :=
  match test with
  | 1 => if code = 0 then 1 else code
  | 2 => if code = 3 then 3 else 2
  | 3 => 3
  | _ => code

/-- Two bits per lamp for 64 lamps (R336). -/
def packTwo (l : List Nat) : List Byte :=
  (List.range 16).map (fun i => BitVec.ofNat 8 (l.getD (4 * i) 0 % 4 + 4 * (l.getD (4 * i + 1) 0 % 4) + 16 * (l.getD (4 * i + 2) 0 % 4) + 64 * (l.getD (4 * i + 3) 0 % 4)))

/-- DIAG_READ: the codes of 64 lamps, after the tests of the time since the last read, are returned and set to 0 (R354). -/
def diagRead (first : Nat) (tests : List Nat) (k : Nat) : Eff := fun s =>
  let codes := (List.range 64).map (fun i => if holdsLamp s k (first + i) then diagAfter (mapGet zeroNat (drv s k).diag (first + i)) (tests.getD i 0) else 0)
  [.drv k (fun d => { d with diag := mapDrop d.diag first 64, reqs := d.reqs ++ [⟨pkSERVICE_DATA, 0, packTwo codes⟩] })]

/-- VF_READ: the last classes are returned and set to 0 (R389). -/
def vfRead (first : Nat) (classes : List Nat) (k : Nat) : Eff := fun s =>
  let l := (List.range 64).map (fun i =>
    if !holdsLamp s k (first + i) then 0 else if classes.getD i 0 = 0 then mapGet zeroNat (drv s k).vf (first + i) else classes.getD i 0 % 4)
  [.drv k (fun d => { d with vf := mapDrop d.vf first 64, reqs := d.reqs ++ [⟨pkSERVICE_DATA, 0, packTwo l⟩] })]

/-- FL_READ: a sensor's reading, once (R373, R375). `counts` are dark r, g, b and lit r, g, b. -/
def flRead (sensor : Nat) (sat fault : Bool) (counts : List Nat) (k : Nat) : Eff := fun s =>
  match (drv s k).taken.find? (fun q => q.1 == sensor) with
  | some q =>
    [.drv k (fun d => { d with
      taken := d.taken.filter (fun x => x.1 != sensor)
      reqs := d.reqs ++ [⟨pkSERVICE_DATA, 0, [BitVec.ofNat 8 q.2, BitVec.ofNat 8 ((if sat then 1 else 0) + if fault then 2 else 0)]
        ++ (List.range 6).flatMap (fun i => leBytes 2 (counts.getD i 0)) ++ [0, 0]⟩] })]
  | none => [.drv k (fun d => { d with reqs := d.reqs ++ [⟨pkSERVICE_DATA, 0, [0, 4] ++ List.replicate 14 0⟩] })]

/-- CAL_FLAT is taken only 600 us before the mark that it names (R374). -/
def calFlat (cur8 : Nat) (k : Nat) : Eff := fun s =>
  if s.cur.running && decide ((rf s Reg.CUR_NUM Fld.CUR_NUM_NUM + 1) % 256 = cur8) && decide (now s + 600000 ≤ s.cur.next) then
    [.drv k (fun d => { d with flat := some cur8 })]
  else []

/-! ## The commands -/

/-- PAGE_WRITE (R276): LEN even. -/
def execPageWrite (w : DrvAt) (h : FwdHead) (addr : Fin 16777216) (bs : List Byte) (s : State) : Out :=
  done s (drvTake w h (bs.length % 2 == 0 && decide (bs.length ≤ 512))
    (writeCodes true (addr / 65536) ((List.range (bs.length / 2)).map (fun i => (addr.val % 65536 + i, leValue ((bs.drop (2 * i)).take 2))))) s)
/-- CODE_DENSE (R276). -/
def execCodeDense (w : DrvAt) (h : FwdHead) (addr : Fin 16777216) (bs : List Byte) (s : State) : Out :=
  done s (drvTake w h (decide (bs.length ≤ 512))
    (writeCodes false (addr / 65536) (bs.mapIdx (fun i b => (addr.val % 65536 + i, b.toNat)))) s)
/-- CODE_SPARSE (R276). -/
def execCodeSparse (w : DrvAt) (h : FwdHead) (addr : Fin 16777216) (bs : List Byte) (s : State) : Out :=
  done s (drvTake w h (sparseLen bs) (writeCodes false (addr / 65536) (sparseCodes (addr.val % 65536) bs)) s)
/-- PAGE_COPY (R280). -/
def execPageCopy (w : DrvAt) (h : FwdHead) (addr : Fin 16777216) (bs : List Byte) (s : State) : Out :=
  done s (drvTake w h (bs.length == 10) (pageCopy (addr / 65536) bs) s)
/-- REG_WRITE (R276): 4 to 64 bytes of whole registers. -/
def execRegWrite (w : DrvAt) (h : FwdHead) (addr : Fin 16777216) (bs : List Byte) (s : State) : Out :=
  done s (drvTake w h (decide (4 ≤ bs.length ∧ bs.length ≤ 64) && bs.length % 4 == 0) (drvRegWrite addr bs) s)
/-- READ_REQ (R281). -/
def execReadReq (w : DrvAt) (h : FwdHead) (addr : Fin 16777216) (bs : List Byte) (s : State) : Out :=
  done s (drvTake w h (bs.length == 4) (fun k => fun s =>
    seqE [settleDrv k, fun s => holdReq pkREAD_DATA (bs.getD 1 0).toNat (readAnswer s k addr bs) k s] s) s)
/-- CURTAIN (R278). -/
def execCurtain (w : DrvAt) (h : FwdHead) (bs : List Byte) (s : State) : Out :=
  done s (drvTake w h (bs.length == 16) (fun k => fun _ =>
    [.drv k (fun d => { d with curs := d.curs ++ [(leValue (bs.take 4), bs)] })]) s)
/-- SLOT_SCHED (R279). -/
def execSlotSched (w : DrvAt) (h : FwdHead) (bs : List Byte) (s : State) : Out :=
  done s (drvTake w h (bs.length == 2 + 7 * (bs.getD 0 0).toNat) (fun k => fun _ => [.drv k (fun d => { d with schedNext := bs })]) s)
/-- ECHO (R276): the tag is answered in a later window. -/
def execEcho (w : DrvAt) (h : FwdHead) (tag : Byte) (s : State) : Out :=
  done s (drvTake w h true (holdReq pkECHO_REPLY tag.toNat []) s)
/-- CUR_MARK (R308). -/
def execCurMark (w : DrvAt) (sym : Byte) (s : State) : Out := done s (curMark w sym s)
/-- STB_MARK (R308). -/
def execStbMark (w : DrvAt) (sym : Byte) (s : State) : Out := done s (stbMark w sym s)
/-- TA (R308). -/
def execTa (w : DrvAt) (chain : Fin 16) (driver : Fin 256) (s : State) : Out := done s (drvAnswer w chain driver s)
/-- ABT (R268, R308): the packet in progress, where there is one, is discarded. -/
def execAbt (w : DrvAt) (busy : Bool) (s : State) : Out :=
  done s (if chainOff s (drvKey w) || !(drv s (drvKey w)).locked || !busy then [] else discardPkt s (drvKey w))
/-- POWER LOGIC_OFF (R337). -/
def execPowerLogicOff (w : DrvAt) (h : FwdHead) (s : State) : Out := done s (powerPkt w h logicOff s)
/-- POWER RAIL_ON (R337). -/
def execPowerRailOn (w : DrvAt) (h : FwdHead) (s : State) : Out := done s (powerPkt w h (railSwitch true) s)
/-- POWER LIGHT_ON (R337). -/
def execPowerLightOn (w : DrvAt) (h : FwdHead) (s : State) : Out := done s (powerPkt w h (powerAtMark 2) s)
/-- POWER LIGHT_OFF (R337). -/
def execPowerLightOff (w : DrvAt) (h : FwdHead) (s : State) : Out := done s (powerPkt w h (powerAtMark 3) s)
/-- POWER RAIL_OFF (R337). -/
def execPowerRailOff (w : DrvAt) (h : FwdHead) (s : State) : Out := done s (powerPkt w h (railSwitch false) s)
/-- POWER HOLD (R337, R346). -/
def execPowerHold (w : DrvAt) (h : FwdHead) (s : State) : Out := done s (powerPkt w h (powerAtMark 5) s)
/-- DIAG_READ (R354): the first lamp is a multiple of 64. -/
def execDiagRead (w : DrvAt) (h : FwdHead) (first : Fin 65536) (tests : List (Fin 4)) (s : State) : Out :=
  done s (drvTake w h true (diagRead (first / 64 * 64) (tests.map (·.val))) s)
/-- BORROW (R361): a driver in HOLD borrows nothing (R346). -/
def execBorrow (w : DrvAt) (h : FwdHead) (slot cur8 : Byte) (s : State) : Out :=
  done s (drvTake w h true (fun k => fun s => if (drv s k).holds then [] else [.drv k (fun d => { d with borrow := some (slot.toNat, cur8.toNat) })]) s)
/-- RAIL_READ (R336): the rail voltage and RAIL_FAULT as sensed. -/
def execRailRead (w : DrvAt) (h : FwdHead) (mv : Fin 65536) (bad : Bool) (s : State) : Out :=
  done s (drvTake w h true (fun k => fun _ =>
    [.drv k (fun d => { d with fault := bad, lit := d.lit && !bad, reqs := d.reqs ++ [⟨pkSERVICE_DATA, 0, leBytes 2 mv ++ [if bad then 1 else 0, 0]⟩] })]) s)
/-- CAL_FLAT (R374). -/
def execCalFlat (w : DrvAt) (h : FwdHead) (cur8 : Byte) (s : State) : Out := done s (drvTake w h true (calFlat cur8.toNat) s)
/-- FL_ARM (R375). -/
def execFlArm (w : DrvAt) (h : FwdHead) (cur8 slot : Byte) (s : State) : Out :=
  done s (drvTake w h true (fun k => fun _ => [.drv k (fun d => { d with arm := some (cur8.toNat, slot.toNat) })]) s)
/-- FL_READ (R375). -/
def execFlRead (w : DrvAt) (h : FwdHead) (sensor : Fin 4) (sat bad : Bool) (counts : List Nat) (s : State) : Out :=
  done s (drvTake w h true (flRead sensor sat bad counts) s)
/-- VF_READ (R389). -/
def execVfRead (w : DrvAt) (h : FwdHead) (first : Fin 65536) (classes : List (Fin 4)) (s : State) : Out :=
  done s (drvTake w h true (vfRead (first / 64 * 64) (classes.map (·.val))) s)
/-- DRIVER_LINE_LOSS_HOLD (R347). -/
def execDriverLineLossHold (w : DrvAt) (s : State) : Out := done s (lineLossHold w s)
/-- DRIVER_LOCK_LOSS (R347). -/
def execDriverLockLoss (w : DrvAt) (s : State) : Out := done s (lockLoss w s)
/-- DRIVER_LOCK_GAIN (R308). -/
def execDriverLockGain (w : DrvAt) (s : State) : Out := done s (lockGain w s)

end Sys2Proof.Machine
end

