-- ==== Sys2Proof/Machine/Drive.lean ====
section
/-! DEFINITION. Lamp drive on Roura's side: return packets, deskew, the tile power sequence with INIT and CLEAR, readback and scrubbing,
live lamp states and their defect lists, what the interval sends, and the commit checks (08_lamp_drive.md; R271 to R273, R282 to R285, R304,
R305 of 07_lamp_ports.md). -/

namespace Sys2Proof.Machine

/-! ## Reading the drive -/

def tilePwr (s : State) (t : Nat) : TilePwr := mapGet tileDflt s.tiles t
def farOf (s : State) (k : Nat) : FarEnd := mapGet farDflt s.far k
def freg (s : State) (k a : Nat) : Nat := (mapGet zeroWord (farOf s k).regs (a / 4)).toNat

/-- Power states of a tile (R340, R368). -/
def tpLOGIC_OFF : Nat := 0
def tpLOGIC_ON : Nat := 1
def tpINIT : Nat := 2
def tpCLEAR : Nat := 3
def tpRAIL_ON : Nat := 4
def tpLIGHT_ON : Nat := 5
def tpLIGHT_OFF : Nat := 6
def tpRAIL_OFF : Nat := 7
def tpFAULT : Nat := 8
def tileState (s : State) (t : Nat) : Nat := rf s (Reg.TD_POWER t) Fld.TD_POWER_STATE
def tileTarget (s : State) (t : Nat) : Nat := rf s (Reg.TD_POWER t) Fld.TD_POWER_TARGET

/-- An event of a tile, with tile, port, chain and driver (R369). -/
def tileEvent (s : State) (b t p c d : Nat) : List Act :=
  eventNow s 7 b (withT0 (ownerOf s 3 t)) (0x500 + t) (arg [(16, t), (16, p), (16, c), (16, d)])

/-- A tile enters a power state (R340). -/
def toState (t st : Nat) : Eff := fun s =>
  if tileState s t = st then [] else
  [.fld (Reg.TD_POWER t) Fld.TD_POWER_STATE st,
   .tile t (fun q => { q with phase := 0, again := if st = tpLIGHT_ON then q.again else [], met := q.met && q.again.isEmpty })]
  ++ tileEvent s 0 t (tilePort0 (rd s) t) 0 0

/-- The drivers found on a port of a tile, in ascending chain number and driver number (R327). -/
def portDrivers (s : State) (t p : Nat) : List Nat :=
  (List.range 15).flatMap (fun c => ((tilePwr s t).chains.filter (fun q => q.1 == 16 * p + c)).flatMap (fun q =>
    (List.range (min 255 q.2)).map (fun d => 4096 * p + 256 * c + d)))

/-- Does a port of a list hold a request of house firmware of some kind, queued, in a buffer or unanswered? -/
def awaits (s : State) (ps : List Nat) (f : ReqWhy → Bool) : Bool :=
  ps.any (fun p => (port s p).house.any (fun q => f q.why) || (port s p).sent.any (fun q => f q.why)
    || (port s p).bufs.any (fun b => match b.req with | some q => f q.why | none => false))

def isInitRead : ReqWhy → Bool
  | .echo => true
  | .regs => true
  | _ => false
def isInitWrite : ReqWhy → Bool
  | .initWrite => true
  | _ => false
def isClear : ReqWhy → Bool
  | .clear .. => true
  | _ => false
def isDiag : ReqWhy → Bool
  | .diag _ => true
  | .vf _ => true
  | _ => false
def isRead : ReqWhy → Bool
  | .part .. => true
  | .scrub .. => true
  | _ => false

/-- Requests of house firmware join a port's queue. -/
def queueHouse (p : Nat) (l : List Req) : Act := .port p (fun q => { q with house := q.house ++ l })

/-! ## POWER (R336, R340) -/

/-- A POWER packet to every driver of a port: SERVICE code 1. -/
def powerOut (a : Nat) : Pkt := toAll pkSERVICE 1 [BitVec.ofNat 8 a]

/-- POWER is queued on every port of a tile; the tile waits until the last has been sent. -/
def sendPower (t a : Nat) : Eff := fun s =>
  (tilePortList (rd s) t).map (fun p => queueHouse p [⟨powerOut a, false, 0, .rail t, 0, 0⟩])
  ++ [.tile t (fun q => { q with railAt := none, railDone := false })]

/-- The tile is taken off: LOGIC_OFF is sent (R340, R343). -/
def goOff (t : Nat) : Eff := seqE [sendPower t 0, fun _ => [.tile t (fun q => { q with phase := 9 })]]

/-- A tile enters FAULT: LIGHT_OFF and RAIL_OFF are sent at once, and what INIT and CLEAR had queued is dropped (R342). -/
def tileFault (t cause : Nat) : Eff := fun s =>
  if tileState s t = tpFAULT ∨ tileState s t = tpLOGIC_OFF then [] else
  seqE [toState t tpFAULT] s
  ++ [.fld (Reg.TD_POWER t) Fld.TD_POWER_CAUSE cause, .tile t (fun q => { q with light := none })]
  ++ (tilePortList (rd s) t).map (fun p => .port p (fun q => { q with
      house := [⟨powerOut 3, false, 0, .plain, 0, 0⟩, ⟨powerOut 4, false, 0, .plain, 0, 0⟩]
        ++ q.house.filter (fun x => !(isInitRead x.why || isInitWrite x.why || isClear x.why))
      parts := q.parts.filter (fun j => j.kind != 2) }))
  ++ tileEvent s 1 t (tilePort0 (rd s) t) 0 0

/-! ## INIT (R271 to R273, R309, R327, R334, R340) -/

/-- The register reads of INIT: first register and count (R309, R334, R376). -/
def initReads : List (Nat × Nat) := [(0, 4), (0x10, 1), (0x24, 1), (0x100, 3), (0x140, 1), (0x144, 2), (0x14C, 1), (0x180, 2)]

/-- A request to one driver. -/
def drvReq (s : State) (k typ addr : Nat) (payload : List Byte) (reply : Bool) (why : ReqWhy) : Req :=
  let _ := s
  ⟨⟨typ, k / 256 % 16, k % 256, addr, payload⟩, reply, 0, why, 0, 0⟩

/-- The tag of a port's next requests; never 0. -/
def newTag (s : State) (p : Nat) : Nat := 1 + (rd s (Reg.PORT_TX_PKTS (p / 64) (p % 64))).toNat % 255

/-- INIT begins on some ports of a tile: 16 round trips and the register reads of every driver. -/
def startInit (t : Nat) (ps : List Nat) : Eff := fun s =>
  ps.flatMap (fun p => (portDrivers s t p).flatMap (fun k =>
    [.far k (fun f => { f with rtts := [] }),
     queueHouse p (List.replicate 16 (drvReq s k pkECHO 0 [BitVec.ofNat 8 (newTag s p)] true .echo)
       ++ initReads.map (fun a => drvReq s k pkREAD_REQ a.1 (readPayload 0 (newTag s p) a.2) true .regs))]))
  ++ [.tile t (fun q => { q with waitFrom := now s })]

/-- A mean of measurements rounded to the nanosecond. -/
def meanRtt (l : List Nat) : Nat := (divRound (l.foldl (· + ·) 0 : Nat) (max 1 l.length : Nat)).toNat

/-- Half of a mean round trip less the turnaround, rounded (R271, R272). -/
def halfTrip (s : State) (k : Nat) : Int :=
  let l := (farOf s k).rtts
  let n : Nat := max 1 l.length
  divRound (((l.foldl (· + ·) 0 : Nat) : Int) - ((n * freg s k 0xC : Nat) : Int)) ((2 * n : Nat) : Int)

/-- The deskew of a port from the round trips of its drivers: d_p and A_p of the first, and U_i of every driver (R271, R272). -/
def linkDelay (s : State) (ks : List Nat) : Int := halfTrip s (ks.headD 0)
def advanceOf (s : State) (ks : List Nat) : Int := linkDelay s ks + (freg s (ks.headD 0) 8 : Nat)
def upstreamOf (s : State) (ks : List Nat) (k : Nat) : Int := if k = ks.headD 0 then 0 else halfTrip s k - linkDelay s ks

/-- Does a measurement give a usable advance (R273)? -/
def deskewOk (s : State) (ks : List Nat) : Bool :=
  !ks.isEmpty && decide (0 ≤ advanceOf s ks ∧ advanceOf s ks ≤ 1023)
    && ks.all (fun k => decide (upstreamOf s ks k ≤ (freg s (k / 256 * 256) 8 : Nat)))

/-- The least RET_WIN for a round trip (R285). -/
def retWinMin (r : Rd) (b rtt : Nat) : Nat :=
  let t := symTime r b
  3 + (rtt * t.2 + t.1 - 1) / max 1 t.1 + 232

/-- A_p is set: at once where the port has none, else at the next curtain edge (R78, R273). -/
def setAdvance (s : State) (p a : Nat) : List Act :=
  if (port s p).hasAdv then [.port p (fun q => { q with advNext := some a })]
  else [.fld (Reg.PORT_ADV (p / 64) (p % 64)) Fld.PORT_ADV_ADV a, .fld (Reg.PORT_ADV (p / 64) (p % 64)) Fld.PORT_ADV_TXD (1023 - a),
        .port p (fun q => { q with hasAdv := true })]

/-- The deskew of a port: PORT_RTT, PORT_LDRV and A_p; out of range, DESKEW_RANGE, and a port without an A_p stays OFF (R273); a
RET_WIN too short raises DESKEW_RANGE, and at LOAD its bank stays OFF (R285). -/
def deskewPort (t p : Nat) : Eff := fun s =>
  let ks := portDrivers s t p
  let k0 := ks.headD 0
  let far := (ks.map (fun k => meanRtt (farOf s k).rtts)).foldl max 0
  let a := Reg.PORT_RTT (p / 64) (p % 64)
  (if deskewOk s ks then
    [.reg a (putF (putF 0 Fld.PORT_RTT_T_TA (freg s k0 0xC)) Fld.PORT_RTT_RTT (meanRtt (farOf s k0).rtts)),
     .reg (Reg.PORT_LDRV (p / 64) (p % 64)) (putF (putF 0 Fld.PORT_LDRV_RTT_MAX far) Fld.PORT_LDRV_L_DRV (freg s k0 8))]
    ++ setAdvance s p (advanceOf s ks).toNat
   else portEvent s 3 p (k0 / 256 % 16) (k0 % 256)
    ++ (if (port s p).hasAdv then [] else
        [.port p (fun q => { q with up := false }), .fld (Reg.PORT_STATE (p / 64) (p % 64)) Fld.PORT_STATE_STATE psOFF]))
  ++ (if retWin (rd s) (p / 64) < retWinMin (rd s) (p / 64) far then
        portEvent s 3 p (k0 / 256 % 16) (k0 % 256) ++ (if mode s = mLOAD then stopBank (p / 64) s else [])
      else [])

/-- The largest boundary line B with L < B <= M that is a multiple of ROWS and the start of a region row (R327). -/
def lineBreak (rows off l : Nat) : Nat → Option Nat
  | 0 => none
  | b + 1 => if b + 1 ≤ l then none
    else if (b + 1) % max 1 rows = 0 ∧ (off + (b + 1)) % 16 = 0 then some (b + 1) else lineBreak rows off l b

/-- The port lines of each driver of port `k` of a tile, from its lamp capacity in CAPS (R327): none where they cannot be assigned. -/
def assignLines (s : State) (t k : Nat) : List Nat → Nat → Option (List (Nat × Nat))
  | [], l => if l = portLamps (rd s) t k / max 1 (3 * lineLen (rd s) t) then some [] else none
  | d :: ds, l =>
    let ll3 := max 1 (3 * lineLen (rd s) t)
    let np := portLamps (rd s) t k / ll3
    let rows := rf s (Reg.SP_CTRL (rf s (Reg.TD_SCAN t) Fld.TD_SCAN_SCAN_PLAN)) Fld.SP_CTRL_ROWS_M1 + 1
    if np ≤ l then (assignLines s t k ds l).map (fun q => (0, 0) :: q)
    else
      let m := l + bitsOf (freg s d 4) 23 12 * 256 / ll3
      if np ≤ m then (assignLines s t k ds np).map (fun q => (l, np) :: q)
      else match lineBreak rows (k * tileLines (rd s) t) l m with
        | some b => (assignLines s t k ds b).map (fun q => (l, b) :: q)
        | none => none

/-- The slot of a scan plan under a reader: LEN, N * SUBS * ROWS, dead time and G (R328). -/
structure ScanSlot where
  len : Nat
  rows : Nat
  dead : Nat
  g : Nat
  deriving DecidableEq, Repr

/-- The scan of slot `j` of tile `t` in the shortest curtain of the rate. -/
def scanSlot (r : Rd) (t j : Nat) : ScanSlot :=
  let sp := rrf r (Reg.TD_SCAN t) Fld.TD_SCAN_SCAN_PLAN
  let rate := rrf r Reg.CUR_RATE Fld.CUR_RATE_RATE
  let n := refreshes r rate (periodFloor rate) t j
  let segs := n * (rrf r (Reg.SP_CTRL sp) Fld.SP_CTRL_SUBS_M1 + 1)
  ⟨slotLen r rate (periodFloor rate) j, segs * (rrf r (Reg.SP_CTRL sp) Fld.SP_CTRL_ROWS_M1 + 1),
   rrf r (Reg.SP_TIMING sp) Fld.SP_TIMING_BLANK + rrf r (Reg.SP_TIMING sp) Fld.SP_TIMING_PC_TIME, (65535 + segs - 1) / max 1 segs⟩

/-- T_win is less than half of T_row (R332). -/
def winShort (q : ScanSlot) : Bool := decide (2 * (q.len - q.dead * q.rows) < q.len)

/-- t_g is less than a number of picoseconds (R332). -/
def greyShort (q : ScanSlot) (tgMin : Nat) : Bool := decide ((q.len - q.dead * q.rows) * 1000 < tgMin * q.g * q.rows)

/-- A slot of the tile is too fast for some driver's TG_MIN (R332). -/
def greyBad (s : State) (r : Rd) (t : Nat) : Bool :=
  (tilePortList r t).any (fun p => (portDrivers s t p).any (fun k =>
    (List.range (slotCount r)).any (fun j => greyShort (scanSlot r t j) (freg s k 0x108))))

/-- The 13 words of the drive block from SCAN_CTRL to LINE_LOSS_HOLD for port `k` of a tile (R334). -/
def driveBlock (r : Rd) (t k : Nat) : List Byte :=
  let sp := rrf r (Reg.TD_SCAN t) Fld.TD_SCAN_SCAN_PLAN
  let ph := (16 - k * tileLines r t % 16) % 16
  ([(r (Reg.SP_CTRL sp)).toNat, (r (Reg.SP_TIMING sp)).toNat] ++ (List.range 8).map (fun w => (r (Reg.SP_PC sp w)).toNat)
    ++ [3 * lineLen r t + 65536 * ph + 2 ^ 20 * rrf r (Reg.TD_CTRL t) Fld.TD_CTRL_LAMP_GROUP, rrf r (Reg.TD_DIAG t) Fld.TD_DIAG_T_DET,
        rrf r (Reg.TD_HOLD t) Fld.TD_HOLD_LINE_LOSS_HOLD]).flatMap (leBytes 4)

/-- The calibration record of a tile (R370). -/
def recAddr (r : Rd) (t : Nat) : Nat := (r (Reg.TC_REC_LO t)).toNat + 2 ^ 32 * rrf r (Reg.TC_REC_HI t) Fld.TC_REC_HI_ADDR_HI

/-- The writes of INIT to one driver with its lines: the standard block, the drive block, and the forward-voltage bands (R309, R327,
R334, R376). -/
def initWrites (s : State) (t p : Nat) (ks : List Nat) (k : Nat) (l : Nat × Nat) : List Req :=
  let ll3 := 3 * lineLen (rd s) t
  let w := fun (a : Nat) (bs : List Byte) => drvReq s k pkREG_WRITE a bs false .initWrite
  [w 0x14 ([(upstreamOf s ks k).toNat, retWin (rd s) (p / 64), ll3 * l.1, ll3 * (l.2 - l.1)].flatMap (leBytes 4)),
   w 0x10C (driveBlock (rd s) t (p - tilePort0 (rd s) t))]
  ++ (if rf s (Reg.TC_CTRL t) Fld.TC_CTRL_SENSORS = 0 then [] else [w 0x188 (dramBytes s (recAddr (rd s) t + 0x14) 12)])

/-- The reads of INIT have been answered on some ports: deskew, PAGES and REC_TIME, the faults of R318, R327 and R332, and the
writes. `next` is the phase that follows. -/
def initDone (t : Nat) (ps : List Nat) (next : Nat) : Eff := fun s =>
  if ps.any (fun p => (portDrivers s t p).isEmpty) then [] else
  seqE [
    fun s => seqE (ps.map (deskewPort t)) s,
    fun s =>
      let all := (tilePortList (rd s) t).flatMap (portDrivers s t)
      let pages := (all.map (fun k => freg s k 0x100 % 32)).foldl min 31
      [.fld (Reg.TD_PAGES t) Fld.TD_PAGES_PAGES pages,
       .fld (Reg.TD_PAGES t) Fld.TD_PAGES_REC_TIME ((all.map (fun k => freg s k 0x104)).foldl max 0)],
    fun s =>
      if ps.any (fun p => !(port s p).hasAdv) then []
      else if rf s (Reg.TD_PAGES t) Fld.TD_PAGES_PAGES / 3 < slotCount (rd s) then tileFault t 3 s
      else if greyBad s (rd s) t || ps.any (fun p => (assignLines s t (p - tilePort0 (rd s) t) (portDrivers s t p) 0).isNone) then tileFault t 5 s
      else ps.flatMap (fun p =>
          let ks := portDrivers s t p
          let ls := (assignLines s t (p - tilePort0 (rd s) t) ks 0).getD []
          queueHouse p ((ks.zip ls).flatMap (fun q => initWrites s t p ks q.1 q.2))
            :: (ks.zip ls).map (fun q => .far q.1 (fun f => { f with line0 := q.2.1, line1 := q.2.2 })))
        ++ [.tile t (fun q => { q with phase := next })]] s

/-! ## CLEAR (R341) -/

/-- The pages that CLEAR writes: page 0, the other working pages, the reserve pages (R317). -/
def clearPages (r : Rd) : List Nat := List.range (2 * slotCount r) ++ (List.range (slotCount r)).map (16 + ·)

/-- CLEAR's writes to a port: PWM 0 and current code 1 in page 0, copied to every other page. -/
def clearJob (s : State) (t p : Nat) : PartJob :=
  let r := rd s
  let n := portLamps r t (p - tilePort0 r t)
  let ll3 := 3 * lineLen r t
  let w : List Work := [.pwm 0 0 (List.replicate n 0), .code 0 0 (List.replicate n (1, true))]
    ++ ((clearPages r).drop 1).map (fun g => .raw (toAll pkPAGE_COPY (65536 * g) (copyPayload 0 ll3 ll3 (n / max 1 ll3) 0)))
  ⟨2, 0, 0, t, 0, false, 0, false, false, 0, w, w⟩

/-- CLEAR begins on some ports. -/
def startClear (t : Nat) (ps : List Nat) : Eff := fun s =>
  ps.map (fun p => .port p (fun q => { q with parts := q.parts.filter (fun j => j.kind != 2) ++ [clearJob s t p] }))
  ++ [.tile t (fun q => { q with waitFrom := now s })]

/-- Are CLEAR's writes still to be sent? -/
def clearWrites (s : State) (ps : List Nat) : Bool :=
  ps.any (fun p => (port s p).parts.any (fun j => j.kind == 2)
    || (port s p).bufs.any (fun b => match b.ends with | some j => j.kind == 2 | none => false))

/-- The CRC of lamps at p = 0 and c_s = 1 (R341). -/
def clearedCrc (n : Nat) : Word := partCrc (List.replicate n ⟨0, 1, false⟩)

/-- Regions of a tile as (index, global index). -/
def tileRegions (r : Rd) (t : Nat) : List (Nat × Nat) := (List.range (regX r t * regY r t)).map (fun i => (i, regionBase r t + i))

/-- CLEAR's read of a part on a page, the `bad`-th after a mismatch (R341, R342). -/
def clearRead (s : State) (t i k page bad : Nat) : Req :=
  { partRead s t i k page (.clear (regionBase (rd s) t + i) page bad) (clearedCrc (partLamps (rd s) t i k).length) with after := 0 }

/-- Every part on every page is read back. -/
def readClear (t : Nat) (ps : List Nat) : Eff := fun s =>
  ps.map (fun p => queueHouse p ((tileRegions (rd s) t).flatMap (fun g =>
    if (regionPorts (rd s) t g.1).contains (p - tilePort0 (rd s) t) then
      (clearPages (rd s)).map (fun pg => clearRead s t g.1 (p - tilePort0 (rd s) t) pg 0)
    else [])))
  ++ [.tile t (fun q => { q with waitFrom := now s })]

/-- CLEAR is met on some ports: the CRC store of their parts, and for a whole tile the held plane and `met`; the held bits of the
regions are cleared (R341, R344). -/
def clearMet (t : Nat) (ps : List Nat) (whole : Bool) : Eff := fun s =>
  let r := rd s
  let regs := (tileRegions r t).filter (fun g => (regionPorts r t g.1).any (fun k => ps.contains (tilePort0 r t + k)))
  let lamps := fun (g : Nat × Nat) => (regionPixels r t g.1).length * 3
  let keys := regs.flatMap (fun g => (regionPorts r t g.1).flatMap (fun k =>
    if ps.contains (tilePort0 r t + k) then (List.range (slotCount r)).map (fun j => (crcKey g.2 j k, clearedCrc (lamps g))) else []))
  [.stp (fun q => { q with crc := keys.foldl (fun m x => mapPut crcDflt m x.1 (some x.2)) q.crc })]
  ++ ps.map (fun p => .port p (fun q => { q with
      sentP := [], sentC := []
      resCrc := regs.foldl (fun m g => (List.range (slotCount r)).foldl (fun m j => mapPut falseFlag m (8 * g.2 + j) true) m) q.resCrc }))
  ++ (if whole then regs.map (fun g => .sram (heldAddr r t g.1) (List.replicate (lamps g) 1)) else [])
  ++ seqE (regs.map (fun g => fun s => setHeld s g.2 false)) s
  ++ [.tile t (fun q => { q with met := q.met || whole })]

/-! ## The power sequence (R340 to R344) -/

/-- Does driver 0 of every chain of the tile report a STATE since the wait ended (R284, R340)? -/
def reports (s : State) (t st : Nat) : Bool :=
  let q := tilePwr s t
  q.railDone && (q.chains.filter (fun c => 0 < c.2)).all (fun c =>
    let f := farOf s (256 * c.1)
    f.state == some st && decide (q.waitFrom ≤ f.stateAt))

/-- The step of a port that is brought up alone (R344). -/
def advanceAlone (t p : Nat) : Eff := fun s =>
  let ph := fun (n : Nat) => [Act.tile t (fun q => { q with phase := n })]
  match (tilePwr s t).phase with
  | 0 => seqE [startInit t [p]] s ++ ph 1
  | 1 => if awaits s [p] isInitRead then [] else initDone t [p] 2 s
  | 2 => if awaits s [p] isInitWrite then [] else startClear t [p] s ++ ph 3
  | 3 => if clearWrites s [p] then [] else readClear t [p] s ++ ph 4
  | _ => if awaits s [p] isClear then [] else
    clearMet t [p] false s
    ++ [.port p (fun q => { q with ivl := q.ivl ++ [powerOut 2] }), .tile t (fun q => { q with phase := 0, again := q.again.drop 1 })]

/-- One step of a tile towards its TARGET (R340, R343). `found`: the drivers on the tile's ports, as (16 * port + chain, number). -/
def advanceTile (t : Nat) (found : List (Nat × Nat)) : Eff := fun s =>
  let q := tilePwr s t
  let ps := tilePortList (rd s) t
  let tgt := tileTarget s t
  let ph := fun (n : Nat) => [Act.tile t (fun x => { x with phase := n })]
  if !tileOn (rd s) t then [] else
  if q.phase = 9 then
    (if q.railAt.isSome then
      seqE [toState t tpLOGIC_OFF, fun _ => [.tile t (fun x => { x with met := false, railOn := false, light := none, lightSent := none }),
        .fld (Reg.TD_POWER t) Fld.TD_POWER_CAUSE 0]] s
     else [])
  else match tileState s t with
  | 0 =>
    if tgt = 0 ∨ ps.any (fun p => portState s p != psALIVE) then [] else
    seqE [toState t tpLOGIC_ON, toState t tpINIT,
      fun _ => [.tile t (fun x => { x with chains := found.filter (fun c => ps.contains (c.1 / 16)) })], startInit t ps] s
  | 2 =>
    if q.phase = 0 then (if awaits s ps isInitRead then [] else initDone t ps 1 s)
    else if awaits s ps isInitWrite then []
    else if tgt = 0 ∧ !q.railOn then goOff t s
    else seqE [toState t tpCLEAR, startClear t ps] s
  | 3 =>
    (match q.phase with
     | 0 => if clearWrites s ps then [] else readClear t ps s ++ ph 1
     | 1 => if awaits s ps isClear then [] else clearMet t ps true s ++ ph 2
     | 2 => if tgt = 0 then (if q.railOn then sendPower t 4 s ++ ph 5 else goOff t s)
            else sendPower t 1 s ++ [.tile t (fun x => { x with railOn := true, phase := 3 })]
     | 3 => if reports s t 2 then toState t tpRAIL_ON s else []
     | _ => if reports s t 1 then toState t tpRAIL_OFF s else [])
  | 4 =>
    if q.phase = 5 then (if reports s t 1 then toState t tpRAIL_OFF s else [])
    else if tgt = 0 then sendPower t 4 s ++ ph 5
    else if tgt = 2 then
      (if q.met then (if q.light.isNone && q.lightSent.isNone then [.tile t (fun x => { x with light := some 2 })] else [])
       else seqE [toState t tpINIT, startInit t ps] s)
    else []
  | 5 =>
    if tgt < 2 then (if q.light.isNone && q.lightSent.isNone then [.tile t (fun x => { x with light := some 3 })] else [])
    else match q.again with
      | p :: _ => advanceAlone t p s
      | [] => []
  | 6 =>
    if q.phase = 5 then (if reports s t 1 then toState t tpRAIL_OFF s else [])
    else if tgt = 0 then sendPower t 4 s ++ ph 5 else toState t tpRAIL_ON s
  | 7 => goOff t s
  | 8 => if tgt = 0 then goOff t s else []
  | _ => []

/-- RAIL_SETTLE or RAIL_DISCHARGE elapses since POWER was sent (R340). -/
def railElapsed (t : Nat) (on : Bool) : Eff := fun s =>
  let q := tilePwr s t
  let ms := rf s (Reg.TD_RAIL t) (if on then Fld.TD_RAIL_SETTLE else Fld.TD_RAIL_DISCHARGE)
  match q.railAt with
  | some a =>
    if !q.railDone && q.phase == (if on then 3 else 5) then
      [.clockTo (a + 1000000 * ms), .tile t (fun x => { x with railDone := true, waitFrom := max (now s) (a + 1000000 * ms) })]
    else []
  | none => []

/-- Does the tile's state wait for a driver report (R342)? -/
def waitsReport (s : State) (t : Nat) : Bool :=
  let q := tilePwr s t
  match tileState s t with
  | 2 => true
  | 3 => q.phase == 1 || (q.phase == 3 || q.phase == 5) && q.railDone
  | 4 => q.phase == 5 && q.railDone
  | 5 => q.phase == 1 || q.phase == 2 || q.phase == 4
  | 6 => q.phase == 5 && q.railDone
  | _ => false

/-- More than 2 s without a report: FAULT with TIMEOUT (R342). -/
def reportTimeout (t : Nat) : List Eff := [
  fun s => if waitsReport s t then [.clockTo ((tilePwr s t).waitFrom + 2000000001)] else [],
  fun s => if waitsReport s t then tileFault t 4 s else []]

/-- The line of a SILENT port of a tile in LOGIC_OFF is held for 2 ms and started; the attempt is repeated after 2 s, with DRIVER_SILENT
again (R338). -/
def logicLineRestart (p : Nat) : List Eff := [
  fun s => match portTile (rd s) p with
    | some t =>
      if tileState s t = tpLOGIC_OFF ∧ 0 < tileTarget s t ∧ portState s p = psSILENT ∧ bsState s (p / 64) ≠ bsOFF then
        (match (port s p).restartAt with
         | some a => [.clockTo (a + 2000000000)] ++ portEvent (applyAct s (.clockTo (a + 2000000000))) 0 p 0 0
         | none => [])
        ++ [.port p (fun q => { q with restartAt := some (max (now s) (match q.restartAt with | some a => a + 2000000000 | none => 0)), up := false })]
      else []
    | none => [],
  fun s => match (port s p).restartAt with
    | some a => if !(port s p).up && decide (now s ≤ a) then [.clockTo (a + 2000000), startPort p (a + 2000000)] else []
    | none => []]

/-! ## Return packets (R282, R284, R304, R305) -/

/-- A request goes back to the head of its queue. -/
def sendAgain (p : Nat) (r : Req) : Eff := fun s =>
  match r.why with
  | .txn .. => seqE [fun _ => [.port p (fun q => { q with txns := { r with tries := r.tries + 1 } :: q.txns })], queuedReg p] s
  | _ => [.port p (fun q => { q with house := { r with tries := r.tries + 1 } :: q.house })]

/-- The request that a window's responder answers: the oldest that is out to it (R284). -/
def asked (s : State) (h : RetHead) : Option Req :=
  (port s h.port).sent.find? (fun q => q.pkt.chain == h.chain.val && q.pkt.driver == h.driver.val)

/-- The request is no longer outstanding. -/
def answered (h : RetHead) : Act :=
  .port h.port (fun q => { q with sent := q.sent.eraseP (fun r => r.pkt.chain == h.chain.val && r.pkt.driver == h.driver.val) })

/-- A return packet in its window: one in error counts, and a request whose answer it was is sent again at most twice (R304, R305); a
valid one ends the misses and makes the port ALIVE. Packets outside a window, or of another driver, are not heard. -/
def retTake (h : RetHead) (f : Eff) : Eff := fun s =>
  let p := h.port.val
  let st := Reg.PORT_STATE (p / 64) (p % 64)
  if (port s p).window ≠ some (h.chain.val, h.driver.val) then []
  else if !h.ok then
    [.inc (Reg.PORT_RET_CRC (p / 64) (p % 64)) Fld.PORT_RET_CRC_COUNT 1, .port p (fun q => { q with window := none })]
    ++ (match asked s h with
        | some r => answered h :: (if r.tries < 2 then sendAgain p r s else reqFails r stCRC_MISMATCH s)
        | none => [])
  else
    [.inc (Reg.PORT_RET_OK (p / 64) (p % 64)) Fld.PORT_RET_OK_COUNT 1, .port p (fun q => { q with window := none }),
     .fld st Fld.PORT_STATE_MISSES 0, .fld st Fld.PORT_STATE_STATE psALIVE]
    ++ (if portState s p = psSILENT then portEvent s 1 p h.chain h.driver else [])
    ++ (match portTile (rd s) p with
        | some t => if tileState s t = tpINIT ∨ (tileState s t = tpCLEAR ∧ (tilePwr s t).phase < 3) ∨ tileState s t = tpLIGHT_ON then
            [.tile t (fun q => { q with waitFrom := now s })] else []
        | none => [])
    ++ seqE [f] s

/-- The key of the driver that answers. -/
def retKey (h : RetHead) : Nat := 4096 * h.port.val + 256 * h.chain.val + h.driver.val

/-- A driver's region parts: the (region index, global index, port of the tile) that it holds. -/
def driverParts (s : State) (t p k : Nat) : List (Nat × Nat) :=
  (tileRegions (rd s) t).filter (fun g =>
    (regionPorts (rd s) t g.1).contains (p - tilePort0 (rd s) t) &&
    lineDriver s p (partLines (rd s) t g.1 (p - tilePort0 (rd s) t)).1.1 == (k / 256 % 16, k % 256))

/-- MISSED_CURTAIN: the CRC store is UNKNOWN for every part the driver holds and the held bits are cleared (R321). -/
def missedCurtain (t p k : Nat) : Eff := fun s =>
  let l := driverParts s t p k
  [.stp (fun q => { q with crc := l.foldl (fun m g => (List.range 8).foldl (fun m j => mapPut crcDflt m (crcKey g.2 j (p - tilePort0 (rd s) t)) none) m) q.crc })]
  ++ seqE (l.map (fun g => fun s => setHeld s g.2 false)) s
  ++ tileEvent s 4 t p (k / 256 % 16) (k % 256)

/-- STATUS (R282, R315, R321, R342, R344). -/
def statusTake (h : RetHead) (flags : Nat) (fwdErr state : Nat) : Eff := fun s =>
  let p := h.port.val
  let k := retKey h
  let errs := mapPut zeroNat (port s p).fwdErr (256 * h.chain.val + h.driver.val) fwdErr
  [.far k (fun f => { f with state := some state, stateAt := now s }), .port p (fun q => { q with fwdErr := errs }),
   .fld (Reg.PORT_FWD_ERR (p / 64) (p % 64)) Fld.PORT_FWD_ERR_COUNT ((errs.map (·.2)).foldl (· + ·) 0)]
  ++ (match portTile (rd s) p with
      | none => []
      | some t =>
        (if bitsOf flags 0 0 = 1 then missedCurtain t p k s else [])
        ++ (if state = 5 then tileFault t 2 s
            else if state ≤ 1 ∧ tileState s t = tpLIGHT_ON then
              (if (tilePwr s t).again.contains p then [] else
                tileEvent s 5 t p h.chain h.driver ++ [.tile t (fun q => { q with again := q.again ++ [p] })])
            else if state = 0 ∧ tileState s t ≠ tpCLEAR then [.tile t (fun q => { q with met := false })]
            else []))

/-- ECHO_REPLY: one round trip (R271). -/
def echoTake (h : RetHead) (rtt : Nat) : Eff := fun s =>
  match asked s h with
  | some r => if r.pkt.typ = pkECHO then [answered h, .far (retKey h) (fun f => { f with rtts := f.rtts ++ [rtt] })] else []
  | none => []

/-! ## Readback (R349 to R352) -/

/-- A read that mismatched counts towards RB_LIMIT; at the limit CRC_MISMATCH is raised, and with FAULT_DARK the tile faults (R351). -/
def countMismatch (t p k : Nat) : Eff := fun s =>
  let n := (farOf s k).misses + 1
  let c := k / 256 % 16
  let d := k % 256
  [.far k (fun f => { f with misses := n }), .inc (Reg.TD_RB_MISMATCH t) Fld.TD_RB_MISMATCH_COUNT 1]
  ++ (if max 1 (rf s Reg.DRV_CTRL Fld.DRV_CTRL_RB_LIMIT) ≤ n then
        tileEvent s 2 t p c d
        ++ logStatus s (0x500 + t) 7 stCRC_MISMATCH (withT0 (ownerOf s 3 t)) (arg [(16, t), (16, p), (16, c), (16, d)])
        ++ (if rf s (Reg.TD_POWER t) Fld.TD_POWER_FAULT_DARK = 1 then tileFault t 0 s else [])
      else [])

/-- The CRC store of a region and slot becomes UNKNOWN (R350). -/
def storeUnknown (g j : Nat) : Act := .stp (fun q => { q with crc := (List.range 16).foldl (fun m k => mapPut crcDflt m (crcKey g j k) none) q.crc })

/-- A mismatch of a pushed part: sent again where it is still in the page ring before X, else UNKNOWN; the held bit is cleared (R350). -/
def partMismatch (p g j : Nat) : Eff := fun s =>
  (match (port s p).kept.find? (fun x => x.region == g && x.slot == j), s.cur.decided with
   | some job, false =>
     [.port p (fun q => { q with
       kept := q.kept.filter (fun x => !(x.region == g && x.slot == j))
       parts := q.parts.filter (·.rescue) ++ [{ job with begun := false }] ++ q.parts.filter (fun x => !x.rescue) })]
   | _, _ => [storeUnknown g j])
  ++ setHeld s g false

/-- A page CRC answered (R341, R342, R350, R352). -/
def crcTake (h : RetHead) (r : Req) (bs : List Byte) : Eff := fun s =>
  let p := h.port.val
  let k := retKey h
  let good := leValue (bs.take 4) == r.exp.toNat
  match portTile (rd s) p, r.why with
  | some t, .clear g page bad =>
    if good then [] else
    if 2 ≤ bad then tileFault t 1 s
    else [queueHouse p [clearRead s t (g - regionBase (rd s) t) (p - tilePort0 (rd s) t) page (bad + 1)]]
  | some t, .part g j =>
    if good then [.far k (fun f => { f with misses := 0 })] else seqE [partMismatch p g j, countMismatch t p k] s
  | some t, .scrub g j =>
    if good then [.far k (fun f => { f with misses := 0 })]
    else seqE [fun s => storeUnknown g j :: setHeld s g false, countMismatch t p k] s
  | _, _ => []

/-- Registers answered: kept (R309, R334), or the result of a tenant's transaction (R306). -/
def regsTake (h : RetHead) (r : Req) (bs : List Byte) : Eff := fun s =>
  let keep := [Act.far (retKey h) (fun f => { f with
    regs := mapPuts zeroWord f.regs (r.pkt.addr / 4) ((List.range (bs.length / 4)).map (fun i => BitVec.ofNat 32 (leValue ((bs.drop (4 * i)).take 4)))) })]
  match r.why with
  | .txn t _ _ c => complete t c stOK (leValue (bs.take 8)) s
  | _ => keep

/-- Is the part of a region and slot on port `k` of its tile already sent for the coming curtain? -/
def partMoved (s : State) (g j k : Nat) : Bool := s.stp.tickets.any (fun q => q.region == g && q.parts.contains (j, k))

/-- The next part of a port that scrubbing reads: ascending region and slot, UNKNOWN ones left out (R349, R352). -/
def scrubParts (s : State) (t p : Nat) : List (Nat × Nat × Nat) :=
  let k := p - tilePort0 (rd s) t
  (tileRegions (rd s) t).flatMap (fun g =>
    if (regionPorts (rd s) t g.1).contains k then
      (pageSlots (rd s)).filterMap (fun j =>
        if (mapGet crcDflt s.stp.crc (crcKey g.2 j k)).isSome && !partMoved s g.2 j k then some (g.1, g.2, j) else none)
    else [])

/-- A port with no read queued reads back a shown part (R352). -/
def scrub (p : Nat) : Eff := fun s =>
  match portTile (rd s) p with
  | none => []
  | some t =>
    let l := scrubParts s t p
    let k := p - tilePort0 (rd s) t
    if rf s Reg.DRV_CTRL Fld.DRV_CTRL_SCRUB = 0 || awaits s [p] isRead || portClearing s p || l.isEmpty then [] else
    match l[(port s p).scrub % l.length]? with
    | some (i, g, j) =>
      [.port p (fun q => { q with
         scrub := (q.scrub + 1) % l.length
         house := q.house ++ [{ partRead s t i k (pageOf s (rf s Reg.CUR_NUM Fld.CUR_NUM_NUM) j) (.scrub g j) (partSentCrc s t i k j) with after := 0 }] })]
    | none => []

/-! ## Live lamp states (R353 to R358, R389) -/

/-- The address of a lamp's live state. -/
def liveAddr (s : State) (p lamp : Nat) : Nat :=
  65536 * rf s Reg.DRV_STATE_LO Fld.DRV_STATE_LO_ADDR_LO + 2 ^ 32 * rf s Reg.DRV_STATE_HI Fld.DRV_STATE_HI_ADDR_HI + 2 * (65536 * p + lamp)

/-- The pixel and colour of lamp `lamp` of port `k` of a tile: the inverse of R130. -/
def lampPixel (r : Rd) (t k lamp : Nat) : Nat × Nat × Nat :=
  let ln := max 1 (lineLen r t)
  let w := lamp % (3 * ln)
  let cp := if rrf r (Reg.TD_CTRL t) Fld.TD_CTRL_LAMP_GROUP = 0 then (w % 3, w / 3) else (w / ln, w % ln)
  let colour := ((List.range 3).find? (fun c => colourPos (rrf r (Reg.TD_CTRL t) Fld.TD_CTRL_LAMP_ORDER) c == cp.1)).getD 0
  let line := k * tileLines r t + lamp / (3 * ln)
  let uv := if orderBit r t 2 then (line, cp.2) else (cp.2, line)
  (if orderBit r t 0 then tileW r t - 1 - uv.1 else uv.1, if orderBit r t 1 then tileH r t - 1 - uv.2 else uv.2, colour)

/-- The global region of a lamp. -/
def lampRegion (r : Rd) (t p lamp : Nat) : Nat :=
  let q := lampPixel r t (p - tilePort0 r t) lamp
  regionBase r t + q.2.1 / 16 * regX r t + q.1 / 64

/-- A live-state word after a diagnosis code (R355), and a forward-voltage class where VF_EN is 1 (R389). -/
def liveNext (confirm code : Nat) (cls : Option Nat) (w : Nat) : Nat :=
  let st := w / 8192
  let conf := w / 2048 % 4
  let age := w % 2048
  let toward := fun (target : Nat) => if max 1 confirm ≤ conf + 1 then 8192 * target else 8192 * st + 2048 * (conf + 1)
  match code with
  | 0 => 8192 * (if st = 1 then 0 else st) + min 2047 (age + 1)
  | 1 =>
    if st = 0 then 8192
    else if st = 1 then
      (match cls with
       | some c => if c = 2 ∨ c = 3 then toward 4 else if c = 0 then 8192 + 2048 * conf else 8192
       | none => 8192)
    else if st = 4 then
      (match cls with
       | some c => if c = 1 then toward 1 else if c = 0 then 4 * 8192 + 2048 * conf else 4 * 8192
       | none => 4 * 8192)
    else toward 1
  | c => if st = c then 8192 * st else toward c

/-- The code that the defect lists carry for a live state: 1 OPEN, 2 SHORT, 3 WEAK, or 0 (R357). -/
def listCode (st : Nat) : Nat := if st = 2 then 1 else if st = 3 then 2 else if st = 4 then 3 else 0

/-- OPEN and SHORT are kept in the lamp-state summary (R353, R506). -/
def inSummary (st : Nat) : Bool := st == 2 || st == 3

/-- The entries of a lamp-state summary as DRV_STATE holds them, in ascending port and lamp (R506). -/
def summaryEntries (s : State) : List Nat :=
  let base := addr36 s Reg.DRV_STATE_LO Reg.DRV_STATE_HI
  s.dram.filterMap (fun e =>
    let o := e.1 - base
    if base ≤ e.1 ∧ o < 0x8000000 ∧ o % 2 = 1 ∧ inSummary (e.2.toNat / 32) then
      some (o / 2 % 65536 + 65536 * (o / 131072) + 2 ^ 26 * (e.2.toNat / 32))
    else none)

/-- The Caddy address of a half of the lamp-state summary area (R502). -/
def summaryAt (h : Nat) : Nat := 0x80000 + 0x40000 * h

/-- SEQ of a half whose CRC holds over its COUNT entries (R506). -/
def summarySeq (s : State) (h : Nat) : Option Nat :=
  let b := caddyRead s (summaryAt h) 16
  let n := leValue ((b.drop 4).take 4)
  if n ≤ 65532 ∧ (crc32 (caddyRead s (summaryAt h + 16) (4 * n))).toNat = leValue (b.drop 12) then some (leValue (b.take 4)) else none

/-- The valid half with the higher SEQ. -/
def summaryNewest (s : State) : Option (Nat × Nat) :=
  match summarySeq s 0, summarySeq s 1 with
  | some a, some b => if a < b then some (1, b) else some (0, a)
  | some a, none => some (0, a)
  | none, some b => some (1, b)
  | none, none => none

/-- Bytes cut into PROGRAM operations of at most a page, the last filled up to a codeword with erased bytes (R501). -/
def programOps (t0 : Nat) : Nat → Nat → List Byte → List CadOp
  | 0, _, _ => []
  | fuel + 1, a, bs =>
    if bs = [] then [] else
    let n := 256 - a % 256
    let q := bs.take n
    ⟨true, 1, a, q ++ List.replicate ((16 - q.length % 16) % 16) 0xFF, .plain, t0⟩ :: programOps t0 fuel (a + n) (bs.drop n)

/-- House firmware writes a new summary into the half with the lower SEQ: its 64 sectors are erased, the entries written, the header
last (R506). -/
def writeSummary : Eff := fun s =>
  let all := summaryEntries s
  let es := (all.take 65532).flatMap (leBytes 4)
  let h := match summaryNewest s with | some q => 1 - q.1 | none => 0
  let seq := match summaryNewest s with | some q => q.2 + 1 | none => 1
  let hdr := leBytes 4 seq ++ leBytes 4 (es.length / 4) ++ leBytes 4 (if 65532 < all.length then 1 else 0) ++ leBytes 4 (crc32 es).toNat
  let ops : List CadOp := (List.range 64).map (fun k => ⟨true, 2, summaryAt h + 4096 * k, [], .plain, now s⟩)
    ++ programOps (now s) 1025 (summaryAt h + 16) es ++ [⟨true, 1, summaryAt h, hdr, .plain, now s⟩]
  [.cad (fun c => { c with house := c.house ++ ops }),
   .drive (fun d => { d with sumDue := false })]

/-- At LOAD every lamp is UNOBSERVED with AGE 0, and OPEN and SHORT states come back from the summary (R353, R506). -/
def restoreLive : Eff := seqE [
  fun s => [.dramDrop (addr36 s Reg.DRV_STATE_LO Reg.DRV_STATE_HI) 0x8000000],
  fun s => match summaryNewest s with
    | none => []
    | some q =>
      let b := caddyRead s (summaryAt q.1 + 4) 4
      (List.range (leValue b)).flatMap (fun k =>
        let e := leValue (caddyRead s (summaryAt q.1 + 16 + 4 * k) 4)
        if inSummary (bitsOf e 28 26) then
          dramStore s (liveAddr s (bitsOf e 25 16) (bitsOf e 15 0)) (leBytes 2 (8192 * bitsOf e 28 26))
          ++ (match portTile (rd s) (bitsOf e 25 16) with
              | some t => [.drive (fun d => { d with lists := d.lists ++ [lampRegion (rd s) t (bitsOf e 25 16) (bitsOf e 15 0)] })]
              | none => [])
        else [])]

/-- A lamp's live-state word is written; a change of what the defect lists carry marks the region (R358). -/
def setLive (t p lamp w : Nat) : Eff := fun s =>
  let a := liveAddr s p lamp
  let old := leValue (dramBytes s a 2)
  dramStore s a (leBytes 2 w)
  ++ (if listCode (old / 8192) = listCode (w / 8192) then [] else
      [.drive (fun d => { d with lists := if d.lists.contains (lampRegion (rd s) t p lamp) then d.lists else d.lists ++ [lampRegion (rd s) t p lamp] })])
  ++ (if old / 8192 ≠ w / 8192 ∧ (inSummary (old / 8192) ∨ inSummary (w / 8192)) then [.drive (fun d => { d with sumDue := true })] else [])

/-- The codes of a chunk of 64 lamps, answered by a driver, applied to the lamps that it holds (R355, R389). -/
def diagTake (h : RetHead) (first : Nat) (bs : List Byte) : Eff := fun s =>
  let p := h.port.val
  match portTile (rd s) p with
  | none => []
  | some t =>
    let f := farOf s (retKey h)
    let ll3 := 3 * lineLen (rd s) t
    let two := fun (i : Nat) => bitsOf ((bs.getD (i / 4) 0).toNat) (2 * (i % 4) + 1) (2 * (i % 4))
    let vf := rf s (Reg.TC_CTRL t) Fld.TC_CTRL_VF_EN == 1
    let one := fun (i : Nat) => fun (s : State) =>
      let lamp := first + i
      if f.line0 * ll3 ≤ lamp ∧ lamp < f.line1 * ll3 then
        let old := leValue (dramBytes s (liveAddr s p lamp) 2)
        let w := liveNext (rf s Reg.DRV_CTRL Fld.DRV_CTRL_CONFIRM) (two i) (if vf then some (f.classes.getD i 0) else none) old
        setLive t p lamp w s ++ (if w / 8192 = old / 8192 then [] else [.tile t (fun q => { q with changed := true })])
      else []
    seqE ((List.range 64).map one) s

/-- A region's defect list from the live states: 2 bytes a lamp (R357). -/
def defectList (s : State) (t i : Nat) : List Byte :=
  ((regionPixels (rd s) t i).zipIdx).flatMap (fun q => [0, 1, 2].flatMap (fun c =>
    let l := lampIndex (rd s) t q.1.1 q.1.2 c
    let code := listCode (leValue (dramBytes s (liveAddr s (tilePort0 (rd s) t + l.1) l.2) 2) / 8192)
    if code = 0 then [] else leBytes 2 (3 * q.2 + c + 4096 * code)))

/-- At commit close house firmware writes the changed lists at new addresses and their index entries; the regions are ticketed at the
edge (R357, R358). -/
def writeLists : Eff := fun s =>
  seqE (s.drive.lists.map (fun g => fun s =>
    match tileOf (rd s) g with
    | none => []
    | some (t, i) =>
      let l := defectList s t i
      let a := Config.listPlace s.free g % 2 ^ 33
      let n := l.length / 2
      let ix := 4096 * rf s Reg.DRV_DEFECT_LO Fld.DRV_DEFECT_LO_ADDR_LO + 2 ^ 32 * rf s Reg.DRV_DEFECT_HI Fld.DRV_DEFECT_HI_ADDR_HI
      (if n = 0 then [] else dramStore s (8 * a) l)
      ++ dramStore s (ix + 8 * g) (leBytes 8 (if n = 0 then 0 else 8 * a + 2 ^ 40 * n))
      ++ [.draw, .stp (fun q => { q with nextCauses := { q.nextCauses with regions := q.nextCauses.regions ++ [g] } })])) s
  ++ [.drive (fun d => { d with lists := [] })]

/-- Lamps of a tile in each live state and the oldest AGE of an UNOBSERVED one (R368). -/
def liveCounts (s : State) (t : Nat) : List Nat × Nat :=
  let ws := (tilePortList (rd s) t).flatMap (fun p => (List.range (portLamps (rd s) t (p - tilePort0 (rd s) t))).map (fun l =>
    leValue (dramBytes s (liveAddr s p l) 2)))
  ((List.range 5).map (fun st => (ws.filter (fun w => w / 8192 == st)).length),
   ((ws.filter (fun w => w / 8192 == 0)).map (· % 2048)).foldl max 0)

/-- The requests of a window for one driver: its chunks of 64 lamps, with the classes first where VF_EN is 1 (R355, R389). -/
def windowReqs (s : State) (t p k : Nat) : List Req :=
  let f := farOf s k
  let ll3 := 3 * lineLen (rd s) t
  let a := f.line0 * ll3 / 64
  let z := (f.line1 * ll3 + 63) / 64
  if f.line1 ≤ f.line0 ∨ portState s p = psSILENT then [] else
  (List.range (z - a)).flatMap (fun i =>
    let first := 64 * (a + i)
    (if rf s (Reg.TC_CTRL t) Fld.TC_CTRL_VF_EN = 1 then [drvReq s k pkSERVICE 0x13 (leBytes 2 first) true (.vf first)] else [])
    ++ [drvReq s k pkSERVICE 2 (leBytes 2 first) true (.diag first)])

/-- A diagnosis window ends: its counts, the oldest AGE, and LAMP_STATE for the tiles it changed (R355, R368, R369). -/
def windowEnd : Eff := fun s =>
  [.inc Reg.DRV_DIAG_STAT Fld.DRV_DIAG_STAT_WINDOW 1, .drive (fun d => { d with winOn := false, winLate := false })]
  ++ (tilesOn (rd s)).flatMap (fun t =>
    let c := liveCounts s t
    (List.range 5).map (fun i => Act.reg (Reg.TD_CNT t i) (BitVec.ofNat 32 (c.1.getD i 0)))
    ++ [.fld (Reg.TD_UNOBS_AGE t) Fld.TD_UNOBS_AGE_AGE c.2]
    ++ (if (tilePwr s t).changed then tileEvent s 3 t (tilePort0 (rd s) t) 0 0 ++ [.tile t (fun q => { q with changed := false })] else []))

/-- A diagnosis window begins; the one before it ends after DIAG_WIN seconds, or is extended until its reads have finished (R355). -/
def diagWindow : List Eff := [
  fun s => if s.drive.winOn then [.clockTo (s.drive.winAt + 1000000000 * max 1 (rf s Reg.DRV_CTRL Fld.DRV_CTRL_DIAG_WIN))] else [],
  fun s =>
    let ps := (tilesOn (rd s)).flatMap (tilePortList (rd s))
    if s.drive.winOn && awaits s ps isDiag then
      (if s.drive.winLate then [] else
        [.drive (fun d => { d with winLate := true }), .inc Reg.DRV_DIAG_STAT Fld.DRV_DIAG_STAT_LATE 1])
    else
      (if s.drive.winOn then seqE [windowEnd, fun s => if s.drive.sumDue then writeSummary s else []] s else [])
      ++ [.drive (fun d => { d with winOn := true, winAt := now s })]
      ++ (tilesOn (rd s)).flatMap (fun t => (tilePortList (rd s) t).map (fun p =>
        queueHouse p ((portDrivers s t p).flatMap (windowReqs s t p))))]

/-! ## DRV_LAMP_SET (R356, R364, R367) -/

/-- DRV_LAMP_SET_A: the tenant's latch, with the tile of the lamp and its epoch. -/
def lampSetA (t : Nat) (v : Word) : Eff := fun s =>
  let p := getF v Fld.DRV_LAMP_SET_A_PORT
  let lamp := getF v Fld.DRV_LAMP_SET_A_LAMP
  let own := match portTile (rd s) p with
    | some q => t == 0 || ownerOf s 3 q == t
    | none => t == 0
  if own then
    [.drive (fun d => { d with latch := mapPut noLatch d.latch t (match portTile (rd s) p with
      | some q => if lamp < lampsOfPort (rd s) p then some (p, lamp, q, epochOf s 3 q) else none
      | none => none) })]
  else tenantFault s t stNOT_OWNER Reg.DRV_LAMP_SET_A

/-- DRV_LAMP_SET_B: the state of the latched lamp is set with CONF 0 and its AGE kept; an empty latch or an unknown state is BAD_ARG, a changed
role epoch STALE_ROLE (R356, R364, R367). -/
def lampSetB (t : Nat) (v : Word) : Eff := fun s =>
  let st := getF v Fld.DRV_LAMP_SET_B_STATE
  let empty := Act.drive (fun d => { d with latch := mapPut noLatch d.latch t none })
  match mapGet noLatch s.drive.latch t with
  | none => tenantFault s t stBAD_ARG Reg.DRV_LAMP_SET_B
  | some (p, lamp, q, ep) =>
    if st = 0 ∨ 4 < st then tenantFault s t stBAD_ARG Reg.DRV_LAMP_SET_B
    else if epochOf s 3 q ≠ ep then empty :: tenantFault s t stSTALE_ROLE Reg.DRV_LAMP_SET_B
    else if t ≠ 0 ∧ ownerOf s 3 q ≠ t then empty :: tenantFault s t stNOT_OWNER Reg.DRV_LAMP_SET_B
    else empty :: setLive q p lamp (8192 * st + leValue (dramBytes s (liveAddr s p lamp) 2) % 2048) s

/-! ## The interval before an edge (R277 to R279, R317, R319, R323, R333, R337, R360) -/

/-- Commits that take effect at the drivers at the coming edge: those that show there, and those that enter there. -/
def edgeFields (s : State) : List Staged := (s.cur.entered ++ s.cur.commits).flatMap (·.fields)

/-- Does a list of staged fields touch a tile's scan plan (R333)? -/
def touchesScan (l : List Staged) (r : Rd) (t : Nat) : Bool :=
  let sp := rrf r (Reg.TD_SCAN t) Fld.TD_SCAN_SCAN_PLAN
  touches l (Reg.SP_CTRL sp) (Reg.SP_CTRL sp + 0x40) || touches l (Reg.TD_SCAN t) (Reg.TD_SCAN t + 4)

/-- Does the plan hold a REHEARSAL slot? -/
def hasRehearsal (r : Rd) : Bool := (List.range (slotCount r)).any (fun j => slotKind r j == 2)

/-- The slot in which tile `t` borrows in the coming curtain, where it does (R360). -/
def borrowSlot (s : State) (t : Nat) : Option Nat :=
  let r := rd s
  let every := rf s (Reg.TD_DIAG t) Fld.TD_DIAG_BORROW_EVERY
  let l := edgeFields s
  if hasRehearsal r || every == 0 || (rf s Reg.CUR_NUM Fld.CUR_NUM_NUM + 1 + t) % every != 0 || tileState s t != tpLIGHT_ON
      || touchesScan l r t || touches l Reg.CUR_SLOT_PLAN 0x001000A0 || touches l (Reg.TD_POWER t) (Reg.TD_POWER t + 4)
      || s.cal.runs.any (fun q => q.tile == t && !q.reh && (q.phase == 1 || q.phase == 2)) then none
  else (List.range (slotCount r)).find? (fun j => slotKind r j == 0)

/-- PARITY is inverted at the first curtain after a break where a receiving page would be the page last mapped (R319). -/
def fixParity : Eff := fun s =>
  let n := rf s Reg.CUR_NUM Fld.CUR_NUM_NUM
  if s.drive.broken then
    .drive (fun d => { d with broken := false })
      :: (if (List.range (slotCount (rd s))).any (fun j => s.drive.lastMap[j]? == some (pageOf s (n + 2) j)) then
            [.fld Reg.DRV_CTRL Fld.DRV_CTRL_PARITY (1 - rf s Reg.DRV_CTRL Fld.DRV_CTRL_PARITY)] else [])
  else []

/-- The class-1 packets of a port for the coming edge (R291). -/
def intervalPackets (s : State) (t p : Nat) : List Pkt :=
  let r := rd s
  let q := tilePwr s t
  (if touchesScan (s.cur.entered.flatMap (·.fields)) r t then [toAll pkREG_WRITE 0x10C (driveBlock r t (p - tilePort0 r t))] else [])
  ++ (match q.light with | some a => [powerOut a] | none => [])
  ++ (match borrowSlot s t with
      | some j => [toAll pkSERVICE 3 [BitVec.ofNat 8 j, BitVec.ofNat 8 (rf s Reg.CUR_NUM Fld.CUR_NUM_NUM + 1)]]
      | none => [])
  ++ [toAll pkCURTAIN 0 (curtainPayload s (rf s (Reg.TD_POWER t) Fld.TD_POWER_DARK == 1)), toAll pkSLOT_SCHED 0 (schedPayload s t)]

/-- Parts and copies that did not leave before D: their CRCs are UNKNOWN and their regions' held bits cleared; the work of CLEAR stays. -/
def dropLeft (p : Nat) : Eff := fun s =>
  let q := port s p
  let l := (q.parts.filter (fun j => j.kind == 0)).map (fun j => (j.region, j.slot, p - tilePort0 (rd s) j.tile))
    ++ q.copies.map (fun c => (c.1, c.2.1, match tileOf (rd s) c.1 with | some t => p - tilePort0 (rd s) t.1 | none => 0))
  if l.isEmpty then [] else
  [.port p (fun q => { q with parts := q.parts.filter (fun j => j.kind != 0), copies := [] }),
   .stp (fun q => { q with crc := l.foldl (fun m x => mapPut crcDflt m (crcKey x.1 x.2.1 x.2.2) none) q.crc })]
  ++ seqE ((l.map (·.1)).eraseDups.map (fun g => fun s => setHeld s g false)) s

/-- At D: parity, the packets of class 1 on every port in service with its line up, and what the tiles are sent (R291, R337). -/
def driveInterval : Eff := seqE [
  fixParity,
  fun s => seqE ((s.ports.map (·.1)).map dropLeft) s,
  fun s =>
    (tilesOn (rd s)).flatMap (fun t =>
      let ps := (tilePortList (rd s) t).filter (fun p => portOn (rd s) p && (port s p).up)
      ps.map (fun p => Act.port p (fun q => { q with ivl := q.ivl ++ intervalPackets s t p }))
      ++ (if (borrowSlot s t).isSome then [.inc (Reg.TD_BORROW t) Fld.TD_BORROW_COUNT ps.length] else [])
      ++ (if (tilePwr s t).light.isSome then [.tile t (fun q => { q with light := none, lightSent := q.light })] else [])),
  fun s => [.drive (fun d => { d with lastMap := (List.range (slotCount (rd s))).map (pageNext s) })]]

/-! ## The edge (R78, R289, R290, R315, R322, R340) -/

/-- A light step that the CUR mark ends (R340). -/
def lightEdge (t : Nat) : Eff := fun s =>
  match (tilePwr s t).lightSent with
  | none => []
  | some a =>
    .tile t (fun q => { q with lightSent := none })
      :: (if a = 2 ∧ tileState s t = tpRAIL_ON then toState t tpLIGHT_ON s
          else if a = 3 ∧ tileState s t = tpLIGHT_ON then toState t tpLIGHT_OFF s else [])

/-- What a port counts for the curtain that ends, and its per-curtain state (R289, R290, R315, R316). -/
def portEdge (p : Nat) : Eff := fun s =>
  let q := port s p
  let a := fun (f : Nat → Nat → Nat) => f (p / 64) (p % 64)
  (match q.advNext with
   | some v => [.fld (a Reg.PORT_ADV) Fld.PORT_ADV_ADV v, .fld (a Reg.PORT_ADV) Fld.PORT_ADV_TXD (1023 - v)]
   | none => [])
  ++ [.reg (a Reg.PORT_DEFER_LAST) (BitVec.ofNat 32 q.deferN), .inc (a Reg.PORT_DEFER_TOTAL) Fld.PORT_DEFER_TOTAL_COUNT q.deferN,
      .reg (a Reg.PORT_BG_COPY) (BitVec.ofNat 32 q.bgN),
      .port p (fun q => { q with advNext := none, deferN := 0, bgN := 0, carry := 0, defers := [], kept := [],
                                 ivl := q.ivl.filter (fun k => k.typ == pkSERVICE) })]
  ++ (if 0 < q.deferN then portEvent s 5 p 0 0 else [])

/-- A commit that changes the slot count makes every CRC UNKNOWN and clears every held bit (R322). -/
def slotsChanged : Eff := fun _ =>
  (List.range 384).map (fun w => Act.reg (Reg.STP_HELD_VALID w) 0)
  ++ [.stp (fun q => { q with crc := [], nextCauses := { q.nextCauses with all := true } })]

/-- The drive's part of a curtain edge. -/
def driveEdge : Eff := seqE [
  fun s => seqE ((s.ports.map (·.1)).map portEdge) s,
  fun s => seqE ((s.tiles.map (·.1)).map lightEdge) s]

/-! ## Commit checks (R318, R332, R366, R368) -/

/-- The rules of 08_lamp_drive.md that a commit breaks. -/
def drvBreaks (s : State) (l : List Staged) (r : Rd) : Bool :=
  let plans := (List.range 64).filter (fun n => touches l (Reg.SP_CTRL n) (Reg.SP_CTRL n + 0x40))
  let timing := touches l Reg.CUR_RATE (Reg.CUR_RATE + 4) || touches l Reg.CUR_SLOT_PLAN 0x001000A0
  plans.any (fun n =>
    decide (rrf r (Reg.SP_CTRL n) Fld.SP_CTRL_STEP = 0)
    || decide (Nat.gcd (rrf r (Reg.SP_CTRL n) Fld.SP_CTRL_STEP) (rrf r (Reg.SP_CTRL n) Fld.SP_CTRL_ROWS_M1 + 1) ≠ 1)
    || decide (rrf r (Reg.SP_FREF n) Fld.SP_FREF_HZ < 3840) || decide (30000 < rrf r (Reg.SP_FREF n) Fld.SP_FREF_HZ))
  || (tilesOn r).any (fun t =>
    let scan := timing || touches l (Reg.TD_SCAN t) (Reg.TD_SCAN t + 4) || plans.contains (rrf r (Reg.TD_SCAN t) Fld.TD_SCAN_SCAN_PLAN)
    let pages := rf s (Reg.TD_PAGES t) Fld.TD_PAGES_PAGES
    (scan && (List.range (slotCount r)).any (fun j => winShort (scanSlot r t j)))
    || (scan && greyBad s r t)
    || (touches l Reg.CUR_SLOT_PLAN (Reg.CUR_SLOT_PLAN + 4) && pages != 0 && decide (pages / 3 < slotCount r)))
  || (List.range 1024).any (fun t =>
    (touches l (Reg.TD_POWER t) (Reg.TD_POWER t + 4) && rrf r (Reg.TD_POWER t) Fld.TD_POWER_TARGET == 3)
    || (touches l (Reg.TD_DIAG t) (Reg.TD_DIAG t + 4)
      && (let b := rrf r (Reg.TD_DIAG t) Fld.TD_DIAG_BORROW_EVERY
          let d := rrf r (Reg.TD_DIAG t) Fld.TD_DIAG_T_DET
          decide (1 ≤ b ∧ b ≤ 3) || decide (d < 20) || decide (1000 < d)))
    || (touches l (Reg.TD_HOLD t) (Reg.TD_HOLD t + 4)
      && (decide (rrf r (Reg.TD_HOLD t) Fld.TD_HOLD_LINE_LOSS_HOLD < 100) || decide (60000 < rrf r (Reg.TD_HOLD t) Fld.TD_HOLD_LINE_LOSS_HOLD))))

/-! ## The commands -/

/-- STATUS (R282). -/
def execStatus (h : RetHead) (flags : Fin 8) (lastCur : Byte) (fwdErr : Fin 65536) (state : Fin 8) (s : State) : Out :=
  done s (let _ := lastCur; retTake h (statusTake h flags fwdErr state) s)
/-- ECHO_REPLY (R271). -/
def execEchoReply (h : RetHead) (rtt : Nat) (s : State) : Out := done s (retTake h (echoTake h rtt) s)
/-- TILE_POWER_ADVANCE (R340). -/
def execTilePowerAdvance (t : Fin 1024) (found : List (Nat × Nat)) (s : State) : Out := done s (advanceTile t found s)
/-- RAIL_SETTLE_ELAPSED (R340). -/
def execRailSettleElapsed (t : Fin 1024) (s : State) : Out := done s (railElapsed t true s)
/-- RAIL_DISCHARGE_ELAPSED (R340). -/
def execRailDischargeElapsed (t : Fin 1024) (s : State) : Out := done s (railElapsed t false s)
/-- TILE_REPORT_TIMEOUT (R342). -/
def execTileReportTimeout (t : Fin 1024) (s : State) : Out := doneAll s (reportTimeout t)
/-- LOGIC_LINE_RESTART (R338). -/
def execLogicLineRestart (p : Fin 1024) (s : State) : Out := doneAll s (logicLineRestart p)
/-- READBACK_SCRUB (R352). -/
def execReadbackScrub (p : Fin 1024) (s : State) : Out := done s (scrub p s)
/-- DIAG_WINDOW (R355). -/
def execDiagWindow (s : State) : Out := doneAll s diagWindow
/-- DRV_LAMP_SET_A (R367). -/
def execDrvLampSetA (a : Acc) (v : Word) (s : State) : Out := 
  done s (gate a Reg.DRV_LAMP_SET_A true false (fun u => lampSetA u v) s)
/-- DRV_LAMP_SET_B (R356, R367). -/
def execDrvLampSetB (a : Acc) (v : Word) (s : State) : Out := 
  done s (gate a Reg.DRV_LAMP_SET_B true false (fun u => lampSetB u v) s)

end Sys2Proof.Machine
end

