-- ==== Sys2Proof/Machine/Calib.lean ====
section
/-! DEFINITION. Calibration with live traffic: installations, footlight runs in REHEARSAL slots and measurement windows, the colour
loop, temperatures, load validation and the guard, and Roura's own trims (09_calibration.md). The readings of SERVICE_DATA and
READ_DATA are taken here. -/

namespace Sys2Proof.Machine

/-! ## Records (R370, R371) -/

/-- A byte, and a 16-bit and 32-bit number, of a tile's calibration record. -/
def recB (s : State) (r : Rd) (t o : Nat) : Nat := leValue (dramBytes s (recAddr r t + o) 1)
def rec2 (s : State) (r : Rd) (t o : Nat) : Nat := leValue (dramBytes s (recAddr r t + o) 2)
def rec4 (s : State) (r : Rd) (t o : Nat) : Nat := leValue (dramBytes s (recAddr r t + o) 4)

/-- Sensors of a tile. -/
def sensors (r : Rd) (t : Nat) : Nat := rrf r (Reg.TC_CTRL t) Fld.TC_CTRL_SENSORS

/-- Is a word an IEEE 754 single that is not finite? -/
def notFinite (w : Nat) : Bool := bitsOf w 30 23 == 255

/-- The nine words of a response matrix. -/
def matrixWords (s : State) (r : Rd) (t o : Nat) : List Nat := (List.range 9).map (fun i => rec4 s r t (o + 4 * i))

/-- Does a tile's record break the table of R370 or the conditions of R371? -/
def recordBad (s : State) (r : Rd) (t : Nat) : Bool :=
  let mats := (List.range (sensors r t)).flatMap (fun i => [matrixWords s r t (0x30 + 0x48 * i), matrixWords s r t (0x54 + 0x48 * i)])
  dramUE s (recAddr r t) 192
  || recB s r t 0 != 1 || recB s r t 1 != sensors r t || decide (recB s r t 2 + recB s r t 3 + recB s r t 4 ≠ 256)
  || recB s r t 5 != 0 || rec2 s r t 0x12 != 0 || rec4 s r t 0x28 != 0 || rec4 s r t 0x2C != 0
  || (List.range 3).any (fun k => decide (rec2 s r t (6 + 2 * k) < 16384))
  || (List.range (sensors r t)).any (fun i => decide (tilePorts r t ≤ recB s r t (0x20 + 4 * i)) || decide (3 < recB s r t (0x23 + 4 * i)))
  || mats.any (fun m => m.any notFinite || Config.illConditioned (m.map (BitVec.ofNat 32)))

/-- Is a tile installed by a commit: does it change the tile's coefficient base or record base (R371)? -/
def installs (l : List Staged) (old new : Rd) (t : Nat) : Bool :=
  tileOn new t && [Reg.TS_COEF_LO t, Reg.TS_COEF_HI t, Reg.TC_REC_LO t, Reg.TC_REC_HI t].any (changes l old new)

/-- A staged field of house firmware. -/
def houseField (a : Nat) (f : Field) (v : Nat) : Staged := ⟨a, f.mask, putF 0 f v, 0, 0, 0⟩

/-- What an installation sets, as part of its commit (R372): the load scale always, the rest from the record of a tile with sensors. -/
def installFields (s : State) (l : List Staged) (old new : Rd) : List Staged :=
  ((List.range 1024).filter (installs l old new)).flatMap (fun t =>
    houseField (Reg.TC_GAIN_B t) Fld.TC_GAIN_B_L_S 32768 ::
    (if sensors new t = 0 then [] else
      [houseField (Reg.TC_GAIN_RG t) Fld.TC_GAIN_RG_G_R (rec2 s new t 6), houseField (Reg.TC_GAIN_RG t) Fld.TC_GAIN_RG_G_G (rec2 s new t 8),
       houseField (Reg.TC_GAIN_B t) Fld.TC_GAIN_B_G_B (rec2 s new t 10), houseField (Reg.TC_LOAD_VAL t) Fld.TC_LOAD_VAL_V (rec4 s new t 12),
       houseField (Reg.TC_TEMP t) Fld.TC_TEMP_LAST (rec2 s new t 16)]))

/-! ## Runs (R382 to R384, R387) -/

/-- An event of a tile's calibration (R405). -/
def calEvent (s : State) (b t : Nat) (items : List (Nat × Nat)) : List Act :=
  eventNow s 8 b (withT0 (ownerOf s 3 t)) (0x500 + t) (arg ((16, t) :: items))

/-- Is a run of the tile in progress? -/
def running (s : State) (t : Nat) : Bool := s.cal.runs.any (fun q => q.tile == t)

/-- CAL_QUEUE and a tile's TC_STAT.STATE after a change of queue or runs (R403, R404). -/
def calRegs (t : Nat) : Eff := fun s =>
  [.reg Reg.CAL_QUEUE (putF (putF 0 Fld.CAL_QUEUE_RUNNING s.cal.runs.length) Fld.CAL_QUEUE_QUEUED s.cal.queue.length),
   .fld (Reg.TC_STAT t) Fld.TC_STAT_STATE (match s.cal.runs.find? (fun q => q.tile == t) with
     | some q => if q.phase = 4 then 3 else 2
     | none => if s.cal.queue.any (fun q => q.1 == t) then 1 else 0)]

/-- A run of a tile is queued by trigger time, ties to the lower tile; a tile already queued keeps its place (R383). -/
def queueRun (t : Nat) : Eff := fun s =>
  if rf s (Reg.TC_CTRL t) Fld.TC_CTRL_AUTO = 0 ∨ sensors (rd s) t = 0 ∨ s.cal.queue.any (fun q => q.1 == t) then [] else
  seqE [fun s =>
    let ahead := fun (q : Nat × Nat) => decide (q.2 < now s) || (q.2 == now s && decide (q.1 < t))
    [.cal (fun c => { c with queue := c.queue.filter ahead ++ [(t, now s)] ++ c.queue.filter (fun q => !ahead q) })],
    calRegs t] s

/-- A run is discarded: RESULT 5; queued again where the table of R387 says so. -/
def discardRun (t : Nat) (again : Bool) : Eff := fun s =>
  if !running s t then [] else
  seqE [fun s => [.cal (fun c => { c with runs := c.runs.filter (fun q => q.tile != t) }), .fld (Reg.TC_STAT t) Fld.TC_STAT_RESULT 5]
      ++ (tilePortList (rd s) t).map (fun p => .port p (fun q => { q with
          house := q.house.filter (fun x => match x.why with | .flat u => u != t | .cal u _ => u != t | _ => true) })),
    if again then queueRun t else fun _ => [], calRegs t] s

/-- A run's record changed. -/
def updRun (t : Nat) (f : CalRun → CalRun) : Act := .cal (fun c => { c with runs := c.runs.map (fun q => if q.tile == t then f q else q) })

/-- Every run is discarded when the supply fails (R387). -/
def dropRuns : Eff := fun s => seqE (s.cal.runs.map (fun q => discardRun q.tile false)) s

/-- Do the wall rectangles of two tiles, grown by MARGIN, overlap (R382)? -/
def nearTiles (r : Rd) (a b : Nat) : Bool :=
  let m := rrf r Reg.CAL_NEAR Fld.CAL_NEAR_MARGIN
  decide (wallX r a < wallX r b + tileW r b + 2 * m ∧ wallX r b < wallX r a + tileW r a + 2 * m
    ∧ wallY r a < wallY r b + tileH r b + 2 * m ∧ wallY r b < wallY r a + tileH r a + 2 * m)

/-- The mode that the slot plan gives a run: rehearsal, window, or none (R377, R379, R384). -/
def runMode (r : Rd) : Option Bool :=
  if hasRehearsal r then (if rrf r Reg.CAL_CTRL Fld.CAL_CTRL_REH_EN = 1 then some true else none)
  else if rrf r Reg.CAL_CTRL Fld.CAL_CTRL_MW_EN = 1 then some false else none

/-- A run that begins at an edge. -/
def newRun (s : State) (t : Nat) (reh : Bool) : CalRun :=
  { tile := t, start := rf s Reg.CUR_NUM Fld.CUR_NUM_NUM, reh := reh, got := 0, step := 0, phase := 0, expect := 0, flats := [], loads := [],
    left := [], kept := [], data := [], badNow := [], bad := [0, 0, 0, 0], stamp := 0, temp := none, hot := none }

/-- Runs start from the head of the queue, each where R382 allows it (R383). -/
def startRuns : Eff := fun s =>
  match runMode (rd s) with
  | none => []
  | some reh => seqE (s.cal.queue.map (fun q => fun s =>
      let t := q.1
      if running s t || s.cal.runs.any (fun x => tileBank (rd s) x.tile == tileBank (rd s) t || nearTiles (rd s) x.tile t) then [] else
      seqE [fun s => [.cal (fun c => { c with queue := c.queue.filter (fun x => x.1 != t), runs := c.runs ++ [newRun s t reh] })], calRegs t] s)) s

/-- Is the tile lit with every port alive (R379, R387)? -/
def tileLit (s : State) (t : Nat) : Bool :=
  tileState s t == tpLIGHT_ON && !(tilePortList (rd s) t).any (fun p => portState s p == psSILENT)

/-- The run's own events of R387 at an edge whose commits changed `l`: what discards it, and whether it is queued again. -/
def runEnds (s : State) (l : List Staged) (old new : Rd) (q : CalRun) : Option Bool :=
  let t := q.tile
  if rf s (Reg.TC_CTRL t) Fld.TC_CTRL_AUTO = 0 then some false
  else if installs l old new t then some true
  else if touches l Reg.CUR_SLOT_PLAN 0x001000A0 || touchesScan l new t || touches l (Reg.TD_POWER t) (Reg.TD_POWER t + 4)
      || runMode new != some q.reh then some true
  else if (q.got ≠ 0 ∨ q.step ≠ 0 ∨ q.phase ≠ 0) ∧ !tileLit s t then some true
  else if rrf new Reg.CAL_NEAR Fld.CAL_NEAR_RUN_LIMIT ≤ rf s Reg.CUR_NUM Fld.CUR_NUM_NUM - q.start ∧ q.phase ≠ 4 then some true
  else none

/-! ## Measurement windows (R379 to R381) -/

/-- The driver of a sensor: its key and its sensor index (R370). -/
def sensorAt (s : State) (t i : Nat) : Nat × Nat :=
  let r := rd s
  (4096 * (tilePort0 r t + recB s r t (0x20 + 4 * i)) + 256 * (recB s r t (0x21 + 4 * i) % 16) + recB s r t (0x22 + 4 * i), recB s r t (0x23 + 4 * i))

/-- Lamps of each colour of a tile. -/
def lampsPerColour (r : Rd) (t : Nat) : Nat := tileW r t * tileH r t

/-- c_k and p_k of the flat of colour `k` for the tile load P (R380). -/
def flatOf (s : State) (t p k : Nat) : Nat × Nat :=
  let r := rd s
  let n := max 1 (lampsPerColour r t)
  let x := 2 * p * recB s r t (2 + k) / 256
  let c := max (max 1 (rrf r (Reg.TS_DRIVE t) Fld.TS_DRIVE_C_FLOOR)) ((x * 65536 + n * 65535 - 1) / (n * 65535))
  (c, min 65535 (divRound (x * 65536 : Nat) (n * c : Nat)).toNat)

/-- F_k in 1/65,536 of a load unit. -/
def flatLoad (r : Rd) (t : Nat) (f : Nat × Nat) : Nat := lampsPerColour r t * f.1 * f.2

/-- The flats of a tile's window, where they exist (R380). -/
def flats (s : State) (t p : Nat) : Option (List (Nat × Nat)) :=
  let l := [0, 1, 2].map (flatOf s t p)
  let sum := (l.map (flatLoad (rd s) t)).foldl (· + ·) 0
  let want := 2 * p * 65536
  if l.any (fun f => 255 < f.1) ∨ want < (max sum want - min sum want) * 1024 then none else some l

/-- Is a CAMSYNC output active within the last 500 us of the curtain (R379)? -/
def camsyncInWindow (r : Rd) (rate p : Nat) : Bool :=
  (List.range 8).any (fun m => rrf r (Reg.CUR_CAMSYNC_CTRL m) Fld.CUR_CAMSYNC_CTRL_EN == 1 && (camsyncSlots r m).any (fun j =>
    overlaps ((slotStart r rate j : Nat) + sreg (r (Reg.CUR_CAMSYNC_PHASE m))) (rrf r (Reg.CUR_CAMSYNC_WIDTH m) Fld.CUR_CAMSYNC_WIDTH_WIDTH : Nat)
      ((p : Int) - 500000) 500001 (p : Nat)))

/-- The grey clock of the 250 us flat slot is below some driver's TG_MIN (R379). -/
def flatGreyBad (s : State) (t : Nat) : Bool :=
  let r := rd s
  let sp := rrf r (Reg.TD_SCAN t) Fld.TD_SCAN_SCAN_PLAN
  let subs := rrf r (Reg.SP_CTRL sp) Fld.SP_CTRL_SUBS_M1 + 1
  let q : ScanSlot := ⟨250000, subs * (rrf r (Reg.SP_CTRL sp) Fld.SP_CTRL_ROWS_M1 + 1),
    rrf r (Reg.SP_TIMING sp) Fld.SP_TIMING_BLANK + rrf r (Reg.SP_TIMING sp) Fld.SP_TIMING_PC_TIME, (65535 + subs - 1) / subs⟩
  (tilePortList r t).any (fun p => (portDrivers s t p).any (fun k => greyShort q (freg s k 0x108)))

/-- May a window open on the tile in the curtain that shows from this edge (R379)? `l`: the fields that enter at this edge and those that
are to enter at the next. -/
def windowOpens (s : State) (l : List Staged) (t : Nat) : Option (List (Nat × Nat)) :=
  let r := rdLamp s
  let rate := s.cur.rate
  let p := s.cur.next - s.cur.edge
  let last := slotCount r - 1
  let load := rf s (Reg.TS_LOAD t last) Fld.TS_LOAD_LOAD
  if slotKind r last ≠ 0 ∨ slotLen r rate p last < 1000000 then none
  else if camsyncInWindow r rate p || !tileLit s t || getF (r (Reg.TD_POWER t)) Fld.TD_POWER_DARK == 1 || flatGreyBad s t
      || touches l Reg.CUR_SLOT_PLAN 0x001000A0 || touchesScan l (rd s) t || touches l (Reg.TD_POWER t) (Reg.TD_POWER t + 4) then none
  else match flats s t load with
    | some f => if 65536 * rf s Reg.CAL_MW Fld.CAL_MW_MIN_LOAD ≤ (f.map (flatLoad (rd s) t)).foldl (· + ·) 0 then some f else none
    | none => none

/-- A SERVICE request to one driver. -/
def service (s : State) (k code : Nat) (args : List Byte) (reply : Bool) (why : ReqWhy) : Req := drvReq s k pkSERVICE code args reply why

/-- The reading of every sensor of a run is asked for: FL_READ, with its place (R373). -/
def askReadings (t place : Nat) : Eff := fun s =>
  let items := (List.range (sensors (rd s) t)).map (fun i => (i, i + place))
  items.map (fun q => let at_ := sensorAt s t q.1
    queueHouse (at_.1 / 4096) [service s at_.1 0x12 [BitVec.ofNat 8 at_.2] true (.cal t q.2)])
  ++ [updRun t (fun x => { x with left := x.left ++ items.map (·.2) })]

/-- A window is asked for: CAL_FLAT to every driver of every port (R381). -/
def askWindow (t : Nat) (f : List (Nat × Nat)) : Eff := fun s =>
  let n := (rf s Reg.CUR_NUM Fld.CUR_NUM_NUM + 1) % 256
  let args := [BitVec.ofNat 8 n] ++ f.map (fun x => BitVec.ofNat 8 x.1) ++ f.flatMap (fun x => leBytes 2 x.2)
  (tilePortList (rd s) t).map (fun p => queueHouse p [⟨toAll pkSERVICE 0x10 args, false, 0, .flat t, 0, 0⟩])
  ++ [updRun t (fun x => { x with phase := 1, expect := n, flats := f.map (flatLoad (rd s) t) })]

/-- Is a CAL_FLAT of the tile still unsent (R381)? -/
def flatLeft (s : State) (t : Nat) : Bool :=
  (tilePortList (rd s) t).any (fun p => (port s p).house.any (fun q => q.why == .flat t)
    || (port s p).bufs.any (fun b => match b.req with | some q => q.why == .flat t | none => false))

/-- A repeat ends: counted where every reading was kept; a sensor with three bad repeats in a row faults and the run is discarded
(R384, R387). -/
def endRepeat (t : Nat) (loads : List Nat) : Eff := fun s =>
  match s.cal.runs.find? (fun q => q.tile == t) with
  | none => []
  | some q =>
    let lost := (q.badNow ++ q.left.map (· % 4)).eraseDups
    let bad := (List.range 4).map (fun i => if lost.contains i then q.bad.getD i 0 + 1 else 0)
    let got := if lost.isEmpty then q.got + 1 else q.got
    let full := decide (max 1 (rf s Reg.CAL_CTRL Fld.CAL_CTRL_REPEAT) ≤ got)
    seqE [
      fun _ => [updRun t (fun x => { x with
        bad := bad, badNow := [], left := [], kept := [], got := got, step := 0, loads := [], phase := if full then 4 else 0
        data := if lost.isEmpty then x.data ++ [(loads, x.kept)] else x.data })],
      calRegs t,
      fun s => if bad.any (fun n => 3 ≤ n) then calEvent s 5 t [] ++ discardRun t true s else []] s

/-- A run in windows at an edge: the window asked for before has shown, or had not been sent in time; else a new one is asked for
where R379 allows it. -/
def windowStep (t : Nat) (l : List Staged) : Eff := fun s =>
  match s.cal.runs.find? (fun q => q.tile == t) with
  | none => []
  | some q =>
    if q.phase = 1 then
      (if flatLeft s t then
        (tilePortList (rd s) t).map (fun p => .port p (fun x => { x with house := x.house.filter (fun y => y.why != .flat t) }))
        ++ [updRun t (fun x => { x with phase := 0 }), .inc (Reg.TC_STAT t) Fld.TC_STAT_SKIPS 1]
       else seqE [fun _ => [updRun t (fun x => { x with phase := 3 })], askReadings t (32 * q.expect)] s)
    else if q.phase = 0 then
      (match windowOpens s l t with
       | some f => askWindow t f s
       | none => [.inc (Reg.TC_STAT t) Fld.TC_STAT_SKIPS 1])
    else []

/-! ## Rehearsal placements (R359, R377, R378) -/

/-- The placement of curtain `n` of a repeat: 1 dark, 2 red, 3 green, 4 blue. -/
def placement (n : Nat) : Nat := if n % 2 = 0 then 1 else 2 + n / 2

/-- The first REHEARSAL slot. -/
def rehearsalSlot (r : Rd) : Nat := ((List.range (slotCount r)).find? (fun j => slotKind r j == 2)).getD 0

/-- A run in REHEARSAL slots at an edge: the loads and readings of the curtains that have shown; the next curtain of the repeat is
armed (R375, R377, R378). -/
def rehearsalStep (t : Nat) : Eff := fun s =>
  match s.cal.runs.find? (fun q => q.tile == t) with
  | none => []
  | some q =>
    let j := rehearsalSlot (rd s)
    let num := rf s Reg.CUR_NUM Fld.CUR_NUM_NUM
    let load := rf s (Reg.TS_LOAD t j) Fld.TS_LOAD_LOAD
    if q.phase = 4 then []
    else if q.step = 8 then endRepeat t q.loads s
    else seqE [
      fun _ => if 1 ≤ q.step ∧ q.step ≤ 6 then [updRun t (fun x => { x with loads := x.loads ++ [load] })] else [],
      if 2 ≤ q.step then askReadings t (4 * (q.step - 2) + 32 * ((num + 255) % 256)) else fun _ => [],
      fun s => if 6 ≤ q.step then [] else
        (List.range (sensors (rd s) t)).map (fun i => let at_ := sensorAt s t i
          queueHouse (at_.1 / 4096) [service s at_.1 0x11 [BitVec.ofNat 8 (num + 1), BitVec.ofNat 8 j] false .plain]),
      fun _ => [updRun t (fun x => { x with step := x.step + 1 })]] s

/-- The placements of the coming curtain: each run's, and the diagnosis pattern (5) on every other tile while the plan has a REHEARSAL slot
(R359). Tiles whose placement changes are ticketed. -/
def placeAll : Eff := fun s =>
  let want := fun (t : Nat) =>
    if !hasRehearsal (rd s) then 0
    else match s.cal.runs.find? (fun q => q.tile == t) with
      | some q => if q.reh && 1 ≤ q.step && q.step ≤ 6 && q.phase != 4 then placement (q.step - 1) else 5
      | none => 5
  let moved := (tilesOn (rd s)).filter (fun t => want t != mapGet zeroNat s.cal.placed t)
  [.cal (fun c => { c with placed := moved.foldl (fun m t => mapPut zeroNat m t (want t)) c.placed })]
  ++ (if moved.isEmpty then [] else [.stp (fun q => { q with causes := { q.causes with tiles := q.causes.tiles ++ moved } })])

/-! ## Readings (R375, R378, R385) -/

/-- A sensor's answer: discarded with SAT, FAULT or NOT_ARMED set, or with another CUR_NUM[7:0] than expected (R375). -/
def readingTake (t place : Nat) (bs : List Byte) : Eff := fun s =>
  match s.cal.runs.find? (fun q => q.tile == t) with
  | none => []
  | some q =>
    let good := bs.getD 0 0 == BitVec.ofNat 8 (place / 32) && (bs.getD 1 0).toNat % 8 == 0
    let counts := (List.range 6).map (fun i => leValue ((bs.drop (2 + 2 * i)).take 2))
    let now_ : Int := toSigned 16 (rf s (Reg.TC_TEMP t) Fld.TC_TEMP_NOW)
    seqE [
      fun _ => [updRun t (fun x => { x with
        left := x.left.filter (· != place)
        kept := if good then x.kept ++ [(place, counts)] else x.kept
        badNow := if good then x.badNow else x.badNow ++ [place % 4]
        temp := if x.temp.isNone then some now_ else x.temp
        hot := some (max now_ (x.hot.getD now_)) })],
      if !q.reh && q.left == [place] then endRepeat t q.flats else fun _ => []] s

/-- SERVICE_DATA: diagnosis codes, forward-voltage classes or a sensor's reading (R276, R355, R375, R389). -/
def serviceTake (h : RetHead) (bs : List Byte) : Eff := fun s =>
  match asked s h with
  | none => []
  | some r =>
    if r.pkt.typ ≠ pkSERVICE then [] else
    answered h :: (match r.why with
      | .diag first => diagTake h first bs s
      | .vf _ => [.far (retKey h) (fun f => { f with classes := (List.range 64).map (fun i => bitsOf ((bs.getD (i / 4) 0).toNat) (2 * (i % 4) + 1) (2 * (i % 4))) })]
      | .cal t place => readingTake t place bs s
      | _ => [])

/-! ## Temperatures (R387, R388) -/

/-- TEMP_POLL: the temperature of every driver of every lit tile is asked for. -/
def tempPoll : Eff := fun s =>
  (tilesOn (rd s)).flatMap (fun t => if tileState s t ≠ tpLIGHT_ON then [] else
    (tilePortList (rd s) t).map (fun p => queueHouse p ((portDrivers s t p).map (fun k =>
      drvReq s k pkREAD_REQ 0x180 (readPayload 0 (newTag s p) 1) true .temp))))

def isTemp : ReqWhy → Bool
  | .temp => true
  | _ => false

/-- The hottest driver of a tile, 1/16 degree. -/
def hottest (s : State) (t : Nat) : Int :=
  let l := ((tilePortList (rd s) t).flatMap (portDrivers s t)).map (fun k => toSigned 16 (freg s k 0x180))
  l.foldl max (l.headD 0)

/-- All temperatures of a tile are in: TC_TEMP.NOW, a run that has warmed too far is discarded, and the trigger (R387, R388). -/
def tempDone (t : Nat) : Eff := fun s =>
  if awaits s (tilePortList (rd s) t) isTemp then [] else
  let n := hottest s t
  let last := toSigned 16 (rf s (Reg.TC_TEMP t) Fld.TC_TEMP_LAST)
  let dt := rf s Reg.CAL_TEMP Fld.CAL_TEMP_CAL_DT
  let warm := s.cal.runs.any (fun q => q.tile == t && (match q.temp with | some a => decide (dt < (n - a).natAbs) | none => false))
  seqE [
    fun _ => [.fld (Reg.TC_TEMP t) Fld.TC_TEMP_NOW (BitVec.ofInt 16 n).toNat],
    if warm then discardRun t true else fun _ => [],
    if dt < (n - last).natAbs then (fun s => if running s t then [] else queueRun t s) else fun _ => []] s

/-- READ_DATA: register values or a page CRC (R276, R281, R350). -/
def dataTake (h : RetHead) (bs : List Byte) : Eff := fun s =>
  match asked s h with
  | none => []
  | some r =>
    if r.pkt.typ ≠ pkREAD_REQ ∨ h.tag.val ≠ (r.pkt.payload.getD 1 0).toNat then [] else
    seqE [fun _ => [answered h],
      if r.pkt.payload.getD 0 0 = 1 then crcTake h r bs else regsTake h r bs,
      fun s => match r.why, portTile (rd s) h.port with
        | .temp, some t => tempDone t s
        | _, _ => []] s

/-! ## The colour loop (R385, R386) -/

/-- Round G0 / e to a gain (R385). -/
def targetGain (g0 : Nat) (e : Int × Nat) : Nat := (clampInt (divRound ((g0 * e.2 : Nat) : Int) e.1) 16384 65535).toNat

/-- The current gain of colour `k`. -/
def gainOf (s : State) (t k : Nat) : Nat :=
  if k = 0 then rf s (Reg.TC_GAIN_RG t) Fld.TC_GAIN_RG_G_R else if k = 1 then rf s (Reg.TC_GAIN_RG t) Fld.TC_GAIN_RG_G_G
  else rf s (Reg.TC_GAIN_B t) Fld.TC_GAIN_B_G_B

/-- A positive efficiency in unsigned Q2.14 (R404). -/
def effQ (e : Int × Nat) : Nat := (clampInt (divRound (e.1 * 16384) (max 1 e.2 : Nat)) 0 65535).toNat

/-- A refused run: RESULT and CAL_REJECT (R386). -/
def rejectRun (t why : Nat) : Eff := seqE [
  fun s => [.cal (fun c => { c with runs := c.runs.filter (fun q => q.tile != t) }), .fld (Reg.TC_STAT t) Fld.TC_STAT_RESULT why] ++ calEvent s 2 t [(16, why)],
  calRegs t]

/-- The commit of an accepted run (R386, R391, R404). -/
def runCommit (s : State) (q : CalRun) (e : List (Int × Nat)) : Commit :=
  let t := q.tile
  let g := fun (k : Nat) => targetGain (rec2 s (rd s) t (6 + 2 * k)) (e.getD k (1, 1))
  ⟨8, 0,
   [houseField (Reg.TC_GAIN_RG t) Fld.TC_GAIN_RG_G_R (g 0), houseField (Reg.TC_GAIN_RG t) Fld.TC_GAIN_RG_G_G (g 1), houseField (Reg.TC_GAIN_B t) Fld.TC_GAIN_B_G_B (g 2),
    houseField (Reg.TC_TEMP t) Fld.TC_TEMP_LAST (BitVec.ofInt 16 (q.hot.getD 0)).toNat,
    houseField (Reg.TC_LOAD_VAL t) Fld.TC_LOAD_VAL_V (max (rf s (Reg.TC_LOAD_VAL t) Fld.TC_LOAD_VAL_V) q.stamp),
    houseField (Reg.TC_EFF_RG t) Fld.TC_EFF_RG_E_R (effQ (e.getD 0 (1, 1))), houseField (Reg.TC_EFF_RG t) Fld.TC_EFF_RG_E_G (effQ (e.getD 1 (1, 1))),
    houseField (Reg.TC_EFF_B t) Fld.TC_EFF_B_E_B (effQ (e.getD 2 (1, 1))),
    houseField (Reg.TC_EFF_B t) Fld.TC_EFF_B_RUN_NUM (rf s Reg.CUR_NUM Fld.CUR_NUM_NUM + (if s.cur.closed then 2 else 1))],
   now s, s.cur.closed, none, none, false⟩

/-- The fit of a run is ready: the efficiencies as fractions (none where not finite), and whether the residual is small enough (R385, R386). -/
def runResult (t : Nat) (e : List (Option (Int × Nat))) (fit : Bool) : Eff := fun s =>
  match s.cal.runs.find? (fun q => q.tile == t) with
  | none => []
  | some q =>
    if q.phase ≠ 4 then [] else
    let es := e.filterMap (fun x => match x with | some y => if 0 < y.1 ∧ 0 < y.2 then some y else none | none => none)
    if es.length < 3 ∨ e.length ≠ es.length then rejectRun t 4 s
    else if (List.range 3).any (fun k =>
        let g := gainOf s t k
        let n := targetGain (rec2 s (rd s) t (6 + 2 * k)) (es.getD k (1, 1))
        decide (g * rf s Reg.CAL_CTRL Fld.CAL_CTRL_MAX_STEP < 256 * (max g n - min g n))) then rejectRun t 2 s
    else if !fit then rejectRun t 3 s
    else seqE [
      fun s => [.cur (fun c => { c with commits := c.commits ++ [runCommit s q es] }),
        .cal (fun c => { c with runs := c.runs.filter (fun x => x.tile != t) }), .fld (Reg.TC_STAT t) Fld.TC_STAT_RESULT 1],
      calRegs t] s

/-- CAL_DONE for the runs whose commits show at the lamps, with stamp and temperature (R386 and the worked example). -/
def calShown (cm : Commit) : Eff := fun s =>
  if cm.who ≠ 8 then [] else
  (List.range 1024).flatMap (fun t =>
    if cm.fields.any (fun f => f.addr == Reg.TC_EFF_B t) then
      calEvent s 1 t [(32, rf s (Reg.TC_LOAD_VAL t) Fld.TC_LOAD_VAL_V), (16, rf s (Reg.TC_TEMP t) Fld.TC_TEMP_LAST)]
    else [])

/-! ## Load validation and the guard (R390 to R394) -/

/-- U of a tile at an edge (R390): the loads that show now, over the load scale they were steeped under; with a scale of 0 the last U
stands. -/
def liveLoad (s : State) (t : Nat) : Nat :=
  let r := rdLamp s
  let ls := rrf r (Reg.TC_GAIN_B t) Fld.TC_GAIN_B_L_S
  let top := ((List.range (slotCount r)).filter (fun j => composing (slotKind r j))).foldl (fun m j => max m (rf s (Reg.TS_LOAD t j) Fld.TS_LOAD_LOAD)) 0
  if ls = 0 then rf s (Reg.TC_LOAD_LIVE t) Fld.TC_LOAD_LIVE_U else min (2 ^ 32 - 1) ((top * 32768 + ls - 1) / ls)

/-- The target of the guard (R393). -/
def guardTarget (on : Bool) (u v lim ls : Nat) : Nat :=
  if !on then 32768 else if lim < u then 32768 * v / max 1 u else if u ≤ v then 32768 else ls

/-- U, UNVAL and the guard for one tile at an edge (R390 to R393). -/
def loadStep (t : Nat) : Eff := fun s =>
  let u := liveLoad s t
  let v := rf s (Reg.TC_LOAD_VAL t) Fld.TC_LOAD_VAL_V
  let lim := v + v * rf s (Reg.TC_CTRL t) Fld.TC_CTRL_LOAD_MARGIN / 256
  let un := rf s (Reg.TC_STAT t) Fld.TC_STAT_UNVAL == 1
  let ls := rf s (Reg.TC_GAIN_B t) Fld.TC_GAIN_B_L_S
  let lt := guardTarget (rf s (Reg.TC_CTRL t) Fld.TC_CTRL_LOAD_GUARD == 1) u v lim ls
  [.reg (Reg.TC_LOAD_LIVE t) (BitVec.ofNat 32 u)]
  ++ (if lim < u ∧ !un then
        .fld (Reg.TC_STAT t) Fld.TC_STAT_UNVAL 1
          :: (calEvent s 3 t [(32, u)] ++ logStatus s (0x500 + t) 8 stLOAD_UNVALIDATED (withT0 (ownerOf s 3 t)) (arg [(16, t), (32, u)]))
      else if u ≤ v ∧ un then [.fld (Reg.TC_STAT t) Fld.TC_STAT_UNVAL 0] else [])
  ++ (if lt ≠ ls ∧ (lt < ls ∨ ls + 512 ≤ lt ∨ lt = 32768) then
        .cur (fun c => { c with commits := c.commits ++ [⟨8, 0, [houseField (Reg.TC_GAIN_B t) Fld.TC_GAIN_B_L_S lt], now s, false, none, none, false⟩] })
          :: calEvent s 4 t [(16, lt)]
      else [])

/-! ## Trims (R395 to R397) -/

/-- A trim of a bank begins: the round trips and turnarounds of every driver are asked for (R309, R396). -/
def startTrim (b : Nat) : Eff := fun s =>
  .cal (fun c => { c with trimWant := setBit c.trimWant b true })
    :: (if bsState s b ≠ bsRUN then [] else
        (tilesOn (rd s)).flatMap (fun t => ((tilePortList (rd s) t).filter (fun p => p / 64 == b && portState s p == psALIVE)).flatMap (fun p =>
          (portDrivers s t p).flatMap (fun k =>
            [.far k (fun f => { f with rtts := [] }),
             queueHouse p (List.replicate 16 (drvReq s k pkECHO 0 [BitVec.ofNat 8 (newTag s p)] true .echo)
               ++ [drvReq s k pkREAD_REQ 0 (readPayload 0 (newTag s p) 4) true .regs])]))))

/-- CAL_TRIM (R395, R401). -/
def calTrim (t : Nat) (v : Word) : Eff := fun s =>
  if t ≠ 0 then tenantFault s t stNOT_OWNER Reg.CAL_TRIM
  else if getF v Fld.CAL_TRIM_GO = 0 then []
  else seqE (((List.range 16).filter (fun b => bitsOf (getF v Fld.CAL_TRIM_BANKS) b b == 1)).map startTrim) s

/-- The quadrants whose temperature moved more than 5.0 degrees from a bank's last trim have it trimmed (R395). -/
def tempTrims : Eff := fun s =>
  seqE (((banksOn (rd s)).filter (fun b =>
    let last := toSigned 16 (rf s (Reg.CAL_BANK_TRIM b) Fld.CAL_BANK_TRIM_TEMP)
    decide (80 < (s.cal.chipTemp.getD (b / 4) 0 - last).natAbs) && !bit s.cal.trimWant b)).map startTrim) s

/-- The tile ports of a bank that have drivers. -/
def trimPorts (s : State) (b : Nat) : List (Nat × Nat) :=
  (tilesOn (rd s)).flatMap (fun t => ((tilePortList (rd s) t).filter (fun p => p / 64 == b && !(portDrivers s t p).isEmpty
    && (portDrivers s t p).all (fun k => !(farOf s k).rtts.isEmpty))).map (fun p => (t, p)))

/-- The measurements of a bank are complete: they wait for the edge, with the advances; a swing or delay result out of range leaves
every trim as it was (R396, R397). `swing` and `dly` are by port of the bank. -/
def trimMeasured (b : Nat) (swing dly : List Int) : Eff := fun s =>
  if !bit s.cal.trimWant b || bsState s b != bsRUN || awaits s (bankPorts b) isInitRead then [] else
  let ok := fun (x : Int) => decide (-8 ≤ x ∧ x ≤ 7)
  let ps := trimPorts s b
  let adv := (bankPorts b).map (fun p => match ps.find? (fun q => q.2 == p) with
    | some q => let ks := portDrivers s q.1 p; if deskewOk s ks then some (advanceOf s ks).toNat else none
    | none => none)
  .cal (fun c => { c with
    trimWant := setBit c.trimWant b false
    trimReady := if swing.all ok && dly.all ok then c.trimReady.filter (fun x => x.bank != b) ++ [⟨b, swing, dly, adv⟩] else c.trimReady })
  :: (if !(swing.all ok && dly.all ok) then [] else
    ps.flatMap (fun q =>
      let ks := portDrivers s q.1 q.2
      if deskewOk s ks then
        [.reg (Reg.PORT_RTT b (q.2 % 64)) (putF (putF 0 Fld.PORT_RTT_T_TA (freg s (ks.headD 0) 0xC)) Fld.PORT_RTT_RTT (meanRtt (farOf s (ks.headD 0)).rtts)),
         queueHouse q.2 (ks.map (fun k => drvReq s k pkREG_WRITE 0x14 (leBytes 4 (upstreamOf s ks k).toNat) false .plain))]
      else portEvent s 3 q.2 (ks.headD 0 / 256 % 16) (ks.headD 0 % 256)))

/-- The results of a bank's trim take effect at the edge (R397). -/
def applyTrim (z : BankTrim) : Eff := fun s =>
  let b := z.bank
  (bankPorts b).flatMap (fun p =>
    let i := p % 64
    [.reg (Reg.CAL_PORT_TRIM p) (putF (putF 0 Fld.CAL_PORT_TRIM_DLY_ADJ (BitVec.ofInt 4 (z.dly.getD i 0)).toNat) Fld.CAL_PORT_TRIM_SWING_ADJ (BitVec.ofInt 4 (z.swing.getD i 0)).toNat)]
    ++ (match z.adv.getD i none with
        | some a => [.fld (Reg.PORT_ADV b i) Fld.PORT_ADV_ADV a, .fld (Reg.PORT_ADV b i) Fld.PORT_ADV_TXD (1023 - a), .port p (fun q => { q with hasAdv := true })]
        | none => []))
  ++ [.inc (Reg.CAL_BANK_TRIM b) Fld.CAL_BANK_TRIM_COUNT 1,
      .fld (Reg.CAL_BANK_TRIM b) Fld.CAL_BANK_TRIM_TEMP (BitVec.ofInt 16 (s.cal.chipTemp.getD (b / 4) 0)).toNat]
  ++ eventNow s 8 9 allTenants (0x080 + b) (arg [(16, b)])

/-! ## The edge (R394) and commit checks -/

/-- Calibration at a curtain edge, after the commits `l` have entered. -/
def calEdge (l : List Staged) (old new : Rd) : Eff := seqE [
  fun s => seqE (s.cal.runs.map (fun q => fun s => match runEnds s l old new q with
    | some again => discardRun q.tile again s
    | none => [])) s,
  fun s => seqE (((List.range 1024).filter (installs l old new)).map queueRun) s,
  fun s => seqE ((tilesOn (rd s)).map loadStep) s,
  fun s => [.cal (fun c => { c with runs := c.runs.map (fun q => if q.step = 0 ∧ q.phase = 0 then q else
    { q with stamp := max q.stamp (rf s (Reg.TC_LOAD_LIVE q.tile) Fld.TC_LOAD_LIVE_U) }) })],
  startRuns,
  fun s => seqE (s.cal.runs.map (fun q => if q.reh then rehearsalStep q.tile else windowStep q.tile (l ++ s.cur.commits.flatMap (·.fields)))) s,
  placeAll,
  fun s => seqE (s.cal.trimReady.map applyTrim) s,
  fun _ => [.cal (fun c => { c with trimReady := [] })]]

/-- The rules of 09_calibration.md that a commit breaks. -/
def calBreaks (s : State) (l : List Staged) (r : Rd) : Bool :=
  (touches l Reg.CAL_CTRL (Reg.CAL_CTRL + 4) && rrf r Reg.CAL_CTRL Fld.CAL_CTRL_REPEAT == 0)
  || (touches l Reg.CAL_TEMP (Reg.CAL_TEMP + 4) && (decide (rrf r Reg.CAL_TEMP Fld.CAL_TEMP_CAL_DT < 16) || decide (1600 < rrf r Reg.CAL_TEMP Fld.CAL_TEMP_CAL_DT)))
  || (touches l Reg.CAL_NEAR (Reg.CAL_NEAR + 4) && decide (rrf r Reg.CAL_NEAR Fld.CAL_NEAR_RUN_LIMIT < 12))
  || (List.range 1024).any (fun t =>
    (touches l (Reg.TC_CTRL t) (Reg.TC_CTRL t + 4) && sensors r t == 3)
    || (installs l (rd s) r t && decide (0 < sensors r t) && recordBad s r t))

/-! ## The commands -/

/-- CAL_RUN (R383, R401). -/
def calRun (t : Nat) (v : Word) : Eff := fun s =>
  let tile := getF v Fld.CAL_RUN_TILE
  if t ≠ 0 ∧ ownerOf s 3 tile ≠ t then tenantFault s t stNOT_OWNER Reg.CAL_RUN
  else if getF v Fld.CAL_RUN_GO = 1 ∧ tileOn (rd s) tile then queueRun tile s else []

/-- READ_DATA (R350). -/
def execReadData (h : RetHead) (bs : List Byte) (s : State) : Out := done s (retTake h (dataTake h bs) s)
/-- SERVICE_DATA (R276). -/
def execServiceData (h : RetHead) (bs : List Byte) (s : State) : Out := done s (retTake h (serviceTake h bs) s)
/-- CAL_RUN (R383). -/
def execCalRun (a : Acc) (v : Word) (s : State) : Out := 
  done s (gate a Reg.CAL_RUN true false (fun u => calRun u v) s)
/-- CAL_RUN_RESULT (R386). -/
def execCalRunResult (t : Fin 1024) (e : List (Option (Int × Nat))) (fit : Bool) (s : State) : Out := done s (runResult t e fit s)
/-- TEMP_POLL (R388). -/
def execTempPoll (s : State) : Out := done s (tempPoll s)
/-- CAL_TRIM (R395). -/
def execCalTrim (a : Acc) (v : Word) (s : State) : Out := 
  done s (gate a Reg.CAL_TRIM true false (fun u => calTrim u v) s)
/-- BANK_TRIM_MEASURED (R396). -/
def execBankTrimMeasured (b : Fin 16) (swing dly : List Int) (s : State) : Out := done s (trimMeasured b swing dly s)

end Sys2Proof.Machine
end

