-- ==== Sys2Proof/Machine/Company.lean ====
section
/-! DEFINITION. The company: links, lanes and cells, company time, the lead and its members, shared sources, bulk transfers, the
company census and prompt book (10_company.md). -/

namespace Sys2Proof.Machine

/-! ## Roles, links and routes (R407, R408, R411) -/

/-- The roles of CMP_STATUS.ROLE. -/
def rlALONE : Nat := 0
def rlMEMBER : Nat := 1
def rlLEAD : Nat := 2
def rlPENDING : Nat := 3

/-- This device's role. -/
def role (s : State) : Nat := rf s Reg.CMP_STATUS Fld.CMP_STATUS_ROLE

/-- This device's company index. -/
def ownIndex (s : State) : Nat := rf s Reg.CMP_CTRL Fld.CMP_CTRL_INDEX

/-- This device's serial number. -/
def ownSerial (s : State) : Nat := leValue (caddyRead s 0x3FF000 8)

/-- The lead this device follows. -/
def leadIndex (s : State) : Nat := rf s Reg.CMP_STATUS Fld.CMP_STATUS_LEAD

/-- Are the company ports in service? -/
def cmpOn (s : State) : Bool := rf s Reg.CMP_CTRL Fld.CMP_CTRL_EN == 1

/-- Is link `e` UP? -/
def linkUp (s : State) (e : Nat) : Bool := cmpOn s && rf s (Reg.CMP_LINK_STATE e) Fld.CMP_LINK_STATE_STATE == 2

/-- The devices a link reaches, nearest first. -/
def reach (s : State) (e : Nat) : List Nat := if e = 0 then s.cmp.east else s.cmp.west

/-- A ring: each link reaches every other device, in opposite orders. -/
def isRing (s : State) : Bool := !s.cmp.east.isEmpty && s.cmp.east == s.cmp.west.reverse

/-- Hops to device `d` by link `e`. -/
def hopsBy (s : State) (e d : Nat) : Option Nat := ((reach s e).findIdx? (· == d)).map (· + 1)

/-- The way a cell to one device travels: the link with fewer hops, or east on a tie, with the hops (R411). -/
def route (s : State) (d : Nat) : Option (Nat × Nat) :=
  match hopsBy s 0 d, hopsBy s 1 d with
  | some a, some b => if a ≤ b then some (0, a) else some (1, b)
  | some a, none => some (0, a)
  | none, some b => some (1, b)
  | none, none => none

/-- The link a member takes its time from: on its shortest path to the lead, CW when both ways are equal (R414). -/
def timeLink (s : State) (lead : Nat) : Option Nat :=
  match hopsBy s 0 lead, hopsBy s 1 lead with
  | some a, some b => some (if b ≤ a then 1 else 0)
  | some _, none => some 0
  | none, some _ => some 1
  | none, none => none

/-- Is device `d` reachable, or this device itself? -/
def reachable (s : State) (d : Nat) : Bool := d == ownIndex s || (route s d).isSome

/-- An event of the company, to every tenant, with the link, lane or device (R434). -/
def cmpEvent (s : State) (b unit a : Nat) : List Act := eventNow s 9 b allTenants unit (arg [(16, a)])

/-- The unit of link `e` and that of the company's control (R584). -/
def linkUnit (e : Nat) : Nat := 0xB22 + e
def ctlUnit : Nat := 0xB24

/-! ## Cells (R410 to R412) -/

/-- The classes of cells. -/
def clTIME : Nat := 0
def clCONTROL : Nat := 1
def clSOURCE : Nat := 2
def clPROMPT : Nat := 3
def clBULK : Nat := 4

/-- A cell leaves on link `e` with the next SEQ of its link and class. -/
def sendCell (e cls kind src : Nat) (dst : Option Nat) (hops arg : Nat) (items : List Nat) : Eff := fun s =>
  if !linkUp s e then [] else
  let n := mapGet zeroNat s.cmp.txSeq (8 * e + cls)
  [.out (fun o => { o with cells := o.cells ++ [⟨e == 0, cls, kind, src, dst, hops, n, arg, items⟩] }),
   .cmp (fun c => { c with txSeq := mapPut zeroNat c.txSeq (8 * e + cls) ((n + 1) % 65536) })]

/-- A cell to one device, with HOPS_LEFT for the rest of its way. -/
def sendTo (d cls kind arg : Nat) (items : List Nat) : Eff := fun s =>
  match route s d with
  | some r => sendCell r.1 cls kind (ownIndex s) (some d) (r.2 - 1) arg items s
  | none => []

/-- A cell to every device: both ways on a ring, so that each device receives it once (R411). -/
def broadcast (cls kind arg : Nat) (items : List Nat) : Eff := fun s =>
  let n := s.cmp.east.length
  let ea := if isRing s then (n + 1) / 2 else n
  let we := if isRing s then n / 2 else s.cmp.west.length
  seqE [fun s => if ea = 0 then [] else sendCell 0 cls kind (ownIndex s) none (ea - 1) arg items s,
        fun s => if we = 0 then [] else sendCell 1 cls kind (ownIndex s) none (we - 1) arg items s] s

/-- Does the device take a cell's contents: a whole cell on an UP link, addressed to it or to every device? -/
def cellMine (s : State) (h : CellHead) : Bool :=
  h.ok && linkUp s h.e && (h.to_.isNone || h.to_.map Fin.val == some (ownIndex s))

/-- A cell that is not addressed only to this device goes on, with HOPS_LEFT one less (R411). -/
def forwardCell (h : CellHead) (cls kind arg : Nat) (items : List Nat) : Eff := fun s =>
  if h.ok && linkUp s h.e && h.to_.map Fin.val != some (ownIndex s) && decide (0 < h.hops) then
    sendCell (1 - h.e.val) cls kind h.from_ (h.to_.map Fin.val) (h.hops - 1) arg items s
  else []

/-! ## Company time (R413, R414) -/

/-- The TIME cells of one link: KIND 0 with the show time in 1/256 ns, the next edge and its CUR_NUM, the lead's priority, serial, index
and epoch, and the hops from it; KIND 1, a delay request. -/
def timeCells (e : Nat) : Eff := fun s =>
  let lead := if role s = rlLEAD then ownIndex s + 1 else if role s = rlMEMBER then leadIndex s + 1 else 0
  let hops := if role s = rlMEMBER then rf s Reg.CMP_STATUS Fld.CMP_STATUS_HOPS else 0
  seqE [sendCell e clTIME 0 (ownIndex s) none 0 0
          [256 * now s, s.cur.next, (rf s Reg.CUR_NUM Fld.CUR_NUM_NUM + 1) % 2 ^ 32, rf s Reg.CMP_EPOCH Fld.CMP_EPOCH_LEAD_PRIO,
           if role s = rlLEAD then ownSerial s else s.cmp.leadSerial, lead, rf s Reg.CMP_EPOCH Fld.CMP_EPOCH_EPOCH, hops],
        sendCell e clTIME 1 (ownIndex s) none 0 0 [now s]] s

/-- Every 125 us TIME cells leave on every link that is UP (R413). -/
def timeCellSend : List Eff := [
  fun s => if linkUp s 0 || linkUp s 1 then
    [.clockTo (s.cmp.timeAt + 125000), .cmp (fun c => { c with timeAt := max (c.timeAt + 125000) s.cur.clock })] else [],
  timeCells 0, timeCells 1]

/-- Does candidacy (p, n) win over (q, m): higher priority, then lower serial (R418)? -/
def beats (p n q m : Nat) : Bool := decide (q < p) || (p == q && decide (n < m))

/-- Another device holds this index: no company forms, and ROLE_CONFLICT is raised (R407). -/
def indexConflict (h : CellHead) : Eff := fun s =>
  if cellMine s h && h.from_.val == ownIndex s && !s.cmp.conflict then
    .cmp (fun c => { c with conflict := true }) :: cmpEvent s 5 ctlUnit h.from_.val
  else []

/-- A lead's TIME cell reaches the neighbour on link `e`: what it says of the lead, seen from here. -/
def heardLead (s : State) (h : CellHead) (at_ time256 edgeAt num prio serial epoch nhops : Nat) (lead : Nat) : LeadHeard :=
  let delay := rf s (Reg.CMP_LINK_DELAY h.e) Fld.CMP_LINK_DELAY_NS
  ⟨lead, prio, serial, epoch, nhops, (num + 2 ^ 32 - (rf s Reg.CUR_NUM Fld.CUR_NUM_NUM + 1) % 2 ^ 32) % 2 ^ 32,
   (at_ : Int) - (time256 / 256 + delay : Nat), edgeAt⟩

/-- This device follows a lead it has heard: its index, its epoch and the hops; a lead newly in office raises ROLE_CHANGE. -/
def followLead (l : LeadHeard) : Eff := fun s =>
  [.fld Reg.CMP_STATUS Fld.CMP_STATUS_LEAD l.dev, .fld Reg.CMP_STATUS Fld.CMP_STATUS_HOPS (l.hops + 1),
   .fld Reg.CMP_EPOCH Fld.CMP_EPOCH_LEAD_PRIO l.prio, .fld Reg.CMP_EPOCH Fld.CMP_EPOCH_EPOCH l.epoch,
   .cmp (fun c => { c with quiet := 0, leadSerial := l.serial, electing := false, standing := false, office := false, cands := [] })]
  ++ (if rf s Reg.CMP_EPOCH Fld.CMP_EPOCH_EPOCH = l.epoch ∧ leadIndex s = l.dev ∧ role s = rlMEMBER then []
      else cmpEvent s 3 ctlUnit l.dev)

/-- A TIME cell of KIND 0 that names a lead (R413, R414, R416, R422). -/
def leadHeard (h : CellHead) (at_ : Nat) (l : LeadHeard) : Eff := fun s =>
  if role s = rlLEAD then
    if l.dev = ownIndex s then []
    else if beats l.prio l.serial (rf s Reg.CMP_EPOCH Fld.CMP_EPOCH_LEAD_PRIO) (ownSerial s) then
      [.cmp (fun c => { c with join := some l, yields := true })]
    else []
  else if role s = rlMEMBER then
    if l.dev = leadIndex s ∨ s.cmp.electing then
      if timeLink s l.dev = some h.e.val then
        followLead l s ++ seqE (referenceEvent 4 at_ l.phase) (applyActs s (followLead l s)) else []
    else if beats l.prio l.serial (rf s Reg.CMP_EPOCH Fld.CMP_EPOCH_LEAD_PRIO) s.cmp.leadSerial then
      [.cmp (fun c => { c with join := some l, yields := true })]
    else []
  else
    let better := match s.cmp.join with
      | some o => o.dev == l.dev || beats l.prio l.serial o.prio o.serial
      | none => true
    if better && (timeLink s l.dev == some h.e.val) then
      .fld Reg.CMP_STATUS Fld.CMP_STATUS_ROLE rlPENDING
        :: .cmp (fun c => { c with join := some l, electing := false, standing := false, office := false })
        :: (if (s.cmp.join.map LeadHeard.dev) = some l.dev then [] else cmpEvent s 3 ctlUnit l.dev)
    else []

/-- A TIME cell of KIND 0 arrives (R413, R414, R416). A lead whose neighbour is ahead of it moves forward by an even number at
the next edge. -/
def timeCell (h : CellHead) (at_ time256 edgeAt num prio serial : Nat) (lead : Option (Fin 16)) (epoch nhops : Nat) : List Eff := [
  fun _ => [.clockTo at_],
  indexConflict h,
  fun s => if !cellMine s h || s.cmp.conflict then [] else
    match lead with
    | some d => leadHeard h at_ (heardLead s h at_ time256 edgeAt num prio serial epoch nhops d) s
    | none =>
      let ahead := (num + 2 ^ 32 - (rf s Reg.CUR_NUM Fld.CUR_NUM_NUM + 1) % 2 ^ 32) % 2 ^ 32
      if role s = rlLEAD ∧ 0 < ahead ∧ ahead < 2 ^ 31 then
        [.cmp (fun c => { c with advance := max c.advance ((ahead + 1) / 2 * 2) })]
      else []]

/-- A delay request is answered with the instants of its arrival and of the answer (R413). -/
def delayRequest (h : CellHead) (at_ : Nat) : List Eff := [
  fun _ => [.clockTo at_],
  fun s => if h.ok && linkUp s h.e then sendCell h.e clTIME 2 (ownIndex s) none 0 0 [at_, now s] s else []]

/-- The one-way delay of a link from the four instants of an exchange: half the round trip, and half of ASYM, which is in
picoseconds (R413, R433). -/
def companyDelay (s : State) (e t1 t2 t3 t4 : Nat) : Nat :=
  let rt : Int := ((t4 : Int) - t1) - ((t3 : Int) - t2)
  (divRound (500 * rt + toSigned 16 (rf s (Reg.CMP_LINK_ASYM e) Fld.CMP_LINK_ASYM_ASYM) / 2) 1000).toNat

/-- A delay response gives the link's delay (R413). -/
def delayResponse (h : CellHead) (t1 t2 t3 t4 : Nat) : Eff := fun s =>
  if h.ok && linkUp s h.e then
    [.clockTo t4, .fld (Reg.CMP_LINK_DELAY h.e) Fld.CMP_LINK_DELAY_NS (companyDelay s h.e t1 t2 t3 t4)]
  else []

/-! ## Formation, election and decisions (R417 to R422) -/

/-- Does a device take part in a formation: it knows no lead and is in no showing mode (R421)? -/
def formable (s : State) : Bool :=
  cmpOn s && !showing (mode s) && (role s == rlALONE || (role s == rlPENDING && (match s.cmp.join with
    | some l => !reachable s l.dev
    | none => true)))

/-- The device stands: it broadcasts its candidacy on every UP link (R420, R421). KIND 0 is a candidacy. -/
def stand (prio : Nat) : Eff := fun s => seqE [
  fun _ => [.cmp (fun c => { c with standing := true, electing := true, cands := c.cands.filter (fun k => k.dev != ownIndex s) })],
  broadcast clCONTROL 0 0 [prio, ownSerial s, ownIndex s]] s

/-- This device's own candidacy priority. -/
def ownPrio (s : State) : Nat := rf s Reg.CMP_PRIO Fld.CMP_PRIO_PRIO

/-- At commit close a standing device knows whether a better candidacy has reached it (R420, R421). -/
def officeClose : Eff := fun s =>
  if s.cmp.standing then
    [.cmp (fun c => { c with office := !c.conflict && !c.cands.any (fun k => beats k.prio k.serial (ownPrio s) (ownSerial s)) })]
  else []

/-- The serial number of device `d`, from its own request where it made one. -/
def serialOf (s : State) (asks : List RoleAsk) (d : Nat) : Nat :=
  if d = ownIndex s then ownSerial s
  else match asks.find? (fun a => a.kind == 1 && a.from_ == d) with
    | some a => a.serial
    | none => Config.serialOf d

/-- The candidacies of a decision (R417): one for each device that asks or is handed the lead, at the higher of its priorities; the
lead's own standing one when it hands nothing off. -/
def candidacies (s : State) (asks : List RoleAsk) : List Cand :=
  let cs := asks.map (fun a => let d := if a.kind = 2 then a.target else a.from_
    (⟨d, a.prio, serialOf s asks d⟩ : Cand))
  let all := if asks.any (fun a => a.kind == 2) then cs
    else cs ++ [⟨ownIndex s, rf s Reg.CMP_EPOCH Fld.CMP_EPOCH_LEAD_PRIO, ownSerial s⟩]
  all.filter (fun k => all.all (fun j => j.dev != k.dev || decide (j.prio ≤ k.prio)))

/-- The best of a list of candidacies (R418). -/
def bestCand (l : List Cand) : Option Cand :=
  l.foldl (fun b k => match b with
    | none => some k
    | some o => if beats k.prio k.serial o.prio o.serial then some k else some o) none

/-- Did a request go into the candidacy of device `d`? -/
def asksFor (a : RoleAsk) (d : Nat) : Bool := if a.kind = 2 then a.target == d else a.from_ == d

/-- The outcome of one request (R418): OK for the winning candidacy, UNREACHABLE for one passed over ahead of it, ROLE_DENIED for
the rest. -/
def askOutcome (s : State) (w : Cand) (cs : List Cand) (a : RoleAsk) : Nat × Nat :=
  let d := if a.kind = 2 then a.target else a.from_
  let passed := !reachable s d && (match cs.find? (fun k => k.dev == d) with
    | some k => beats k.prio k.serial w.prio w.serial
    | none => false)
  (a.from_, if asksFor a w.dev then stOK else if passed then stUNREACHABLE else stROLE_DENIED)

/-- The lead's decision at commit close over the requests that have reached it, announced in a CONTROL cell of KIND 1 (R417 to
R419). Nothing changes when the standing candidacy wins. -/
def leadClose : Eff := fun s =>
  if role s ≠ rlLEAD ∨ s.cmp.asks = [] then [] else
  let cs := candidacies s s.cmp.asks
  let w := (bestCand (cs.filter (fun k => reachable s k.dev))).getD
    ⟨ownIndex s, rf s Reg.CMP_EPOCH Fld.CMP_EPOCH_LEAD_PRIO, ownSerial s⟩
  let outs := s.cmp.asks.map (askOutcome s w cs)
  .cmp (fun c => { c with asks := [], decision := some ⟨w.dev, w.prio, w.serial, outs⟩ })
    :: broadcast clCONTROL 1 0 ([w.dev, w.prio, w.serial] ++ outs.flatMap (fun o => [o.1, o.2])) s

/-- What the company does at commit close (R417 to R421). -/
def companyClose : Eff := seqE [officeClose, leadClose]

/-- A request that reaches the lead (R417). A stale epoch, and a HAND_OFF from a device that is not the lead, are answered at
once and make no candidacy. -/
def takeAsk (a : RoleAsk) (epoch : Nat) : Eff := fun s =>
  let back := fun (st : Nat) =>
    if a.from_ = ownIndex s then
      [Act.reg Reg.CMP_ROLE_STAT (putF (putF 0 Fld.CMP_ROLE_STAT_NUM (rf s Reg.CUR_NUM Fld.CUR_NUM_NUM + 1))
        Fld.CMP_ROLE_STAT_STATUS st)]
    else sendTo a.from_ clCONTROL 1 0 [ownIndex s, rf s Reg.CMP_EPOCH Fld.CMP_EPOCH_LEAD_PRIO, ownSerial s, a.from_, st] s
  if epoch ≠ rf s Reg.CMP_EPOCH Fld.CMP_EPOCH_EPOCH then back stSTALE_ROLE
  else if a.kind = 2 ∧ a.from_ ≠ ownIndex s then back stBAD_ARG
  else [.cmp (fun c => { c with asks := c.asks ++ [a] })]

/-- A CONTROL cell with a candidacy (KIND 0), or with a TAKE_LEAD or HAND_OFF request on its way to the lead (R417, R420, R421). -/
def controlCandidacy (h : CellHead) (kind target prio serial epoch : Nat) : List Eff := [
  indexConflict h,
  fun s => if !cellMine s h || s.cmp.conflict then [] else
    if kind = 0 then
      if s.cmp.electing || formable s then
        seqE [fun _ => [.cmp (fun c => { c with
                cands := c.cands.filter (fun k => k.dev != h.from_.val) ++ [⟨h.from_, prio, serial⟩] })],
              fun s => if formable s && !s.cmp.standing then stand (ownPrio s) s else []] s
      else []
    else if role s = rlLEAD then takeAsk ⟨h.from_, kind, target, prio, serial⟩ epoch s
    else [],
  forwardCell h clCONTROL (if kind = 0 then 0 else 4) 0 [kind, target, prio, serial, epoch]]

/-- The announced decision reaches a device (R419). -/
def leadDecision (h : CellHead) (winner prio serial : Nat) (outs : List (Nat × Nat)) : List Eff := [
  fun s => if cellMine s h && h.from_.val == leadIndex s && role s == rlMEMBER then
      [.cmp (fun c => { c with decision := some ⟨winner, prio, serial,
        (match c.decision with | some d => d.outcomes | none => []) ++ outs⟩ })]
    else [],
  forwardCell h clCONTROL 1 0 ([winner, prio, serial] ++ outs.flatMap (fun o => [o.1, o.2]))]

/-- A role request of this device is settled: CMP_ROLE_STAT with the deciding edge, and ROLE_DENIED (R418, R433). -/
def askSettled (d : Decision) : Eff := fun s =>
  match d.outcomes.find? (fun o => o.1 == ownIndex s) with
  | some o => .reg Reg.CMP_ROLE_STAT (putF (putF 0 Fld.CMP_ROLE_STAT_NUM (rf s Reg.CUR_NUM Fld.CUR_NUM_NUM)) Fld.CMP_ROLE_STAT_STATUS o.2)
      :: (if o.2 = stROLE_DENIED then cmpEvent s 4 ctlUnit o.1 else [])
  | none => []

/-- The reference the servo works on: 4 on a member; on any other device CUR_SYNC.SRC, where 4 reads as 0 (R414). -/
def servoRef (s : State) (rl : Nat) : Nat :=
  let src := rf s Reg.CUR_SYNC Fld.CUR_SYNC_SRC
  if rl = rlMEMBER then 4 else if src = 4 then 0 else src

/-- The device takes a role. -/
def setRole (rl : Nat) : Eff := fun s =>
  .fld Reg.CMP_STATUS Fld.CMP_STATUS_ROLE rl :: servoSelect s (servoRef s rl)

/-- This device takes office as lead: its epoch increments and its priority is the winning one (R417, R418, R420, R421). -/
def takeOffice (prio : Nat) : Eff := fun s => seqE [
  fun s => [.fld Reg.CMP_STATUS Fld.CMP_STATUS_LEAD (ownIndex s), .fld Reg.CMP_STATUS Fld.CMP_STATUS_HOPS 0,
    .fld Reg.CMP_EPOCH Fld.CMP_EPOCH_LEAD_PRIO prio, .inc Reg.CMP_EPOCH Fld.CMP_EPOCH_EPOCH 1,
    .cmp (fun c => { c with electing := false, standing := false, office := false, cands := [], join := none, yields := false,
                            leadSerial := ownSerial s, quiet := 0 })],
  setRole rlLEAD,
  fun s => cmpEvent s 3 ctlUnit (ownIndex s)] s

/-- A decision takes effect at its edge (R417 to R419). -/
def decisionEdge : Eff := fun s =>
  match s.cmp.decision with
  | none => []
  | some d => seqE [
    fun _ => [.cmp (fun c => { c with decision := none })],
    askSettled d,
    fun s =>
      if d.winner = leadIndex s ∨ (role s = rlLEAD ∧ d.winner = ownIndex s) then []
      else if d.winner = ownIndex s then takeOffice d.prio s
      else if role s = rlLEAD ∨ role s = rlMEMBER then seqE [
        fun s => [.fld Reg.CMP_STATUS Fld.CMP_STATUS_LEAD d.winner,
          .fld Reg.CMP_STATUS Fld.CMP_STATUS_HOPS (((route s d.winner).map Prod.snd).getD 0),
          .fld Reg.CMP_EPOCH Fld.CMP_EPOCH_LEAD_PRIO d.prio, .inc Reg.CMP_EPOCH Fld.CMP_EPOCH_EPOCH 1,
          .cmp (fun c => { c with leadSerial := d.serial, quiet := 0, asks := [] })],
        setRole rlMEMBER,
        fun s => cmpEvent s 3 ctlUnit d.winner] s
      else []] s

/-- CUR_NUM moves forward by `k`, and with it every CUR_COMMIT_CURTAIN reported (R416). -/
def advanceNum (k : Nat) : List Act :=
  .inc Reg.CUR_NUM Fld.CUR_NUM_NUM k :: (allTenants.map (fun t => Act.inc (Reg.CUR_COMMIT_CURTAIN t) Fld.CUR_COMMIT_CURTAIN_NUM k))

/-- A device joins a company at an edge, out of the showing modes (R416): it takes the lead's count when that is ahead, steps
its show clock and breaks its CURTAIN packets (R319); when it is ahead itself, it takes the count to which the lead advances. -/
def joinEdge : Eff := fun s =>
  match s.cmp.join with
  | none => []
  | some l =>
    if role s = rlPENDING then
      if showing (mode s) || !reachable s l.dev then [] else seqE [
        fun _ => if l.ahead < 2 ^ 31 then
            .inc Reg.CUR_NUM Fld.CUR_NUM_NUM l.ahead :: .cur (stepClock (-l.phase) false) :: .drive (fun d => { d with broken := true }) :: []
          else [.inc Reg.CUR_NUM Fld.CUR_NUM_NUM ((2 ^ 32 - l.ahead) % 2)],
        setRole rlMEMBER,
        followLead l,
        fun _ => [.cmp (fun c => { c with join := none, yields := false, leadEdge := l.edge }), .cur (fun c => { c with moveNext := true })]] s
    else if s.cmp.yields then seqE [
        fun s => if role s = rlLEAD then cmpEvent s 5 ctlUnit l.dev else [],
        setRole (if l.ahead = 0 then rlMEMBER else rlPENDING),
        followLead l,
        fun _ => [.cmp (fun c => { c with yields := false, join := if l.ahead = 0 then none else c.join })]] s
    else []

/-- A standing device takes office at its edge when no better candidacy reached it (R420, R421). -/
def officeEdge : Eff := fun s => if s.cmp.office then takeOffice (ownPrio s) s else []

/-! ## Lanes and links (R406 to R408, R430) -/

/-- A link's STATE changes, and LINK_CHANGE is raised (R434). -/
def linkState (e st : Nat) : Eff := fun s =>
  if rf s (Reg.CMP_LINK_STATE e) Fld.CMP_LINK_STATE_STATE = st then [] else
  .fld (Reg.CMP_LINK_STATE e) Fld.CMP_LINK_STATE_STATE st :: cmpEvent s 0 (linkUnit e) e

/-- TOPO and PRESENT follow the reachable devices (R433). -/
def topology : Eff := fun s =>
  [.fld Reg.CMP_STATUS Fld.CMP_STATUS_TOPO
     (if isRing s then 2 else if s.cmp.east.isEmpty && s.cmp.west.isEmpty then 0 else 1),
   .fld Reg.CMP_STATUS Fld.CMP_STATUS_PRESENT
     ((List.range 16).foldl (fun m d => if (s.cmp.east ++ s.cmp.west).contains d then m + 2 ^ d else m) 0),
   .cmp (fun c => { c with xfer := c.xfer.map (fun x =>
      { x with deadAt := if (route s x.dest).isSome then none else some (x.deadAt.getD (now s)) }) })]

/-- A link goes DOWN here (0, 1) or elsewhere in the company (R430). -/
def linkDown (e : Option (Fin 2)) (ea we : List Nat) : List Eff := [
  fun s => match e with
    | some k => if rf s (Reg.CMP_LINK_STATE k) Fld.CMP_LINK_STATE_STATE = 0 then [] else
      .fld (Reg.CMP_LINK_STATE k) Fld.CMP_LINK_STATE_LANES 0 :: linkState k 0 s
    | none => [],
  fun s => if !cmpOn s then [] else
    [.cmp (fun c => { c with east := if e = some 0 then [] else ea, west := if e = some 1 then [] else we, lanesChanged := true })],
  fun s => if cmpOn s then topology s ++ cmpEvent s 2 (match e with | some k => linkUnit k | none => ctlUnit)
    (match e with | some k => k.val | none => 2) else []]

/-- A link comes UP: a formation begins among devices that know no lead (R421, R430). -/
def linkComesUp (e : Option (Fin 2)) (peer : Nat) (lanes : BitVec 4) (ea we : List Nat) : List Eff := [
  fun s => match e with
    | some k => if !cmpOn s then [] else
      .fld (Reg.CMP_LINK_STATE k) Fld.CMP_LINK_STATE_PEER peer :: .fld (Reg.CMP_LINK_STATE k) Fld.CMP_LINK_STATE_LANES lanes.toNat
        :: linkState k (if lanes = 0 then 1 else 2) s
    | none => [],
  fun s => if !cmpOn s then [] else [.cmp (fun c => { c with east := ea, west := we, lanesChanged := true })],
  fun s => if cmpOn s then topology s else [],
  fun s => if formable s then stand (ownPrio s) s else []]

/-- A lane leaves the stripe; a link with no working lane is DOWN (R408). -/
def laneLoss (e lane : Nat) : List Eff := [
  fun s => .cmp (fun c => { c with laneAt := mapPut zeroNat c.laneAt (4 * e + lane) 0 }) ::
    (if bitsOf (rf s (Reg.CMP_LINK_STATE e) Fld.CMP_LINK_STATE_LANES) lane lane = 0 then [] else
      .fld (Reg.CMP_LINK_STATE e) Fld.CMP_LINK_STATE_LANES (rf s (Reg.CMP_LINK_STATE e) Fld.CMP_LINK_STATE_LANES - 2 ^ lane)
        :: .cmp (fun c => { c with lanesChanged := true }) :: cmpEvent s 1 (linkUnit e) (4 * e + lane)),
  fun s => if rf s (Reg.CMP_LINK_STATE e) Fld.CMP_LINK_STATE_LANES = 0
      ∧ rf s (Reg.CMP_LINK_STATE e) Fld.CMP_LINK_STATE_STATE = 2 then
    seqE [linkState e 0,
          fun _ => [.cmp (fun c => { c with east := if e = 0 then [] else c.east, west := if e = 0 then c.west else [] })],
          topology, fun s => cmpEvent s 2 (linkUnit e) e] s else []]

/-- A lane regains lock: its clean second begins (R408). -/
def laneLock (e lane : Nat) : Eff := fun s =>
  if !cmpOn s ∨ bitsOf (rf s (Reg.CMP_LINK_STATE e) Fld.CMP_LINK_STATE_LANES) lane lane = 1 then [] else
  .cmp (fun c => { c with laneAt := mapPut zeroNat c.laneAt (4 * e + lane) (now s + 1) }) ::
    (if rf s (Reg.CMP_LINK_STATE e) Fld.CMP_LINK_STATE_STATE = 0 then linkState e 1 s else [])

/-- Lanes that have been clean for 1 s rejoin their stripe at an edge (R408). -/
def lanesEdge : Eff := seqE ((List.range 8).map (fun k => fun s =>
  let a := mapGet zeroNat s.cmp.laneAt k
  if 0 < a ∧ a - 1 + 1000000000 ≤ now s ∧ rf s (Reg.CMP_LINK_STATE (k / 4)) Fld.CMP_LINK_STATE_STATE = 2 then
    [.fld (Reg.CMP_LINK_STATE (k / 4)) Fld.CMP_LINK_STATE_LANES (rf s (Reg.CMP_LINK_STATE (k / 4)) Fld.CMP_LINK_STATE_LANES + 2 ^ (k % 4)),
     .cmp (fun c => { c with laneAt := mapPut zeroNat c.laneAt k 0, lanesChanged := true })]
  else []))

/-- Curtains without a TIME cell of the lead that make LEAD_LOST (R433: 0 and 1 read as 2). -/
def leadLossCurtains (s : State) : Nat := max 2 (rf s Reg.CMP_CTRL Fld.CMP_CTRL_LEAD_LOSS)

/-- A member has heard nothing of its lead for LEAD_LOSS curtains (R420): it raises LEAD_LOST, and stands where AUTO_LEAD and a
priority above 0 say so. -/
def leadLost : Eff := fun s =>
  if role s = rlMEMBER ∧ leadLossCurtains s ≤ s.cmp.quiet ∧ !s.cmp.electing then
    seqE [fun s => .cmp (fun c => { c with electing := true, cands := [] }) :: cmpEvent s 6 ctlUnit (leadIndex s),
          fun s => if rf s Reg.CMP_CTRL Fld.CMP_CTRL_AUTO_LEAD = 1 ∧ 0 < ownPrio s then stand (ownPrio s) s else []] s
  else []

/-! ## Company-wide fields (R415) -/

/-- Is a control address one of the company-wide fields? -/
def companyWide (a : Nat) : Bool :=
  a == Reg.CUR_RATE || a == Reg.CUR_PHASE || a == Reg.CUR_SLOT_PLAN || (List.range 8).any (fun j => a == Reg.CUR_SLOT j)

/-- Does a commit hold company-wide fields? -/
def hasWide (l : List Staged) : Bool := l.any (fun e => companyWide e.addr)

/-- A lead's commit that has passed its check and holds company-wide fields is announced, and enters one edge later (R415). -/
def announceWide (cm : Commit) (r : Rd) : Eff := fun s =>
  if role s = rlLEAD ∧ hasWide cm.fields then
    broadcast clCONTROL 2 0 ((cm.fields.filter (fun e => companyWide e.addr)).flatMap (fun e => [e.addr, (r e.addr).toNat])) s
  else []

/-- The lead's announcement reaches a member: a commit of house firmware that enters at the edge after the next (R415). -/
def fieldsAnnounce (h : CellHead) (fields : List (Nat × Word)) : List Eff := [
  fun s => if cellMine s h && role s == rlMEMBER && h.from_.val == leadIndex s then
      [.cur (fun c => { c with commits := c.commits ++
        [⟨8, 0, (fields.filter (fun f => companyWide f.1)).map (fun f => ⟨f.1, 0xFFFFFFFF, f.2, 0, 0, 0⟩), now s, false, none,
          some ((rf s Reg.CUR_NUM Fld.CUR_NUM_NUM + 2) % 2 ^ 32), false⟩] })]
    else [],
  forwardCell h clCONTROL 2 0 (fields.flatMap (fun f => [f.1, f.2.toNat]))]

/-! ## Shared sources (R423 to R426, R488) -/

/-- The raw window rate of share `k` under a reader in bytes per second, as a fraction (R426). -/
def shareRate (s : State) (r : Rd) (k : Nat) : Nat × Nat :=
  let x := rrf r (Reg.CMP_SHARE_CTRL k) Fld.CMP_SHARE_CTRL_SRC
  match (srcOf s x).fmt with
  | some f => (64 * rrf r (Reg.CMP_SHARE_WIN k) Fld.CMP_SHARE_WIN_BW * (64 * rrf r (Reg.CMP_SHARE_WIN k) Fld.CMP_SHARE_WIN_BH)
      * bytes8 f * 1000000000, 8 * max 1 (rd s (Reg.SRC_PERIOD x)).toNat)
  | none => (0, 1)

/-- The destinations of share `k` whose cells leave on link `e`. -/
def shareDests (s : State) (r : Rd) (k e : Nat) : List Nat :=
  (List.range 16).filter (fun d => bitsOf (rrf r (Reg.CMP_SHARE_CTRL k) Fld.CMP_SHARE_CTRL_DEST) d d == 1
    && (route s d).map Prod.fst == some e)

/-- Working lanes of a link. -/
def workingLanes (s : State) (e : Nat) : Nat :=
  ((List.range 4).filter (fun n => bitsOf (rf s (Reg.CMP_LINK_STATE e) Fld.CMP_LINK_STATE_LANES) n n == 1)).length

/-- Do the shares of a list fit the link direction: at most 20 Gb/s for each working lane (R426)? -/
def sharesFit (s : State) (r : Rd) (e : Nat) (ks : List Nat) : Bool :=
  let t := ks.foldl (fun (q : Nat × Nat) k =>
    let v := shareRate s r k
    let n := (shareDests s r k e).length
    (q.1 * v.2 + n * v.1 * q.2, q.2 * v.2)) (0, 1)
  decide (8 * t.1 ≤ 20000000000 * workingLanes s e * t.2)

/-- The shares in service under a reader. -/
def sharesOn (r : Rd) : List Nat := (List.range 6).filter (fun k => rrf r (Reg.CMP_SHARE_CTRL k) Fld.CMP_SHARE_CTRL_EN == 1)

/-- The rules of 10_company.md that a commit breaks: company-wide fields in a member's commit (R415), and the share capacity of
a link direction (R426). -/
def cmpBreaks (s : State) (who : Nat) (l : List Staged) (r : Rd) : Bool :=
  (decide (who ≠ 8) && role s == rlMEMBER && hasWide l)
  || (touches l (Reg.CMP_SHARE_CTRL 0) (Reg.CMP_SHARE_CTRL 6)
      && [0, 1].any (fun e => (sharesOn r).any (fun k => !(shareDests s r k e).isEmpty) && !sharesFit s r e (sharesOn r)))

/-- After a lane or link change the shares are admitted again in ascending number; one that no longer fits stops (R426). -/
def sharesEdge : Eff := fun s =>
  if !s.cmp.lanesChanged then [] else
  let kept := (sharesOn (rd s)).foldl (fun ks k => if [0, 1].all (fun e => (shareDests s (rd s) k e).isEmpty || sharesFit s (rd s) e (ks ++ [k]))
    then ks ++ [k] else ks) []
  [.cmp (fun c => { c with lanesChanged := false, stopped := (sharesOn (rd s)).filter (fun k => !kept.contains k) })]

/-- Bytes in pieces of at most 256. -/
def pieces : Nat → List Byte → List (List Byte)
  | 0, _ => []
  | n + 1, bs => if bs.length ≤ 256 then [bs] else bs.take 256 :: pieces n (bs.drop 256)

/-- The frame a share sends: the newest complete one of its source, else the adopted one. -/
def sharedFrame (s : State) (x : Nat) : Option (Nat × FrameFmt) :=
  match (srcOf s x).arrived.getLast? with
  | some a => some (a.buf, a.fmt)
  | none => match (srcOf s x).adopted with
    | some b => ((srcOf s x).bufFmt.getD b none).map (fun f => (b, f))
    | none => none

/-- A block of share `k` goes out as SOURCE cells to every device of DEST: packed where `pack` and packing gains, else raw (R423). KIND
1 marks a packed block, 2 its last cell. ARG: share, frame, block. -/
def sendBlock (k bx by_ : Nat) (pack : Bool) : Eff := fun s =>
  let x := rf s (Reg.CMP_SHARE_CTRL k) Fld.CMP_SHARE_CTRL_SRC
  match sharedFrame s x with
  | none => []
  | some bf =>
    let raw := blockBytes s x bf.1 bf.2 bx by_
    let packed := pack && !noGain [] raw
    let body := if packed then encodeBlock 0 [] raw else raw
    let ps := pieces 100 body
    let no := mapGet zeroNat s.cmp.frameNo k
    let f := bf.2
    let head := [f.sampling, f.depth, f.range, f.tf, f.color, f.width, f.height, (rd s (Reg.SRC_PERIOD x)).toNat]
    seqE (((List.range 16).filter (fun d => bitsOf (rf s (Reg.CMP_SHARE_CTRL k) Fld.CMP_SHARE_CTRL_DEST) d d == 1)).flatMap (fun d =>
      ps.mapIdx (fun i p => sendTo d clSOURCE ((if packed then 1 else 0) + (if i + 1 = ps.length then 2 else 0))
        (k + 256 * (no % 65536) + 2 ^ 24 * (by_ * blocksX f + bx)) (head ++ p.map BitVec.toNat)))) s

/-- Is block (bx, by) in the window of share `k` and its source's frame, and the share in service? -/
def blockShared (s : State) (k bx by_ : Nat) : Bool :=
  let w := Reg.CMP_SHARE_WIN k
  let x := rf s (Reg.CMP_SHARE_CTRL k) Fld.CMP_SHARE_CTRL_SRC
  rf s (Reg.CMP_SHARE_CTRL k) Fld.CMP_SHARE_CTRL_EN == 1 && !s.cmp.stopped.contains k && srcState s x == ssACTIVE
  && decide (rf s w Fld.CMP_SHARE_WIN_BX ≤ bx ∧ bx < rf s w Fld.CMP_SHARE_WIN_BX + rf s w Fld.CMP_SHARE_WIN_BW
      ∧ rf s w Fld.CMP_SHARE_WIN_BY ≤ by_ ∧ by_ < rf s w Fld.CMP_SHARE_WIN_BY + rf s w Fld.CMP_SHARE_WIN_BH)
  && (match sharedFrame s x with | some bf => decide (bx < blocksX bf.2 ∧ by_ < blocksY bf.2) | none => false)

/-- The window's first block opens a frame of the share. -/
def firstBlock (s : State) (k bx by_ : Nat) : Bool :=
  bx == rf s (Reg.CMP_SHARE_WIN k) Fld.CMP_SHARE_WIN_BX && by_ == rf s (Reg.CMP_SHARE_WIN k) Fld.CMP_SHARE_WIN_BY

/-- A shared block's lines are written: a lane in service packs it at once, else it waits (R423, R487, R488). -/
def shareReady (k bx by_ : Nat) : List Eff := [
  fun s => if blockShared s k bx by_ && firstBlock s k bx by_ then
    [.cmp (fun c => { c with frameNo := mapPut zeroNat c.frameNo k ((mapGet zeroNat c.frameNo k + 1) % 65536) })] else [],
  fun s => if !blockShared s k bx by_ then [] else
    if (freeLane s).isSome then sendBlock k bx by_ true s
    else [.cmp (fun c => { c with shareWait := c.shareWait ++ [⟨k, bx, by_, now s⟩] })]]

/-- No lane has started the oldest waiting block within 2 us: it is sent raw (R488). -/
def shareRaw : List Eff := [
  fun s => match s.cmp.shareWait with | w :: _ => [.clockTo (w.since + 2000)] | [] => [],
  fun s => match s.cmp.shareWait with
    | w :: _ => .cmp (fun c => { c with shareWait := c.shareWait.drop 1 }) :: .inc Reg.PKR_RAW_SHARE Fld.PKR_RAW_SHARE_COUNT 1
        :: sendBlock w.share w.bx w.by_ false s
    | [] => []]

/-- A block's bytes go to their places in buffer `b`, span by span (R424). -/
def putSpans (s : State) : List (Nat × Nat) → List Byte → List Act
  | [], _ => []
  | (a, n) :: r, bs => dramStore s a (bs.take n) ++ putSpans s r (bs.drop n)

/-- The blocks of a window inside a frame, as indexes of R110. -/
def windowBlocks (f : FrameFmt) (w : ShareWin) : List Nat :=
  (List.range w.bh).flatMap (fun j => (List.range w.bw).filterMap (fun i =>
    if w.by_ + j < blocksY f ∧ w.bx + i < blocksX f then some ((w.by_ + j) * blocksX f + (w.bx + i)) else none))

/-- The received frame of source `x`. -/
def recvOf (s : State) (x : Nat) : Option RecvFrame := mapGet noRecv s.cmp.recvs x

/-- The received frame of source `x` becomes `q`. -/
def setRecv (x : Nat) (q : Option RecvFrame) : Act := .cmp (fun c => { c with recvs := mapPut noRecv c.recvs x q })

/-- The received frame of source `x` is discarded as incomplete (R95, R424). -/
def recvDrop (x : Nat) : Eff := fun s =>
  if (recvOf s x).isNone then [] else
  setRecv x none ::
    (if 4 ≤ x then [.inc (Reg.SRC_GAP_CNT x) Fld.SRC_GAP_CNT_COUNT 1] else []) ++ srcEvent s x 4

/-- The last cell of a block has come: it is decoded where packed, and written with its CRC (R424, R478). -/
def recvBlock (x : Nat) (q : RecvFrame) (packed : Bool) : Eff := fun s =>
  let bx := q.block % blocksX q.fmt
  let by_ := q.block / blocksX q.fmt
  let spans := blockSpans (rd s) x q.buf q.fmt bx by_
  let need := (spans.map Prod.snd).foldl (· + ·) 0
  let r := if packed then decodeBlock q.part need none else .ok q.part
  match r with
  | .ok bs =>
    if bs.length ≠ need then [setRecv x (some { q with part := [] })] else
    putSpans s spans bs ++ dramStore s (crcAddr (rd s) x q.buf + 4 * q.block) (leBytes 4 (crc32 bs).toNat)
      ++ [setRecv x (some { q with part := [], got := q.got ++ [q.block] })]
  | .err e =>
    setRecv x (some { q with part := [] })
      :: packError s ((freeLane s).getD 0) e [0] (arg [(16, 0xFFFF), (16, x)])

/-- A received frame arrives when its last block has been written (R424). -/
def recvArrive (x : Nat) : Eff := fun s =>
  match recvOf s x with
  | some q =>
    if (windowBlocks q.fmt q.win).all q.got.contains then seqE [
      fun _ => [setRecv x none],
      framePeriod x,
      fun s => if srcState s x = ssACTIVE then arrive x q.buf q.fmt s else []] s
    else []
  | none => []

/-- The local sources that receive a share (R424). -/
def receivers (s : State) (dev share : Nat) : List Nat :=
  (List.range 6).filter (fun x => rf s (Reg.CMP_RECV x) Fld.CMP_RECV_EN == 1 && rf s (Reg.CMP_RECV x) Fld.CMP_RECV_FROM_DEV == dev
    && rf s (Reg.CMP_RECV x) Fld.CMP_RECV_FROM_SRC == share && srcState s x != ssOFF)

/-- One cell of a shared block for receiving source `x` (R424, R425): the format first, then its bytes, in order. -/
def recvCell (x frame bx by_ : Nat) (fmt : FrameFmt) (win : ShareWin) (packed last : Bool) (bs : List Byte) : List Eff := [
  srcReseek x fmt,
  fun s => seqE (srcFormat x fmt win.ns) s,
  fun s => if srcState s x = ssLOST then srcEnter s x ssSEEKING else [],
  fun s => match recvOf s x with
    | some q => if q.frame = frame then [] else recvDrop x s
    | none => [],
  fun s => if (recvOf s x).isSome then [] else
    [setRecv x (some ⟨frame, fmt, win, writeBuf (srcOf s x), [], by_ * blocksX fmt + bx, [], now s⟩)],
  fun s => match recvOf s x with
    | some q =>
      let k := by_ * blocksX q.fmt + bx
      [setRecv x (some { q with block := k, part := (if q.block = k then q.part else []) ++ bs, lastAt := now s })]
    | none => [],
  fun s => match recvOf s x with
    | some q => if last then recvBlock x q packed s else []
    | none => [],
  recvArrive x]

/-- A SOURCE cell arrives (R424). -/
def sourceCell (h : CellHead) (share frame bx by_ : Nat) (fmt : FrameFmt) (win : ShareWin) (packed last : Bool) (bs : List Byte) :
    List Eff := [
  fun s => if cellMine s h && decide (bs.length ≤ 256) then
      seqE ((receivers s h.from_ share).flatMap (fun x => recvCell x frame bx by_ fmt win packed last bs)) s else [],
  forwardCell h clSOURCE ((if packed then 1 else 0) + (if last then 2 else 0))
    (share + 256 * (frame % 65536) + 2 ^ 24 * (by_ * blocksX fmt + bx))
    ([fmt.sampling, fmt.depth, fmt.range, fmt.tf, fmt.color, fmt.width, fmt.height, win.ns] ++ bs.map BitVec.toNat)]

/-- SKEW_MAX after the last cell of a received frame that lacks a block, it is incomplete (R95, R424). A source without a flow register
takes the reset value of SKEW_MAX. -/
def shareSkewTimeout (x : Nat) : List Eff := [
  fun s => match recvOf s x with
    | some q => [.clockTo (q.lastAt + (if 4 ≤ x then skewMax s x else 1000 * getF (regReset (Reg.SRC_FLOW_CFG 4)) Fld.SRC_FLOW_CFG_SKEW_MAX))]
    | none => [],
  recvDrop x]

/-! ## Bulk transfers (R412, R427) -/

/-- How many BULK cells may be on their way unacknowledged (DESIGN CHOICE, log entry 34). -/
def bulkWindow : Nat := 64

/-- The transfer's source, destination and length. -/
def xferSrc (s : State) : Nat := addr36 s Reg.XFER_SRC_LO Reg.XFER_SRC_HI
def xferDst (s : State) : Nat := addr36 s Reg.XFER_DST_LO Reg.XFER_DST_HI
def xferLen (s : State) : Nat := 64 * rf s Reg.XFER_LEN Fld.XFER_LEN_LEN

/-- The transfer completes with a status, and XFER_DONE is raised (R427). -/
def xferDone (st : Nat) : Eff := fun s =>
  .reg Reg.XFER_STAT (putF (putF 0 Fld.XFER_STAT_STATE 2) Fld.XFER_STAT_STATUS st)
    :: .cmp (fun c => { c with xfer := none }) :: cmpEvent s 7 ctlUnit ((s.cmp.xfer.map Xfer.dest).getD 0)

/-- One BULK cell of the bytes at offset `off`; a byte that cannot be read ends the transfer with DATA_UE (R456). -/
def bulkCell (x : Xfer) (off : Nat) : Eff := fun s =>
  let n := min 256 (xferLen s - off)
  match route s x.dest with
  | none => []
  | some r =>
    if dramUE s (xferSrc s + off) n then dramReadActs s (xferSrc s + off) n ++ xferDone stDATA_UE s else
    let seq := mapGet zeroNat s.cmp.txSeq (8 * r.1 + clBULK)
    sendTo x.dest clBULK 0 (xferDst s + off) ([xferDst s, xferLen s, off] ++ (dramBytes s (xferSrc s + off) n).map BitVec.toNat) s
      ++ [.cmp (fun c => { c with xfer := c.xfer.map (fun y => { y with sent := max y.sent (off + n), flight := y.flight ++ [(seq, off, n)] }) })]

/-- BULK cells go out while fewer than the window are unacknowledged. -/
def bulkSend : Nat → Eff
  | 0, _ => []
  | k + 1, s => match s.cmp.xfer with
    | some x => if x.flight.length < bulkWindow ∧ x.sent < xferLen s ∧ (route s x.dest).isSome then
        seqE [bulkCell x x.sent, bulkSend k] s else []
    | none => []

/-- A write of CMP_XFER_CTRL.GO (R427). While a transfer is BUSY the write is refused. -/
def xferGo (t : Nat) (v : Word) : List Eff := [
  fun s =>
    if t ≠ 0 then tenantFault s t stNOT_OWNER Reg.XFER_CTRL
    else if getF v Fld.XFER_CTRL_GO = 0 then []
    else if rf s Reg.XFER_STAT Fld.XFER_STAT_STATE = 1 then tenantFault s t stBUSY Reg.XFER_CTRL
    else
      let d := getF v Fld.XFER_CTRL_DEST
      seqE [fun s => [.reg Reg.XFER_STAT (putF (putF 0 Fld.XFER_STAT_STATE 1) Fld.XFER_STAT_STATUS stBUSY),
              .cmp (fun c => { c with xfer := some ⟨d, 0, [], if (route s d).isSome then none else some (now s)⟩ })],
            fun s => if xferLen s = 0 then xferDone stOK s else [],
            bulkSend bulkWindow] s]

/-- Does [a, a + n) lie wholly within one of the receive windows (R427)? -/
def rxWindowHolds (s : State) (a n : Nat) : Bool :=
  (List.range 4).any (fun w =>
    let base := rf s (Reg.CMP_RXWIN_LO w) Fld.CMP_RXWIN_LO_BASE_LO * 0x10000 + rf s (Reg.CMP_RXWIN_HI w) Fld.CMP_RXWIN_HI_BASE_HI * 2 ^ 32
    let size := rf s (Reg.CMP_RXWIN_HI w) Fld.CMP_RXWIN_HI_SIZE * 0x10000
    decide (0 < size ∧ base ≤ a ∧ a + n ≤ base + size))

/-- What has been received of a transfer from device `d`: the first cell opens it. -/
def rxOf (s : State) (d dst len off : Nat) : RxBulk :=
  match s.cmp.rxBulk.find? (fun q => q.from_ == d && q.dst == dst && q.len == len && !(off == 0 && q.done_ == q.len)) with
  | some q => q
  | none => ⟨d, dst, len, 0, !rxWindowHolds s dst len⟩

/-- A BULK cell (R412, R427): the whole destination range is checked before anything is written; bytes in order are written and
acknowledged by SEQ, KIND 1; a cell out of order is not. -/
def bulkArrives (h : CellHead) (dst len off : Nat) (bs : List Byte) : List Eff := [
  fun s => if !(cellMine s h && decide (bs.length ≤ 256)) then [] else
    let q := rxOf s h.from_ dst len off
    let keep := fun (q' : RxBulk) => Act.cmp (fun c => { c with rxBulk := c.rxBulk.filter (fun p => p.from_ != h.from_.val) ++ [q'] })
    if q.bad then keep { q with done_ := q.len } :: sendTo h.from_ clBULK 1 0 [h.seq, stBAD_ARG] s
    else if off ≤ q.done_ then
      (if off = q.done_ ∧ off + bs.length ≤ len then dramStore s (dst + off) bs ++ [keep { q with done_ := off + bs.length }] else [])
      ++ sendTo h.from_ clBULK 1 0 [h.seq, stOK] s
    else [],
  forwardCell h clBULK 0 (dst + off) ([dst, len, off] ++ bs.map BitVec.toNat)]

/-- An acknowledgement by SEQ (R412): the cells up to it are done; one that acknowledges nothing outstanding makes the sender send
again from the first cell not acknowledged. -/
def bulkAck (h : CellHead) (seq status : Nat) : List Eff := [
  fun s => if !cellMine s h then [] else
    match s.cmp.xfer with
    | none => []
    | some x =>
      if x.dest ≠ h.from_.val then []
      else if status ≠ stOK then xferDone status s
      else match x.flight.findIdx? (fun c => c.1 == seq) with
        | some i =>
          let rest := x.flight.drop (i + 1)
          if rest.isEmpty ∧ xferLen s ≤ x.sent then xferDone stOK s
          else seqE [fun _ => [.cmp (fun c => { c with xfer := some { x with flight := rest } })], bulkSend bulkWindow] s
        | none => seqE [fun _ => [.cmp (fun c => { c with
              xfer := some { x with flight := [], sent := match x.flight with | f :: _ => f.2.1 | [] => x.sent } })],
            bulkSend bulkWindow] s,
  forwardCell h clBULK 1 0 [seq, status]]

/-- The destination has been unreachable for 100 ms (R427). -/
def xferUnreachable : List Eff := [
  fun s => match s.cmp.xfer with
    | some x => (match x.deadAt with | some t => [.clockTo (t + 100000000)] | none => [])
    | none => [],
  fun s => match s.cmp.xfer with
    | some x => if x.deadAt.isSome then xferDone stUNREACHABLE s else []
    | none => []]

/-! ## Requests of T0 (R417, R428) -/

/-- A write of CMP_ROLE_REQ (R417): the request goes to the lead, and CMP_ROLE_STAT reads BUSY while it is pending. -/
def roleReq (t : Nat) (v : Word) : List Eff := [
  fun s =>
    let kind := getF v Fld.CMP_ROLE_REQ_KIND
    let prio := getF v Fld.CMP_ROLE_REQ_PRIO
    let target := getF v Fld.CMP_ROLE_REQ_TARGET
    let epoch := getF v Fld.CMP_ROLE_REQ_EPOCH
    let stat := fun (st : Nat) => [Act.reg Reg.CMP_ROLE_STAT
      (putF (putF 0 Fld.CMP_ROLE_STAT_NUM (rf s Reg.CUR_NUM Fld.CUR_NUM_NUM)) Fld.CMP_ROLE_STAT_STATUS st)]
    if t ≠ 0 then tenantFault s t stNOT_OWNER Reg.CMP_ROLE_REQ
    else if kind = 0 ∨ kind = 3 then stat stBAD_ARG ++ tenantFault s t stBAD_ARG Reg.CMP_ROLE_REQ
    else if role s = rlLEAD then
      seqE [fun _ => stat stBUSY, takeAsk ⟨ownIndex s, kind, target, prio, ownSerial s⟩ epoch] s
    else if role s = rlMEMBER then
      stat stBUSY ++ sendTo (leadIndex s) clCONTROL 4 0 [kind, target, prio, ownSerial s, epoch] s
    else stat stUNREACHABLE]

/-- A write of CMP_CENSUS.GO (R428): on the lead it sets the census edge and broadcasts the request, KIND 3. -/
def censusGo (t : Nat) (v : Word) : List Eff := [
  fun s =>
    if t ≠ 0 then tenantFault s t stNOT_OWNER Reg.CMP_CENSUS
    else if getF v Fld.CMP_CENSUS_GO = 0 then []
    else if role s ≠ rlLEAD then tenantFault s t stBAD_ARG Reg.CMP_CENSUS
    else
      let num := (rf s Reg.CUR_NUM Fld.CUR_NUM_NUM + 1 + max 2 (rf s Reg.CMP_CTRL Fld.CMP_CTRL_CENSUS_AHEAD)) % 2 ^ 32
      let gen := (rf s Reg.CMP_CENSUS_STAT Fld.CMP_CENSUS_STAT_GEN + 1) % 65536
      .reg Reg.CMP_CENSUS_STAT (putF 0 Fld.CMP_CENSUS_STAT_GEN gen) :: .cmp (fun c => { c with census := some (num, gen) })
        :: broadcast clCONTROL 3 0 [num, gen] s]

/-- A company census request reaches a device, or a device's report reaches the lead (R428). A request that comes after the commit close of
its edge is reported as missed. -/
def censusRequest (h : CellHead) (num gen : Nat) (report : Option Bool) : List Eff := [
  fun s => if !cellMine s h then [] else
    match report with
    | some took =>
      if role s = rlLEAD ∧ gen = rf s Reg.CMP_CENSUS_STAT Fld.CMP_CENSUS_STAT_GEN then
        if took then
          (if bitsOf (rf s Reg.CMP_CENSUS_STAT Fld.CMP_CENSUS_STAT_MASK) h.from_ h.from_ = 1 then [] else
            [.inc Reg.CMP_CENSUS_STAT Fld.CMP_CENSUS_STAT_MASK (2 ^ h.from_.val)])
        else cmpEvent s 8 ctlUnit h.from_
      else []
    | none =>
      let ahead := (num + 2 ^ 32 - rf s Reg.CUR_NUM Fld.CUR_NUM_NUM) % 2 ^ 32
      if role s ≠ rlMEMBER then []
      else if ahead = 0 ∨ 2 ^ 31 ≤ ahead ∨ (ahead = 1 ∧ s.cur.closed) then sendTo h.from_ clCONTROL 3 1 [num, gen, 0] s
      else [.cmp (fun c => { c with census := some (num, gen) })],
  forwardCell h clCONTROL 3 (if report.isSome then 1 else 0) ([num, gen] ++ (match report with | some b => [if b then 1 else 0] | none => []))]

/-- The generation of the company census that falls at this edge, if one does (R428, R590). -/
def companyCensus (s : State) : Option Nat :=
  match s.cmp.census with
  | some q => if q.1 = rf s Reg.CUR_NUM Fld.CUR_NUM_NUM then some q.2 else none
  | none => none

/-- A device that has taken the copy tells the lead, which keeps MASK (R428). -/
def censusTaken (gen : Nat) : Eff := fun s =>
  .cmp (fun c => { c with census := none }) ::
  (if role s = rlLEAD then [.inc Reg.CMP_CENSUS_STAT Fld.CMP_CENSUS_STAT_MASK (2 ^ ownIndex s)]
   else sendTo (leadIndex s) clCONTROL 3 1 [rf s Reg.CUR_NUM Fld.CUR_NUM_NUM, gen, 1] s)

/-! ## The company prompt book (R429) -/

/-- Does record `a` come before `b` in the company prompt book: by show time, device, unit? -/
def recBefore (a b : PbRec) : Bool :=
  decide (a.stamp < b.stamp) || (a.stamp == b.stamp && (decide (a.unit / 4096 < b.unit / 4096)
    || (a.unit / 4096 == b.unit / 4096 && decide (a.unit % 4096 ≤ b.unit % 4096))))

/-- A record put in its place. -/
def bookInsert (r : PbRec) : List PbRec → List PbRec
  | [] => [r]
  | q :: qs => if recBefore q r then q :: bookInsert r qs else r :: q :: qs

/-- A member's record reaches the lead (R429). -/
def promptCell (h : CellHead) (r : PbRec) : List Eff := [
  fun s => if cellMine s h && role s == rlLEAD then
      [.book (fun b => { b with companyRing := bookInsert (⟨r.stamp, r.unit % 4096 + 4096 * h.from_.val, r.code, r.kind, r.level, r.coalesced,
          r.block, r.count, r.tenants, r.arg⟩ : PbRec) b.companyRing })]
    else [],
  forwardCell h clPROMPT 0 0 [r.stamp, r.unit, r.code, r.kind, r.level, if r.coalesced then 1 else 0, r.block, r.count,
    r.tenants.toNat, r.arg.toNat]]

/-- With PB_MIRROR a member sends a record to the lead; one that cannot be sent is lost under the rules of its own book: answered
by whether it went (R429). -/
def mirrorRec (r : PbRec) : Eff := fun s =>
  if role s = rlMEMBER ∧ rf s Reg.CMP_CTRL Fld.CMP_CTRL_PB_MIRROR = 1 then
    if (route s (leadIndex s)).isSome then
      sendTo (leadIndex s) clPROMPT 0 0 [r.stamp, r.unit, r.code, r.kind, r.level, if r.coalesced then 1 else 0, r.block, r.count,
        r.tenants.toNat, r.arg.toNat] s
    else [.inc Reg.PB_UNIT_LOST Fld.PB_UNIT_LOST_COUNT 1]
  else []

/-! ## The edge -/

/-- What the company does at a curtain edge, after CUR_NUM has advanced (R408, R416 to R422, R426). -/
def companyEdge : Eff := seqE [
  fun s => .cmp (fun c => { c with quiet := if role s = rlMEMBER then c.quiet + 1 else 0, advance := 0 })
    :: (if role s = rlLEAD ∧ 0 < s.cmp.advance then advanceNum s.cmp.advance else []),
  decisionEdge, officeEdge, joinEdge, lanesEdge, sharesEdge]

/-! ## The commands -/

/-- TIME_CELL_SEND (R413). -/
def execTimeCellSend (s : State) : Out := doneAll s timeCellSend

/-- TIME_CELL (R413, R414, R416, R422). -/
def execTimeCell (h : CellHead) (at_ time256 edgeAt num prio serial : Nat) (lead : Option (Fin 16)) (epoch nhops : Nat) (s : State) : Out :=
  doneAll s (timeCell h at_ time256 edgeAt num prio serial lead epoch nhops)

/-- DELAY_REQUEST (R413). -/
def execDelayRequest (h : CellHead) (at_ : Nat) (s : State) : Out := doneAll s (delayRequest h at_)

/-- DELAY_RESPONSE (R413). -/
def execDelayResponse (h : CellHead) (t1 t2 t3 t4 : Nat) (s : State) : Out := done s (delayResponse h t1 t2 t3 t4 s)

/-- CONTROL_CANDIDACY (R417, R420, R421). -/
def execControlCandidacy (h : CellHead) (kind : Fin 3) (target : Fin 16) (prio serial epoch : Nat) (s : State) : Out :=
  doneAll s (controlCandidacy h kind target prio serial epoch)

/-- CONTROL_LEAD_DECISION (R419). -/
def execControlLeadDecision (h : CellHead) (winner : Fin 16) (prio serial : Nat) (outcomes : List (Nat × Nat)) (s : State) : Out :=
  doneAll s (leadDecision h winner prio serial outcomes)

/-- CONTROL_FIELDS_ANNOUNCE (R415). -/
def execControlFieldsAnnounce (h : CellHead) (fields : List (Nat × Word)) (s : State) : Out := doneAll s (fieldsAnnounce h fields)

/-- CONTROL_CENSUS_REQUEST (R428). -/
def execControlCensusRequest (h : CellHead) (num gen : Nat) (report : Option Bool) (s : State) : Out :=
  doneAll s (censusRequest h num gen report)

/-- SOURCE_CELL (R424). -/
def execSourceCell (h : CellHead) (share frame bx by_ : Nat) (fmt : FrameFmt) (win : ShareWin) (packed last : Bool) (bs : List Byte)
    (s : State) : Out := doneAll s (sourceCell h share frame bx by_ fmt win packed last bs)

/-- PROMPT_CELL (R429). -/
def execPromptCell (h : CellHead) (stamp unit code kind level : Nat) (coalesced : Bool) (block count : Nat) (tenants : BitVec 8)
    (a : BitVec 64) (s : State) : Out := doneAll s (promptCell h ⟨stamp, unit, code, kind, level, coalesced, block, count, tenants, a⟩)

/-- BULK_CELL (R412, R427). -/
def execBulkCell (h : CellHead) (dst len off : Nat) (bs : List Byte) (s : State) : Out := doneAll s (bulkArrives h dst len off bs)

/-- BULK_ACK (R412). -/
def execBulkAck (h : CellHead) (seq status : Nat) (s : State) : Out := doneAll s (bulkAck h seq status)

/-- XFER_UNREACHABLE (R427). -/
def execXferUnreachable (s : State) : Out := doneAll s xferUnreachable

/-- CMP_XFER_GO (R427). -/
def execCmpXferGo (a : Acc) (v : Word) (s : State) : Out := 
  done s (gate a Reg.XFER_CTRL true false (fun u => seqE (xferGo u v)) s)

/-- CMP_ROLE_REQ (R417). -/
def execCmpRoleReq (a : Acc) (v : Word) (s : State) : Out := 
  done s (gate a Reg.CMP_ROLE_REQ true false (fun u => seqE (roleReq u v)) s)

/-- CMP_CENSUS (R428). -/
def execCmpCensus (a : Acc) (v : Word) (s : State) : Out := 
  done s (gate a Reg.CMP_CENSUS true false (fun u => seqE (censusGo u v)) s)

/-- LANE_LOSS (R408). -/
def execLaneLoss (e : Fin 2) (lane : Fin 4) (s : State) : Out := doneAll s (laneLoss e lane)

/-- LANE_LOCK (R408). -/
def execLaneLock (e : Fin 2) (lane : Fin 4) (s : State) : Out := done s (laneLock e lane s)

/-- LINK_DOWN (R430). -/
def execLinkDown (e : Option (Fin 2)) (east west : List (Fin 16)) (s : State) : Out :=
  doneAll s (linkDown e (east.map Fin.val) (west.map Fin.val))

/-- LINK_UP (R421, R430). -/
def execLinkUp (e : Option (Fin 2)) (peer : Fin 16) (lanes : BitVec 4) (east west : List (Fin 16)) (s : State) : Out :=
  doneAll s (linkComesUp e peer lanes (east.map Fin.val) (west.map Fin.val))

/-- LEAD_LOST (R420). -/
def execLeadLost (s : State) : Out := done s (leadLost s)

/-- SHARE_BLOCK_READY (R423). -/
def execShareBlockReady (share : Fin 6) (bx by_ : Nat) (s : State) : Out := doneAll s (shareReady share bx by_)

/-- SHARE_RAW_TIMEOUT (R488). -/
def execShareRawTimeout (s : State) : Out := doneAll s shareRaw

end Sys2Proof.Machine
end

