-- ==== Sys2Proof/Machine/Commits.lean ====
section
/-! DEFINITION. How a staged commit ends: its registers, COMMIT_DONE and the completion of its cue (02 R62 to R66, R72; 15 R578). -/

namespace Sys2Proof.Machine

/-- The tenant whose commit it is: one of LIVE, or of a degradation step, is T0's (R548, R615); house firmware's own are no tenant's. -/
def commitTenant (cm : Commit) : Option Nat := if cm.who < 8 then some cm.who else if cm.who = 9 ∨ cm.who = 10 then some 0 else none

/-- A commit ends, at the lamps at the edge of number `num` or failed with a status, at the time `stamp`. The event and the cue's
completion say COMMIT_LATE of a late commit (R578); CUR_COMMIT_STAT, which holds the tenant's most recent commit, reads OK once it is in
effect (R89). -/
def settleCommit (cm : Commit) (st num stamp : Nat) : Eff := fun s =>
  let shows := st = stOK ∨ st = stCOMMIT_LATE
  (match commitTenant cm with
   | some t =>
     (if cm.who < 8 ∧ !cm.older then
        .reg (Reg.CUR_COMMIT_STAT t) (putF (putF 0 Fld.CUR_COMMIT_STAT_TAG cm.tag) Fld.CUR_COMMIT_STAT_STATUS (if shows then stOK else st))
          :: (if shows then [.fld (Reg.CUR_COMMIT_CURTAIN t) Fld.CUR_COMMIT_CURTAIN_NUM num] else [])
      else [])
     ++ event 1 5 [t] 0 (arg [(16, cm.tag), (32, st)]) stamp
   | none => [])
  ++ (match cm.cue with
      | some r => complete cm.who r st (if shows then num else 0) s
      | none => [])

/-- Every commit that has not taken effect at the lamps fails with a status, one in the pipeline state too (R545). -/
def failCommits (st : Nat) : Eff := fun s =>
  seqE ((s.cur.entered ++ s.cur.commits).map (fun cm => fun s => settleCommit cm st 0 (now s) s)) s
  ++ [.cur (fun c => { c with commits := [], entered := [] })]

/-- The thing that an owner register holds the owner of (R565). -/
def ownThing (a : Nat) : Option (Nat × Nat) :=
  if a % 4 ≠ 0 then none
  else if Reg.TEN_OWN_SLOT 0 ≤ a ∧ a < Reg.TEN_OWN_SLOT 8 then some (1, (a - Reg.TEN_OWN_SLOT 0) / 4)
  else if Reg.TEN_OWN_LAYER 0 ≤ a ∧ a < Reg.TEN_OWN_LAYER 128 then some (2, (a - Reg.TEN_OWN_LAYER 0) / 4)
  else if Reg.TEN_OWN_TILE 0 ≤ a ∧ a < Reg.TEN_OWN_TILE 1024 then some (3, (a - Reg.TEN_OWN_TILE 0) / 4)
  else if Reg.TEN_OWN_CLUSTER 0 ≤ a ∧ a < Reg.TEN_OWN_CLUSTER 16 then some (5, (a - Reg.TEN_OWN_CLUSTER 0) / 4)
  else if Reg.BANK_OWNER 0 ≤ a ∧ a < Reg.BANK_OWNER 512 then some (4, (a - Reg.BANK_OWNER 0) / 4)
  else none

/-- Every ownable thing (R565). -/
def allThings : List (Nat × Nat) :=
  (List.range 8).map (1, ·) ++ (List.range 128).map (2, ·) ++ (List.range 1024).map (3, ·) ++ (List.range 512).map (4, ·)
    ++ (List.range 16).map (5, ·)

end Sys2Proof.Machine
end

