-- ==== Sys2Proof/Machine/Seal.lean ====
section
/-! DEFINITION. What seals an image: SHA-384 (FIPS 180-4) and the verification of an ECDSA signature over P-384 (FIPS 186-5), which
R529, R532 and R534 name (log entry 35). -/

namespace Sys2Proof.Machine

/-! ## SHA-384 -/

/-- A 64-bit word of the hash. -/
abbrev Word64 := BitVec 64

/-- The first 64 bits of the fractional parts of the cube roots of the first primes. -/
def shaKa : List Nat :=
  [0x428A2F98D728AE22, 0x7137449123EF65CD, 0xB5C0FBCFEC4D3B2F, 0xE9B5DBA58189DBBC,
   0x3956C25BF348B538, 0x59F111F1B605D019, 0x923F82A4AF194F9B, 0xAB1C5ED5DA6D8118,
   0xD807AA98A3030242, 0x12835B0145706FBE, 0x243185BE4EE4B28C, 0x550C7DC3D5FFB4E2,
   0x72BE5D74F27B896F, 0x80DEB1FE3B1696B1, 0x9BDC06A725C71235, 0xC19BF174CF692694,
   0xE49B69C19EF14AD2, 0xEFBE4786384F25E3, 0x0FC19DC68B8CD5B5, 0x240CA1CC77AC9C65,
   0x2DE92C6F592B0275, 0x4A7484AA6EA6E483, 0x5CB0A9DCBD41FBD4, 0x76F988DA831153B5,
   0x983E5152EE66DFAB, 0xA831C66D2DB43210, 0xB00327C898FB213F, 0xBF597FC7BEEF0EE4,
   0xC6E00BF33DA88FC2, 0xD5A79147930AA725, 0x06CA6351E003826F, 0x142929670A0E6E70,
   0x27B70A8546D22FFC, 0x2E1B21385C26C926, 0x4D2C6DFC5AC42AED, 0x53380D139D95B3DF,
   0x650A73548BAF63DE, 0x766A0ABB3C77B2A8, 0x81C2C92E47EDAEE6, 0x92722C851482353B]
def shaKb : List Nat :=
  [0xA2BFE8A14CF10364, 0xA81A664BBC423001, 0xC24B8B70D0F89791, 0xC76C51A30654BE30,
   0xD192E819D6EF5218, 0xD69906245565A910, 0xF40E35855771202A, 0x106AA07032BBD1B8,
   0x19A4C116B8D2D0C8, 0x1E376C085141AB53, 0x2748774CDF8EEB99, 0x34B0BCB5E19B48A8,
   0x391C0CB3C5C95A63, 0x4ED8AA4AE3418ACB, 0x5B9CCA4F7763E373, 0x682E6FF3D6B2B8A3,
   0x748F82EE5DEFB2FC, 0x78A5636F43172F60, 0x84C87814A1F0AB72, 0x8CC702081A6439EC,
   0x90BEFFFA23631E28, 0xA4506CEBDE82BDE9, 0xBEF9A3F7B2C67915, 0xC67178F2E372532B,
   0xCA273ECEEA26619C, 0xD186B8C721C0C207, 0xEADA7DD6CDE0EB1E, 0xF57D4F7FEE6ED178,
   0x06F067AA72176FBA, 0x0A637DC5A2C898A6, 0x113F9804BEF90DAE, 0x1B710B35131C471B,
   0x28DB77F523047D84, 0x32CAAB7B40C72493, 0x3C9EBE0A15C9BEBC, 0x431D67C49C100D4C,
   0x4CC5D4BECB3E42B6, 0x597F299CFC657E2A, 0x5FCB6FAB3AD6FAEC, 0x6C44198C4A475817]

/-- The initial hash value of SHA-384. -/
def shaInit : List Nat :=
  [0xCBBB9D5DC1059ED8, 0x629A292A367CD507, 0x9159015A3070DD17, 0x152FECD8F70E5939,
   0x67332667FFC00B31, 0x8EB44A8768581511, 0xDB0C2E0D64F98FA7, 0x47B5481DBEFA4FA4]

/-- The functions of FIPS 180-4. -/
def rotr (x : Word64) (n : Nat) : Word64 := x.rotateRight n
def shaCh (x y z : Word64) : Word64 := (x &&& y) ^^^ (~~~x &&& z)
def shaMaj (x y z : Word64) : Word64 := (x &&& y) ^^^ (x &&& z) ^^^ (y &&& z)
def shaS0 (x : Word64) : Word64 := rotr x 28 ^^^ rotr x 34 ^^^ rotr x 39
def shaS1 (x : Word64) : Word64 := rotr x 14 ^^^ rotr x 18 ^^^ rotr x 41
def shaG0 (x : Word64) : Word64 := rotr x 1 ^^^ rotr x 8 ^^^ (x >>> 7)
def shaG1 (x : Word64) : Word64 := rotr x 19 ^^^ rotr x 61 ^^^ (x >>> 6)

/-- The message schedule: `n` more words after those of a list, kept newest first. -/
def shaSchedule : Nat → List Word64 → List Word64
  | 0, w => w
  | n + 1, w => shaSchedule n ((shaG1 (w.getD 1 0) + w.getD 6 0 + shaG0 (w.getD 14 0) + w.getD 15 0) :: w)

/-- One round over the eight working variables. -/
def shaRound (v : List Word64) (kw : Word64) : List Word64 :=
  match v with
  | [a, b, c, d, e, f, g, h] =>
    let t1 := h + shaS1 e + shaCh e f g + kw
    [t1 + shaS0 a + shaMaj a b c, a, b, c, d + t1, e, f, g]
  | _ => v

/-- One block of 128 bytes. -/
def shaBlock (h : List Word64) (bs : List Byte) : List Word64 :=
  let ws := (List.range 16).map (fun i => (BitVec.ofNat 64 (beValue ((bs.drop (8 * i)).take 8)) : Word64))
  let w := (shaSchedule 64 ws.reverse).reverse
  let v := (((shaKa ++ shaKb).map (BitVec.ofNat 64)).zipWith (· + ·) w).foldl shaRound h
  h.zipWith (· + ·) v

/-- The blocks of a message. -/
def shaBlocks : Nat → List Byte → List Word64 → List Word64
  | 0, _, h => h
  | n + 1, bs, h => shaBlocks n (bs.drop 128) (shaBlock h (bs.take 128))

/-- The message padded: a one bit, zeros, and the length in bits in 16 bytes, big-endian. -/
def shaPad (bs : List Byte) : List Byte :=
  bs ++ [0x80] ++ List.replicate ((128 - (bs.length + 17) % 128) % 128) 0 ++ (leBytes 16 (8 * bs.length)).reverse

/-- SHA-384 of a byte list: 48 bytes. -/
def sha384 (bs : List Byte) : List Byte :=
  let m := shaPad bs
  ((shaBlocks (m.length / 128) m (shaInit.map (BitVec.ofNat 64))).take 6).flatMap (fun w => (leBytes 8 w.toNat).reverse)

/-! ## P-384 -/

/-- The field prime, the order, the coefficient b and the base point of P-384. -/
def p384P : Nat := 2 ^ 384 - 2 ^ 128 - 2 ^ 96 + 2 ^ 32 - 1
def p384N : Nat := 0xffffffffffffffffffffffffffffffffffffffffffffffffc7634d81f4372ddf581a0db248b0a77aecec196accc52973
def p384B : Nat := 0xb3312fa7e23ee7e4988e056be3f82d19181d9c6efe8141120314088f5013875ac656398d8a2ed19d2a85c8edd3ec2aef
def p384G : Nat × Nat :=
  (0xaa87ca22be8b05378eb1c71ef320ad746e1d3b628ba79b9859f741e082542a385502f25dbf55296c3a545e3872760ab7,
   0x3617de4a96262c6f5d9e98bf9292dc29f8f41dbd289a147ce9da3113b5f0b8c00a60b1ce1d7e819d7a431d7c90ea0e5f)

/-- `b ^ e mod m`, over the `n` low bits of `e`. -/
def powMod (m : Nat) : Nat → Nat → Nat → Nat
  | 0, _, _ => 1 % m
  | n + 1, b, e => let r := powMod m n (b * b % m) (e / 2); if e % 2 = 1 then r * b % m else r

/-- The inverse modulo a prime. -/
def invMod (m a : Nat) : Nat := powMod m 384 (a % m) (m - 2)

/-- The sum of two points of the curve; none is the point at infinity. -/
def ecAdd : Option (Nat × Nat) → Option (Nat × Nat) → Option (Nat × Nat)
  | none, q => q
  | p, none => p
  | some (x1, y1), some (x2, y2) =>
    let l : Option Nat :=
      if x1 = x2 then (if (y1 + y2) % p384P = 0 then none else some ((3 * x1 * x1 + p384P - 3) * invMod p384P (2 * y1) % p384P))
      else some ((y2 + p384P - y1) * invMod p384P (x2 + p384P - x1) % p384P)
    l.map (fun l =>
      let x := (l * l + 2 * p384P - x1 - x2) % p384P
      (x, (l * (x1 + p384P - x) + p384P - y1) % p384P))

/-- `k` times a point, over the `n` low bits of `k`. -/
def ecMul : Nat → Nat → Option (Nat × Nat) → Option (Nat × Nat)
  | 0, _, _ => none
  | n + 1, k, q =>
    let r := ecMul n (k / 2) (ecAdd q q)
    if k % 2 = 1 then ecAdd q r else r

/-- Is (x, y) a point of P-384? -/
def onCurve (x y : Nat) : Bool :=
  decide (x < p384P ∧ y < p384P) && (y * y) % p384P == (x * x * x + (p384P - 3) * x + p384B) % p384P

/-- Does (r, t) sign a hash under the key (x, y)? -/
def ecdsaOk (x y z r t : Nat) : Bool :=
  decide (0 < r ∧ r < p384N ∧ 0 < t ∧ t < p384N) &&
  (let w := invMod p384N t
   match ecAdd (ecMul 384 (z * w % p384N) (some p384G)) (ecMul 384 (r * w % p384N) (some (x, y))) with
   | some q => q.1 % p384N == r
   | none => false)

end Sys2Proof.Machine
end

