-- ==== Sys2Proof/Machine/Image.lean ====
section
/-! DEFINITION. The Pronex image: its layout, seal, sections and records; the checks of phase A; LOAD's phase B; LIVE and its rounds;
flash, revocation and the boot images (14_pronex_image.md, R503). -/

namespace Sys2Proof.Machine

/-! ## Flash and the image directory (R538, R539) -/

/-- `n` bytes of a list at offset `o`, little-endian. -/
def leAt (b : List Byte) (o n : Nat) : Nat := leValue ((b.drop o).take n)

/-- GEN of a directory copy whose CRC holds. -/
def dirGen (s : State) (c : Nat) : Option Nat :=
  let b := flashRead s (0x1000 * c) 4096
  if (crc32 (b.take 4092)).toNat = leAt b 4092 4 then some (leAt b 0 4) else none

/-- The flash address of the directory copy in use. -/
def dirBase (s : State) : Option Nat :=
  match dirGen s 0, dirGen s 1 with
  | some a, some b => if a < b then some 0x1000 else some 0
  | some _, none => some 0
  | none, some _ => some 0x1000
  | none, none => none

/-- ADDR, LEN and SEQ of a VALID directory entry. -/
def dirEntry (s : State) (e : Nat) : Option (Nat × Nat × Nat) :=
  match dirBase s with
  | some d =>
    let b := flashRead s (d + 8 + 32 * e) 32
    if e < 15 ∧ leAt b 20 4 % 2 = 1 then some (leAt b 0 8, leAt b 8 8, leAt b 16 4) else none
  | none => none

/-! ## Sections and records (R528 to R531) -/

/-- What an image is read from: offset and length to bytes. -/
abbrev ImgSrc := Nat → Nat → List Byte

/-- The outcome of a check: a failure has a status and a section index. -/
abbrev Check := Except (Nat × Nat)

/-- A condition that a check rests on. -/
def must (c : Bool) (st sec : Nat) : Check Unit := if c then .ok () else .error (st, sec)

/-- Class and register blocks of a section TYPE (R530). -/
def sectInfo (ty : Nat) : Option (Nat × List Nat) :=
  match ty with
  | 0x0001 => some (0, [0, 11]) | 0x0002 => some (0, [0]) | 0x0003 => some (0, [0]) | 0x0004 => some (0, [10])
  | 0x0005 => some (0, [6]) | 0x0006 => some (0, [6]) | 0x0007 => some (0, [5]) | 0x0008 => some (0, [7])
  | 0x0009 => some (0, [3, 4, 7, 12, 13, 9]) | 0x0100 => some (1, [5]) | 0x0101 => some (1, [3, 7])
  | 0x0102 => some (1, [4, 7]) | 0x0103 => some (1, [7]) | 0x0104 => some (1, [15]) | 0x0105 => some (1, [1, 2])
  | 0x0106 => some (1, [8, 7]) | 0x7FFF => some (1, [])
  | _ => none

/-- NOTE and ENG_PROG. -/
def tyNOTE : Nat := 0x7FFF
def tyENG_PROG : Nat := 0x0100

/-- One entry of the section table (R529). -/
structure SectEntry where
  index : Nat
  ty : Nat
  cls : Nat
  pack : Nat
  offset : Nat
  stored : Nat
  raw : Nat
  digest : List Byte
  zeros : Bool

/-- Entry `i` as the table holds it. -/
def sectEntry (rd : ImgSrc) (i : Nat) : SectEntry :=
  let b := rd (128 + 96 * i) 96
  ⟨i, leAt b 0 2, leAt b 2 1, leAt b 3 1, leAt b 8 8, leAt b 16 8, leAt b 24 8, (b.drop 32).take 48,
   leAt b 4 4 == 0 && (b.drop 80).all (· == 0)⟩

/-- An entry in order by itself: its class, packing, place and lengths. -/
def entryOk (e : SectEntry) (n sealAt : Nat) : Bool :=
  e.zeros && (sectInfo e.ty).map (·.1) == some e.cls && decide (e.pack ≤ 2) && e.offset % 64 == 0
  && decide (128 + 96 * n ≤ e.offset) && decide (e.offset + e.stored ≤ sealAt)
  && (e.pack != 1 || decide (e.raw ≤ 0x1000000)) && (e.pack != 0 || e.raw == e.stored)

/-- Two entries that may stand together: no TYPE twice but NOTE, no payloads that overlap. -/
def entriesApart (a b : SectEntry) : Bool :=
  a.index == b.index || ((a.ty != b.ty || a.ty == tyNOTE)
    && (a.stored == 0 || b.stored == 0 || decide (a.offset + a.stored ≤ b.offset) || decide (b.offset + b.stored ≤ a.offset)))

/-- The section types that every image holds (R530). -/
def neededTypes : List Nat := [1, 2, 4, 5, 8, 9, 0x104, 0x105]

/-- The blocks of a PACK 1 section: a stream from CONT 0 to LAST (R529). -/
def unpackStream : Nat → List Byte → List Byte → Except Nat (List Byte)
  | 0, _, _ => .error stSECTION_MISMATCH
  | fuel + 1, b, out =>
    if b = [] then .error stSECTION_MISMATCH
    else if b.length < 16 ∨ b.length < hdrBlockLen b ∨ hdrBlockLen b = 0 then .error stBAD_HEADER
    else if hdrCont b ≠ !out.isEmpty ∧ out.isEmpty then .error stSECTION_MISMATCH
    else
      let blk := b.take (hdrBlockLen b)
      match decodeBlock blk 0x1000000 (some (out.drop (out.length - 65536))) with
      | .err st => .error st
      | .ok o =>
        let rest := b.drop (hdrBlockLen b)
        if hdrLast b then (if rest = [] then .ok (out ++ o) else .error stSECTION_MISMATCH)
        else unpackStream fuel rest (out ++ o)

/-- Independent blocks back to back (R529, R531). -/
def unpackBlocks : Nat → List Byte → List Byte → Except Nat (List Byte)
  | 0, _, _ => .error stSECTION_MISMATCH
  | fuel + 1, b, out =>
    if b = [] then .ok out
    else if b.length < 16 ∨ b.length < hdrBlockLen b ∨ hdrBlockLen b = 0 then .error stBAD_HEADER
    else match decodeBlock (b.take (hdrBlockLen b)) 0x1000000 none with
      | .err st => .error st
      | .ok o => unpackBlocks fuel (b.drop (hdrBlockLen b)) (out ++ o)

/-- A payload unpacked to RAW_LEN bytes; `pack` 0 raw, 1 stream, 2 blocks. -/
def unpackPayload (pack raw : Nat) (b : List Byte) : Except Nat (List Byte) := do
  let o ← match pack with
    | 0 => pure b
    | 1 => unpackStream (b.length + 1) b []
    | _ => unpackBlocks (b.length + 1) b []
  if o.length = raw then pure o else .error stSECTION_MISMATCH

/-- `n` fields of `w` bytes each. -/
def fieldList (b : List Byte) (w n : Nat) : List Nat := (List.range n).map (fun i => leAt b (w * i) w)

/-- The records of an unpacked payload (R531); none for any other tag, a record cut short, or bytes after END. -/
def parseRecs : Nat → List Byte → Option (List ImgRec)
  | 0, _ => none
  | _ + 1, [] => none
  | fuel + 1, tag :: b =>
    match tag.toNat with
    | 0 => if b = [] then some [] else none
    | 1 =>
      let n := leAt b 0 2
      let q := b.drop 2
      if q.length < 8 * n then none else
      (parseRecs fuel (q.drop (8 * n))).map (ImgRec.reg ((List.range n).map (fun i => (leAt q (8 * i) 4, BitVec.ofNat 32 (leAt q (8 * i + 4) 4)))) :: ·)
    | 2 =>
      let n := leAt b 8 4
      let q := b.drop 12
      if b.length < 12 ∨ q.length < n then none else (parseRecs fuel (q.drop n)).map (ImgRec.mem (leAt b 0 8) (q.take n) :: ·)
    | 3 =>
      let n := leAt b 19 2
      let w := if leAt b 0 1 = 0 then 8 else 6
      let q := b.drop 21
      if b.length < 21 ∨ q.length < w * n then none else
      (parseRecs fuel (q.drop (w * n))).map (ImgRec.pstore (leAt b 0 1) (leAt b 1 16) (leAt b 17 2) (fieldList q w n) :: ·)
    | 4 =>
      if b.length < 73 then none else
      (parseRecs fuel (b.drop 73)).map
        (ImgRec.ext (leAt b 0 8) (leAt b 8 4) (leAt b 12 8) (leAt b 20 4) (leAt b 24 1) ((b.drop 25).take 48) :: ·)
    | _ => none

/-- May a section write a register: one of its type's blocks that exists, of a unit in service, and no RWL field from a LIVE
section (R531)? -/
def regOk (s : State) (cls : Nat) (blocks : List Nat) (a : Nat) : Bool :=
  blocks.contains (a / 0x100000) && !absentAddr s a &&
  (match regRow? a with
   | some (row, _) => cls == 0 || row.fields.all (fun f => f.acc != .rwl)
   | none => false)

/-- The units a PSTORE record names (R531). -/
def maskUnits (mask n : Nat) : List Nat := (List.range n).filter (fun i => bitsOf mask i i == 1)

/-- Is a record one that its section may hold (R531)? -/
def recOk (s : State) (cls cap : Nat) (blocks : List Nat) : ImgRec → Bool
  | .reg ps => ps.all (fun p => regOk s cls blocks p.1)
  | .mem d bs => decide (d + bs.length ≤ cap)
  | .pstore k m st ws =>
    let n := if k = 0 then 96 else 16
    decide (k ≤ 1) && blocks.contains (if k = 0 then 5 else 6) && decide (m < 2 ^ n) && decide (st + ws.length ≤ 4096)
      && (maskUnits m n).all (fun u => quadPresent s (if k = 0 then u / 24 else u / 4))
  | .ext f n d raw form _ => decide (d + raw ≤ cap) && decide (f + n ≤ 2 ^ 31) && (form == 0 && n == raw || form == 2)

/-! ## What an image holds -/

/-- Sections in ascending TYPE, keeping the table's order within one. -/
def insertSect (x : ImgSect) : List ImgSect → List ImgSect
  | [] => [x]
  | y :: ys => if x.ty < y.ty then x :: y :: ys else y :: insertSect x ys

/-- The sections in the order in which they apply (R531). -/
def sortSects (l : List ImgSect) : List ImgSect := l.foldl (fun acc x => insertSect x acc) []

/-- Every record, in the order in which they apply. -/
def imgRecs (l : List ImgSect) : List ImgRec := l.flatMap (·.recs)

/-- The register writes of sections. -/
def imgPairs (l : List ImgSect) : List (Nat × Word) :=
  (imgRecs l).flatMap (fun | .reg ps => ps | _ => [])

/-- The DRAM that MEM records and EXT extents write: address and bytes. -/
def imgDests (l : List ImgSect) : List (Nat × Nat) :=
  (imgRecs l).flatMap (fun | .mem d bs => [(d, bs.length)] | .ext _ _ d raw _ _ => [(d, raw)] | _ => [])

/-- The bits of a register that an image sets. -/
def imgMask (row : RegRow) : Word := rowMask row (fun c => c == .rw || c == .rws || c == .rwl)

/-- A register file with one write of an image made. -/
def imgWrite (m : SMap Word) (p : Nat × Word) : SMap Word :=
  match regRow? p.1 with
  | some (row, _) => putReg m p.1 ((mapGet regReset m p.1 &&& ~~~imgMask row) ||| (p.2 &&& imgMask row))
  | none => m

/-- The value an image gives a register, over its reset value. -/
def imgReg (l : List ImgSect) : Rd := mapGet regReset ((imgPairs l).foldl imgWrite [])

/-- Do two ranges of DRAM meet? -/
def rangesMeet (a b : Nat × Nat) : Bool := decide (0 < a.2 ∧ 0 < b.2 ∧ a.1 < b.1 + b.2 ∧ b.1 < a.1 + a.2)

/-! ## The structural checks of step A7 -/

/-- The lines of a tile are split over its ports as R129 says, and its ports lie in one bank and carry what they may. -/
def splitOk (r : Rd) (t : Nat) : Bool :=
  let p := tilePorts r t
  let nl := lineCount r t
  decide ((p - 1) * tileLines r t < nl ∧ nl ≤ p * tileLines r t)
  && decide (tilePort0 r t / 64 = (tilePort0 r t + p - 1) / 64)
  && decide (tileLines r t * lineLen r t * 3 ≤ 65536)
  && (List.range p).all (fun k => portLoadOk r (tilePort0 r t + k) 16)

/-- Structure that an image may not set: units of a disabled quadrant (R4), a port of two tiles (R127), the ceilings of R24, tiles in
wall space (R126, R129), link efficiency (R287), T_win (R332), T_rescue (R71), DRAM fitted (R451), CAD_HOLD, LAMP_ORDER, SCOPE. -/
def structBad (s : State) (r : Rd) : Bool :=
  let q := if s.fuses.is9440 then 4 else 3
  let ts := tilesOn r
  let lamps := (ts.map (fun t => 3 * tileW r t * tileH r t)).foldl (· + ·) 0
  let mib := installedMiB (r Reg.DDR_CFG) (channels s).length
  let regions := fun (l : List Nat) => (l.map (fun t => regX r t * regY r t)).foldl (· + ·) 0
  let rate := rrf r Reg.CUR_RATE Fld.CUR_RATE_RATE
  ts.any (fun t => decide (256 * q < tilePort0 r t + tilePorts r t) || wallBad r t || !splitOk r t
    || decide (5 < rrf r (Reg.TD_CTRL t) Fld.TD_CTRL_LAMP_ORDER)
    || ts.any (fun u => decide (u < t ∧ tilePort0 r t < tilePort0 r u + tilePorts r u ∧ tilePort0 r u < tilePort0 r t + tilePorts r t))
    || (List.range (slotCount r)).any (fun j => winShort (scanSlot r t j)))
  || decide (8388608 * q < lamps) || decide (256 * q < ts.length) || decide (3072 * q < regions ts)
  || (List.range 4).any (fun k => decide (3072 < regions (ts.filter (fun t => tileQuad r t == k))))
  || decide (1920 * (rateHz rate).2 < slotCount r * (rateHz rate).1)
  || (banksOn r).any (fun b => !effOk r b || !rateOk r b || ((bankPorts b).filter (portOn r)).any (fun p => !rescueLongEnough r p))
  || decide (mib < 4096 * q) || decide (16384 * q < mib)
  || decide (rrf r Reg.CAD_HOLD Fld.CAD_HOLD_V_MIN < 3000) || decide (5000 < rrf r Reg.CAD_HOLD Fld.CAD_HOLD_V_MIN)
  || decide (rrf r Reg.CAD_HOLD Fld.CAD_HOLD_C_UF < 10) || decide (10000 < rrf r Reg.CAD_HOLD Fld.CAD_HOLD_C_UF)
  || (List.range 8).any (fun u => rrf r (Reg.ENG_US u) Fld.ENG_US_SCOPE == 3)

/-! ## The seal (R532 to R534) -/

/-- Does a seal record pass over its signed span? -/
def sealOk (s : State) (rec span : List Byte) : Bool :=
  let slot := leAt rec 4 1
  let key := (rec.drop 8).take 97
  let x := beValue ((key.drop 1).take 48)
  let y := beValue (key.drop 49)
  rec.take 4 == [0x4D, 0x5A, 0x53, 0x4C] && decide (slot < 4)
  && bit s.fuses.keyProg slot && !bit s.fuses.keyRevoked slot
  && beValue (sha384 key) == s.fuses.keys.getD slot 0
  && leAt key 0 1 == 4 && onCurve x y
  && ecdsaOk x y (beValue (sha384 span)) (beValue ((rec.drop 112).take 48)) (beValue ((rec.drop 160).take 48))

/-! ## Phase A (R543, R547) -/

/-- The header in order (R528): MAGIC, FORMAT, PART, MIN_STEP, GRADES, SECTIONS, ROLLBACK, zeros. -/
def headerOk (s : State) (h : List Byte) : Bool :=
  h.take 4 == [0x4D, 0x5A, 0x50, 0x58] && leAt h 4 2 == 1
  && (leAt h 6 2 == 0x9432 || (leAt h 6 2 == 0x9440 && s.fuses.is9440))
  && decide (leAt h 8 1 ≤ rf s Reg.SYS_IDENT Fld.SYS_IDENT_STEP)
  && decide (leAt h 9 1 < 4) && bitsOf (leAt h 9 1) (if s.fuses.gradeE then 1 else 0) (if s.fuses.gradeE then 1 else 0) == 1
  && decide (1 ≤ leAt h 10 2 ∧ leAt h 10 2 ≤ 256) && decide (leAt h 12 4 ≤ 256)
  && leAt h 24 8 % 16 == 0 && (h.drop 32).all (· == 0)

/-- An image read and checked: where it is read from, its directory entry (15: DRAM), its length in flash or its range in DRAM. -/
structure ImgIn where
  rd : ImgSrc
  entry : Nat
  len : Option Nat
  range : Nat × Nat

/-- What an image source names: a directory entry, or the image at PNX_SRC (R541). -/
def imgIn (s : State) (dram : Bool) (entry : Nat) : Option ImgIn :=
  if dram then
    let a := addr36 s Reg.PNX_SRC_LO Reg.PNX_SRC_HI
    some ⟨fun o n => dramBytes s (a + o) n, 15, none, (a, leValue (dramBytes s (a + 24) 8) + 208)⟩
  else (dirEntry s entry).map (fun e => ⟨fun o n => flashRead s (e.1 + o) n, entry, some e.2.1, (0, 0)⟩)

/-- The staging area of PNX_STAGE: base and bytes. -/
def stageArea (s : State) : Nat × Nat :=
  (addr36 s Reg.PNX_STAGE_LO Reg.PNX_STAGE_HI, rf s Reg.PNX_STAGE_HI Fld.PNX_STAGE_HI_SIZE * 0x100000)

/-- One section read, digested, unpacked and parsed (A5); its records and its unpacked bytes. -/
def readSect (s : State) (i : ImgIn) (cap : Nat) (e : SectEntry) : Check (ImgSect × List Byte) := do
  let b := i.rd e.offset e.stored
  must (sha384 b == e.digest) stSIG_FAIL e.index
  match unpackPayload e.pack e.raw b with
  | .error st => .error (st, e.index)
  | .ok raw =>
    match parseRecs (raw.length + 1) raw with
    | none => .error (stSECTION_MISMATCH, e.index)
    | some recs =>
      must (recs.all (recOk s e.cls cap ((sectInfo e.ty).map (·.2) |>.getD []))) stSECTION_MISMATCH e.index
      pure (⟨e.ty, e.index, e.digest, recs⟩, raw)

/-- The usable bytes of DRAM under a DDR_CFG (R455). -/
def capOf (s : State) (cfg : Word) : Nat := usableMiB cfg (channels s).length * 0x100000

/-- DDR_CFG that the UNITS section sets; the capacity that destinations are held against. -/
def imgCap (s : State) (l : List ImgSect) : Nat := capOf s (imgReg l Reg.DDR_CFG)

/-- Sections read in the order of the table. -/
def readSects (s : State) (i : ImgIn) (cap : Nat) : List SectEntry → Check (List (ImgSect × List Byte))
  | [] => pure []
  | e :: es => do
    let x ← readSect s i cap e
    let xs ← readSects s i cap es
    pure (x :: xs)

/-- The digest of every EXT extent holds (A6). -/
def extsOk (s : State) (l : List ImgSect) : Check Unit :=
  match l.find? (fun x => x.recs.any (fun
      | .ext f n _ _ _ d => sha384 (flashRead s f n) != d
      | _ => false)) with
  | some x => .error (stSIG_FAIL, x.index)
  | none => pure ()

/-- The digest of the running image's section of a type (R548). -/
def runningSect (s : State) (ty : Nat) (digest : List Byte) : Option ImgSect :=
  match s.pnx.running with
  | some m => m.sects.find? (fun x => x.ty == ty && x.digest == digest)
  | none => none

/-- Are a LIVE image's STRUCTURAL sections those of the running image (R547)? -/
def sameStructure (s : State) (es : List SectEntry) : Bool :=
  match s.pnx.running with
  | some m =>
    (es.filter (fun e => e.cls == 0)).all (fun e => (runningSect s e.ty e.digest).isSome)
    && (m.sects.filter (fun x => decide (x.ty < 0x100))).all (fun x => es.any (fun e => e.ty == x.ty))
  | none => false

/-- The DRAM in use (R547): what each base names, the frame stores and the areas of AREAS. -/
def dramUses (s : State) (r : Rd) : List (Nat × Nat) :=
  let at36 : Nat → Nat → Nat := fun lo hi => (r lo).toNat + 2 ^ 32 * bitsOf (r hi).toNat 3 0
  (List.range 8).flatMap (fun j =>
    (if rrf r (Reg.BLK_MESH_MODE j) Fld.BLK_MESH_MODE_FLAT = 1 then [] else [(at36 (Reg.BLK_MESH_LO j) (Reg.BLK_MESH_HI j), 2560 * 1024)])
    ++ (if rrf r (Reg.STP_GAMUT_CTRL j) Fld.STP_GAMUT_CTRL_LUT_EN = 1 then [(at36 (Reg.STP_LUT_LO j) (Reg.STP_LUT_HI j), 289546)] else []))
  ++ (if rrf r Reg.STP_CTRL Fld.STP_CTRL_OD = 1 then [(at36 Reg.STP_OD_BASE_LO Reg.STP_OD_BASE_HI, 384 * 64)] else [])
  ++ (tilesOn r).flatMap (fun t =>
      [(at36 (Reg.TS_COEF_LO t) (Reg.TS_COEF_HI t), 8 * (regX r t * regY r t))]
      ++ (if 0 < sensors r t then [(at36 (Reg.TC_REC_LO t) (Reg.TC_REC_HI t), 192)] else []))
  ++ (List.range 6).map (fun x => (storeBase r x, 3 * bufSize r x))
  ++ [(at36 Reg.BLK_WORK_LO Reg.BLK_WORK_HI, 4096), (at36 Reg.STP_BG_BASE_LO Reg.STP_BG_BASE_HI, 4096),
      (at36 Reg.DRV_STATE_LO Reg.DRV_STATE_HI, 0x8000000), (at36 Reg.DRV_DEFECT_LO Reg.DRV_DEFECT_HI, 4096),
      (at36 Reg.PKR_CTX_LO Reg.PKR_CTX_HI, 786432)]
  ++ (List.range 4).map (fun w => (at36 (Reg.CMP_RXWIN_LO w) (Reg.CMP_RXWIN_HI w), 1))

/-- A base that the pipeline state or a tenant's staging set names lies in a range (R547). -/
def usedRange (s : State) (q : Nat × Nat) : Bool :=
  (dramUses s (rd s)).any (rangesMeet q)
  || allTenants.any (fun t => (dramUses s (overlay (rd s) (ten s t).staged)).any (rangesMeet q))

/-- LIVE's further checks: no destination in use, an understudy for a new engine program (R547). A destination of the running image
is in use where its section stays or a base names it. -/
def liveOk (s : State) (new : List ImgSect) : Bool :=
  (imgDests new).all (fun q => !usedRange s q
    && (match s.pnx.running with
        | some m => !(imgDests (m.sects.filter (fun x => !new.any (fun y => y.ty == x.ty)))).any (rangesMeet q)
        | none => true))
  && (!new.any (fun x => x.ty == tyENG_PROG) || (List.range 8).any (fun u => rf s (Reg.ENG_US u) Fld.ENG_US_EN == 1))

/-- Steps A1 to A7 (R543); for LIVE those of R547 too, on the LIVE sections whose DIGEST is not the running image's (R548). The image,
the sections it applies, and what is staged. -/
def phaseA (s : State) (i : ImgIn) (live : Bool) : Check (Image × List ImgSect × List Byte) := do
  let h := i.rd 0 128
  must (headerOk s h) stSECTION_MISMATCH 0
  let n := leAt h 10 2
  let sealAt := leAt h 24 8
  must (i.len.all (fun l => l == sealAt + 208) && decide (128 + 96 * n ≤ sealAt)) stSECTION_MISMATCH 0
  let sr := i.rd sealAt 208
  must (sealOk s sr (i.rd 0 (128 + 96 * n))) stSIG_FAIL 0
  must (decide (rollbackCount s 0 ≤ leAt h 12 4)) stROLLBACK 0
  let es := (List.range n).map (sectEntry i.rd)
  match es.find? (fun e => !entryOk e n sealAt || es.any (fun f => !entriesApart e f)) with
  | some e => .error (stSECTION_MISMATCH, e.index)
  | none =>
  must (neededTypes.all (fun ty => es.any (fun e => e.ty == ty))) stSECTION_MISMATCH 0
  must (!live || sameStructure s es) stSECTION_MISMATCH 0
  let kept := if live then es.filterMap (fun e => runningSect s e.ty e.digest) else []
  let todo := es.filter (fun e => e.ty != tyNOTE && !(live && (runningSect s e.ty e.digest).isSome))
  must (!live || todo.all (fun e => e.cls == 1)) stSECTION_MISMATCH 0
  let stage := stageArea s
  must (stage.2 == 0 || decide ((todo.map (·.raw)).foldl (· + ·) 0 ≤ stage.2)) stSECTION_MISMATCH 0
  let units ← readSects s i (2 ^ 36) (todo.filter (fun e => e.ty == 1))
  let cap := if live then dramCap s else imgCap s (units.map (·.1))
  let got ← readSects s i cap todo
  let new := sortSects (got.map (·.1))
  extsOk s new
  must (i.len.isSome || !((stage :: imgDests new).any (rangesMeet i.range)
    || (!live && imgReg new Reg.DDR_CFG != rd s Reg.DDR_CFG))) stSECTION_MISMATCH 0
  must (!structBad s (if live then mapGet regReset ((imgPairs new).foldl imgWrite s.regs) else imgReg new)) stSECTION_MISMATCH 0
  must (!live || liveOk s new) stSECTION_MISMATCH 0
  pure (⟨leAt h 16 8, leAt h 12 4, leAt sr 4 1, i.entry, sortSects (kept ++ new)⟩, new, got.flatMap (·.2))

/-! ## Commands and their outcomes (R551, R552, R556) -/

/-- An image event, logged with the IMAGE_ID. -/
def pnxEvent (s : State) (b : Nat) (ts : List Nat) (id : Nat) : List Act :=
  eventNow s 14 b ts pnxUnit (arg [(32, id % 2 ^ 32), (32, id / 2 ^ 32)])

/-- STATE, OP, SECTION and STATUS of PNX_STATUS. -/
def pnxState (st op sec code : Nat) : Act :=
  .reg Reg.PNX_STATUS (putF (putF (putF (putF 0 Fld.PNX_STATUS_STATE st) Fld.PNX_STATUS_OP op) Fld.PNX_STATUS_SECTION sec) Fld.PNX_STATUS_STATUS code)

/-- An image command ends: PNX_STATUS, a STATUS record with the section, IMAGE_FAIL on a failure. -/
def pnxEnd (op st sec id : Nat) : Eff := fun s =>
  pnxState (if st = stOK then 0 else 4) op sec st :: logStatus s pnxUnit 14 st [0] (arg [(16, sec)])
  ++ (if st = stOK then [] else pnxEvent s 1 allTenants id)

/-- A command runs: STATUS reads BUSY (R555). -/
def pnxBusy (s : State) : Bool := rf s Reg.PNX_STATUS Fld.PNX_STATUS_STATUS == stBUSY && rf s Reg.PNX_STATUS Fld.PNX_STATUS_STATE != 4

/-- The unpacked sections in the staging area. -/
def stageBytes (s : State) (bs : List Byte) : List Act := if (stageArea s).2 = 0 then [] else dramStore s (stageArea s).1 bs

/-- The IMAGE_ID that an image's header holds. -/
def imgId (i : ImgIn) : Nat := leAt (i.rd 16 8) 0 8

/-- The counter is raised to an image's ROLLBACK, one codeword for each increment (R536). -/
def raiseCounter (n target : Nat) : Eff := fun s =>
  let c := rollbackCount s n
  seqE ((List.range (target - c)).map (fun k => queueCad 1 (0x7C000 + 0x1000 * n + 16 * (c + k)) (List.replicate 16 0) (.rollback n))) s

/-- The program store writes of sections for engine `e`. -/
def newProg (l : List ImgSect) (e : Nat) (m : SMap (BitVec 64)) : SMap (BitVec 64) :=
  (imgRecs l).foldl (fun m x => match x with
    | .pstore 0 mask st ws => if bitsOf mask e e = 1 then mapPuts zeroBundle m st (ws.map (BitVec.ofNat 64)) else m
    | _ => m) m

/-- The bytes of an EXT extent, unpacked. -/
def extBytes (s : State) (f n raw form : Nat) : Except Nat (List Byte) := unpackPayload (if form = 0 then 0 else 2) raw (flashRead s f n)

/-- What keeps the extents of sections from being copied: a digest that no longer holds, or a block that does not decode. -/
def extFault (s : State) (l : List ImgSect) : Option (Nat × Nat) :=
  l.findSome? (fun x => x.recs.findSome? (fun
    | .ext f n _ raw form d =>
      if sha384 (flashRead s f n) != d then some (stSIG_FAIL, x.index)
      else match extBytes s f n raw form with
        | .error st => some (st, x.index)
        | .ok _ => none
    | _ => none))

/-- One record's bytes reach DRAM or a program store. -/
def applyRec : ImgRec → Eff
  | .reg _ => fun _ => []
  | .mem d bs => fun s => dramStore s d bs
  | .ext f n d raw form _ => fun s => match extBytes s f n raw form with
      | .ok bs => dramStore s d bs
      | .error _ => []
  | .pstore k m st ws => fun _ =>
      if k = 0 then (maskUnits m 96).map (fun e => .eng e (fun g => { g with prog := mapPuts zeroBundle g.prog st (ws.map (BitVec.ofNat 64)) }))
      else (maskUnits m 16).map (fun b => .bseq b (fun q => { q with store := mapPuts zeroMicro q.store st (ws.map (BitVec.ofNat 48)) }))

/-! ## LOAD (R543 to R546) -/

/-- What the TILES section and the bank's part of PORTS and SEQ_PROG set for a bank: R546 compares them. -/
def bankSetup (l : List ImgSect) (b : Nat) : List Word × List (Nat × List Nat) :=
  let r := imgReg l
  ([Reg.BS_CTRL b, Reg.BS_FRAME b, Reg.BS_RET_IDLE b, Reg.BS_RING b, Reg.BS_ENTRY b].map r
    ++ (List.range 64).flatMap (fun k => [r (Reg.PORT_CTRL b k), r (Reg.PORT_EQ b k)]),
   (imgRecs l).filterMap (fun
     | .pstore 1 m st ws => if bitsOf m b b = 1 then some (st, ws) else none
     | _ => none))

/-- The tiles that a new image leaves unchanged (R546). -/
def unchangedTiles (old : Option Image) (new : Image) : List Nat :=
  match old with
  | none => []
  | some o =>
    let ro := imgReg o.sects
    let rn := imgReg new.sects
    let same := (List.range 16).filter (fun b => bankSetup o.sects b == bankSetup new.sects b)
    (tilesOn rn).filter (fun t => tileOn ro t && same.contains (tileBank rn t)
      && [Reg.TD_CTRL t, Reg.TD_GRID t, Reg.TD_SPLIT t].all (fun a => ro a == rn a))

/-- In the interval of the last curtain before LOAD: LIGHT_OFF for changed and removed tiles, HOLD for every other lit tile (R544). -/
def parkTiles : Eff := fun s =>
  match s.pnx.staged with
  | some m =>
    let keep := unchangedTiles s.pnx.running m
    ((tilesOn (rd s)).filter (fun t => tileState s t == tpLIGHT_ON)).map (fun t =>
      Act.tile t (fun q => { q with light := some (if keep.contains t then 5 else 3) }))
  | none => []

/-- Step B1: epochs move on, staging sets are emptied, commits fail with STALE_ROLE, transactions too, and the device is in LOAD with no
curtains (R543, R545). Tiles that the image removes are sent RAIL_OFF and LOGIC_OFF (R546). -/
def enterLoad : Eff := seqE [
  failCommits stSTALE_ROLE,
  fun s => seqE (s.ports.flatMap (fun e => ((e.2.txns ++ e.2.sent).map (fun q => reqFails q stSTALE_ROLE)))) s,
  fun s => allThings.map (fun k => Act.fld (ownReg k.1 k.2) Fld.TEN_OWN_TILE_EPOCH (epochOf s k.1 k.2 + 1)),
  fun s => allTenants.map (fun t => .ten t (fun q => { q with staged := [] })) ++ [.sys (fun y => { y with loadFrom := mode s, pendTarget := none })],
  fun s => match s.pnx.staged with
    | some m =>
      let gone := (tilesOn (rd s)).filter (fun t => !tileOn (imgReg m.sects) t)
      [.out (fun o => { o with lines := o.lines ++ gone.flatMap (fun t => ((tilePortList (rd s) t).filter (fun p => (port s p).up)).flatMap (fun p =>
        [⟨p, now s, kSOP, pktBytes (powerOut 4)⟩, ⟨p, now s, kSOP, pktBytes (powerOut 0)⟩])) })]
    | none => [],
  fun s => seqE ((List.range 16).map (fun b => fun s => if bsState s b = bsRUN then stopBank b s else [])) s,
  dropRuns,
  fun s => .fld Reg.SYS_MODE Fld.SYS_MODE_PENDING 15 :: (if s.cur.running then stopSeries true s else []) ++ setMode s mLOAD]

/-- Is address `a` in a tenant's window of a register block (R562)? -/
def inWindows (a : Nat) : Bool :=
  let o := a % 0x100000
  match a / 0x100000 with
  | 0 => false
  | 1 => decide (0x1000 ≤ o ∧ o < 0x1800)
  | 5 => decide (0xB0000 ≤ o ∧ o < 0xB0800)
  | 7 => decide (0x5F000 ≤ o ∧ o < 0x5F800)
  | _ => decide (0xF000 ≤ o ∧ o < 0xF800)

/-- The registers that step B2 leaves as they are: those of the system, the loader, the Caddy's state and the tenants' own, of the show
clock, of the links, and DRAM training; and of unchanged tiles the ports' deskew and state, the power state and what
drivers reported (log entry 36). -/
def keepReg (keep : List Nat) (r : Rd) (a : Nat) : Bool :=
  let ofTile := fun (t : Nat) => keep.contains t
  inWindows a
  || (match a / 0x100000 with
      | 0 | 14 => true
      | 1 => [Reg.CUR_LOCK, Reg.CUR_PHASE_ERR, Reg.CUR_TIME_SEC_HI, Reg.CUR_TIME_SEC_LO, Reg.CUR_TIME_NS, Reg.CUR_NUM].contains a
      | 2 => a == Reg.SRC_PTP_STAT || a == Reg.PVW_STATUS 0 || a == Reg.PVW_STATUS 1
      | 6 => keep.any (fun t => (tilePortList r t).any (fun p =>
          [Reg.PORT_ADV (p / 64) (p % 64), Reg.PORT_RTT (p / 64) (p % 64), Reg.PORT_LDRV (p / 64) (p % 64), Reg.PORT_STATE (p / 64) (p % 64)].contains a))
      | 7 => decide (a < 0x740000) && a % 256 == 0x90 && ofTile (a % 0x40000 / 256)
      | 8 => (List.range 8).any (fun i => a == Reg.AMON_VALUE i)
      | 9 => decide (a ≠ Reg.CMP_CTRL) && decide (a < Reg.CMP_SHARE_CTRL 0 ∨ Reg.XFER_SRC_LO ≤ a) && decide (a < Reg.CMP_RXWIN_LO 0)
      | 11 => a != Reg.DDR_CFG
      | 13 => a != Reg.CAD_HOLD
      | 15 => decide (a < Reg.TEN_PRIV 0 ∨ Reg.TEN_PRIV 7 < a)
      | _ => false)

/-- The owner registers after a reset of every register: no owner, the epoch kept (R545, R565). -/
def clearOwners : List Act := allThings.map (fun k => Act.fld (ownReg k.1 k.2) Fld.TEN_OWN_TILE_OWNER 0xFF)

/-- DEEMPH that Roura gives a port which the image leaves alone: by its bank's line rate (R266). -/
def deemphOf (r : Rd) (b : Nat) : Nat := if lineRate r b ≤ 1000000000 then 0 else if lineRate r b ≤ 2000000000 then 5 else 9

/-- The register writes of an image made, one after another. -/
def writeImage (m : Image) : Eff := fun s =>
  let pairs := imgPairs m.sects
  let regs := pairs.foldl imgWrite s.regs
  let named := pairs.map (·.1)
  named.map (fun a => Act.reg a (mapGet regReset regs a))
  ++ (banksOn (mapGet regReset regs)).flatMap (fun b => ((List.range 64).filter (fun k => !named.contains (Reg.PORT_EQ b k))).map (fun k =>
      Act.fld (Reg.PORT_EQ b k) Fld.PORT_EQ_DEEMPH (deemphOf (mapGet regReset regs) b)))

/-- A series at another rate starts from the next edge of the one before, with CUR_NUM carried that far (R44, R66). -/
def retune : Eff := fun s =>
  let rate := rf s Reg.CUR_RATE Fld.CUR_RATE_RATE
  if rate = s.cur.rate then [] else
  let n := firstEdgeIdx s.cur.anchor s.cur.rate (now s : Nat)
  (if s.sys.coldCount then [] else [.inc Reg.CUR_NUM Fld.CUR_NUM_NUM (n - 1 - s.cur.n)])
  ++ [.cur (fun c => { c with rate := rate, anchor := edgeOf c.anchor c.rate n, n := 0, rateNext := none })]

/-- Does an image map out a unit: an engine by ENG_CTRL.MAP_OUT, or one that is out already (R600)? -/
def mapsOut (s : State) : Bool :=
  (allEngines s).any (fun e => rf s (Reg.ENG_CTRL e) Fld.ENG_CTRL_MAP_OUT == 1 || engState s e == esMAPPED_OUT)

/-- The mode after LOAD (R600). -/
def afterLoad (s : State) : Nat :=
  let f := s.sys.loadFrom
  let m := if f = mBOOT ∨ f = mRECOVERY then rf s Reg.SYS_CTRL Fld.SYS_CTRL_AFTER_LOAD
    else if f = mDEGRADED ∧ !mapsOut s then mSHOW else f
  if m = mSHOW ∨ m = mSLOTTED then showMode (rdLamp s) else m

/-- Step B2's reset: registers but those of `keepReg`, the sources, the steep, the engines, the ports, the tiles that change. -/
def resetUnits (keep : List Nat) : Eff := fun s =>
  let r := rd s
  (s.regs.filter (fun e => !keepReg keep r e.1 && (ownThing e.1).isNone)).map (fun e => Act.reg e.1 (regReset e.1))
  ++ clearOwners
  ++ keep.map (fun t => Act.fld (Reg.TD_POWER t) Fld.TD_POWER_STATE (rf s (Reg.TD_POWER t) Fld.TD_POWER_STATE))
  ++ (List.range 6).map (fun x => Act.src x (fun q => { srcInit with linkUp := q.linkUp, fmt := q.fmt, did := q.did }))
  ++ [.stp (fun _ => { stpInit with firstEdge := true, nextCauses := ⟨true, [], [], [], [], true⟩ })]
  ++ (List.range 96).map (fun e => .eng e (fun g => { engDflt e with prog := g.prog, copy := g.copy }))
  ++ s.ports.map (fun e => Act.port e.1 (fun q => { portDflt e.1 with hasAdv := q.hasAdv && keep.any (fun t => (tilePortList r t).contains e.1) }))
  ++ (s.tiles.filter (fun e => !keep.contains e.1)).map (fun e => Act.tile e.1 (fun _ => tileDflt e.1))
  ++ (List.range 16).map (fun b => .bseq b (fun q => { seqDflt b with store := q.store, supplyBad := q.supplyBad }))
  ++ [.drive (fun d => { driveInit with rails := d.rails, logics := d.logics, lastMap := d.lastMap }),
      .cal (fun c => { calInit with chipTemp := c.chipTemp, amonRun := c.amonRun }),
      .pkr (fun _ => pkrInit)]

/-- The banks go from OFF to what the image sets (R441); a bank that was reset lost its contents. -/
def imageBanks : Eff := fun s =>
  seqE ((List.range 512).map (fun n => fun s =>
    if bankTarget s n = 0 then (if bankState s n = 0 then bankLose n else []) else bankMove s n)) s

/-- Step B3: what is computed from the image, and everything set going under it. -/
def imageStarts (m : Image) (keep : List Nat) (src0 : Nat) : Eff := seqE [
  assignRegions,
  fun s => seqE ((banksOn (rd s)).map bankRates) s,
  fun s => [.fld Reg.DDR_CAP Fld.DDR_CAP_MIB (usableMiB (rd s Reg.DDR_CFG) (channels s).length)],
  imageBanks,
  fun s =>
    let l := (imgPairs m.sects).map (fun p => (⟨p.1, 0xFFFFFFFF, p.2, 0, 0, 0⟩ : Staged))
    (installFields s l regReset (rd s)).map (fun f => Act.reg f.addr ((rd s f.addr &&& ~~~f.mask) ||| (f.val &&& f.mask)))
    ++ seqE (((List.range 1024).filter (installs l regReset (rd s))).map queueRun) s,
  fun s => (s.regs.map (·.1) ++ s.lampRegs.map (·.1)).map (fun a => .lamp a (rd s a)),
  fun s => seqE ((allEngines s).map (fun e => fun s =>
    (.eng e (fun g => { g with copy := g.prog }) : Act) ::
    (if rf s (Reg.ENG_CTRL e) Fld.ENG_CTRL_MAP_OUT = 1 then mapOut e s
     else if (understudyOf s e).isSome then [engTo e esSTANDBY]
     else if rf s (Reg.ENG_CTRL e) Fld.ENG_CTRL_EN = 1 then restartEngine e s else [engTo e esOFF]))) s,
  serveRegs,
  restoreLive,
  fun s => seqE ((banksOn (rd s)).map startBank) s,
  fun s => ((tilesOn (rd s)).filter (fun t => !keep.contains t)).map (fun t => .fld (Reg.TD_POWER t) Fld.TD_POWER_STATE tpLOGIC_OFF),
  srcCommitted (fun _ => 0),
  fun s => if servoRef s (role s) = src0 then [] else servoSelect s (servoRef s (role s)),
  retune]

/-- Step B4: the running image, PNX_RUN registers, IMAGE_DONE, the mode of R600 and the counter (R536, R543). -/
def loadDone (m : Image) (reset : Bool) : Eff := seqE [
  fun s =>
    [.pnx (fun p => { p with staged := none, running := some m, live := none, fresh := [], roundOut := false, rewrite := [] }),
     .reg Reg.PNX_RUN_ID_LO (BitVec.ofNat 32 m.id), .reg Reg.PNX_RUN_ID_HI (BitVec.ofNat 32 (m.id / 2 ^ 32)),
     .reg Reg.PNX_RUN_INFO (putF (putF (putF (putF (putF (putF 0 Fld.PNX_RUN_INFO_SEALED 1) Fld.PNX_RUN_INFO_DRAM_RESET (if reset then 1 else 0))
        Fld.PNX_RUN_INFO_KEY_SLOT m.slot) Fld.PNX_RUN_INFO_ROLLBACK m.rollback) Fld.PNX_RUN_INFO_ENTRY m.entry)
        Fld.PNX_RUN_INFO_COUNTER (rollbackCount s 0)),
     .fld Reg.SYS_DEGRADE Fld.SYS_DEGRADE_STEPS 0, .fld Reg.SYS_DEGRADE Fld.SYS_DEGRADE_LAST 0,
     .sys (fun y => { y with degraded := mapsOut s, quietRun := 0, ticketsThis := 0 })]
    ++ pnxEvent s 0 allTenants m.id,
  pnxEnd 1 stOK 0 m.id,
  fun s => setMode s (afterLoad s),
  fun s => if curtainMode (mode s) then resumeSeries (now s) s else [],
  raiseCounter 0 m.rollback]

/-- A failure of phase B: RECOVERY (R543). -/
def loadFails (st sec id : Nat) : Eff := seqE [
  fun _ => [.pnx (fun p => { p with staged := none, running := none, live := none }), .fld Reg.PNX_RUN_INFO Fld.PNX_RUN_INFO_SEALED 0],
  pnxEnd 1 st sec id, fun s => setMode s mRECOVERY, stopSeries false]

/-- Steps B2 to B4, carried out in LOAD (R543). -/
def phaseB (m : Image) : Eff := fun s =>
  let keep := unchangedTiles s.pnx.running m
  let reset := imgReg m.sects Reg.DDR_CFG != rd s Reg.DDR_CFG
  match extFault s m.sects with
  | some q => loadFails q.1 q.2 m.id s
  | none =>
    if !reset && dramUE s (stageArea s).1 (stageArea s).2 && (stageArea s).2 != 0 then
      seqE [fun s => dramReadActs s (stageArea s).1 (stageArea s).2, loadFails stDATA_UE 0 m.id] s
    else
      seqE [
        fun _ => if reset then [.dramDrop 0 (2 ^ 36), .ddr (fun _ => ddrInit)] else [],
        resetUnits keep, writeImage m,
        fun s => [.fld Reg.DDR_CAP Fld.DDR_CAP_MIB (usableMiB (rd s Reg.DDR_CFG) (channels s).length)],
        fun s => seqE ((imgRecs m.sects).map applyRec) s,
        imageStarts m keep s.cur.refSrc, loadDone m reset] s

/-- A LOAD whose phase A passed: with curtains, it waits for the interval and the edge (R544); without, LOAD is entered at once. -/
def loadPassed (m : Image) (bs : List Byte) : Eff := seqE [
  fun s => stageBytes s bs ++ [.pnx (fun p => { p with staged := some m, parked := false, live := none, fresh := [], roundOut := false, rewrite := [] }),
    pnxState 2 1 0 stBUSY, .fld Reg.PNX_RUN_INFO Fld.PNX_RUN_INFO_MIX 0],
  fun s => if s.cur.running then [] else enterLoad s]

/-- BOOT: the VALID entries are tried in descending SEQ (R540). -/
def bootEntries (s : State) : List Nat :=
  let es := (List.range 15).filterMap (fun e => (dirEntry s e).map (fun q => (e, q.2.2)))
  let ins := fun (l : List (Nat × Nat)) (x : Nat × Nat) =>
    l.takeWhile (fun y => decide (x.2 ≤ y.2)) ++ [x] ++ l.dropWhile (fun y => decide (x.2 ≤ y.2))
  (es.foldl ins []).map (·.1)

/-- The first of the entries that passes phase A, with what it stages. -/
def bootImage (s : State) : Option (Image × List Byte) :=
  (bootEntries s).findSome? (fun e => match imgIn s false e with
    | some i => match phaseA s i false with
      | .ok q => some (q.1, q.2.2)
      | .error _ => none
    | none => none)

/-- House firmware's part of LOAD: in BOOT it tries the directory, in LOAD it carries out phase B (R540, R543). -/
def houseLoad : Eff := fun s =>
  if mode s = mBOOT then
    if !s.sys.spine then [] else
    match bootImage s with
    | some q => loadPassed q.1 q.2 s
    | none => setMode s mRECOVERY
  else if mode s = mLOAD then
    match s.pnx.staged with
    | some m => phaseB m s
    | none => []
  else []

/-- A write of PNX_CMD (R551, R553, R555): `op` is the command that the row stands for. -/
def pnxCmd (op t : Nat) (v : Word) (run : ImgIn → Eff) : Eff := fun s =>
  let o := getF v Fld.PNX_CMD_OP
  if t ≠ 0 then tenantFault s t stNOT_OWNER Reg.PNX_CMD
  else if getF v Fld.PNX_CMD_GO = 0 ∨ o ≠ op then []
  else if getF v Fld.PNX_CMD_SRC = 0 ∧ getF v Fld.PNX_CMD_ENTRY = 15 then tenantFault s t stBAD_ARG Reg.PNX_CMD
  else if (pnxBusy s && !(op == 1 && rf s Reg.PNX_STATUS Fld.PNX_STATUS_STATE == 3)) || mode s == mBOOT || mode s == mLOAD then
    tenantFault s t stBUSY Reg.PNX_CMD ++ logStatus s pnxUnit 14 stBUSY [0] 0
  else match imgIn s (getF v Fld.PNX_CMD_SRC == 1) (getF v Fld.PNX_CMD_ENTRY) with
    | none => pnxEnd op stSECTION_MISMATCH 0 0 s
    | some i =>
      if i.len.isNone ∧ dramUE s i.range.1 i.range.2 then seqE [fun s => dramReadActs s i.range.1 i.range.2, pnxEnd op stDATA_UE 0 (imgId i)] s
      else run i s

/-- LOAD on command: from RECOVERY, REHEARSAL and every showing mode (R599). -/
def loadCmd (t : Nat) (v : Word) : Eff := pnxCmd 1 t v (fun i => fun s =>
  if mode s ≠ mRECOVERY ∧ !curtainMode (mode s) then tenantFault s t stBAD_ARG Reg.PNX_CMD else
  match phaseA s i false with
  | .error q => pnxEnd 1 q.1 q.2 (imgId i) s
  | .ok q => loadPassed q.1 q.2.2 s)

/-- VERIFY runs steps A1 to A7 only (R543). -/
def verifyCmd (t : Nat) (v : Word) : Eff := pnxCmd 3 t v (fun i => fun s =>
  match phaseA s i false with
  | .error q => pnxEnd 3 q.1 q.2 (imgId i) s
  | .ok q => stageBytes s q.2.2 ++ pnxEnd 3 stOK 0 q.1.id s)

/-! ## LIVE (R547 to R550) -/

/-- The fields of sections' register writes, each with the epoch of its thing (R548, R567). -/
def liveFields (s : State) (l : List ImgSect) : List Staged :=
  (imgPairs l).foldl (fun acc p => match regRow? p.1 with
    | some (row, ix) =>
      let k := thingOf row ix
      stage acc ⟨p.1, imgMask row, p.2 &&& imgMask row, k.1, k.2, epochOf s k.1 k.2⟩
    | none => acc) []

/-- The engines in service that still run the old engine program (R549). -/
def staleEngines (s : State) : List Nat := (allEngines s).filter (fun e => inService s e && !s.pnx.fresh.contains e && (understudyOf s e).isNone)

/-- Is engine `e` within the scope of understudy `u` (R252)? -/
def inScope (s : State) (u e : Nat) : Bool :=
  match rf s (Reg.ENG_US u) Fld.ENG_US_SCOPE with
  | 0 => usEngine s u / 6 == e / 6
  | 1 => usEngine s u / 24 == e / 24
  | _ => true

/-- The swaps of a round: each free understudy, lowest u first, takes the lowest-numbered engine of its scope that runs the old
program (R549). -/
def roundPairs (s : State) : List (Nat × Nat) :=
  ((List.range 8).filter (usFree s)).foldl (fun acc u =>
    match (staleEngines s).find? (fun e => inScope s u e && !acc.any (fun p => p.2 == e)) with
    | some e => acc ++ [(u, e)]
    | none => acc) []

/-- Understudies loaded with the new program, and the swap fields of their round. -/
def roundLoad (s : State) (l : List ImgSect) (ps : List (Nat × Nat)) : List Act :=
  ps.map (fun p => .eng (usEngine s p.1) (fun g => { g with prog := newProg l p.2 (eng s p.2).prog }))
  ++ [.pnx (fun q => { q with fresh := q.fresh ++ ps.map (fun p => usEngine s p.1), roundOut := true, rewrite := ps.map (·.2) })]

/-- ENG_SWAP fields of a round (R256). -/
def roundFields (ps : List (Nat × Nat)) : List Staged :=
  ps.flatMap (fun p => [houseField (Reg.ENG_SWAP p.1) Fld.ENG_SWAP_TARGET p.2, houseField (Reg.ENG_SWAP p.1) Fld.ENG_SWAP_GO 1])

/-- A commit of LIVE takes its place among the commits. -/
def liveCommit (fs : List Staged) : Eff := fun s =>
  [.cur (fun c => { c with commits := c.commits ++ [⟨9, 0, fs, now s, s.cur.running && s.cur.closed, none, none, false⟩] })]

/-- LIVE: its memory is written, and its registers and first round are one commit of T0 (R548, R549). -/
def liveCmd (t : Nat) (v : Word) : Eff := pnxCmd 2 t v (fun i => fun s =>
  match phaseA s i true with
  | .error q => pnxEnd 2 q.1 q.2 (imgId i) s
  | .ok q =>
    match extFault s q.2.1 with
    | some f => pnxEnd 2 f.1 f.2 (imgId i) s
    | none =>
      let prog := q.2.1.filter (fun x => x.ty == tyENG_PROG)
      let ps := if prog.isEmpty then [] else roundPairs s
      seqE [
        fun s => stageBytes s q.2.2 ++ [pnxState 2 2 0 stBUSY, .pnx (fun p => { p with live := some q.1, fresh := [], rewrite := [] })],
        fun s => seqE (((imgRecs q.2.1).filter (fun | .mem .. => true | .ext .. => true | _ => false)).map applyRec) s,
        fun s => if prog.isEmpty then [] else roundLoad s prog ps,
        liveCommit (liveFields s q.2.1 ++ roundFields ps)] s)

/-- The sections of the image in application that the running image does not hold. -/
def liveNew (s : State) : List ImgSect :=
  match s.pnx.live with
  | some m => m.sects.filter (fun x => (runningSect s x.ty x.digest).isNone)
  | none => []

/-- The next round, once the engines swapped out are rewritten with the new program (R549). -/
def liveRound : Eff := fun s =>
  let prog := (liveNew s).filter (fun x => x.ty == tyENG_PROG)
  if s.pnx.live.isNone ∨ s.pnx.roundOut ∨ prog.isEmpty ∨ rf s Reg.PNX_STATUS Fld.PNX_STATUS_STATE ≠ 3 then [] else
  let ps := roundPairs s
  if ps.isEmpty then [] else seqE [fun s => roundLoad s prog ps, liveCommit (roundFields ps)] s

/-- The LIVE application is complete: the new image runs (R550). -/
def liveDone (m : Image) : Eff := seqE [
  fun s =>
    let prog := (liveNew s).filter (fun x => x.ty == tyENG_PROG)
    (if prog.isEmpty then [] else (List.range 96).map (fun e => Act.eng e (fun g => { g with copy := newProg prog e g.copy })))
    ++ [.pnx (fun p => { p with running := some m, live := none, fresh := [], roundOut := false, rewrite := [] }),
        .reg Reg.PNX_RUN_ID_LO (BitVec.ofNat 32 m.id), .reg Reg.PNX_RUN_ID_HI (BitVec.ofNat 32 (m.id / 2 ^ 32)),
        .fld Reg.PNX_RUN_INFO Fld.PNX_RUN_INFO_MIX 0, .fld Reg.PNX_RUN_INFO Fld.PNX_RUN_INFO_RB_HELD 0,
        .fld Reg.PNX_RUN_INFO Fld.PNX_RUN_INFO_KEY_SLOT m.slot,
        .fld Reg.PNX_RUN_INFO Fld.PNX_RUN_INFO_ROLLBACK m.rollback, .fld Reg.PNX_RUN_INFO Fld.PNX_RUN_INFO_ENTRY m.entry]
    ++ pnxEvent s 0 allTenants m.id,
  pnxEnd 2 stOK 0 m.id, raiseCounter 0 m.rollback]

/-- At the edge at which a commit of LIVE enters: rounds go on, or the application is complete (R549, R550). -/
def liveEdge (entered : Bool) : Eff := fun s =>
  match s.pnx.live with
  | none => []
  | some m =>
    if !entered then [] else
    let left := !((liveNew s).filter (fun x => x.ty == tyENG_PROG)).isEmpty && !(staleEngines s).isEmpty
    if left then
      [.pnx (fun p => { p with roundOut := false }), pnxState 3 2 0 stBUSY, .fld Reg.PNX_RUN_INFO Fld.PNX_RUN_INFO_MIX 1]
    else liveDone m s

/-- A commit of LIVE is refused under R64: the running image stays; a later round is tried again (R551). -/
def liveFail (st : Nat) : Eff := fun s =>
  match s.pnx.live with
  | none => []
  | some m =>
    if rf s Reg.PNX_STATUS Fld.PNX_STATUS_STATE = 3 then
      [.pnx (fun p => { p with roundOut := false, fresh := p.fresh.filter (fun e => inService s e && (understudyOf s e).isNone) })]
    else .pnx (fun p => { p with live := none, fresh := [], roundOut := false, rewrite := [] }) :: pnxEnd 2 st 0 m.id s

/-- The reassignments of a TENANCY section, made at the edge at which its commit enters (R548, R566). -/
def liveOwners (cm : Commit) : Eff := fun s =>
  seqE (cm.fields.filterMap (fun f => (ownThing f.addr).map (fun k => fun s =>
    reassign s k.1 k.2 (getF f.val Fld.TEN_OWN_TILE_OWNER) 0))) s

/-! ## Keys and flash (R532, R538, R551, R553, R555) -/

/-- A write of PNX_REVOKE. -/
def pnxRevoke (t : Nat) (v : Word) : Eff := fun s =>
  let slot := getF v Fld.PNX_REVOKE_SLOT
  if t ≠ 0 then tenantFault s t stNOT_OWNER Reg.PNX_REVOKE
  else if getF v Fld.PNX_REVOKE_CONFIRM ≠ 0xA5 ∨ (s.pnx.running.map (·.slot)) = some slot then tenantFault s t stBAD_ARG Reg.PNX_REVOKE
  else if getF v Fld.PNX_REVOKE_GO = 0 then []
  else [.fuse (fun f => { f with keyRevoked := setBit f.keyRevoked slot true })]

/-- A flash command ends: PNX_FL_STAT and FLASH_DONE. -/
def flashEnd (s : State) (st : Nat) : List Act :=
  .reg Reg.PNX_FL_STAT (putF (putF 0 Fld.PNX_FL_STAT_STATE 2) Fld.PNX_FL_STAT_STATUS st)
    :: pnxEvent s 3 [0] ((rd s Reg.PNX_RUN_ID_LO).toNat + 2 ^ 32 * (rd s Reg.PNX_RUN_ID_HI).toNat)

/-- A write of PNX_FL_CMD: OP `op` over `n` bytes at PNX_FL_ADDR, aligned as OP needs. -/
def flashCmd (op align t : Nat) (v : Word) (run : Nat → Nat → Nat → Eff) : Eff := fun s =>
  let a := rf s Reg.PNX_FL_ADDR Fld.PNX_FL_ADDR_ADDR
  let n := if op ≤ 2 then 256 * (getF v Fld.PNX_FL_CMD_LEN + 1) else align
  if t ≠ 0 then tenantFault s t stNOT_OWNER Reg.PNX_FL_CMD
  else if getF v Fld.PNX_FL_CMD_GO = 0 ∨ getF v Fld.PNX_FL_CMD_OP ≠ op then []
  else if pnxBusy s || mode s == mBOOT || mode s == mLOAD then tenantFault s t stBUSY Reg.PNX_FL_CMD
  else if a % align ≠ 0 ∨ 2 ^ 31 < a + n then flashEnd s stBAD_ARG
  else run a (addr36 s Reg.PNX_FL_DRAM_LO Reg.PNX_FL_DRAM_HI) n s

/-- READ copies flash into DRAM. -/
def flashCopyOut (t : Nat) (v : Word) : Eff := flashCmd 1 256 t v (fun a d n => fun s =>
  dramStore s d (flashRead s a n) ++ flashEnd s (if dramRange s d n then stDATA_UE else stOK))

/-- PROGRAM clears the bits that the data has 0 (log entry 37). -/
def flashProgram (t : Nat) (v : Word) : Eff := flashCmd 2 256 t v (fun a d n => fun s =>
  if dramUE s d n then dramReadActs s d n ++ flashEnd s stDATA_UE
  else dramReadActs s d n ++ [.flash a (((flashRead s a n).zip (dramBytes s d n)).map (fun p => p.1 &&& p.2))] ++ flashEnd s stOK)

/-- ERASE sets a sector or block to 0xFF. -/
def flashErase (op size t : Nat) (v : Word) : Eff := flashCmd op size t v (fun a _ n => fun s => .flashDrop a n :: flashEnd s stOK)

/-! ## Boot images (R503, R535) -/

/-- Where boot images A and B lie, and their room (R502). -/
def bootSlot (h : Nat) : Nat × Nat := if h = 0 then (0x300000, 0xFF000) else (0x200000, 0x100000)

/-- SEQ and BOOT_RB of a boot image that is valid (R503, R535). -/
def bootValid (s : State) (h : Nat) : Option (Nat × Nat) :=
  let q := bootSlot h
  let hd := caddyRead s q.1 64
  let len := leAt hd 8 4
  if hd.take 4 == [0x4D, 0x5A, 0x42, 0x54] ∧ 208 ≤ len ∧ 64 + len ≤ q.2 then
    let b := caddyRead s (q.1 + 64) len
    let sr := b.drop (len - 208)
    if (crc32 b).toNat = leAt hd 16 4 ∧ sealOk s sr (hd ++ b.take (len - 208)) ∧ rollbackCount s 1 ≤ leAt sr 6 2 then
      some (leAt hd 4 4, leAt sr 6 2)
    else none
  else none

/-- The boot image HC0 starts from: the valid one with the higher SEQ, A when equal; its BOOT_RB (R503). -/
def bootPick (s : State) : Option Nat :=
  match bootValid s 0, bootValid s 1 with
  | some a, some b => some (if a.1 < b.1 then b.2 else a.2)
  | some a, none => some a.2
  | none, some b => some b.2
  | none, none => none

/-! ## The commands -/

/-- LOAD (R540, R543): T0's command, or what house firmware does of it. -/
def execLoad (a : Option Acc) (v : Word) (s : State) : Out :=
  done s (match a with
    | some a => gate a Reg.PNX_CMD true false (fun u => loadCmd u v) s
    | none => houseLoad s)

/-- LIVE (R547, R548). -/
def execLive (a : Acc) (v : Word) (s : State) : Out := done s (gate a Reg.PNX_CMD true false (fun u => liveCmd u v) s)

/-- LIVE_ROUND (R549). -/
def execLiveRound (s : State) : Out := done s (liveRound s)

/-- VERIFY (R543). -/
def execVerify (a : Acc) (v : Word) (s : State) : Out := done s (gate a Reg.PNX_CMD true false (fun u => verifyCmd u v) s)

/-- PNX_REVOKE (R553). -/
def execPnxRevoke (a : Acc) (v : Word) (s : State) : Out := done s (gate a Reg.PNX_REVOKE true false (fun u => pnxRevoke u v) s)

/-- FLASH_READ (R555). -/
def execFlashRead (a : Acc) (v : Word) (s : State) : Out := done s (gate a Reg.PNX_FL_CMD true false (fun u => flashCopyOut u v) s)

/-- FLASH_PROGRAM (R555). -/
def execFlashProgram (a : Acc) (v : Word) (s : State) : Out := done s (gate a Reg.PNX_FL_CMD true false (fun u => flashProgram u v) s)

/-- FLASH_ERASE_4K (R555). -/
def execFlashErase4k (a : Acc) (v : Word) (s : State) : Out := done s (gate a Reg.PNX_FL_CMD true false (fun u => flashErase 3 4096 u v) s)

/-- FLASH_ERASE_64K (R555). -/
def execFlashErase64k (a : Acc) (v : Word) (s : State) : Out := done s (gate a Reg.PNX_FL_CMD true false (fun u => flashErase 4 65536 u v) s)

end Sys2Proof.Machine
end

