-- ==== Sys2Proof/Machine/Tenants.lean ====
section
/-! DEFINITION. Tenants and the prompt book: ownership, binding, tenant resets, the queue indexes a tenant moves, census requests,
the collector, coalescing, delivery to host rings, the copy in the Caddy, interrupt hold-off (15_tenants.md). -/

namespace Sys2Proof.Machine

/-! ## Windows and ownership (R563, R565, R592) -/

/-- Tenant Tt and T0 write Tt's window; any other write is refused (R592). -/
def byWindow (u t addr : Nat) (e : Eff) : Eff := fun s => if u = 0 ∨ u = t then e s else tenantFault s u stNOT_OWNER addr

/-- What T0 alone writes (R592). -/
def t0Only (u addr : Nat) (e : Eff) : Eff := fun s => if u = 0 then e s else tenantFault s u stNOT_OWNER addr

/-- The KIND and OBJECT of a thing of TEN_OWN (R565). -/
def ownKey : OwnThing → Nat × Nat
  | .slot j => (1, j)
  | .layer x => (2, x)
  | .tile t => (3, t)
  | .cluster c => (5, c)

/-- Is an owner code one of R565? -/
def ownerCode (c : Nat) : Bool := decide (c < 8) || c == 0xFF

/-- A write of a TEN_OWN register (R565, R566). -/
def tenOwnWrite (u : Nat) (o : OwnThing) (v : Word) : Eff :=
  let k := ownKey o
  t0Only u (ownReg k.1 k.2) (fun s =>
    if ownerCode (getF v Fld.TEN_OWN_TILE_OWNER) then reassign s k.1 k.2 (getF v Fld.TEN_OWN_TILE_OWNER) u
    else tenantFault s u stBAD_ARG (ownReg k.1 k.2))

/-! ## Tenant resets (R307, R494, R559, R581, R582) -/

/-- The queue, ring and host-ring registers of tenant `t`, and its fault record. -/
def tenantRegs (t : Nat) : List Nat :=
  [Reg.CUQ_BASE_LO t, Reg.CUQ_BASE_HI t, Reg.CUQ_CTRL t, Reg.CUQ_TAIL t, Reg.CUQ_HEAD t,
   Reg.CPQ_BASE_LO t, Reg.CPQ_BASE_HI t, Reg.CPQ_CTRL t, Reg.CPQ_HEAD t, Reg.CPQ_TAIL t,
   Reg.PBH_BASE_LO t, Reg.PBH_BASE_HI t, Reg.PBH_CTRL t, Reg.PBH_HEAD t, Reg.PBH_TAIL t, Reg.PBH_LOST t,
   Reg.PKR_RING_LO t, Reg.PKR_RING_HI t, Reg.PKR_RING_SIZE t,
   Reg.TEN_FAULT_CNT t, Reg.TEN_FAULT_LAST t, Reg.TEN_FAULT_ADDR t]

/-- A tenant's driver transactions that have not been sent are removed without completions (R307). -/
def dropTxns (t : Nat) : Eff := fun s =>
  seqE ((s.ports.filter (fun e => e.2.txns.any (fun q => match q.why with | .txn u .. => u == t | _ => false))).map (fun e =>
    seqE [fun _ => [.port e.1 (fun q => { q with txns := q.txns.filter (fun r => match r.why with | .txn u .. => u != t | _ => true) })],
          queuedReg e.1])) s

/-- A tenant reset of `t`. -/
def tenantReset (t : Nat) : Eff := seqE [
  fun s =>
    [.ten t (fun q => { q with staged := [], ready := [], open_ := [], fences := [], held := [], msixNew := 0, msixMask := 0xF,
                               lostCount := 0, lostFirst := 0, lostLast := 0 }),
     .book (fun b => { b with sched := b.sched.filter (fun q => q.tenant != t), census := b.census.filter (fun q => q.tenant != t),
                              censusNext := b.censusNext.filter (fun q => q.tenant != t) })]
    ++ (evtBlocks.filter (fun b => b != 13 || t == 0)).flatMap (fun b => [.reg (evtStatus b t) 0, .reg (evtEnable b t) 0])
    ++ (tenantRegs t).map (fun a => Act.reg a (regReset a))
    ++ dropTxns t s,
  schedCount t,
  pkrTenantReset t,
  fun s => eventNow s 15 3 (withT0 t) (0xB50 + t) 0 ++ logSystem s (0xB50 + t) 2 (withT0 t) 0]

/-- Every tenant bound to PCIe is reset (R559). -/
def resetPcie : Eff := fun s => seqE ((allTenants.filter (fun t => bindMode s t == 0)).map tenantReset) s

/-- In OFF and PILOT the spine has no supply, and nothing is reset. -/
def spineUp (s : State) : Bool := mode s != mOFF && mode s != mPILOT

/-- A write of TEN_BIND CTRL or SRC_IP: a change of MODE, PORT or IP is a tenant reset (R564, R594). -/
def tenBindWrite (u t : Nat) (srcIp : Bool) (v : Word) : Eff :=
  let addr := if srcIp then Reg.TEN_BIND_SRC_IP t else Reg.TEN_BIND_CTRL t
  t0Only u addr (fun s =>
    if !srcIp ∧ getF v Fld.TEN_BIND_CTRL_MODE = 2 ∧ t ≠ 0 then tenantFault s u stBAD_ARG addr
    else if rd s addr = v &&& regImpl addr then []
    else seqE [fun _ => [.reg addr v], tenantReset t] s)

/-- A write of TEN_RESET (R581). -/
def tenResetWrite (u t : Nat) (v : Word) : Eff :=
  byWindow u t (Reg.TEN_RESET t) (if getF v Fld.TEN_RESET_GO = 1 then tenantReset t else fun _ => [])

/-- A write of TEN_DISCARD (R568). -/
def tenDiscardWrite (u t : Nat) (v : Word) : Eff :=
  byWindow u t (Reg.TEN_DISCARD t) (if getF v Fld.TEN_DISCARD_GO = 1 then discardStaged t else fun _ => [])

/-! ## Census requests (R569, R590) -/

/-- Bits of TEN_PRIV (R569); SRAM_WIN stands with the banks. -/
def pvDRV_TXN : Nat := 0
def pvCENSUS : Nat := 3
def pvPB_ALL : Nat := 4
def pvMARK : Nat := 5

/-- A census request: at or before commit close it is taken at the coming edge, later at the next. -/
def askCensus (t : Nat) (cue : Option CueRef) : Eff := fun s =>
  if s.cur.running && s.cur.closed && decide (instC s < now s) then [.book (fun b => { b with censusNext := b.censusNext ++ [⟨t, cue⟩] })]
  else [.book (fun b => { b with census := b.census ++ [⟨t, cue⟩] })]

/-- A write of TEN_CENSUS. -/
def tenCensusWrite (u : Nat) (v : Word) : Eff := fun s =>
  if !hasPriv s u pvCENSUS then tenantFault s u stNOT_OWNER Reg.TEN_CENSUS
  else if getF v Fld.TEN_CENSUS_GO = 1 then askCensus u none s else []

/-! ## Host rings (R588, R653) -/

/-- Free slots of a tenant's host ring. -/
def pbhFree (s : State) (t : Nat) : Nat :=
  ringFree (rf s (Reg.PBH_CTRL t) Fld.PBH_CTRL_SIZE) (rf s (Reg.PBH_TAIL t) Fld.PBH_TAIL_INDEX) (rf s (Reg.PBH_HEAD t) Fld.PBH_HEAD_INDEX)

/-- 32 bytes are written at PBH_TAIL, and vector 2 signals them (R588, R596). -/
def writeHostRec (t : Nat) (bs : List Byte) : Eff := fun s =>
  let n := rf s (Reg.PBH_CTRL t) Fld.PBH_CTRL_SIZE
  let i := rf s (Reg.PBH_TAIL t) Fld.PBH_TAIL_INDEX % 2 ^ n
  [.host (addr64 s (Reg.PBH_BASE_LO t) (Reg.PBH_BASE_HI t) + 32 * i) bs,
   .fld (Reg.PBH_TAIL t) Fld.PBH_TAIL_INDEX ((i + 1) % 2 ^ n), .signal t 2]

/-- The index of this device in its company; 0 in a device not in one (R583). -/
def recCompany (s : State) : Nat := if role s = rlLEAD ∨ role s = rlMEMBER then ownIndex s else 0

/-- The LOST record of a tenant whose host ring had no room: stamp of the last record dropped, the count, and how long before it the
first and the last were stamped (R587, R588). -/
def lostRec (t : Nat) (q : Tenant) : PbRec :=
  ⟨q.lostLast, 0xB50 + t, 1, kSYSTEM, 0, false, 0, q.lostCount, tenMask [t], arg [(32, q.lostLast - q.lostFirst), (32, 0)]⟩

/-- When room has returned, the LOST record is written first and PB_LOST is raised (R588). -/
def flushLost (t : Nat) : Eff := fun s =>
  let q := ten s t
  if q.lostCount = 0 ∨ pbhFree s t = 0 then [] else
  seqE [writeHostRec t (recBytes (lostRec t q) (recCompany s) (Config.lostSeq s.free)),
        fun s => [.ten t (fun q => { q with lostCount := 0, lostFirst := 0, lostLast := 0 }), .draw]
          ++ eventNow s 15 1 [t] (0xB50 + t) 0] s

/-- A record goes to a tenant: into its host ring, or in a RECORD frame; one that finds the ring full is dropped for that tenant
(R588). -/
def deliverRec (t : Nat) (r : PbRec) (bs : List Byte) : Eff := fun s =>
  if bindMode s t = 1 then [.out (fun o => { o with frames := o.frames ++ [mgmtFrame t 4 0 bs] })]
  else if bindMode s t ≠ 0 then []
  else seqE [flushLost t, fun s =>
    if pbhFree s t = 0 then
      [.inc (Reg.PBH_LOST t) Fld.PBH_LOST_COUNT 1,
       .ten t (fun q => { q with lostCount := q.lostCount + 1, lostFirst := if q.lostCount = 0 then r.stamp else q.lostFirst, lostLast := r.stamp })]
    else writeHostRec t bs s] s

/-- The tenants that receive a record: those its TENANTS names and those with PB_ALL, where their ring is enabled (R588). -/
def recTenants (s : State) (r : PbRec) : List Nat :=
  allTenants.filter (fun t => rf s (Reg.PBH_CTRL t) Fld.PBH_CTRL_EN == 1 && (bit r.tenants t || hasPriv s t pvPB_ALL))

/-- A record enters the device ring: its bytes in DRAM, PB_WRITE_IDX, the tenants' rings, the Caddy copy's list and the lead's company
book (R429, R588, R589). -/
def releaseRec (r : PbRec) : Eff := fun s =>
  let seq := rf s Reg.PB_WRITE_IDX Fld.PB_WRITE_IDX_SEQ
  let bs := recBytes r (recCompany s) seq
  seqE ([
    fun s => dramStore s (addr36 s Reg.PB_BASE_LO Reg.PB_BASE_HI + 32 * (seq % 2 ^ rf s Reg.PB_CTRL Fld.PB_CTRL_SIZE)) bs
      ++ [.inc Reg.PB_WRITE_IDX Fld.PB_WRITE_IDX_SEQ 1]
      ++ (if bitsOf (rf s Reg.PB_CADDY Fld.PB_CADDY_KINDS) r.kind r.kind = 1 then [.book (fun b => { b with copyRing := b.copyRing ++ [bs] })] else [])]
    ++ (recTenants s r).map (fun t => deliverRec t r bs)
    ++ [mirrorRec r]) s

/-! ## The collector and coalescing (R585, R586) -/

/-- Is a record released before another: by show time and unit (R585)? -/
def relBefore (a b : PbRec) : Bool := decide (a.stamp < b.stamp) || (a.stamp == b.stamp && decide (a.unit < b.unit))

/-- The record of a list that is released first; of equals, the one raised first. -/
def firstRec : List PbRec → Option PbRec
  | [] => none
  | r :: rs => match firstRec rs with
    | none => some r
    | some q => some (if relBefore q r then q else r)

/-- Are two records identical in UNIT, KIND, BLOCK and CODE (R586)? -/
def sameRec (a b : PbRec) : Bool := a.unit == b.unit && a.kind == b.kind && a.block == b.block && a.code == b.code

/-- The COALESCED record of a window. -/
def coalRec (w : CoalWin) : PbRec :=
  { w.first with
    stamp := w.end_, coalesced := true, count := w.merged, tenants := w.tenants,
    arg := arg [(32, w.end_ - w.firstMerged), (32, w.end_ - w.lastMerged)] }

/-- A window closes: its COALESCED record is released where it merged any. -/
def closeWin (w : CoalWin) : Eff := seqE [
  fun _ => [.book (fun b => { b with wins := b.wins.filter (fun x => !sameRec x.first w.first) })],
  fun s => if w.merged = 0 then [] else releaseRec (coalRec w) s]

/-- The window that closes first. -/
def firstWin : List CoalWin → Option CoalWin
  | [] => none
  | w :: ws => match firstWin ws with
    | none => some w
    | some q => some (if relBefore (coalRec q) (coalRec w) then q else w)

/-- Windows that close before a record is released close first, in order. -/
def closeBefore (r : PbRec) : Nat → Eff
  | 0, _ => []
  | n + 1, s => match firstWin s.book.wins with
    | none => []
    | some w => if w.end_ < r.stamp ∨ (w.end_ = r.stamp ∧ relBefore (coalRec w) r) then seqE [closeWin w, closeBefore r n] s else []

/-- One record taken from the collector: merged into its open window, or released alone, opening a window (R586). -/
def collectRec (r : PbRec) : Eff := fun s =>
  let us := rf s Reg.PB_CTRL Fld.PB_CTRL_COALESCE
  if r.kind = kSYSTEM then releaseRec r s
  else match s.book.wins.find? (fun w => sameRec w.first r) with
    | some w =>
      if r.stamp ≤ w.end_ then
        [.book (fun b => { b with wins := b.wins.map (fun x => if sameRec x.first r then
            { x with merged := x.merged + 1, firstMerged := if x.merged = 0 then r.stamp else x.firstMerged, lastMerged := r.stamp,
                     tenants := x.tenants ||| r.tenants } else x) })]
      else releaseRec r s
    | none =>
      (if us = 0 then [] else [.book (fun b => { b with wins := b.wins ++ [⟨r, r.stamp + 1000 * us, 0, 0, 0, 0⟩] })])
      ++ releaseRec r s

/-- The collector releases its first record, 5 us after its stamp (R585). -/
def recordRelease : Eff := fun s =>
  match firstRec s.book.waiting with
  | none => []
  | some r => seqE [
      fun _ => [.clockTo (r.stamp + 5000), .book (fun b => { b with waiting := b.waiting.erase r })],
      fun s => closeBefore r s.book.wins.length s,
      collectRec r] s

/-- Every waiting record that comes before a window's close is released. -/
def releaseBefore (w : CoalWin) : Nat → Eff
  | 0, _ => []
  | n + 1, s => match firstRec s.book.waiting with
    | none => []
    | some r => if r.stamp < w.end_ ∨ (r.stamp = w.end_ ∧ !relBefore (coalRec w) r) then seqE [recordRelease, releaseBefore w n] s else []

/-- The first window closes, 5 us after the stamp of its record (R585, R586). -/
def coalesceClose : Eff := fun s =>
  match firstWin s.book.wins with
  | none => []
  | some w => seqE [
      fun s => releaseBefore w s.book.waiting.length s,
      fun s => match s.book.wins.find? (fun x => sameRec x.first w.first) with
        | some x => seqE [fun _ => [.clockTo (x.end_ + 5000)], closeWin x] s
        | none => []] s

/-! ## The copy in the Caddy (R502, R589) -/

/-- The first page of the prompt-book area and its pages. -/
def copyBase : Nat := 0x100000
def copyPages : Nat := 4096

/-- A page that the Caddy has deferred for more than 8 s is skipped. -/
def skipLate : Eff := fun s =>
  let late := fun (o : CadOp) => o.why == .book && decide (o.since + 8000000000 < now s)
  [.cad (fun c => { c with house := c.house.filter (fun o => !late o) }),
   .inc Reg.PB_CADDY_SKIP Fld.PB_CADDY_SKIP_COUNT (8 * (s.cad.house.filter late).length)]

/-- Each second house firmware writes one page of the 8 newest records; older ones are skipped. The sector is erased before its first
page. -/
def caddyCopy : Eff := seqE [
  fun s => [.clockTo (s.book.copyLast + 1000000000)],
  fun s => [.book (fun b => { b with copyLast := now s })],
  skipLate,
  fun s =>
    let n := s.book.copyRing.length
    if n < 8 then [] else
    let a := copyBase + 256 * s.book.copyAt
    (if a % 4096 = 0 then queueCad 2 a [] .plain s else [])
    ++ queueCad 1 a (s.book.copyRing.drop (n - 8)).flatten .book s
    ++ [.inc Reg.PB_CADDY_SKIP Fld.PB_CADDY_SKIP_COUNT (n - 8),
        .book (fun b => { b with copyRing := [], copyAt := (b.copyAt + 1) % copyPages })]]

/-! ## Interrupt hold-off (R596) -/

/-- The 10 us hold-off of a vector ends; a message covers what is new since the last. -/
def msixHoldoff (t v : Nat) : Eff := seqE [
  fun s => if bit (ten s t).msixHold v then [.clockTo ((ten s t).msixAt.getD v 0 + 10000)] else [],
  fun s => if bit (ten s t).msixHold v then
      .ten t (fun q => { q with msixHold := setBit q.msixHold v false, msixNew := setBit q.msixNew v false })
      :: (if bit (ten s t).msixNew v then [.signal t v] else [])
    else []]

/-! ## The commands -/

/-- TEN_OWN_WRITE (R566). -/
def execTenOwnWrite (a : Acc) (o : OwnThing) (v : Word) (s : State) : Out :=
  done s (gate a (ownReg (ownKey o).1 (ownKey o).2) true false (fun u => tenOwnWrite u o v) s)

/-- TEN_BIND_WRITE (R564). -/
def execTenBindWrite (a : Acc) (t : Fin 8) (srcIp : Bool) (v : Word) (s : State) : Out :=
  done s (gate a (if srcIp then Reg.TEN_BIND_SRC_IP t else Reg.TEN_BIND_CTRL t) true false (fun u => tenBindWrite u t srcIp v) s)

/-- TEN_RESET (R581). -/
def execTenReset (a : Acc) (t : Fin 8) (v : Word) (s : State) : Out :=
  done s (gate a (Reg.TEN_RESET t) true false (fun u => tenResetWrite u t v) s)

/-- TEN_DISCARD (R568). -/
def execTenDiscard (a : Acc) (t : Fin 8) (v : Word) (s : State) : Out :=
  done s (gate a (Reg.TEN_DISCARD t) true false (fun u => tenDiscardWrite u t v) s)

/-- TEN_CENSUS (R590). -/
def execTenCensus (a : Acc) (v : Word) (s : State) : Out :=
  done s (gate a Reg.TEN_CENSUS true false (fun u => tenCensusWrite u v) s)

/-- FUNCTION_LEVEL_RESET (R559). -/
def execFunctionLevelReset (t : Fin 8) (s : State) : Out := done s (whenE spineUp [tenantReset t] s)

/-- PCIE_HOT_RESET (R559). -/
def execPcieHotReset (s : State) : Out := done s (whenE spineUp [resetPcie] s)

/-- PCIE_LINK_LOSS (R559). -/
def execPcieLinkLoss (s : State) : Out := done s (whenE spineUp [fun s => resetPcie s] s)

/-- CUQ_TAIL_WRITE (R570, R571). -/
def execCuqTailWrite (a : Acc) (t : Fin 8) (v : Word) (s : State) : Out :=
  done s (gate a (Reg.CUQ_TAIL t) true false (fun u => byWindow u t (Reg.CUQ_TAIL t)
    (seqE [fun _ => [.fld (Reg.CUQ_TAIL t) Fld.CUQ_TAIL_INDEX (getF v Fld.CUQ_TAIL_INDEX)], takeCues t])) s)

/-- CPQ_HEAD_WRITE (R572). -/
def execCpqHeadWrite (a : Acc) (t : Fin 8) (v : Word) (s : State) : Out :=
  done s (gate a (Reg.CPQ_HEAD t) true false (fun u => byWindow u t (Reg.CPQ_HEAD t)
    (seqE [fun _ => [.fld (Reg.CPQ_HEAD t) Fld.CPQ_HEAD_INDEX (getF v Fld.CPQ_HEAD_INDEX)], flushHeld t, takeCues t])) s)

/-- PBH_HEAD_WRITE (R588). -/
def execPbhHeadWrite (a : Acc) (t : Fin 8) (v : Word) (s : State) : Out :=
  done s (gate a (Reg.PBH_HEAD t) true false (fun u => byWindow u t (Reg.PBH_HEAD t)
    (seqE [fun _ => [.fld (Reg.PBH_HEAD t) Fld.PBH_HEAD_INDEX (getF v Fld.PBH_HEAD_INDEX)], flushLost t])) s)

/-- PB_RECORD_RELEASE (R585). -/
def execPbRecordRelease (s : State) : Out := done s (recordRelease s)

/-- PB_COALESCE_CLOSE (R586). -/
def execPbCoalesceClose (s : State) : Out := done s (coalesceClose s)

/-- PB_CADDY_COPY (R589). -/
def execPbCaddyCopy (s : State) : Out := done s (whenE spineUp [caddyCopy] s)

/-- MSIX_HOLDOFF (R596). -/
def execMsixHoldoff (t : Fin 8) (v : Fin 4) (s : State) : Out := done s (msixHoldoff t v s)

end Sys2Proof.Machine
end

