-- ==== Sys2Proof/Machine/Modes.lean ====
section
/-! DEFINITION. The twelve modes: requests, HOLD and the wake, start-up, warm restart, thermal limits, supply loss, degradation, the
monitor inputs, the loss of a DRAM channel made good, and the test access port (16_modes_power.md, 17_electrical.md; 09 R398 to R400,
11 R464). -/

namespace Sys2Proof.Machine

/-! ## What keeps its state without the spine (R22, R79) -/

/-- The registers of the always-on domain: SYS and CAD, the show clock's, AMON's, and the wake enables (log entry 38). -/
def alwaysOn (a : Nat) : Bool :=
  match a / 0x100000 with
  | 0 | 13 => true
  | 1 => [Reg.CUR_LOCK, Reg.CUR_PHASE_ERR, Reg.CUR_TIME_SEC_HI, Reg.CUR_TIME_SEC_LO, Reg.CUR_TIME_NS, Reg.CUR_NUM].contains a
  | 2 => a == Reg.SRC_WAKE
  | 8 => decide (Reg.AMON_CTRL 0 ≤ a ∧ a < Reg.AMON_PERIOD + 4)
  | _ => false

/-- A mode in which the spine has its supply and house firmware runs (R597). -/
def fromBoot (m : Nat) : Bool := m != mOFF && m != mPILOT

/-- The spine, the islands and the banks lose their state; DRAM keeps its contents in self-refresh, or loses them (R22, R597). The epochs
of things are kept (R613). -/
def spineOff (dramLost : Bool) : Eff := fun s =>
  (s.regs.filter (fun e => !alwaysOn e.1 && (ownThing e.1).isNone)).map (fun e => Act.reg e.1 (regReset e.1))
  ++ clearOwners
  ++ s.lampRegs.map (fun e => Act.lamp e.1 (regReset e.1))
  ++ s.srcs.map (fun e => Act.src e.1 (fun _ => srcInit)) ++ s.ptp.map (fun e => Act.ptp e.1 (fun _ => ptpDflt e.1))
  ++ s.pvw.map (fun e => Act.pvw e.1 (fun _ => pvwDflt e.1)) ++ s.engs.map (fun e => Act.eng e.1 (fun _ => engDflt e.1))
  ++ s.ports.map (fun e => Act.port e.1 (fun _ => portDflt e.1))
  ++ s.seqs.map (fun e => Act.bseq e.1 (fun q => { seqDflt e.1 with supplyBad := q.supplyBad }))
  ++ s.far.map (fun e => Act.far e.1 (fun _ => farDflt e.1)) ++ s.tiles.map (fun e => Act.tile e.1 (fun _ => tileDflt e.1))
  ++ allTenants.map (fun t => Act.ten t (fun _ => tenantInit))
  ++ [.stp (fun _ => stpInit), .mem (fun _ => memInit), .pkr (fun _ => pkrInit), .cmp (fun _ => cmpInit), .pnx (fun _ => pnxInit),
      .ddr (fun d => if dramLost then ddrInit else { ddrInit with bad := d.bad, modeRegs := d.modeRegs }),
      .drive (fun d => { driveInit with rails := d.rails, logics := d.logics }),
      .cal (fun c => { calInit with chipTemp := c.chipTemp, amonRun := c.amonRun }),
      .cad (fun c => { c with tenant := none, waits := [] }),
      .book (fun b => { bookInit with copyAt := b.copyAt, copyLast := b.copyLast }),
      .cur (fun c => { c with running := false, commits := [], entered := [], camsync := 0, syncOut := 0, rowArmed := 0, rowDone := 0 }),
      .sys (fun y => { y with pendTarget := none, pendEdges := 0, waking := false, latched := 0, quietRun := 0, ticketsThis := 0,
                              degraded := false, snapOk := false, snap := [], supplyLoss := false }),
      .sramDrop 0 (2 ^ 27), .fld Reg.SYS_STATUS Fld.SYS_STATUS_GATED 0, .fld Reg.SYS_MODE Fld.SYS_MODE_PENDING 15]
  ++ (if dramLost then [.dramDrop 0 (2 ^ 36)] else [])

/-- Every line stops; a lane in a packet sends ABT (R268). -/
def stopLines : Eff := fun s => seqE ((List.range 16).map (fun b => fun s => if bsState s b = bsRUN then stopBank b s else [])) s

/-! ## Start-up (R462, R503, R535, R605) -/

/-- The delay set in the Caddy is written and applied; what it holds is open (R462, R463). -/
def loadDelays : Eff := fun s =>
  let ds := (channels s).flatMap delayRegs
  ds.map (fun a => Act.fld a Fld.DLY_CA_DELAY (Config.delaySet s.free a))
  ++ [.draw, .ddr (fun d => { d with applied := ds.foldl (fun m a =>
        mapPut zeroWord m a (putF (rd s a) Fld.DLY_CA_DELAY (Config.delaySet s.free a))) d.applied })]

/-- BOOT: HC0 picks a valid boot image and counter 1 follows its BOOT_RB; with none, RECOVERY. A thermal trip is logged again. -/
def coldStart : Eff := seqE [
  spineOff false,
  fun s => servoSelect s 0,
  fun s => setMode s mBOOT,
  fun s =>
    [.fld Reg.SYS_STATUS Fld.SYS_STATUS_WARM 0,
     .sys (fun y => { y with coldCount := true, restore := true, loadFrom := mBOOT, tripSensor := none })]
    ++ (match s.sys.tripSensor with | some k => sysEvent s 3 (arg [(16, k)]) | none => []),
  loadDelays,
  fun s => match bootPick s with
    | some n => raiseCounter 1 n s
    | none => setMode s mRECOVERY,
  fun s => [.fld Reg.PNX_RUN_INFO Fld.PNX_RUN_INFO_COUNTER (rollbackCount s 0)]]

/-- May Roura start from PILOT: POR_N high, spine supplies good, TRIPPED 0, PFAIL_N high, TEST_EN low (R599, R611, R638)? -/
def mayStart (s : State) : Bool :=
  mode s == mPILOT && s.sys.vddAo && s.sys.por && s.sys.spine && !s.sys.pfail && !s.sys.testEn
  && rf s Reg.SYS_STATUS Fld.SYS_STATUS_TRIPPED == 0

/-- VDD_AO enters its range: PILOT; 20 us later Caddy reads are served where VDD_HOLD stands (R507, R599, R605). -/
def aoGood (testEn : Bool) : List Eff := [
  fun s => if mode s = mOFF then
      [.sys (fun y => { y with vddAo := true, refclk := true, testEn := testEn }), .clockTo (now s + 20000),
       .reg Reg.SYS_MODE (putF (putF (rd s Reg.SYS_MODE) Fld.SYS_MODE_PREV mOFF) Fld.SYS_MODE_MODE mPILOT),
       .sys (fun y => { y with holdReady := y.vddHold })]
    else []]

/-- VDD_AO leaves its range: OFF at once; only the Caddy's array, flash, and what is outside Roura keep their state, and an operation of
the Caddy completes (R519, R629). -/
def aoLoss : List Eff := [
  fun s => if s.cad.run.isSome then opComplete s else [],
  spineOff true,
  fun s => servoSelect s 0,
  fun s =>
    let m := mode s
    s.regs.map (fun e => Act.reg e.1 (regReset e.1))
    ++ [.reg Reg.SYS_MODE (putF (putF (regReset Reg.SYS_MODE) Fld.SYS_MODE_PREV m) Fld.SYS_MODE_MODE mOFF),
        .cur (fun _ => curInit), .cad (fun _ => cadInit), .cal (fun _ => calInit),
        .sys (fun y => { sysInit with vddAo := false, spine := false, por := false, pfail := y.pfail, vddHold := y.vddHold,
                                      holdReady := false, refclk := y.refclk })]]

/-- POR_N rises with every spine supply good: the start, or the start again after a loss in BOOT (R599, R605). -/
def porRise (testEn : Bool) : List Eff := [
  fun s =>
    let again := mode s == mBOOT && !s.sys.spine
    .sys (fun y => { y with por := true, spine := true, testEn := testEn })
    :: (if again then [.reg Reg.SYS_MODE (putF (rd s Reg.SYS_MODE) Fld.SYS_MODE_MODE mPILOT)] else []),
  fun s => if mayStart s then coldStart s else []]

/-- A spine rail leaves its range, or POR_N falls: from any mode from BOOT on, BOOT, where the start waits for POR_N. While supply-loss
handling runs it is ignored (R599, R629). -/
def spineLoss : List Eff := [
  fun s => if fromBoot (mode s) && !s.sys.supplyLoss then
      seqE [stopLines, stopSeries false, spineOff true, fun s => servoSelect s 0, fun s => setMode s mBOOT] s
    else [],
  fun _ => [.sys (fun y => { y with spine := false, por := false })]]

/-! ## Requests (R599, R601, R603) -/

/-- The edges until a request takes effect: E_{k+1} when it completes at or before C_k, else one curtain later. -/
def reqEdges (s : State) : Nat := if s.cur.closed then 3 else 2

/-- A request waits for its edge. -/
def pend (target : Nat) : Eff := fun s =>
  [.sys (fun y => { y with pendTarget := some target, pendEdges := reqEdges s }), .fld Reg.SYS_MODE Fld.SYS_MODE_PENDING target]

/-- Is a tile in a power state from which HOLD is not entered (R346)? -/
def holdBarred (s : State) : Bool :=
  (tilesOn (rd s)).any (fun t => tileState s t != tpLOGIC_OFF && tileState s t != tpRAIL_ON && tileState s t != tpLIGHT_ON)

/-- Does a LOAD or a LIVE command run (R603)? -/
def imageRuns (s : State) : Bool := s.pnx.staged.isSome || s.pnx.live.isSome

/-- A request of T0; one that the table does not allow is BAD_ARG (R599). -/
def request (u : Nat) (ok : State → Bool) (e : Eff) : Eff := fun s =>
  if u ≠ 0 then tenantFault s u stNOT_OWNER Reg.SYS_MODE_REQ
  else if ok s then e s else tenantFault s u stBAD_ARG Reg.SYS_MODE_REQ

def reqRehearsal (u : Nat) : Eff := request u (fun s => showing (mode s)) (pend mREHEARSAL)
def reqShow (u : Nat) : Eff := request u (fun s => mode s == mREHEARSAL) (pend mSHOW)
def reqHold (u : Nat) : Eff := request u (fun s => curtainMode (mode s)) (fun s =>
  if holdBarred s || imageRuns s then tenantFault s u stBUSY Reg.SYS_MODE_REQ else pend mHOLD s)
def reqTest (u : Nat) : Eff :=
  request u (fun s => (mode s == mBOOT || mode s == mRECOVERY) && (tilesOn (rd s)).all (fun t => tileState s t == tpLOGIC_OFF))
    (fun s => setMode s mTEST)

/-- A write of SYS_MODE_REQ: with GO the request of its TARGET (R621). -/
def modeReqWrite (u : Nat) (v : Word) : Eff := fun s =>
  if u ≠ 0 then tenantFault s u stNOT_OWNER Reg.SYS_MODE_REQ
  else if getF v Fld.SYS_MODE_REQ_GO = 0 then []
  else match getF v Fld.SYS_MODE_REQ_TARGET with
    | 4 => reqRehearsal u s
    | 5 => reqShow u s
    | 8 => reqHold u s
    | 11 => reqTest u s
    | _ => tenantFault s u stBAD_ARG Reg.SYS_MODE_REQ

/-- The mode in which a showing device goes on: DEGRADED while a unit stays out or a step stands (R599). -/
def showBack (s : State) : Nat := if s.sys.degraded || mapsOut s then mDEGRADED else showMode (rdLamp s)

/-- Every region is ticketed at the next edge (R148, R604). -/
def ticketAll : Act := .stp (fun q => { q with firstEdge := true })

/-- The request that takes effect at this edge, if one does: a request for SHOW waits for LOCKED under a reference (R601). -/
def pendDue (s : State) : Option Nat :=
  match s.sys.pendTarget with
  | some t => if 1 < s.sys.pendEdges ∨ (t = mSHOW ∧ s.cur.refSrc ≠ 0 ∧ lock s ≠ lkLOCKED) then none else some t
  | none => none

/-- No request waits any more. -/
def pendDone : List Act := [.sys (fun y => { y with pendTarget := none, pendEdges := 0 }), .fld Reg.SYS_MODE Fld.SYS_MODE_PENDING 15]

/-! ## HOLD and the wake (R23, R79, R80, R346, R348, R463, R603, R604) -/

/-- A bank that was on goes to retention with its island (R23). -/
def bankRest (s : State) (n : Nat) : List Act := if bankState s n = 2 then [.fld (Reg.BANK_PWR n) Fld.BANK_PWR_STATE 1] else []

/-- What the islands and the spine lose in HOLD of the curtain at work: tickets, unit calls, engine and stream state (log entry 39). -/
def restUnits : Eff := fun s =>
  [.stp (fun q => { q with tickets := [], calls := [], peaks := [], nextRegion := 0, issued := 0, rescued := 0 }),
   .drive (fun d => { d with broken := true })]
  ++ s.engs.map (fun e => Act.eng e.1 (fun g => { engDflt e.1 with prog := g.prog, copy := g.copy, place := g.place }))

/-- After the last curtain of E_{k+1}: lines stop, banks rest, links go DOWN, and SYS_MODE reads HOLD. A cause latched meanwhile
wakes at once. -/
def enterHold : Eff := seqE [
  fun s => pendDone ++ [.sys (fun y => { y with holdFrom := mode s, ticketsThis := 0, quietRun := 0 }),
    .fld Reg.SYS_STATUS Fld.SYS_STATUS_GATED 0],
  stopSeries false, stopLines, restUnits,
  fun s => seqE ((List.range 512).map (fun n => bankArrive n)) s,
  fun s => (List.range 512).flatMap (bankRest s),
  fun s => if cmpOn s then seqE (linkDown (some 0) [] [] ++ linkDown (some 1) [] []) s else [],
  fun s => [.clockTo (now s + 1000000)],
  fun s => setMode s mHOLD,
  fun s => .sys (fun y => { y with latched := 0 }) :: (if s.sys.latched ≠ 0 then wakeFrom s.sys.latched s else [])]

/-- The engines in service start from ENG_ENTRY; understudies stand by (R209, R252). -/
def startEngines : Eff := fun s =>
  seqE ((allEngines s).map (fun e => fun s =>
    if engState s e = esMAPPED_OUT ∨ engState s e = esOFF then []
    else if (understudyOf s e).isSome then [engTo e esSTANDBY] else restartEngine e s)) s

/-- The wake: 2 ms after its cause islands, banks and lines are in service, and curtains resume in the mode HOLD was entered
from. -/
def wakeResume : Eff := fun s =>
  if mode s ≠ mHOLD ∨ !s.sys.waking then [] else
  seqE [
    fun s => [.clockTo (now s + 2000000), .sys (fun y => { y with waking := false })],
    loadDelays,
    fun s => seqE ((List.range 512).map (fun n => seqE [fun s => bankMove s n, bankArrive n])) s,
    startEngines,
    fun s => setMode s (if showing s.sys.holdFrom && s.sys.holdFrom != mQUIET then showBack s
      else if s.sys.holdFrom = mQUIET ∧ showBack s = mDEGRADED then mDEGRADED else s.sys.holdFrom),
    fun s => seqE ((banksOn (rd s)).map startBank) s,
    fun s => [ticketAll] ++ resumeSeries (now s) s] s

/-! ## Warm restart (R606 to R608) -/

/-- Does a warm restart become a cold start (R607)? It resumes only what had curtains. -/
def restartCold (s : State) (dramOk : Bool) : Bool :=
  !dramOk || !s.sys.snapOk || !curtainMode (mode s)
  || (match s.sys.warmAt with | some t => decide (now s < t + 60000000000) | none => false)

/-- RW fields take the snapshot's value; SYS, CAD, TEN, PNX, AMON and the tenants' windows are kept, and ownership with them (R607,
R608, log entry 40). -/
def restoreSnap : Eff := fun s =>
  (s.regs.map (·.1) ++ s.sys.snap.map (·.1)).flatMap (fun a =>
    if alwaysOn a || a / 0x100000 == 14 || a / 0x100000 == 15 || inWindows a || (ownThing a).isSome then [] else
    match regRow? a with
    | some (row, _) =>
      let m := rowMask row (fun c => c == .rw)
      if m = 0 then [] else [Act.reg a ((rd s a &&& ~~~m) ||| (mapGet regReset s.sys.snap a &&& m))]
    | none => [])

/-- What a warm restart takes from every tenant: staging sets, unstarted cues, held completions, event status; RESET_DONE follows
(R608). -/
def restartTenants : Eff := seqE [
  fun _ => allTenants.map (fun t => .ten t (fun q => { q with
    staged := [], open_ := q.open_.filter (fun r => !q.ready.any (fun c => c.serial == r.serial)), ready := [], held := [] })),
  fun _ => allTenants.flatMap (fun t => (evtBlocks.filter (fun b => b != 13 || t == 0)).map (fun b => Act.reg (evtStatus b t) 0)),
  fun s => allTenants.flatMap (fun t => eventNow s 15 3 [t] (0xB50 + t) 0)]

/-- The microprograms that an image holds for a bank. -/
def imgStore (l : List ImgSect) (b : Nat) (m : SMap (BitVec 48)) : SMap (BitVec 48) :=
  (imgRecs l).foldl (fun m x => match x with
    | .pstore 1 k st ws => if bitsOf k b b = 1 then mapPuts zeroMicro m st (ws.map (BitVec.ofNat 48)) else m
    | _ => m) m

/-- The islands come back: stores from the image's DRAM copy, tickets and calls gone, the CRC store kept (R606). -/
def restartUnits : Eff := fun s =>
  [.stp (fun q => { stpInit with crc := q.crc, included := q.included, bgReady := q.bgReady, latestLoad := q.latestLoad }),
   .drive (fun d => { d with broken := true }), .pkr (fun p => { pkrInit with doneJobs := p.doneJobs })]
  ++ s.engs.map (fun e => Act.eng e.1 (fun g => { engDflt e.1 with prog := g.copy, copy := g.copy, place := g.place }))
  ++ (match s.pnx.running with
      | some m => (List.range 16).map (fun b => .bseq b (fun q => { seqDflt b with store := imgStore m.sects b q.store, supplyBad := q.supplyBad }))
      | none => [])

/-- A LOAD that waits for its edge is abandoned with BUSY (R551). -/
def abandonLoad : Eff := fun s =>
  if s.pnx.staged.isSome then
    [.pnx (fun p => { p with staged := none }), .fld Reg.PNX_STATUS Fld.PNX_STATUS_STATE 4, .fld Reg.PNX_STATUS Fld.PNX_STATUS_STATUS stBUSY]
  else []

/-- A warm restart: BOOT, and within its bounds back to the mode it interrupted, with the curtain series resumed; or a cold start. -/
def warmRestart (dramOk : Bool) : Eff := fun s =>
  if !fromBoot (mode s) || mode s == mHOLD then [] else
  if restartCold s dramOk then
    seqE [stopLines, stopSeries false,
      fun s => if dramOk then [] else .dramDrop 0 (2 ^ 36) :: [.ddr (fun _ => ddrInit)],
      coldStart] s
  else
    let back := mode s
    seqE [
      fun s => .inc Reg.SYS_RESTARTS Fld.SYS_RESTARTS_COUNT 1 :: .fld Reg.SYS_STATUS Fld.SYS_STATUS_WARM 1
        :: .sys (fun y => { y with warmAt := some (now s), ticketsThis := 0, quietRun := 0 }) :: sysEvent s 5 0,
      abandonLoad, stopLines, stopSeries false, dropRuns,
      fun s => pendDone ++ [.fld Reg.SYS_STATUS Fld.SYS_STATUS_GATED 0] ++ setMode s mBOOT,
      restoreSnap, restartTenants, restartUnits,
      fun s => [.clockTo (now s + 1000000000)],
      startEngines,
      fun s => seqE ((banksOn (rd s)).map startBank) s,
      fun s => setMode s (if showing back then showBack s else back),
      fun s => [ticketAll] ++ resumeSeries (now s) s] s

/-- A write of SYS_RESTART (R606, R621). -/
def restartWrite (u : Nat) (v : Word) (dramOk : Bool) : Eff := fun s =>
  if u ≠ 0 then tenantFault s u stNOT_OWNER Reg.SYS_RESTART
  else if getF v Fld.SYS_RESTART_GO = 1 ∧ getF v Fld.SYS_RESTART_CONFIRM = 0xA5 then warmRestart dramOk s else []

/-- At an edge at which a commit enters, the register state goes to the other snapshot copy (R607). -/
def snapshot (entered : Bool) : Eff := fun s =>
  if entered then [.sys (fun y => { y with snap := s.regs, snapOk := true, snapCopy := 1 - y.snapCopy })] else []

/-! ## Thermal limits (R395, R515, R609, R610) -/

/-- One reading of a sensor: SYS_TEMP, and THERMAL_WARN and THERMAL_HIGH with 5 degrees of hysteresis. -/
def thermalRead (i : Nat) (v : BitVec 16) : Eff := fun s =>
  let t := v.toInt
  let peak := toSigned 16 (rf s (Reg.SYS_TEMP i) Fld.SYS_TEMP_PEAK)
  let warn := 16 * toSigned 8 (rf s Reg.SYS_THERM Fld.SYS_THERM_WARN)
  let limit := fun (lim : Int) (was : Bool) => if lim < t then true else if t ≤ lim - 80 then false else was
  [.reg (Reg.SYS_TEMP i) (putF (putF 0 Fld.SYS_TEMP_TEMP v.toNat) Fld.SYS_TEMP_PEAK (BitVec.ofInt 16 (max peak t)).toNat),
   .cal (fun c => { c with chipTemp := c.chipTemp.set i t }),
   .sys (fun y => { y with warned := setBit y.warned i (limit warn (bit y.warned i)), highed := setBit y.highed i (limit (gradeMax s) (bit y.highed i)) })]
  ++ (if warn < t ∧ !bit s.sys.warned i then sysEvent s 1 0 else [])
  ++ (if gradeMax s < t ∧ !bit s.sys.highed i then sysEvent s 2 0 else [])

/-- A thermal trip: TRIPPED, THERMAL_TRIP logged before the spine goes off, the Caddy's operation completes and no other starts, the
lines stop, and PILOT (R521, R610, R614). -/
def thermalTrip (i : Nat) : Eff := seqE [
  fun s => .fld Reg.SYS_STATUS Fld.SYS_STATUS_TRIPPED 1 :: .sys (fun y => { y with tripSensor := some i })
    :: (if fromBoot (mode s) then sysEvent s 3 (arg [(16, i)]) else []),
  fun s => if fromBoot (mode s) then
      seqE [stopLines, stopSeries false,
        fun s => seqE (s.book.waiting.map (fun _ => recordRelease)) s,
        fun s => if s.cad.run.isSome then seqE cadComplete s else [],
        fun _ => [.cad (fun c => { c with house := [] }), .fld Reg.CAD_STATUS Fld.CAD_STATUS_HOUSE_WAIT 0],
        fun s => setMode s mPILOT,
        spineOff false, fun s => servoSelect s 0] s
    else []]

/-- The thermal monitor reads its five sensors; two readings in a row of 125 degrees or more on one trip. -/
def thermalSample (l : List (BitVec 16)) : Eff := seqE [
  fun s => if s.sys.vddAo then seqE (l.mapIdx thermalRead) s else [],
  fun s => if s.sys.vddAo && fromBoot (mode s) && mode s != mHOLD then tempTrims s else [],
  fun s => if !s.sys.vddAo then [] else
    let hots := (List.range l.length).filter (fun i => decide (2000 ≤ (l.getD i 0).toInt))
    .sys (fun y => { y with hot := (List.range 5).foldl (fun m i => setBit m i (hots.contains i)) 0 })
    :: (match hots.find? (fun i => bit s.sys.hot i) with
        | some i => if rf s Reg.SYS_STATUS Fld.SYS_STATUS_TRIPPED = 1 then [] else thermalTrip i s
        | none => [])]

/-! ## Supply loss (R611 to R614) -/

/-- The 64 bytes of a cue, byte 5 as given (R573, R612). -/
def cueBytes (c : Cue) (b5 : Nat) : List Byte :=
  [BitVec.ofNat 8 c.opcode, BitVec.ofNat 8 c.flags] ++ leBytes 2 c.tag ++ [BitVec.ofNat 8 c.kind, BitVec.ofNat 8 b5]
    ++ leBytes 2 c.object ++ leBytes 4 c.epoch ++ leBytes 4 c.at_ ++ c.args

/-- The release instant of a held cue in show time (R575). -/
def releaseAt (s : State) (q : SchedCue) : Nat :=
  match q.due with
  | some t => t
  | none => if cuePast s q.cue then now s else s.cur.next + periods s.cur.rate (cueAhead s q.cue - 2) - 300000

/-- Held cues in release order, in taking order within one instant (R612). -/
def byRelease (s : State) (l : List SchedCue) : List SchedCue :=
  l.foldl (fun acc q => acc.takeWhile (fun p => decide (releaseAt s p ≤ releaseAt s q)) ++ [q]
    ++ acc.dropWhile (fun p => decide (releaseAt s p ≤ releaseAt s q))) []

/-- The pending-cue sector (R502). -/
def cueSector : Nat := 0x20000

/-- The first 16 scheduled cues go to the sector: one ERASE, then a PROGRAM for each page of four (R612). -/
def saveCues : Eff := fun s =>
  let l := byRelease s s.book.sched
  let keep := l.take 16
  let bytes := keep.map (fun q => cueBytes q.cue (0x80 + q.tenant))
  (if keep.isEmpty then [] else
    queueCad 2 cueSector [] .saved s
    ++ (List.range ((keep.length + 3) / 4)).flatMap (fun p => queueCad 1 (cueSector + 256 * p) ((bytes.drop (4 * p)).take 4).flatten .saved s))
  ++ [.fld Reg.SYS_SUPPLY Fld.SYS_SUPPLY_SAVED keep.length, .fld Reg.SYS_SUPPLY Fld.SYS_SUPPLY_DROPPED (l.length - keep.length),
      .sys (fun y => { y with savedAt := keep.map (releaseAt s) })]

/-- The last step: lines stop, DRAM rests, PILOT. -/
def supplyEnds : Eff := seqE [stopLines, stopSeries false, fun s => setMode s mPILOT, spineOff false, fun s => servoSelect s 0]

/-- Does D_{k+1} lie within 1 ms, so that POWER HOLD goes out in the interval (R611)? -/
def intervalNear (s : State) : Bool := s.cur.running && !s.cur.interval && decide (instD s ≤ now s + 1000000)

/-- PFAIL_N has been low for 2 us. -/
def pfailFall : Eff := seqE [
  fun _ => [.sys (fun y => { y with pfail := true }), .fld Reg.SYS_STATUS Fld.SYS_STATUS_PFAIL 1],
  fun s => if !fromBoot (mode s) || s.sys.supplyLoss then [] else
    seqE [
      fun s => .sys (fun y => { y with supplyLoss := true }) :: sysEvent s 4 0,
      dropRuns,
      fun _ => [.cur (fun c => { c with commits := [] }), .cad (fun c => { c with house := [], tenant := none }),
        .fld Reg.CAD_STATUS Fld.CAD_STATUS_HOUSE_WAIT 0],
      saveCues,
      fun s => if intervalNear s then [] else .clockTo (now s + 1000000) :: supplyEnds s] s]

/-- PFAIL_N rises with VDD_AO kept: Roura starts under R605. -/
def pfailRise : Eff := seqE [
  fun _ => [.sys (fun y => { y with pfail := false }), .fld Reg.SYS_STATUS Fld.SYS_STATUS_PFAIL 0],
  fun s => if mayStart s then coldStart s else []]

/-- The saved cue in slot `k` of the sector, with its tenant; byte 5 of the cue itself was 0. -/
def savedCue (s : State) (k : Nat) : Option (Nat × Cue) :=
  let b := caddyRead s (cueSector + 64 * k) 64
  if b.headD 0 = 0xFF then none
  else
    let t := (b.getD 5 0).toNat % 8
    some (t, { cueOf b (Config.savedIndex s.free) (ten s t).serial with res5 := 0 })

/-- One saved cue is taken back: it waits, starts LATE, or is too old (R613). Its release instant is the one it had when it was saved
(log entry 41). -/
def restoreCue (k : Nat) : Eff := fun s =>
  match savedCue s k with
  | none => []
  | some (t, c) =>
    let due := (s.sys.savedAt[k]?).getD (releaseAt s ⟨t, c, none⟩)
    let take : List Act := [.ten t (fun q => { q with serial := q.serial + 1, open_ := q.open_ ++ [cueRefOf c false] }), .draw]
    if now s < due then
      seqE [fun _ => take ++ [.book (fun b => { b with sched := b.sched ++ [⟨t, c, some due⟩] })], schedCount t] s
    else if now s < due + 1000000000 * rf s Reg.SYS_SUPPLY Fld.SYS_SUPPLY_STALE_S then
      take ++ [.ten t (fun q => { q with ready := q.ready ++ [c] })]
    else logStatus s (0xB50 + t) 15 stBUSY [t] 0

/-- At the first edge in a showing mode the saved cues are taken back in slot order, and the sector is erased (R613). -/
def restoreCues : Eff := fun s =>
  if !s.sys.restore || !(mode s == mSHOW || mode s == mSLOTTED || mode s == mQUIET || mode s == mDEGRADED) then [] else
  seqE ((List.range 16).map restoreCue ++ [
    fun s => [.sys (fun y => { y with restore := false, savedAt := [] })]
      ++ (if (List.range 16).any (fun k => (savedCue s k).isSome) then queueCad 2 cueSector [] .plain s else [])]) s

/-! ## Degradation (R615) -/

/-- A field of a commit with the epoch its thing has now (R567). -/
def ownStaged (s : State) (a : Nat) (f : Field) (v : Nat) : Staged :=
  let k := match regRow? a with | some (row, ix) => thingOf row ix | none => (0, 0)
  ⟨a, f.mask, putF 0 f v, k.1, k.2, epochOf s k.1 k.2⟩

/-- The slot that goes first: REHEARSAL, then DARK, then CAMERA in descending camera number; of equals the highest slot. -/
def slotToDrop (r : Rd) : Option Nat :=
  let n := slotCount r
  if n < 2 then none else
  let kinds := [2, 1] ++ (List.range 248).map (fun i => 255 - i)
  kinds.findSome? (fun k => ((List.range n).reverse).find? (fun j => slotKind r j == k && k != 0))

/-- The next step: its fields and its code in SYS_DEGRADE.LAST. -/
def nextStep (s : State) : Option (List Staged × Nat) :=
  let r := rd s
  match slotToDrop r with
  | some j =>
    let n := slotCount r
    some ([ownStaged s Reg.CUR_SLOT_PLAN Fld.CUR_SLOT_PLAN_COUNT (n - 2), ownStaged s Reg.CUR_SLOT_PLAN Fld.CUR_SLOT_PLAN_EQUAL 1]
      ++ ((List.range (n - 1)).filter (fun i => decide (j ≤ i))).map (fun i => ownStaged s (Reg.CUR_SLOT i) Fld.CUR_SLOT_KIND (slotKind r (i + 1))), 1)
  | none =>
    match ((List.range s.cur.rate).reverse).find? (fun i => (sharedEdge s r i 0).isSome) with
    | some i => some ([ownStaged s Reg.CUR_RATE Fld.CUR_RATE_RATE i], 2)
    | none =>
      match ((tilesOn r).reverse).find? (fun t => rrf r (Reg.TD_POWER t) Fld.TD_POWER_DARK == 0) with
      | some t => some ([ownStaged s (Reg.TD_POWER t) Fld.TD_POWER_DARK 1], 3)
      | none => none

/-- A step waits to take effect. -/
def stepDue (s : State) : Bool := s.cur.rateNext.isSome || s.cur.commits.any (fun c => c.who == 10)

/-- With AUTO, one step is committed while an evaluation fails: that of R257, or the DRAM or packer budget's, of which `budget` brings
the outcome. A member's slot and rate steps go to the lead as a request. -/
def degradeStep (budget : Bool) : Eff := fun s =>
  if rf s Reg.SYS_DEGRADE Fld.SYS_DEGRADE_AUTO = 0 || stepDue s || !(budget || !(shortClusters s).isEmpty) then [] else
  match nextStep s with
  | none => []
  | some (fs, k) =>
    if role s = rlMEMBER ∧ k ≠ 3 then sendTo (leadIndex s) clCONTROL 4 k (fs.map (fun f => f.val.toNat)) s
    else
      [.cur (fun c => { c with commits := c.commits ++ [⟨10, 0, fs, now s, false, none, none, false⟩] }),
       .sat Reg.SYS_DEGRADE Fld.SYS_DEGRADE_STEPS 1, .fld Reg.SYS_DEGRADE Fld.SYS_DEGRADE_LAST k]
      ++ sysEvent s 6 0

/-! ## Modes at an edge (R598, R599, R602) -/

/-- QUIET_AFTER, 0 read as 1. -/
def quietAfter (s : State) : Nat := max 1 (rf s Reg.SYS_CTRL Fld.SYS_CTRL_QUIET_AFTER)

/-- The mode follows requests, units that are out, the plan at the lamps and QUIET. HOLD is entered apart. -/
def modeEdge : Eff := seqE [
  fun s => (match pendDue s with
    | some t =>
      if t = mREHEARSAL then pendDone ++ [.fld Reg.SYS_STATUS Fld.SYS_STATUS_GATED 0, ticketAll] ++ setMode s mREHEARSAL
      else if t = mSHOW then pendDone ++ [ticketAll] ++ setMode s (showBack s)
      else []
    | none => [])
    ++ [.sys (fun y => { y with
          pendEdges := if y.pendTarget.isSome then max 1 (y.pendEdges - 1) else 0
          quietRun := if y.ticketsThis = 0 then y.quietRun + 1 else 0
          ticketsThis := 0 })],
  fun s =>
    let m := mode s
    if s.sys.degraded ∧ (m = mSHOW ∨ m = mSLOTTED ∨ m = mQUIET) then setMode s mDEGRADED
    else if m = mSHOW ∨ m = mSLOTTED then setMode s (showMode (rdLamp s)) else [],
  fun s =>
    if showing (mode s) ∧ rf s Reg.SYS_CTRL Fld.SYS_CTRL_QUIET_EN = 1 ∧ quietAfter s ≤ s.sys.quietRun then
      .fld Reg.SYS_STATUS Fld.SYS_STATUS_GATED 1 :: (if mode s = mSHOW ∨ mode s = mSLOTTED then setMode s mQUIET else [])
    else []]

/-! ## Monitor inputs (R398 to R400) -/

/-- An event of a monitor input, with its number. -/
def amonEvent (s : State) (b a : Nat) (items : List (Nat × Nat)) : List Act := eventNow s 8 b allTenants (0xB28 + a) (arg items)

/-- A conversion of an enabled input: samples A and B. -/
def amonConvert (a sa sb : Nat) : Eff := fun s =>
  if !s.sys.vddAo || rf s (Reg.AMON_CTRL a) Fld.AMON_CTRL_EN = 0 then [] else
  let isOpen := decide (sa + 1024 ≤ sb)
  let wasOpen := rf s (Reg.AMON_VALUE a) Fld.AMON_VALUE_STATE == 2
  let run := if isOpen then 0 else mapGet zeroNat s.cal.amonRun a + 1
  let wake : Eff := fun s => if rf s (Reg.AMON_CTRL a) Fld.AMON_CTRL_WAKE = 1 then wakeFrom 2 s else []
  let keepRun : Act := .cal (fun c => { c with amonRun := mapPut zeroNat c.amonRun a run })
  if isOpen then
    keepRun :: .fld (Reg.AMON_VALUE a) Fld.AMON_VALUE_STATE 2
    :: (if wasOpen then [] else amonEvent s 6 a [(32, stSENSOR_OPEN), (16, a)] ++ wake s)
  else if wasOpen ∧ run < 2 then [keepRun]
  else
    let out := decide (sa < rf s (Reg.AMON_LIMIT a) Fld.AMON_LIMIT_LO) || decide (rf s (Reg.AMON_LIMIT a) Fld.AMON_LIMIT_HI < sa)
    keepRun :: .reg (Reg.AMON_VALUE a)
        (putF (putF (putF 0 Fld.AMON_VALUE_STATE 1) Fld.AMON_VALUE_LIMIT (if out then 1 else 0)) Fld.AMON_VALUE_CODE sa)
    :: (if wasOpen then amonEvent s 7 a [(16, a)] else [])
    ++ (if out ∧ rf s (Reg.AMON_VALUE a) Fld.AMON_VALUE_LIMIT = 0 then amonEvent s 8 a [(16, a)] ++ wake s else [])

/-! ## A lost channel made good (R464) -/

/-- DRAM is interleaved anew and the image's contents are reloaded; held bits are cleared and tickets resume at an edge. -/
def dramRelaid : Eff := fun s =>
  if !s.ddr.lost then [] else
  seqE [
    fun s => [.dramDrop 0 (2 ^ 36), .ddr (fun d => { d with bad := [], lost := false }),
      .sys (fun y => { y with snapOk := false }),
      .fld Reg.DDR_CAP Fld.DDR_CAP_MIB (usableMiB (rd s Reg.DDR_CFG) (channels s).length)],
    fun s => match s.pnx.running with
      | some m => seqE ((imgRecs m.sects).map (fun x => match x with | .mem .. => applyRec x | .ext .. => applyRec x | _ => fun _ => [])) s
      | none => [],
    heldInv (putF 0 Fld.STP_HELD_INV_ALL 1),
    fun s => eventNow s 11 3 allTenants 0xB30 0] s

/-! ## Test access port (R638) -/

/-- What IDCODE shifts out: 2 for B1, PART, the JEP106 code, 1. -/
def idcodeOf (s : State) : Word :=
  BitVec.ofNat 32 (0x20000000 + (if s.fuses.is9440 then 0x9440 else 0x9432) * 4096 + Config.jep106 % 2048 * 2 + 1)

/-- Does the TAP answer, and with the instructions of TEST_EN? -/
def tapOn (s : State) : Bool := mode s != mOFF
def tapTest (s : State) : Bool := mode s == mPILOT && s.sys.testEn

/-! ## The commands -/

/-- SYS_MODE_REQ_REHEARSAL (R601). -/
def execSysModeReqRehearsal (a : Acc) (s : State) : Out := done s (gate a Reg.SYS_MODE_REQ true false reqRehearsal s)

/-- SYS_MODE_REQ_SHOW (R601). -/
def execSysModeReqShow (a : Acc) (s : State) : Out := done s (gate a Reg.SYS_MODE_REQ true false reqShow s)

/-- SYS_MODE_REQ_HOLD (R603). -/
def execSysModeReqHold (a : Acc) (s : State) : Out := done s (gate a Reg.SYS_MODE_REQ true false reqHold s)

/-- SYS_MODE_REQ_TEST (R599). -/
def execSysModeReqTest (a : Acc) (s : State) : Out := done s (gate a Reg.SYS_MODE_REQ true false reqTest s)

/-- WAKE_RESUME (R604). -/
def execWakeResume (s : State) : Out := done s (wakeResume s)

/-- VDD_AO_GOOD (R599); `testEn` is the level of the TEST_EN ball. -/
def execVddAoGood (testEn : Bool) (s : State) : Out := doneAll s (aoGood testEn)

/-- VDD_AO_LOSS (R629). -/
def execVddAoLoss (s : State) : Out := doneAll s aoLoss

/-- POR_N_RISE (R605). -/
def execPorNRise (testEn : Bool) (s : State) : Out := doneAll s (porRise testEn)

/-- SPINE_SUPPLY_LOSS (R629). -/
def execSpineSupplyLoss (s : State) : Out := doneAll s spineLoss

/-- PFAIL_N_FALL (R611). -/
def execPfailNFall (s : State) : Out := done s (pfailFall s)

/-- PFAIL_N_RISE (R611). -/
def execPfailNRise (s : State) : Out := done s (pfailRise s)

/-- HC_WATCHDOG (R606); `dramOk`: DRAM reached self-refresh within 10 us. -/
def execHcWatchdog (dramOk : Bool) (s : State) : Out := done s (warmRestart dramOk s)

/-- HC_FAULT (R606). -/
def execHcFault (dramOk : Bool) (s : State) : Out := doneAll s [warmRestart dramOk]

/-- SYS_RESTART (R606). -/
def execSysRestart (a : Acc) (v : Word) (dramOk : Bool) (s : State) : Out :=
  done s (gate a Reg.SYS_RESTART true false (fun u => restartWrite u v dramOk) s)

/-- THERMAL_SAMPLE (R609): sensors Q0 to Q3 and the spine, 1/16 degree. -/
def execThermalSample (q0 q1 q2 q3 sp : BitVec 16) (s : State) : Out := done s (thermalSample [q0, q1, q2, q3, sp] s)

/-- AMON_CONVERSION (R398): input `a`, samples A and B. -/
def execAmonConversion (a : Fin 8) (sa sb : Fin 4096) (s : State) : Out := done s (amonConvert a sa sb s)

/-- DRAM_RELAID (R464). -/
def execDramRelaid (s : State) : Out := done s (dramRelaid s)

/-- SOURCE_WAKE_ACTIVITY (R114, R115). -/
def execSourceWakeActivity (x : Fin 6) (s : State) : Out :=
  done s (srcActivity x (s.sys.pendTarget == some mHOLD) s
    ++ (if bitsOf (rf s Reg.SRC_WAKE Fld.SRC_WAKE_EN) x x = 1 then wakeFrom 1 s else []))

/-- REFCLK_LOSS (R519): an operation of the Caddy completes on its own oscillator; no other clock runs (R20). -/
def execRefclkLoss (s : State) : Out :=
  doneAll s [fun s => if s.cad.run.isSome then seqE cadComplete s else [], fun _ => [.sys (fun y => { y with refclk := false })]]

/-- IDCODE (R638). -/
def execIdcode (s : State) : Out :=
  done s (if tapOn s then [.jtag (fun j => { j with ir := 0, idcode := idcodeOf s, driving := false })] else [])

/-- BYPASS (R638): one bit, captured as 0. -/
def execBypass (s : State) : Out := done s (if tapOn s then [.jtag (fun j => { j with ir := 1, bypass := false, driving := false })] else [])

/-- SAMPLE (R638): the levels of the CMOS balls are captured. -/
def execSample (balls : List Bool) (s : State) : Out :=
  done s (if tapTest s then [.jtag (fun j => { j with ir := 2, capture := balls, driving := false })] else [])

/-- PRELOAD (R638): the update latches take a pattern. -/
def execPreload (balls : List Bool) (s : State) : Out :=
  done s (if tapTest s then [.jtag (fun j => { j with ir := 3, update := balls, driving := false })] else [])

/-- EXTEST (R638): the update latches drive the balls, and the levels at the inputs are captured. -/
def execExtest (balls : List Bool) (s : State) : Out :=
  done s (if tapTest s then [.jtag (fun j => { j with ir := 4, capture := balls, driving := true })] else [])

end Sys2Proof.Machine
end

