-- ==== Sys2Proof/Machine/Access.lean ====
section
/-! DEFINITION. Reads and writes of control space under the access codes and ownership rules (00 R3, R6 to R12; 15 R562, R563, R592;
02 R62, R67, R86; 11 R436, R441; 13 R499, R507; 15 R588, R591), the management port and the SPI service target (15 R560, R561), and the
events of the references, camera pins, sources, PTP and previews (02, 03). -/

namespace Sys2Proof.Machine

/-! ## Refusals as data -/

/-- The status with which an access was refused, if it was (R580): the updates write it to the tenant's fault record. -/
def refusedWith (t : Nat) (xs : List Act) : Option Nat :=
  xs.findSome? (fun x => match x with
    | .reg a w => if a = Reg.TEN_FAULT_LAST t ∧ getF w Fld.TEN_FAULT_LAST_STATUS ≠ 0 then some (getF w Fld.TEN_FAULT_LAST_STATUS) else none
    | _ => none)

/-- An update that only keeps the fault record of tenant `t`. -/
def faultAct (t : Nat) : Act → Bool
  | .inc a _ _ => a == Reg.TEN_FAULT_CNT t
  | .reg a _ => a == Reg.TEN_FAULT_LAST t || a == Reg.TEN_FAULT_ADDR t
  | .evt b u n => b == 15 && u == t && n == 0
  | .log r => r.unit == 0xB50 + t && (r.kind == kFAULT || (r.kind == kEVENT && r.block == 15 && r.code == 0))
  | _ => false

/-- The updates of an access that a cue makes: a refusal does not count in the fault record (R580). -/
def inCue (t : Nat) (xs : List Act) : List Act := if (refusedWith t xs).isSome then xs.filter (fun x => !faultAct t x) else xs

/-- The value an access reads. -/
def gives (v : Word) : Act := .out (fun o => { o with readData := v })

/-- A read that is refused returns 0 (R563). -/
def readRefused (s : State) (u st addr : Nat) : List Act := tenantFault s u st addr ++ [gives 0]

/-! ## Masks of a row -/

/-- Fields that a row has and its unit has not: the flow registers of SRC0 to SRC3 (R120), HPD of SRC4 and SRC5 (R121). -/
def maskedBits (base i : Nat) : Word :=
  if i < 4 ∧ (base = Reg.SRC_FLOW_GRP_A 0 ∨ base = Reg.SRC_FLOW_GRP_B 0 ∨ base = Reg.SRC_FLOW_PORT 0 ∨ base = Reg.SRC_FLOW_CFG 0) then 0xFFFFFFFF
  else if 4 ≤ i ∧ base = Reg.SRC_CTRL 0 then Fld.SRC_CTRL_HPD.mask else 0

/-- The bits of a row under an access code. -/
def codeMask (row : RegRow) (i : Nat) (c : AccessCode) : Word := rowMask row (fun x => x == c) &&& ~~~(maskedBits row.base i)

/-- Is the image sealed (R9, R543)? -/
def sealed (s : State) : Bool := rf s Reg.PNX_RUN_INFO Fld.PNX_RUN_INFO_SEALED == 1

/-! ## Reading -/

/-- Values that a field stores and reads as another: register, field, values stored, value read. -/
def readFixes : List (Nat × Field × List Nat × Nat) := [
  (Reg.CUR_SERVO, Fld.CUR_SERVO_SLEW_PPM, [0], 1),
  (Reg.CUR_VIEW 0, Fld.CUR_VIEW_VIEW, [3], 0),
  (Reg.SRC_CTRL 0, Fld.SRC_CTRL_LOSS_FRAMES, [0], 1),
  (Reg.SRC_PTP, Fld.SRC_PTP_PORT, [3], 0),
  (Reg.PVW_CTRL 0, Fld.PVW_CTRL_SEL, [7], 6),
  (Reg.BS_FRAME 0, Fld.BS_FRAME_SILENT_LIMIT, [0], 1),
  (Reg.DRV_CTRL, Fld.DRV_CTRL_RB_LIMIT, [0], 1)] ++ [
  (Reg.DRV_CTRL, Fld.DRV_CTRL_CONFIRM, [0], 1),
  (Reg.DRV_CTRL, Fld.DRV_CTRL_DIAG_WIN, [0], 1),
  (Reg.CAL_TEMP, Fld.CAL_TEMP_POLL, [0], 1),
  (Reg.CMP_CTRL, Fld.CMP_CTRL_LEAD_LOSS, [0, 1], 2),
  (Reg.CMP_CTRL, Fld.CMP_CTRL_CENSUS_AHEAD, [0, 1], 2),
  (Reg.CMP_CTRL, Fld.CMP_CTRL_BULK_GBPS, [0, 7, 8, 9, 10, 11, 12, 13, 14, 15], 6),
  (Reg.MEM_CTRL, Fld.MEM_CTRL_SCRUB_S, [0], 1)] ++ [
  (Reg.MEM_CTRL, Fld.MEM_CTRL_UE_LIMIT, [0], 1),
  (Reg.DDR_CTRL, Fld.DDR_CTRL_UE_LIMIT, [0], 1),
  (Reg.PKR_CTRL, Fld.PKR_CTRL_RING_SHARE, [0, 1], 2),
  (Reg.SYS_CTRL, Fld.SYS_CTRL_QUIET_AFTER, [0], 1)]

/-- A word read from a register of row base `base`, each field at the value it reads as. -/
def readsAs (base : Nat) (w : Word) : Word :=
  readFixes.foldl (fun w q => if q.1 = base ∧ q.2.2.1.contains (getF w q.2.1) then putF w q.2.1 q.2.2.2 else w) w

/-- A word of the 32 records from PB_PEEK_IDX in the device ring (R588). -/
def peekWord (s : State) (i : Nat) : Word :=
  let n := rf s Reg.PB_CTRL Fld.PB_CTRL_SIZE
  let k := (rf s Reg.PB_PEEK_IDX Fld.PB_PEEK_IDX_SEQ + i / 8) % 2 ^ n
  BitVec.ofNat 32 (leValue (dramBytes s (addr36 s Reg.PB_BASE_LO Reg.PB_BASE_HI + 32 * k + 4 * (i % 8)) 4))

/-- What tenant `u` reads from a register that only reads (R9, R67, R86): RWS fields under the tenant's view, WO fields 0. -/
def regWord (s : State) (u : Nat) (row : RegRow) (ix : List Nat) (a : Nat) : Word :=
  let i := ix.headD 0
  let rws := codeMask row i .rws
  let plain := rowMask row (fun c => c != .rws && c != .wo && c != .res) &&& ~~~(maskedBits row.base i)
  let w := readsAs row.base ((viewRws s u a &&& rws) ||| (rd s a &&& plain))
  if a = Reg.SYS_IDENT then
    putF (putF w Fld.SYS_IDENT_PART (if s.fuses.is9440 then 0x9440 else 0x9432)) Fld.SYS_IDENT_GRADE (if s.fuses.gradeE then 1 else 0)
  else if a = Reg.PNX_KEYS then putF (putF w Fld.PNX_KEYS_REVOKED s.fuses.keyRevoked.toNat) Fld.PNX_KEYS_PROG s.fuses.keyProg.toNat
  else if a = Reg.CMP_SERIAL_LO then BitVec.ofNat 32 (leValue (caddyRead s 0x3FF000 4))
  else if a = Reg.CMP_SERIAL_HI then BitVec.ofNat 32 (leValue (caddyRead s 0x3FF004 4))
  else if a = Reg.TEN_PRIV 0 then 0x3F
  else if a = Reg.CAD_CMEAS then cmeasRead s
  else if a = Reg.CAD_STATUS then putF w Fld.CAD_STATUS_TRIPPED (rf s Reg.SYS_STATUS Fld.SYS_STATUS_TRIPPED)
  else if a = Reg.CUR_TIME_SEC_LO then BitVec.ofNat 32 (ten s u).latchSec
  else if a = Reg.CUR_TIME_NS then putF 0 Fld.CUR_TIME_NS_NS (ten s u).latchNs
  else if row.base = Reg.PB_PEEK 0 then peekWord s i
  else w

/-- A read of CUR_TIME_SEC_HI latches the whole show clock for the reading tenant (R86). -/
def latchTime (u : Nat) : Eff := fun s =>
  let sec := now s / 1000000000
  [.ten u (fun q => { q with latchSec := sec % 2 ^ 32, latchNs := now s % 1000000000 }),
   gives (putF 0 Fld.CUR_TIME_SEC_HI_SEC_HI (sec / 2 ^ 32))]

/-- Reads that also act: none where the register has no such read. -/
def actingRead (u base i : Nat) : Option Eff :=
  if base = Reg.CUR_TIME_SEC_HI then some (latchTime u)
  else if base = Reg.ENG_PDATA_LO 0 then some (pdataLoRead i)
  else if base = Reg.ENG_PDATA_HI 0 then some (pdataHiRead i)
  else if base = Reg.BS_UDATA_LO 0 then some (udataRead i false)
  else if base = Reg.BS_UDATA_HI 0 then some (udataRead i true)
  else if base = Reg.BS_STATUS 0 then some (bsStatusRead i)
  else none

/-- A tenant's access to the SRAM bank window that must be refused: the privilege, the alignment, the bank (R436, R441, R446, R569). -/
def windowBad (s : State) (u addr : Nat) : Option (List Act) :=
  if !hasPriv s u pvSRAM_WIN then some (tenantFault s u stNOT_OWNER addr)
  else if addr % 4 ≠ 0 then some (tenantFault s u stBAD_ARG addr)
  else match windowCause s u (addr - 0x08000000) with
    | some c => some (windowRefused s u (addr - 0x08000000) c)
    | none => none

/-- A read through the SRAM bank window; an uncorrectable word is poisoned (R456). -/
def sramWindowRead (u addr : Nat) : Eff := fun s =>
  let off := addr - 0x08000000
  match windowBad s u addr with
  | some xs => xs ++ [gives 0]
  | none => seqE [bankArrive (off / 0x40000), fun s =>
      bankReadActs s off 4 ++
      (if bankUE s off 4 then [.draw, .out (fun o => { o with poisoned := o.poisoned + 1 }),
          gives (BitVec.ofNat 32 (leValue ((List.range 4).map (Config.undefinedByte s.free))))]
       else [gives (BitVec.ofNat 32 (leValue (sramRead s off 4)))])] s

/-- A read of control space by tenant `u` (R562, R563). -/
def readReg (u addr : Nat) : Eff := fun s =>
  if 0x01000000 ≤ addr ∧ addr < 0x01400000 then seqE (caddyWindowRead u addr) s
  else if 0x02000000 ≤ addr ∧ addr < 0x03000000 then
    [gives (if addr % 4 = 0 then mapGet zeroWord s.book.shadows (addr - 0x02000000) else 0)]
  else if 0x08000000 ≤ addr ∧ addr < 0x10000000 then sramWindowRead u addr s
  else match regRow? addr with
    | none => readRefused s u stBAD_ARG addr
    | some (row, ix) =>
      if row.owner = .win ∧ u ≠ 0 ∧ u ≠ ix.headD 0 then readRefused s u stNOT_OWNER addr
      else match actingRead u row.base (ix.headD 0) with
        | some e => e s
        | none => [gives (regWord s u row ix addr)]

/-- A read by a tenant; a register of a disabled unit reads 0 (R3). -/
def readAt (u addr : Nat) : Eff := fun s => if absentAddr s addr then [gives 0] else readReg u addr s

/-! ## Writing -/

/-- May tenant `u` write a register of this row (R82, R151, R203, R258, R364, R401, R431, R465, R592)? -/
def mayWrite (s : State) (u : Nat) (row : RegRow) (ix : List Nat) : Bool :=
  match row.owner with
  | .t0 => u == 0
  | .win => u == 0 || u == ix.headD 0
  | .image => false
  | _ => u == 0 || ownerOf s (thingOf row ix).1 (thingOf row ix).2 == u

/-- The queue registers of a window and the indexes of their ring (R592). -/
def ringIndexes (base : Nat) : Option ((Nat → Nat) × (Nat → Nat)) :=
  if base = Reg.CUQ_BASE_LO 0 ∨ base = Reg.CUQ_BASE_HI 0 ∨ base = Reg.CUQ_CTRL 0 then some (Reg.CUQ_HEAD, Reg.CUQ_TAIL)
  else if base = Reg.CPQ_BASE_LO 0 ∨ base = Reg.CPQ_BASE_HI 0 ∨ base = Reg.CPQ_CTRL 0 then some (Reg.CPQ_HEAD, Reg.CPQ_TAIL)
  else if base = Reg.PBH_BASE_LO 0 ∨ base = Reg.PBH_BASE_HI 0 ∨ base = Reg.PBH_CTRL 0 then some (Reg.PBH_HEAD, Reg.PBH_TAIL)
  else none

/-- Is it the control register of a queue or host ring? -/
def queueCtrl (base : Nat) : Bool := base == Reg.CUQ_CTRL 0 || base == Reg.CPQ_CTRL 0 || base == Reg.PBH_CTRL 0

/-- A write of a queue's base or SIZE: a size outside 4 to 12, or a queue in use (R592, R595). -/
def queueCheck (s : State) (base i a : Nat) (v : Word) : Option Nat :=
  match ringIndexes base with
  | none => none
  | some (h, t) =>
    let size := getF v Fld.CUQ_CTRL_SIZE
    if queueCtrl base ∧ (size < 4 ∨ 12 < size) then some stBAD_ARG
    else if rf s (h i) Fld.CUQ_TAIL_INDEX ≠ rf s (t i) Fld.CUQ_TAIL_INDEX ∧ (!queueCtrl base ∨ size ≠ rf s a Fld.CUQ_CTRL_SIZE) then some stBUSY
    else none

/-- The status with which the value of a write is refused, if it is (R121, R466, R494, R592, R594, R595, R621). -/
def valueCheck (s : State) (base i a : Nat) (v : Word) : Option Nat :=
  let bad := fun (c : Bool) => if c then some stBAD_ARG else none
  if base = Reg.SYS_CTRL then bad (getF v Fld.SYS_CTRL_AFTER_LOAD != 4 && getF v Fld.SYS_CTRL_AFTER_LOAD != 5)
  else if base = Reg.PB_CTRL then bad (decide (getF v Fld.PB_CTRL_SIZE < 10) || decide (20 < getF v Fld.PB_CTRL_SIZE))
  else if base = Reg.SRC_CTRL 0 then bad (getF v Fld.SRC_CTRL_MAX_LANES == 3 || getF v Fld.SRC_CTRL_MAX_RATE == 3)
  else if base = Reg.DDR_TRN_CTRL then bad (decide (getF v Fld.DDR_TRN_CTRL_OP < 1) || decide (5 < getF v Fld.DDR_TRN_CTRL_OP))
  else if base = Reg.PKR_RING_LO 0 ∨ base = Reg.PKR_RING_HI 0 ∨ base = Reg.PKR_RING_SIZE 0 then pkrRingCheck s i a v
  else queueCheck s base i a v

/-- A value that the register raises to its minimum: AMON_PERIOD (R398). -/
def raisedValue (s : State) (base : Nat) (v : Word) : Word :=
  if base = Reg.AMON_PERIOD then
    let n := ((List.range 8).filter (fun a => rf s (Reg.AMON_CTRL a) Fld.AMON_CTRL_EN == 1)).length
    putF v Fld.AMON_PERIOD_US (max (getF v Fld.AMON_PERIOD_US) (40 * (n + 1)))
  else v

/-- The word a register holds after a write (R9): RW at once, RWL until sealing, W1C clears, W1S sets. -/
def writtenWord (s : State) (row : RegRow) (i : Nat) (old v : Word) : Word :=
  let rw := codeMask row i .rw ||| (if sealed s then 0 else codeMask row i .rwl)
  let w := (old &&& ~~~rw) ||| (v &&& rw)
  (w &&& ~~~(v &&& codeMask row i .w1c)) ||| (v &&& codeMask row i .w1s)

/-- What a register does beside holding its new value. -/
def afterWrite (base i : Nat) (old v : Word) : Eff :=
  if base = Reg.SRC_CTRL 0 then
    seqE ((if getF v Fld.SRC_CTRL_FORCE = 1 then [srcForce i] else [])
      ++ (if i < 4 then hpdWrite i (getF old Fld.SRC_CTRL_HPD) (getF v Fld.SRC_CTRL_HPD) else []))
  else if base = Reg.SRC_PTP then ptpSelect
  else if base = Reg.CUR_ROW_MATCH 0 then fun _ => [.cur (fun c => { c with rowArmed := setBit c.rowArmed i false })]
  else if base = Reg.CUQ_CTRL 0 ∨ base = Reg.CPQ_CTRL 0 then seqE [flushHeld i, takeCues i]
  else if base = Reg.AMON_CTRL 0 then fun _ =>
    if getF v Fld.AMON_CTRL_EN = 0 then [.fld (Reg.AMON_VALUE i) Fld.AMON_VALUE_STATE 0] else []
  else if base = Reg.DDR_TRN_CTRL then trainGo v
  else fun _ => []

/-- A write under the access codes (R9 to R12): RWS fields are staged with the epoch of their thing (R62, R567), a sealed field that would
change is refused and the other fields take the write. -/
def plainWrite (u : Nat) (row : RegRow) (ix : List Nat) (a : Nat) (v : Word) : Eff := fun s =>
  let i := ix.headD 0
  if !mayWrite s u row ix then tenantFault s u stNOT_OWNER a else
  match valueCheck s row.base i a v with
  | some st => tenantFault s u st a
  | none =>
    let old := rd s a
    let w := raisedValue s row.base v
    let rws := codeMask row i .rws
    let k := thingOf row ix
    seqE [
      fun s => [.reg a (writtenWord s row i old w)]
        ++ (if rws = 0 then [] else
            [.ten u (fun q => { q with staged := stage q.staged ⟨a, rws, v &&& rws, k.1, k.2, epochOf s k.1 k.2⟩ })])
        ++ (if sealed s ∧ (old ^^^ v) &&& codeMask row i .rwl ≠ 0 then tenantFault s u stNOT_OWNER a else []),
      afterWrite row.base i old v] s

/-- An owner register other than a bank's: T0 reassigns the thing (R565, R566). -/
def ownerWrite (u a : Nat) (k : Nat × Nat) (v : Word) : Eff := t0Only u a (fun s =>
  if ownerCode (getF v Fld.TEN_OWN_TILE_OWNER) then reassign s k.1 k.2 (getF v Fld.TEN_OWN_TILE_OWNER) u else tenantFault s u stBAD_ARG a)

/-- A write of PNX_CMD by its OP (R543, R547). -/
def imageCommand (u : Nat) (v : Word) : Eff :=
  match getF v Fld.PNX_CMD_OP with
  | 1 => loadCmd u v
  | 2 => liveCmd u v
  | 3 => verifyCmd u v
  | _ => t0Only u Reg.PNX_CMD (fun s => if getF v Fld.PNX_CMD_GO = 1 then tenantFault s u stBAD_ARG Reg.PNX_CMD else [])

/-- A write of PNX_FL_CMD by its OP (R540). -/
def flashCommand (u : Nat) (v : Word) : Eff :=
  match getF v Fld.PNX_FL_CMD_OP with
  | 1 => flashCopyOut u v
  | 2 => flashProgram u v
  | 3 => flashErase 3 4096 u v
  | 4 => flashErase 4 65536 u v
  | _ => t0Only u Reg.PNX_FL_CMD (fun s => if getF v Fld.PNX_FL_CMD_GO = 1 then tenantFault s u stBAD_ARG Reg.PNX_FL_CMD else [])

/-- Registers of the SYS to CAL blocks whose write is a command of its own. -/
def actingWriteLow (u base i a : Nat) (v : Word) : Option Eff :=
  if base = Reg.SYS_MODE_REQ then some (modeReqWrite u v)
  else if base = Reg.SYS_RESTART then some (restartWrite u v true)
  else if base = Reg.CUR_COMMIT 0 then some (byWindow u i a (takeCommit i (getF v Fld.CUR_COMMIT_TAG) none))
  else if base = Reg.STP_FORCE then some (t0Only u a (forceAll v))
  else if base = Reg.STP_HELD_INV then some (t0Only u a (heldInv v))
  else if base = Reg.ENG_PDATA_LO 0 then some (pdataLoWrite u i v)
  else if base = Reg.ENG_PDATA_HI 0 then some (pdataHiWrite u i v)
  else if base = Reg.BS_UDATA_HI 0 then some (udataHiWrite u i v)
  else if base = Reg.DRV_LAMP_SET_A then some (lampSetA u v)
  else if base = Reg.DRV_LAMP_SET_B then some (lampSetB u v)
  else if base = Reg.CAL_RUN then some (calRun u v)
  else if base = Reg.CAL_TRIM then some (calTrim u v)
  else none

/-- Registers of the CMP to PNX blocks whose write is a command of its own. -/
def actingWriteMid (u base i a : Nat) (v : Word) : Option Eff :=
  if base = Reg.CMP_ROLE_REQ then some (seqE (roleReq u v))
  else if base = Reg.CMP_CENSUS then some (seqE (censusGo u v))
  else if base = Reg.XFER_CTRL then some (seqE (xferGo u v))
  else if base = Reg.BANK_OWNER 0 then some (bankOwnerWrite u i v)
  else if base = Reg.BANK_PWR 0 then some (seqE (bankPwrWrite u i v))
  else if base = Reg.CH_APPLY 0 then some (t0Only u a (chApply i v))
  else if base = Reg.PKR_HEAD 0 then some (pkrHeadWrite u i v)
  else if base = Reg.CAD_CMD then some (t0Only u a (cadCmd v))
  else if base = Reg.CAD_PROTECT then some (protectWrite u v)
  else if base = Reg.PNX_CMD then some (imageCommand u v)
  else if base = Reg.PNX_REVOKE then some (pnxRevoke u v)
  else if base = Reg.PNX_FL_CMD then some (flashCommand u v)
  else none

/-- Registers of the TEN block whose write is a command of its own. -/
def actingWriteTen (u base i a : Nat) (v : Word) : Option Eff :=
  if base = Reg.TEN_BIND_CTRL 0 then some (tenBindWrite u i false v)
  else if base = Reg.TEN_BIND_SRC_IP 0 then some (tenBindWrite u i true v)
  else if base = Reg.TEN_CENSUS then some (tenCensusWrite u v)
  else if base = Reg.TEN_RESET 0 then some (tenResetWrite u i v)
  else if base = Reg.TEN_DISCARD 0 then some (tenDiscardWrite u i v)
  else if base = Reg.CUQ_TAIL 0 then
    some (byWindow u i a (seqE [fun _ => [.fld a Fld.CUQ_TAIL_INDEX (getF v Fld.CUQ_TAIL_INDEX)], takeCues i]))
  else if base = Reg.CPQ_HEAD 0 then
    some (byWindow u i a (seqE [fun _ => [.fld a Fld.CPQ_HEAD_INDEX (getF v Fld.CPQ_HEAD_INDEX)], flushHeld i, takeCues i]))
  else if base = Reg.PBH_HEAD 0 then
    some (byWindow u i a (seqE [fun _ => [.fld a Fld.PBH_HEAD_INDEX (getF v Fld.PBH_HEAD_INDEX)], flushLost i]))
  else match ownThing a with
    | some k => some (ownerWrite u a k v)
    | none => none

/-- The registers whose write is a command of its own: the same effect as that command's. -/
def actingWrite (u base i a : Nat) (v : Word) : Option Eff :=
  match a / 0x100000 with
  | 15 => actingWriteTen u base i a v
  | 0 | 1 | 2 | 3 | 4 | 5 | 6 | 7 | 8 => actingWriteLow u base i a v
  | _ => actingWriteMid u base i a v

/-- A write through the SRAM bank window (R436, R437, R441). -/
def sramWindowWrite (u addr : Nat) (v : Word) : Eff := fun s =>
  match windowBad s u addr with
  | some xs => xs
  | none => seqE [bankArrive ((addr - 0x08000000) / 0x40000), fun s => bankWrite s (addr - 0x08000000) (leBytes 4 v.toNat)] s

/-- A write of control space by tenant `u` (R562, R563): the Caddy window refuses it (R507), the census window discards it (R591). -/
def writeReg (u addr : Nat) (v : Word) : Eff := fun s =>
  if 0x01000000 ≤ addr ∧ addr < 0x01400000 then tenantFault s u stBAD_ARG addr
  else if 0x02000000 ≤ addr ∧ addr < 0x03000000 then []
  else if 0x08000000 ≤ addr ∧ addr < 0x10000000 then sramWindowWrite u addr v s
  else match regRow? addr with
    | none => tenantFault s u stBAD_ARG addr
    | some (row, ix) =>
      match actingWrite u row.base (ix.headD 0) addr v with
      | some e => e s
      | none => plainWrite u row ix addr v s

/-- A write by a tenant; a register of a disabled unit discards it (R3). -/
def writeAt (u addr : Nat) (v : Word) : Eff := fun s => if absentAddr s addr then [] else writeReg u addr v s

/-- A BAR0 access in HOLD: it wakes Roura; the keeper serves reads of SYS, and refuses all else with BUSY (R604). -/
def keeperAccess (a : Acc) (addr : Nat) (write : Bool) : Eff := fun s =>
  if mode s ≠ mHOLD then [] else
  gate ⟨a.t, .pcie⟩ addr write (!write) (fun u => readReg u addr) s

/-! ## The management port (R560, R570, R594, R604) -/

/-- Is the port on, in a mode in which its frames are served? -/
def mgmtOn (s : State) : Bool :=
  rf s Reg.TEN_MGMT_IP Fld.TEN_MGMT_IP_IP != 0 && spineUp s && mode s != mHOLD

/-- Is a frame accepted: MAGIC, the binding and its source, LEN, and 1 to `most` items of `item` bytes? -/
def mgmtAccepts (s : State) (f : MgmtFrame) (item most : Nat) : Bool :=
  f.magicOk && bindMode s f.tenant == 1 && f.srcIp == rd s (Reg.TEN_BIND_SRC_IP f.tenant)
  && f.srcPort == rf s (Reg.TEN_BIND_CTRL f.tenant) Fld.TEN_BIND_CTRL_PORT
  && f.len == f.carried.length && decide (f.len ≤ 1024) && f.len % item == 0 && decide (0 < f.len ∧ f.len ≤ most * item)

/-- An answer goes out and is kept for a repeated request. -/
def mgmtAnswer (f : MgmtFrame) (typ : Nat) (items : List Nat) : Eff := fun _ =>
  let bs := mgmtFrame f.tenant typ f.seq (Config.mgmtBody typ items)
  [.ten f.tenant (fun q => { q with lastSeq := some f.seq, lastAnswer := bs }), .out (fun o => { o with frames := o.frames ++ [bs] })]

/-- A request frame: discarded and counted, answered again, or executed and answered. In HOLD it is a wake cause and nothing more. -/
def mgmtRequest (f : MgmtFrame) (item most : Nat) (run : Eff) : Eff := fun s =>
  if mode s = mHOLD then (if rf s Reg.TEN_MGMT_IP Fld.TEN_MGMT_IP_IP ≠ 0 then wakeFrom 4 s else [])
  else if !mgmtOn s then []
  else if !mgmtAccepts s f item most then [.inc Reg.TEN_MGMT_DROP Fld.TEN_MGMT_DROP_COUNT 1]
  else if (ten s f.tenant).lastSeq = some f.seq then
    [.out (fun o => { o with frames := o.frames ++ [(ten s f.tenant).lastAnswer] })]
  else run s

/-- The little-endian words of a body. -/
def bodyWords : List Byte → List Nat
  | a :: b :: c :: d :: r => leValue [a, b, c, d] :: bodyWords r
  | _ => []

/-- Registers read in order: the updates and the values. -/
def readAll (t : Nat) : List Nat → State → List Act × List Nat
  | [], _ => ([], [])
  | a :: r, s =>
    let x := gives 0 :: readAt t a s
    let s' := applyActs s x
    let q := readAll t r s'
    (x ++ q.1, s'.out.readData.toNat :: q.2)

/-- Registers written in order: the updates and each write's status. -/
def writeAll (t : Nat) : List Nat → State → List Act × List Nat
  | a :: v :: r, s =>
    let x := writeAt t a (BitVec.ofNat 32 v) s
    let q := writeAll t r (applyActs s x)
    (x ++ q.1, (refusedWith t x).getD stOK :: q.2)
  | _, _ => ([], [])

/-- The cues of a body, 64 bytes each. -/
def bodyCues : Nat → List Byte → List (List Byte)
  | 0, _ => []
  | n + 1, bs => bs.take 64 :: bodyCues n (bs.drop 64)

/-- The cues of a CUE frame enter the tenant's internal queue of 64; a frame that would overfill it is answered with BUSY (R570). -/
def mgmtCues (f : MgmtFrame) : Eff := fun s =>
  let n := f.len / 64
  if 64 < (ten s f.tenant).ready.length + n then mgmtAnswer f 2 [stBUSY] s
  else seqE ((bodyCues n f.carried).map (fun bs => fun s =>
      takeCue f.tenant (cueOf bs ((ten s f.tenant).serial % 64) (ten s f.tenant).serial) s)
    ++ [mgmtAnswer f 2 [stOK]]) s

/-! ## ARP and ICMP (R560; RFC 826, RFC 791, RFC 792) -/

/-- The most significant byte first. -/
def beBytes (k n : Nat) : List Byte := (leBytes k n).reverse

/-- An ARP reply to a request for TEN_MGMT_IP. -/
def arpReply (s : State) (sha spa : Nat) : List Byte :=
  beBytes 2 1 ++ beBytes 2 0x0800 ++ [6, 4] ++ beBytes 2 2 ++ beBytes 6 (Config.mgmtMac 0) ++ beBytes 4 (rf s Reg.TEN_MGMT_IP Fld.TEN_MGMT_IP_IP)
    ++ beBytes 6 sha ++ beBytes 4 spa

/-- The sum of a body's 16-bit words, most significant byte first. -/
def sum16 : List Byte → Nat
  | a :: b :: r => a.toNat * 256 + b.toNat + sum16 r
  | [a] => a.toNat * 256
  | [] => 0

/-- The one's-complement checksum. -/
def inetSum (bs : List Byte) : Nat :=
  let n := sum16 bs
  let m := n % 65536 + n / 65536
  65535 - (m % 65536 + m / 65536) % 65536

/-- An ICMP echo reply: type 0 with the request's identifier, sequence number and data. -/
def echoReply (id seq : Nat) (data : List Byte) : List Byte :=
  let rest := beBytes 2 id ++ beBytes 2 seq ++ data
  [0, 0] ++ beBytes 2 (inetSum ([0, 0, 0, 0] ++ rest)) ++ rest

/-! ## The commands: control space -/

/-- REGISTER_READ (R9, R563). -/
def execRegisterRead (a : Acc) (addr : Nat) (s : State) : Out := done s (gate a addr false true (fun u => readReg u addr) s)

/-- REGISTER_WRITE (R9, R563). -/
def execRegisterWrite (a : Acc) (addr : Nat) (v : Word) (s : State) : Out := done s (gate a addr true false (fun u => writeReg u addr v) s)

/-- L1_KEEPER_ACCESS (R604). -/
def execL1KeeperAccess (a : Acc) (addr : Nat) (write : Bool) (s : State) : Out := done s (keeperAccess a addr write s)

/-- CUR_COMMIT in the window of tenant `w` (R62). -/
def execCurCommit (a : Acc) (w : Fin 8) (v : Word) (s : State) : Out :=
  done s (gate a (Reg.CUR_COMMIT w) true false
    (fun u => byWindow u w (Reg.CUR_COMMIT w) (takeCommit w (getF v Fld.CUR_COMMIT_TAG) none)) s)

/-- CUR_TIME_SEC_HI_READ (R86). -/
def execCurTimeSecHiRead (a : Acc) (s : State) : Out := done s (gate a Reg.CUR_TIME_SEC_HI false true latchTime s)

/-- STP_FORCE (R199). -/
def execStpForce (a : Acc) (v : Word) (s : State) : Out :=
  done s (gate a Reg.STP_FORCE true false (fun u => t0Only u Reg.STP_FORCE (forceAll v)) s)

/-- STP_HELD_INV (R192). -/
def execStpHeldInv (a : Acc) (v : Word) (s : State) : Out :=
  done s (gate a Reg.STP_HELD_INV true false (fun u => t0Only u Reg.STP_HELD_INV (heldInv v)) s)

/-- SRC_FORCE: a write of SRC_CTRL (R108, R121). -/
def execSrcForce (a : Acc) (x : Fin 6) (v : Word) (s : State) : Out :=
  done s (gate a (Reg.SRC_CTRL x) true false (fun u => writeReg u (Reg.SRC_CTRL x) v) s)

/-- SPI_READ (R561). -/
def execSpiRead (addr : Nat) (s : State) : Out := done s (gate ⟨0, .spi⟩ addr false true (fun u => readReg u addr) s)

/-- SPI_WRITE (R561). -/
def execSpiWrite (addr : Nat) (v : Word) (s : State) : Out := done s (gate ⟨0, .spi⟩ addr true false (fun u => writeReg u addr v) s)

/-- MGMT_READ (R560). -/
def execMgmtRead (f : MgmtFrame) (s : State) : Out :=
  done s (mgmtRequest f 4 64 (fun s =>
    let q := readAll f.tenant (bodyWords f.carried) s
    q.1 ++ mgmtAnswer f 0 q.2 s) s)

/-- MGMT_WRITE (R560). -/
def execMgmtWrite (f : MgmtFrame) (s : State) : Out :=
  done s (mgmtRequest f 8 64 (fun s =>
    let q := writeAll f.tenant (bodyWords f.carried) s
    q.1 ++ mgmtAnswer f 1 q.2 s) s)

/-- MGMT_CUE (R560, R570). -/
def execMgmtCue (f : MgmtFrame) (s : State) : Out := done s (mgmtRequest f 64 16 (mgmtCues f) s)

/-- ARP_REQUEST for an address: from the sender's hardware and protocol address (R560). -/
def execArpRequest (sha : Nat) (spa tpa : BitVec 32) (s : State) : Out :=
  done s (if mgmtOn s && tpa == rd s Reg.TEN_MGMT_IP then [.out (fun o => { o with frames := o.frames ++ [arpReply s sha spa.toNat] })] else [])

/-- ICMP_ECHO_REQUEST to an address (R560). -/
def execIcmpEchoRequest (dst : BitVec 32) (id seq : Nat) (data : List Byte) (s : State) : Out :=
  done s (if mgmtOn s && dst == rd s Reg.TEN_MGMT_IP then [.out (fun o => { o with frames := o.frames ++ [echoReply id seq data] })] else [])

/-! ## The commands: references, pins, sources, PTP, previews -/

/-- REFERENCE_EVENT (R37). -/
def execReferenceEvent (src : Fin 6) (at_ : Nat) (phase : Int) (s : State) : Out := doneAll s (referenceEvent src at_ phase)
/-- REFERENCE_EVENT_MISSING (R650). -/
def execReferenceEventMissing (s : State) : Out := doneAll s referenceMissing
/-- CAMSYNC_FIRE (R52). -/
def execCamsyncFire (m : Fin 8) (j : Fin 8) (s : State) : Out := doneAll s (camsyncFire m j)
/-- CAMSYNC_END (R52). -/
def execCamsyncEnd (m : Fin 8) (s : State) : Out := done s (camsyncEnd m s)
/-- SYNC_OUT_FIRE (R54). -/
def execSyncOutFire (o : Fin 4) (j : Fin 8) (s : State) : Out := doneAll s (syncOutFire o j)
/-- SYNC_OUT_END (R54). -/
def execSyncOutEnd (o : Fin 4) (s : State) : Out := done s (syncOutEnd o s)
/-- SOURCE_ADOPTION (R102). -/
def execSourceAdoption (s : State) : Out := doneAll s sourceAdoption
/-- DPRX_LINK_TRAINED (R92). -/
def execDprxLinkTrained (x : Fin 4) (ok : Bool) (rate lanes : Nat) (fmt : FrameFmt) (pixelKHz period : Nat) (s : State) : Out :=
  doneAll s (dprxTrained x ok rate lanes fmt pixelKHz period)
/-- DPRX_LINK_LOST (R107). -/
def execDprxLinkLost (x : Fin 4) (s : State) : Out := doneAll s (dprxLost x)
/-- SOURCE_FRAME_ARRIVAL (R102). -/
def execSourceFrameArrival (x : Fin 6) (at_ : Nat) (fmt : FrameFmt) (plane0 plane1 : List (List Nat)) (s : State) : Out :=
  doneAll s (frameArrival x at_ fmt plane0 plane1)
/-- NET_PACKET (R94). -/
def execNetPacket (x : Fin 2) (at_ : Nat) (p : NetPacket) (s : State) : Out := doneAll s (netPacket (4 + x) at_ p)
/-- NET_FRAME_SKEW_TIMEOUT: of a network source, or of a frame received from the company (R95, R426). -/
def execNetFrameSkewTimeout (x : Fin 6) (received : Bool) (s : State) : Out :=
  doneAll s (if received then shareSkewTimeout x else if x.val < 4 then [] else netSkewTimeout x)
/-- NET_LINK_DOWN (R106). -/
def execNetLinkDown (p : Fin 2) (s : State) : Out := doneAll s (netLinkDown p)
/-- NET_LINK_UP (R93). -/
def execNetLinkUp (p : Fin 2) (s : State) : Out := doneAll s (netLinkUp p)
/-- PTP_MESSAGE (R96). -/
def execPtpMessage (p : Fin 2) (at_ : Nat) (m : PtpMsg) (s : State) : Out := doneAll s (ptpMessage p at_ m)
/-- PTP_ANNOUNCE_TIMEOUT (R96). -/
def execPtpAnnounceTimeout (p : Fin 2) (s : State) : Out := doneAll s (ptpTimeout p)
/-- PTP_DELAY_REQ (R96). -/
def execPtpDelayReq (p : Fin 2) (at_ seq : Nat) (s : State) : Out := doneAll s (ptpDelayReq p at_ seq)
/-- SOURCE_LOSS_TIMEOUT (R106). -/
def execSourceLossTimeout (x : Fin 6) (s : State) : Out := doneAll s (srcLossTimeout x)
/-- PREVIEW_LINK_TRAINED (R117). -/
def execPreviewLinkTrained (p : Fin 2) (lanes capacity : Nat) (s : State) : Out := doneAll s (previewTrained p lanes capacity)
/-- PREVIEW_HPD (R122). -/
def execPreviewHpd (p : Fin 2) (up : Bool) (s : State) : Out := done s (previewHpd p up s)
/-- PREVIEW_FRAME (R118). -/
def execPreviewFrame (p : Fin 2) (s : State) : Out := doneAll s (previewFrame p)

end Sys2Proof.Machine
end

