-- ==== Sys2Proof/Machine/Cues.lean ====
section
/-! DEFINITION. What a cue does when it starts, opcode by opcode, and the release of scheduled cues (15 R571, R574 to R576, R590;
02 R35; 07 R306, R307). -/

namespace Sys2Proof.Machine

/-- Bytes of a cue's ARGS as a number. -/
def cueArg (c : Cue) (o n : Nat) : Nat := leValue ((c.args.drop o).take n)

/-- Do KIND and OBJECT name an ownable thing (R565)? -/
def thingOk (kind obj : Nat) : Bool :=
  match kind with
  | 1 => decide (obj < 8)
  | 2 => decide (obj < 128)
  | 3 => decide (obj < 1024)
  | 4 => decide (obj < 512)
  | 5 => decide (obj < 16)
  | _ => false

/-- The opcodes of R576. -/
def opNOP : Nat := 0
def opWRITE : Nat := 1
def opREAD : Nat := 2
def opCOMMIT : Nat := 3
def opHANDOVER : Nat := 4
def opDRV_TXN : Nat := 5
def opSET_TIME : Nat := 6
def opCENSUS : Nat := 7
def opFENCE : Nat := 8
def opRESET : Nat := 9
def opMARK : Nat := 10
def opDISCARD : Nat := 11

/-- Does a cue compare EPOCH at its start (R574)? -/
def cueChecks (c : Cue) : Bool := c.flags / 2 % 2 == 1 || c.opcode == opHANDOVER || c.opcode == opDRV_TXN

/-- WRITE: registers in order; the first refusal's status, and a bit for each refused write (R576). -/
def writePairs (t : Nat) : Nat → List Nat → State → List Act × Nat × Nat
  | i, a :: v :: r, s =>
    let x := writeAt t a (BitVec.ofNat 32 v) s
    let y := inCue t x
    let q := writePairs t (i + 1) r (applyActs s y)
    match refusedWith t x with
    | some st => (y ++ q.1, st, 2 ^ i + q.2.2)
    | none => (y ++ q.1, q.2.1, q.2.2)
  | _, _, _ => ([], stOK, 0)

/-- A WRITE cue. -/
def cueWrite (t : Nat) (c : Cue) (fin : Nat → Nat → Eff) : Eff := fun s =>
  let n := cueArg c 0 1
  if n < 1 ∨ 5 < n then fin stBAD_ARG 0 s
  else
    let q := writePairs t 0 (bodyWords ((c.args.drop 8).take (8 * n))) s
    q.1 ++ fin q.2.1 q.2.2 (applyActs s q.1)

/-- A READ cue. -/
def cueRead (t : Nat) (c : Cue) (fin : Nat → Nat → Eff) : Eff := fun s =>
  let x := gives 0 :: readAt t (cueArg c 0 4) s
  let y := inCue t x
  let s' := applyActs s y
  y ++ fin ((refusedWith t x).getD stOK) s'.out.readData.toNat s'

/-- A HANDOVER cue (R439, R565, R566): RESULT is the new epoch. A disabled bank or cluster discards the write (R3). -/
def cueHandover (t : Nat) (c : Cue) (fin : Nat → Nat → Eff) : Eff := fun s =>
  let new := cueArg c 0 1
  let may := if c.kind = 4 then mayBank s t c.object else t == 0
  let code := if c.kind = 4 then bankAllows c.object new else ownerCode new
  if absentAddr s (ownReg c.kind c.object) then fin stOK 0 s
  else if !may then fin stNOT_OWNER 0 s
  else if !code then fin stBAD_ARG 0 s
  else seqE [fun s => reassign s c.kind c.object new t, fun s => fin stOK (epochOf s c.kind c.object) s] s

/-- A DRV_TXN cue: a transaction enters its port's queue of 8 and completes later (R306, R307). -/
def cueDrvTxn (t : Nat) (c : Cue) (r : CueRef) (fin : Nat → Nat → Eff) : Eff := fun s =>
  let p := cueArg c 0 2
  let read := cueArg c 4 1 == 1
  let n := cueArg c 5 1
  let addr := cueArg c 6 3
  if !hasPriv s t pvDRV_TXN then fin stNOT_OWNER 0 s
  else if c.kind ≠ 3 ∨ portTile (rd s) p ≠ some c.object ∨ 1 < cueArg c 4 1 ∨ n < 1 ∨ (if read then 2 else 4) < n ∨ addr < 0x100
  then fin stBAD_ARG 0 s
  else if 8 ≤ (port s p).txns.length then fin stBUSY 0 s
  else
    let pkt : Pkt := ⟨if read then pkREAD_REQ else pkREG_WRITE, cueArg c 2 1 % 16, cueArg c 3 1, addr,
      if read then readPayload 0 (newTag s p) n else (c.args.drop 9).take (4 * n)⟩
    seqE [fun _ => [.port p (fun q => { q with txns := q.txns ++ [⟨pkt, read, 0, .txn t c.object c.epoch r, 0, 0⟩] })], queuedReg p] s

/-- A SET_TIME cue of T0: the show clock is loaded, and no edge moves in real time (R35, R576, R651). -/
def cueSetTime (t : Nat) (c : Cue) (fin : Nat → Nat → Eff) : Eff := fun s =>
  let src := rf s Reg.CUR_SYNC Fld.CUR_SYNC_SRC
  let ns := cueArg c 6 4
  if t ≠ 0 then fin stNOT_OWNER 0 s
  else if src = 1 ∨ src = 4 ∨ 999999999 < ns then fin stBAD_ARG 0 s
  else if showing (mode s) then fin stBUSY 0 s
  else
    let d : Int := ((cueArg c 0 6 * 1000000000 + ns : Nat) : Int) - (now s : Nat)
    seqE [fun _ => [.cur (fun q => { stepClock d true q with frac := 0 })], fin stOK 0] s

/-- A MARK cue: a SYSTEM MARK record of the tenant's unit with CODE and the first 6 bytes of ARG (R576, R583). -/
def cueMark (t : Nat) (c : Cue) (fin : Nat → Nat → Eff) : Eff := fun s =>
  if !hasPriv s t pvMARK then fin stNOT_OWNER 0 s
  else logSystem s (0xB50 + t) 4 [t] (arg [(16, cueArg c 0 2), (48, cueArg c 2 6)]) ++ fin stOK 0 s

/-- A RESET cue: T0 resets another tenant (R576, R581). -/
def cueReset (t : Nat) (c : Cue) (fin : Nat → Nat → Eff) : Eff := fun s =>
  if t ≠ 0 then fin stNOT_OWNER 0 s
  else if c.object < 1 ∨ 7 < c.object then fin stBAD_ARG 0 s
  else seqE [tenantReset c.object, fin stOK 0] s

/-- The effect of a cue at its start, after the epoch check (R571, R576). -/
def cueAction (t : Nat) (c : Cue) (r : CueRef) (fin : Nat → Nat → Eff) : Eff :=
  match c.opcode with
  | 0 => fin stOK 0
  | 1 => cueWrite t c fin
  | 2 => cueRead t c fin
  | 3 => takeCommit t (cueArg c 0 2) (some r)
  | 4 => cueHandover t c fin
  | 5 => cueDrvTxn t c r fin
  | 6 => cueSetTime t c fin
  | 7 => fun s => if hasPriv s t pvCENSUS then askCensus t (some r) s else fin stNOT_OWNER 0 s
  | 8 => seqE [fun _ => [.ten t (fun q => { q with fences := q.fences ++ [r] })], fun s => settleFences t (ten s t).fences.length s, takeCues t]
  | 9 => cueReset t c fin
  | 10 => cueMark t c fin
  | 11 => seqE [discardStaged t, fin stOK 0]
  | _ => fin stBAD_ARG 0

/-- A cue starts: with EPOCH_CHECK its EPOCH is compared with the thing's (R574). -/
def startCue (t : Nat) (c : Cue) (late : Bool) : Eff := fun s =>
  let r := cueRefOf c late
  let fin := complete t r
  if cueChecks c ∧ !thingOk c.kind c.object then fin stBAD_ARG 0 s
  else if cueChecks c ∧ epochOf s c.kind c.object ≠ c.epoch then fin stSTALE_ROLE 0 s
  else cueAction t c r fin s

/-- The front cue of a tenant's queue starts where its opcode is `op`; a scheduled cue still there is LATE (R571, R575). -/
def startFront (t op : Nat) : Eff := fun s =>
  match (ten s t).ready with
  | [] => []
  | c :: _ =>
    if c.opcode ≠ op ∨ !spineUp s ∨ mode s = mHOLD then [] else
    seqE [fun _ => [.ten t (fun q => { q with ready := q.ready.drop 1 })], startCue t c (cueScheduled c)] s

/-- The cues whose release instant has come, in order. -/
def dueCues (s : State) : List SchedCue :=
  match byRelease s s.book.sched with
  | [] => []
  | q :: l => if releaseAt s q ≤ s.cur.next then (q :: l).filter (fun p => decide (releaseAt s p ≤ releaseAt s q)) else []

/-- At the next release instant of this curtain period its cues leave the scheduled store and start in the order they were taken
(R575). While supply-loss handling runs nothing is released (R612). -/
def releaseCues : Eff := fun s =>
  if !s.cur.running ∨ s.sys.supplyLoss then [] else
  match dueCues s with
  | [] => []
  | q :: l => seqE ([fun s => [.clockTo (releaseAt s q)]] ++ (q :: l).map (fun p => whenE (fun s => s.book.sched.contains p) [
      fun _ => [.book (fun b => { b with sched := b.sched.erase p })],
      schedCount p.tenant,
      startCue p.tenant p.cue false])) s

/-! ## The commands: the front cue of a tenant's queue starts -/

/-- CUE_NOP (R576). -/
def execCueNop (t : Fin 8) (s : State) : Out := done s (startFront t opNOP s)
/-- WRITE (R576). -/
def execWrite (t : Fin 8) (s : State) : Out := done s (startFront t opWRITE s)
/-- READ (R576). -/
def execRead (t : Fin 8) (s : State) : Out := done s (startFront t opREAD s)
/-- COMMIT (R62, R578). -/
def execCommit (t : Fin 8) (s : State) : Out := done s (startFront t opCOMMIT s)
/-- HANDOVER (R566). -/
def execHandover (t : Fin 8) (s : State) : Out := done s (startFront t opHANDOVER s)
/-- DRV_TXN (R306). -/
def execDrvTxn (t : Fin 8) (s : State) : Out := done s (startFront t opDRV_TXN s)
/-- SET_TIME (R35). -/
def execSetTime (t : Fin 8) (s : State) : Out := done s (startFront t opSET_TIME s)
/-- CENSUS (R590). -/
def execCensus (t : Fin 8) (s : State) : Out := done s (startFront t opCENSUS s)
/-- CUE_FENCE (R576). -/
def execCueFence (t : Fin 8) (s : State) : Out := done s (startFront t opFENCE s)
/-- RESET (R576). -/
def execReset (t : Fin 8) (s : State) : Out := done s (startFront t opRESET s)
/-- MARK (R576). -/
def execMark (t : Fin 8) (s : State) : Out := done s (startFront t opMARK s)
/-- DISCARD (R568). -/
def execDiscard (t : Fin 8) (s : State) : Out := done s (startFront t opDISCARD s)
/-- SCHEDULED_CUE_RELEASE (R575). -/
def execScheduledCueRelease (s : State) : Out := done s (releaseCues s)

end Sys2Proof.Machine
end

