-- ==== Sys2Proof/Machine/Edge.lean ====
section
/-! DEFINITION. The instants of a curtain period (02 R58): commit close with its checks, the rescue instant with underruns, rescue tickets
and background pages, the push deadline, the slots, and the curtain edge, where what the other chapters do at an edge comes together. -/

namespace Sys2Proof.Machine

/-- CUR_NUM `k` edges after the last one. -/
def numAhead (s : State) (k : Nat) : Nat := (rf s Reg.CUR_NUM Fld.CUR_NUM_NUM + k) % 2 ^ 32

/-! ## Commit close (R63 to R66, R567) -/

/-- Does a commit hold a field whose thing has changed its epoch since the field was staged (R64, R567)? -/
def staleCommit (s : State) (cm : Commit) : Bool := cm.fields.any (fun f => f.kind != 0 && epochOf s f.kind f.obj != f.epoch)

/-- Does a commit break a rule of a chapter, `r` being the state it would make? -/
def commitBreaks (s : State) (cm : Commit) (r : Rd) : Bool :=
  let l := cm.fields
  curBreaks l r || srcBreaks l r || blkBreaks l r || stpBreaks s l r || engBreaks s l r || prtBreaks s l r || drvBreaks s l r
  || calBreaks s l r || cmpBreaks s cm.who l r

/-- The fields of the commits that have passed and enter at the coming edge, or with `wide` also at the one after. -/
def passedFields (s : State) (wide : Bool) : List Staged :=
  (s.cur.commits.filter (fun c => c.enterAt == some (numAhead s 1) || (wide && c.enterAt == some (numAhead s 2)))).flatMap (·.fields)

/-- A commit fails at its close; one of LIVE ends or delays the application (R64, R551). -/
def commitFails (cm : Commit) (st : Nat) : Eff :=
  seqE [fun s => settleCommit cm st 0 (now s) s, fun s => if cm.who = 9 then liveFail st s else []]

/-- A commit has passed and enters `k` edges from the last one; CUR_COMMIT_CURTAIN reports the edge after it. -/
def commitPasses (cm : Commit) (k : Nat) : Eff := fun s =>
  [.cur (fun c => { c with commits := c.commits ++ [{ cm with enterAt := some (numAhead s k) }] })]
  ++ (if cm.who < 8 ∧ !cm.older then [.fld (Reg.CUR_COMMIT_CURTAIN cm.who) Fld.CUR_COMMIT_CURTAIN_NUM (numAhead s (k + 1))] else [])

/-- One closed commit is checked against the pipeline state with the commits before it laid over: the epochs first, then every rule, then
the edge a changed rate needs. A lead's company-wide fields enter one edge later (R64 to R66, R415). -/
def closeOne (cm : Commit) : Eff := fun s =>
  let wide := role s == rlLEAD && hasWide cm.fields
  let k := if wide then 1 else 0
  let before := overlay (rd s) (passedFields s wide)
  let r := overlay before cm.fields
  let rate := rrf r Reg.CUR_RATE Fld.CUR_RATE_RATE
  if staleCommit s cm then commitFails cm stSTALE_ROLE s
  else if cm.who != 8 && commitBreaks s cm r then commitFails cm stBAD_ARG s
  else if lock s ≠ lkFREE ∧ rate ≠ rrf before Reg.CUR_RATE Fld.CUR_RATE_RATE then
    match sharedEdge s r rate k with
    | some j => commitPasses cm (j + 1) s
    | none => commitFails cm stBAD_ARG s
  else commitPasses cm (k + 1) s

/-- House firmware checks the closed commits in the order in which they completed, LIVE's last (R65, R548). -/
def closeCommits : Eff := fun s =>
  let l := s.cur.commits.filter (fun c => c.enterAt.isNone)
  seqE ([fun _ => [.cur (fun c => { c with commits := c.commits.filter (fun x => x.enterAt.isSome) })]]
    ++ (l.filter (fun c => c.who != 9) ++ l.filter (fun c => c.who == 9)).map closeOne) s

/-- A lead announces the company-wide fields that enter at the edge after the coming one (R415). -/
def announceAll : Eff := fun s =>
  let r := overlay (rd s) (passedFields s true)
  seqE ((s.cur.commits.filter (fun c => c.enterAt == some (numAhead s 2) && hasWide c.fields)).map (fun cm => announceWide cm r)) s

/-- Commit close (R58, R358, R417 to R419). -/
def commitClose : List Eff :=
  whenE (fun s => s.cur.running && !s.cur.closed) [
    fun s => [.clockTo (instC s)], closeCommits, announceAll, writeLists, companyClose, latchAll evCLOSE,
    fun _ => [.cur (fun c => { c with closed := true })]]
  :: wakeAll

/-! ## Underruns (R68 to R70, R150, R245, R292) -/

/-- The layer of highest Z, of equal Z the one of highest number, of those the one of the highest slot (R150). -/
def topLayer (s : State) (l : List (Nat × Nat)) : Option (Nat × Nat) :=
  let key := fun (x : Nat × Nat) => (layer (rd s) x.1 x.2).z * 128 + x.2 * 8 + x.1
  l.foldl (fun b x => match b with
    | none => some x
    | some y => if key y < key x then some x else some y) none

/-- The source whose frame store the READ2D that an engine waits for reads, where it waits for one. -/
def awaitedSource (s : State) (e : Nat) : Option Nat :=
  match (eng s e).wait with
  | some (.su u _) =>
    match headDesc s e u with
    | some a =>
      let d := descWord s e a 2 + 2 ^ 32 * (descWord s e a 3 % 16)
      if descWord s e a 0 % 16 = 0 then
        (List.range 6).find? (fun x => decide (storeBase (rd s) x ≤ d ∧ d < storeBase (rd s) x + 3 * bufSize (rd s) x))
      else none
    | none => none
  | _ => none

/-- The layers of a region that show a source. -/
def layersOf (s : State) (t i x : Nat) : List (Nat × Nat) :=
  (List.range (slotCount (rd s))).flatMap (fun j => (List.range 16).filterMap (fun l =>
    if layerIncluded s j l && (layer (rd s) j l).src == x && (footprint s j l t i).isSome then some (j, l) else none))

/-- The faulting layer of a ticket that is not DONE at X, as (slot, layer) (R69). -/
def faultingLayer (s : State) (k : Ticket) : Option (Nat × Nat) :=
  let i := ticketIndex s k
  let streams := match k.engine with
    | some e => if k.state = .held then
        (match awaitedSource s e with | some x => layersOf s k.tile i x | none => [])
      else []
    | none => []
  topLayer s (if streams.isEmpty then damagedLayers s k.tile i else streams)

/-- Tickets become WITHDRAWN; an engine that held one sees WITHDRAW (R245, R246). -/
def withdraw (p : Ticket → Bool) : Eff := fun s =>
  [.stp (fun q => { q with tickets := q.tickets.map (fun k => if p k then { k with state := .withdrawn } else k) })]
  ++ s.stp.tickets.filterMap (fun k => if p k ∧ k.state = .held then k.engine.map (fun e => .eng e (fun g => g.latchEvt evWITHDRAW)) else none)

/-- A ticket that is not DONE. -/
def notDone (k : Ticket) : Bool := k.state != .done && k.state != .withdrawn

/-- The tenants told of an underrun: T0, the tile's owner and the owner of the faulting layer (R72). -/
def underrunTenants (s : State) (t : Nat) (fl : Option (Nat × Nat)) : List Nat :=
  (0 :: (([ownerOf s 3 t] ++ (match fl with | some x => [ownerOf s 2 (16 * x.1 + x.2)] | none => [])).filter
    (fun u => decide (0 < u ∧ u < 8)))).eraseDups

/-- UNDERRUN of one region: the event and record with tile, region, and where there is a faulting layer the layer and its policy; the
counts (R68, R69, R89). -/
def underrunEvent (g : Nat) (fl : Option (Nat × Nat)) : Eff := fun s =>
  match tileOf (rd s) g with
  | none => []
  | some (t, _) =>
    let ts := underrunTenants s t fl
    .cur (fun c => { c with underruns := c.underruns + 1 })
    :: ts.map (fun u => Act.inc (Reg.CUR_UNDERRUN_CNT u) Fld.CUR_UNDERRUN_CNT_COUNT 1)
    ++ eventNow s 1 3 ts 0 (arg ([(16, t), (16, g)] ++ (match fl with
        | some x => [(16, 16 * x.1 + x.2), (16, (layer (rd s) x.1 x.2).policy)]
        | none => [])))

/-- The later regions of a region's row in the direction in which the pixel order runs along u (R150). -/
def rowRest (s : State) (g : Nat) : List Nat :=
  match tileOf (rd s) g with
  | none => []
  | some (t, i) =>
    let n := max 1 (regX (rd s) t)
    (List.range n).filterMap (fun x =>
      if (if orderBit (rd s) t 0 then decide (x < i % n) else decide (i % n < x)) then some (g - i % n + x) else none)

/-- Is a region of the coming curtain complete: its ticket DONE with pages? -/
def regionComplete (s : State) (g : Nat) : Bool := s.stp.tickets.any (fun k => k.region == g && k.state == .done && k.status == 0)

/-- What of a region's own pages still waits in the ports is given up: its background pages follow. -/
def dropParts (g : Nat) : Eff := fun s =>
  s.ports.filterMap (fun q =>
    if q.2.parts.any (fun j => j.kind == 0 && j.region == g) || q.2.bufs.any (fun b => match b.ends with | some j => j.kind == 0 && j.region == g | none => false)
    then some (.port q.1 (fun x => { x with
      parts := x.parts.filter (fun j => !(j.kind == 0 && j.region == g))
      bufs := x.bufs.map (fun b => match b.ends with
        | some j => if j.kind = 0 ∧ j.region = g then { b with ends := none } else b
        | none => b) }))
    else none)

/-- A LAYER_OFF rescue: the region is ticketed again at the head of its queue, behind earlier rescues, without the faulting layer (R70). -/
def rescueTicket (g l : Nat) : Eff := fun s =>
  match tileOf (rd s) g with
  | none => []
  | some (t, _) =>
    if s.ddr.halted || s.sys.supplyLoss then [] else
    let k := newTicket s g t true (some l)
    [.stp (fun q => { q with
        tickets := q.tickets.takeWhile (fun x => x.rescue) ++ [k] ++ q.tickets.dropWhile (fun x => x.rescue)
        rescued := q.rescued + 1 })]
    ++ latchHome (ticketHome s k) evTICKET s

/-- Underrun regions, each with its faulting layer: recorded and counted, background pages for them and for the later regions of their
rows under BACKGROUND_TO_ROW_END that are not complete, and rescue tickets under LAYER_OFF (R68 to R70). -/
def underruns (l : List (Nat × Option (Nat × Nat))) : Eff := fun s =>
  let policy := fun (x : Nat × Nat) => (layer (rd s) x.1 x.2).policy
  let later := (l.flatMap (fun q => match q.2 with
    | some x => if policy x = 1 then rowRest s q.1 else []
    | none => [])).eraseDups
  let own := l.map (·.1)
  let back := own ++ later.filter (fun g => !own.contains g && !regionComplete s g)
  seqE (l.map (fun q => underrunEvent q.1 q.2)
    ++ back.map (fun g => seqE [dropParts g, copyBackground g])
    ++ l.map (fun q => match q.2 with
      | some x => if policy x = 0 ∧ !later.contains q.1 then rescueTicket q.1 x.2 else fun _ => []
      | none => fun _ => [])) s

/-- Every ticket that is not DONE at X is withdrawn and its region is an underrun (R68, R245). -/
def withdrawLate : Eff := fun s =>
  let l := (s.stp.tickets.filter notDone).map (fun k => (k.region, faultingLayer s k))
  seqE [withdraw notDone, underruns l] s

/-- BACKLOG_DROP of a port: regions that lose a part are underruns (R292). -/
def dropBacklog (p : Nat) : Eff := fun s =>
  let gs := ((backlog s p (port s p).copies.length).map (·.region)).eraseDups
  if gs.isEmpty then [] else
  seqE [
    fun s => .inc (Reg.PORT_BACKLOG_DROP (p / 64) (p % 64)) Fld.PORT_BACKLOG_DROP_COUNT gs.length :: portEvent s 2 p 0 0,
    fun s => underruns (gs.map (fun g => (g, match tileOf (rd s) g with
      | some (t, i) => topLayer s (damagedLayers s t i)
      | none => none))) s] s

/-- The rescue instant (R58, R68, R238, R245, R292 to R294). -/
def rescueInstant : List Eff :=
  whenE (fun s => s.cur.running && !s.cur.decided) [
    fun s => [.clockTo (instX s), .cur (fun c => { c with decided := true })],
    latchAll evRESCUE, reserveUnknown, withdrawLate,
    fun s => seqE ((s.ports.filter (fun q => !q.2.parts.isEmpty)).map (fun q => dropBacklog q.1)) s,
    rowMatches, queueRegs]
  :: wakeAll

/-! ## The push deadline (R58, R72, R238, R246, R544, R603, R611) -/

/-- POWER HOLD for every lit tile, where HOLD is due at the coming edge or the supply fails (R346, R603, R611). -/
def holdTiles : Eff := fun s =>
  if pendDue s = some mHOLD ∨ s.sys.supplyLoss then
    ((tilesOn (rd s)).filter (fun t => tileState s t == tpLIGHT_ON)).map (fun t => .tile t (fun q => { q with light := some 5 }))
  else []

/-- The push deadline: the interval begins. -/
def intervalStart : List Eff :=
  whenE (fun s => s.cur.running && !s.cur.interval) [
    fun s => [.clockTo (instD s), .cur (fun c => { c with interval := true })],
    fun s => eventNow s 1 0 allTenants 0 0,
    latchAll evDEADLINE, withdraw notDone, parkTiles,
    fun _ => [.pnx (fun p => { p with parked := p.staged.isSome })],
    holdTiles, driveInterval, queueRegs]
  :: wakeAll

/-! ## Slots (R45, R46) -/

/-- Slot `j` of the curtain that shows begins. -/
def slotBegins (j : Nat) : Eff := fun s =>
  if s.cur.running && decide (j < slotCount (rdLamp s)) then
    [.clockTo (s.cur.edge + slotStart (rdLamp s) s.cur.rate j), .cur (fun c => { c with slot := j })]
  else []

/-! ## The edge: the series, what shows, what is counted (R42, R44, R67, R72, R74, R200, R617) -/

/-- The edge of the series, with CUR_NUM; 0 at the first curtain after a cold start. -/
def edgeTurns : Eff := fun s =>
  [.cur (fun _ => { nextEdge s s.cur with slot := 0, closed := false, decided := false, interval := false }), .clockTo s.cur.next]
  ++ (if s.sys.coldCount then [.reg Reg.CUR_NUM 0, .sys (fun y => { y with coldCount := false })]
      else [.inc Reg.CUR_NUM Fld.CUR_NUM_NUM 1])

/-- TS_LOAD of a tile: the sums of its regions' latest loads (R200). -/
def tileLoads (s : State) (t : Nat) : List Act :=
  (List.range (slotCount (rd s))).map (fun j => Act.reg (Reg.TS_LOAD t j) (BitVec.ofNat 32
    (((List.range (regX (rd s) t * regY (rd s) t)).map (fun i => mapGet zeroNat s.stp.latestLoad (8 * (regionBase (rd s) t + i) + j))).foldl (· + ·) 0)))

/-- What the curtain's tickets are counted as, for the last completed curtain (R155, R205, R262). -/
def ticketCounts : Eff := fun s =>
  let ks := s.stp.tickets
  let count := fun (l : List Ticket) => ((l.map (·.region)).eraseDups).length
  let pages := (ks.map (fun k => ((pageSlots (rd s)).filter (fun j =>
    (regionPorts (rd s) k.tile (ticketIndex s k)).all (fun p => k.parts.contains (j, p)))).length)).foldl (· + ·) 0
  (List.range 4).flatMap (fun q =>
    let n := fun (st : TkState) => min 0xFFF ((quadTickets s q).filter (fun k => k.state == st)).length
    [.reg (Reg.Q_RETIRED q) (putF 0 Fld.Q_RETIRED_COUNT (n .done)), .reg (Reg.Q_WITHDRAWN q) (putF 0 Fld.Q_WITHDRAWN_COUNT (n .withdrawn)),
     .reg (Reg.Q_PEAK q) (putF 0 Fld.Q_PEAK_COUNT (min 0xFFF (mapGet zeroNat s.stp.peaks q)))])
  ++ [.reg Reg.BLK_TICKETS (putF (putF 0 Fld.BLK_TICKETS_RESCUE s.stp.rescued) Fld.BLK_TICKETS_ISSUED s.stp.issued),
      .reg Reg.STP_STATUS (putF (putF (rd s Reg.STP_STATUS) Fld.STP_STATUS_COEF_ERR (count (ks.filter (fun k => k.state == .done && k.status != 0))))
        Fld.STP_STATUS_STEEPED (count (ks.filter (fun k => k.state == .done && k.status == 0)))),
      .reg Reg.STP_PAGES (putF 0 Fld.STP_PAGES_PUSHED pages)]
  ++ ((ks.filter (fun k => k.state == .done)).map (·.tile)).eraseDups.flatMap (tileLoads s)

/-- CURTAIN_DONE with its record, and the counts of curtains delivered (R72, R74, R617). -/
def curtainDone : Eff := fun s =>
  let late := (s.cur.entered.filter (·.late)).length
  event 1 2 allTenants 0 (arg [(32, rf s Reg.CUR_NUM Fld.CUR_NUM_NUM), (14, s.cur.pushed), (14, s.cur.underruns), (4, min 15 late)]) s.cur.edge
  ++ (if showing (mode s) then
        .inc Reg.SYS_CURTAINS Fld.SYS_CURTAINS_COUNT 1
          :: (if 0 < s.cur.underruns then [.inc Reg.SYS_BAD_CURTAINS Fld.SYS_BAD_CURTAINS_COUNT 1] else [])
      else [])
  ++ [.cur (fun c => { c with pushed := 0, underruns := 0 })]

/-- The commits of the pipeline state reach the lamps and complete (R63, R67, R72, R578). -/
def commitsShow : Eff := fun s =>
  let es := s.cur.entered
  let num := rf s Reg.CUR_NUM Fld.CUR_NUM_NUM
  es.flatMap (fun cm => cm.fields.map (fun f => Act.lamp f.addr (rd s f.addr)))
  ++ seqE ([fun _ => [.cur (fun c => { c with entered := [] })]]
      ++ es.map (fun cm => settleCommit cm (if cm.late then stCOMMIT_LATE else stOK) num s.cur.edge)
      ++ es.map calShown) s

/-! ## The edge: commits enter (R63 to R66, R148, R201, R311, R322, R372, R651) -/

/-- A field enters the pipeline state; an owner goes through reassignment instead. -/
def fieldEnters (f : Staged) : Eff := fun s =>
  if (ownThing f.addr).isSome then [] else [.reg f.addr ((rd s f.addr &&& ~~~f.mask) ||| (f.val &&& f.mask))]

/-- One commit enters. An empty one completes at once; a degradation step marks the device degraded (R578, R599, R615). -/
def commitEnters (cm : Commit) : Eff := fun s =>
  if cm.fields.isEmpty then settleCommit cm stOK (rf s Reg.CUR_NUM Fld.CUR_NUM_NUM) s.cur.edge s else
  let l := cm.fields ++ installFields s cm.fields (rd s) (overlay (rd s) cm.fields)
  seqE (l.map fieldEnters ++ [liveOwners cm,
    fun _ => .cur (fun c => { c with entered := c.entered ++ [{ cm with fields := l }] })
      :: (if cm.who = 10 then [.sys (fun y => { y with degraded := true })] else [])]) s

/-- The series follows a changed rate at the next edge, and moved anchors under reference 1 (R66, R651). -/
def seriesFollows (old : Rd) (src : Nat) : Eff := fun s =>
  let rate := rf s Reg.CUR_RATE Fld.CUR_RATE_RATE
  (if rate ≠ rrf old Reg.CUR_RATE Fld.CUR_RATE_RATE then [.cur (fun c => { c with rateNext := some rate })] else [])
  ++ (if s.cur.refSrc = 1 ∧ (src ≠ 1 ∨ rd s Reg.CUR_PHASE ≠ old Reg.CUR_PHASE) then [.cur (fun c => { c with moveNext := true })] else [])

/-- Do commits change the curtain rate or the slot plan? -/
def timingChanged (l : List Staged) (old new : Rd) : Bool :=
  changes l old new Reg.CUR_RATE || changes l old new Reg.CUR_SLOT_PLAN || (List.range 8).any (fun j => changes l old new (Reg.CUR_SLOT j))

/-- A bank whose rate changes starts its lines anew; every bank's rates follow the timing (R289, R311). -/
def banksFollow (l : List Staged) (old : Rd) : Eff := fun s =>
  let new := rd s
  let moved := (List.range 16).filter (fun b => changes l old new (Reg.BS_CTRL b))
  seqE (moved.flatMap (fun b => [fun s => if bsState s b = bsRUN then stopBank b s ++ startBank b (applyActs s (stopBank b s)) else [], bankRates b])
    ++ (if timingChanged l old new then (banksOn new).map bankRates else [])) s

/-- Why the regions of the coming curtain are ticketed, and the curtain's tickets anew (R148, R192, R201, R202). -/
def edgeCauses (l : List Staged) (old : Rd) : Eff := fun s =>
  let new := rd s
  let q := s.stp.nextCauses
  let inc := inclusionRects s
  let tabs := tilesSteep l old new
  let all := steepAll l old new
  [.stp (fun p => { p with
      causes := ⟨q.all || s.stp.firstEdge || ticketsAll l old new || all, q.tiles ++ tilesMoved l old new ++ tabs,
        q.rects ++ layerRects l old new ++ inc.1, q.regions, q.background ++ tabs, q.allBackground || bgChanged l old new || all⟩
      nextCauses := ⟨false, [], [], [], [], false⟩
      included := inc.2, firstEdge := false, tickets := [], peaks := [], nextRegion := 0, issued := 0, rescued := 0, pushAll := false })]

/-- What follows from the commits that have entered. -/
def afterEntry (l : List Staged) (old : Rd) (src : Nat) : Eff := seqE [
  srcCommitted old,
  fun s => servoSelect s (servoRef s (role s)),
  seriesFollows old src,
  banksFollow l old,
  edgeCauses l old,
  fun s => if slotCount old ≠ slotCount (rd s) then slotsChanged s else []]

/-- Engines and banks at the edge; the capacity is evaluated where units went out, the structure changed, or the rate or slots did
(R209, R248 to R257, R449). -/
def unitEdges (l : List Staged) (old : Rd) : Eff := fun s =>
  let shape := fun (s : State) => (allEngines s).map (fun e => (inService s e, engHome s e))
  let was := shape s
  seqE [
    latchAll evEDGE,
    fun s => engineEdges old (rd s) l s,
    fun s =>
      let gone := banksToMapOut s
      seqE (bankEdge :: (((gone.filter (fun n => decide (n < 384) && decide (15 ≤ n % 24))).map (· / 24)).eraseDups).map clearHome) s,
    fun s => [.ddr (fun d => { d with halted := d.lost })],
    fun s => if shape s ≠ was ∨ timingChanged l old (rd s) then capacityCheck s else []] s

/-! ## The census (R428, R590, R591) -/

/-- Every counter of the device, by control address. -/
def counters (s : State) : SMap Word :=
  s.regs.filterMap (fun e => match regRow? e.1 with
    | some (row, _) => let v := e.2 &&& BitVec.ofNat 32 row.census; if v = 0 then none else some (e.1, v)
    | none => none)

/-- The census at an edge: local requests and a company census that falls here are one. -/
def takeCensus : Eff := fun s =>
  let l := s.book.census
  let co := companyCensus s
  seqE [
    fun s => if l.isEmpty ∧ co.isNone then [] else
      let gen := match co with | some g => g % 65536 | none => (rf s Reg.TEN_CENSUS_GEN Fld.TEN_CENSUS_GEN_GEN + 1) % 65536
      let ts := (l.map (·.tenant)).eraseDups
      [.book (fun b => { b with shadows := counters s }), .fld Reg.TEN_CENSUS_GEN Fld.TEN_CENSUS_GEN_GEN gen]
      ++ ts.flatMap (fun t => event 15 2 [t] (0xB50 + t) 0 s.cur.edge)
      ++ [.log ⟨s.cur.edge, 0xB40, 3, kSYSTEM, 0, false, 0, 1, tenMask (if ts.isEmpty then [0] else ts), 0⟩]
      ++ seqE (l.map (fun q => match q.cue with | some r => complete q.tenant r stOK gen | none => fun _ => [])) s
      ++ (if co.isSome then censusTaken gen s else []),
    fun _ => [.book (fun b => { b with census := b.censusNext, censusNext := [] })]] s

/-! ## The edge: modes (R543, R545, R602, R603, R611) -/

/-- HOLD, LOAD or PILOT is entered at this edge, or the mode follows. -/
def edgeModes : Eff := fun s =>
  if s.sys.supplyLoss then supplyEnds s
  else if s.pnx.staged.isSome ∧ s.pnx.parked then enterLoad s
  else if pendDue s = some mHOLD then enterHold s
  else modeEdge s

/-- Commits enter, and what an edge brings about of them and beside them. `budget`: the DRAM or packer budget does not hold (R615). -/
def edgeEnters (budget : Bool) : Eff := fun s =>
  let old := rd s
  let src := s.cur.refSrc
  let due := s.cur.commits.filter (fun c => c.enterAt == some (numAhead s 0))
  let es := due.filter (fun c => c.who != 9) ++ due.filter (fun c => c.who == 9)
  let l := es.flatMap (·.fields)
  seqE ([fun _ => [.cur (fun c => { c with commits := c.commits.filter (fun x => x.enterAt != some (numAhead s 0)) })]]
    ++ es.map commitEnters
    ++ [afterEntry l old src, unitEdges l old, pkrEdge,
        liveEdge (es.any (fun c => c.who == 9)),
        driveEdge,
        fun s => calEdge l old (rd s) s,
        companyEdge, takeCensus, degradeStep budget, snapshot (!es.isEmpty), restoreCues]) s

/-- ROW_MATCH is armed for the coming curtain where a tenant's EN is 1 (R89). -/
def armRows : Eff := fun s =>
  [.cur (fun c => { c with
      rowArmed := allTenants.foldl (fun m t => setBit m t (rf s (Reg.CUR_ROW_MATCH t) Fld.CUR_ROW_MATCH_EN == 1)) 0
      rowDone := 0 })]

/-- Curtain edge (R58). -/
def curtainEdge (budget : Bool) : List Eff :=
  whenE (fun s => s.cur.running) [
    edgeTurns, ticketCounts, curtainDone, commitsShow, edgeEnters budget, armRows, edgeModes, queueRegs]
  :: wakeAll

/-! ## The commands -/

/-- CURTAIN_EDGE (R58). -/
def execCurtainEdge (budget : Bool) (s : State) : Out := doneAll s (curtainEdge budget)
/-- SLOT_START (R46). -/
def execSlotStart (j : Fin 8) (s : State) : Out := done s (slotBegins j s)
/-- COMMIT_CLOSE (R63, R64). -/
def execCommitClose (s : State) : Out := doneAll s commitClose
/-- RESCUE_INSTANT (R68 to R70). -/
def execRescueInstant (s : State) : Out := doneAll s rescueInstant
/-- INTERVAL_START (R58). -/
def execIntervalStart (s : State) : Out := doneAll s intervalStart

/-- What the block does while no command waits: one clock of the fabric, while REFCLK and VDD_AO are there (R34, log entry 1). -/
def idle (s : State) : State := if s.sys.refclk && s.sys.vddAo then { s with cur := tick s.cur } else s

end Sys2Proof.Machine
end

