-- ==== Sys2Proof/Machine/Programs.lean ====
section
/-! DEFINITION. The meaning of each engine instruction as a command: the engine issues a bundle of the instruction and of the
other syllable `co` (R211, R218, R219), where it runs. -/

namespace Sys2Proof.Machine

/-- The syllables of a bundle: with LDI no vector operation issues (R211). -/
def decodeBundle (w : BitVec 64) : Syl × Syl :=
  let lo := w.toNat % 2 ^ 32
  let hi := w.toNat / 2 ^ 32
  (decodeS lo hi, if fOp lo = 0x18 then syl [] [] (fun _ _ _ => resNone) else decodeV hi)

/-- Does a bundle meet an illegal operation when engine `e` issues it (R215, R247)? -/
def isIllegalOp (s : State) (e : Nat) (w : BitVec 64) : Bool :=
  let b := decodeBundle w
  b.1.illegal || b.2.illegal || (b.1.run s e (eng s e)).fault == some (flILLEGAL_OP, 0)

/-- An engine meets a bundle that is an illegal operation (R247). -/
def meetIllegal (e : Nat) (w : BitVec 64) : List Eff :=
  (fun s => if engState s e = esRUN ∧ isIllegalOp s e w then programFault e flILLEGAL_OP 0 s else []) :: wakeAll

/-- NOP (R214). -/
def execNop (e : Fin 96) (co : Word) (s : State) : Out :=
  doneAll s (issue e (syl [] [] (fun _ _ _ => resNone)) (decodeV co.toNat))

/-- ADD (R214). -/
def execAdd (e : Fin 96) (sd sa sb : Fin 32) (co : Word) (s : State) : Out :=
  doneAll s (issue e (sAlu (· + ·) sd sa sb) (decodeV co.toNat))

/-- SUB (R214). -/
def execSub (e : Fin 96) (sd sa sb : Fin 32) (co : Word) (s : State) : Out :=
  doneAll s (issue e (sAlu (· - ·) sd sa sb) (decodeV co.toNat))

/-- AND (R214). -/
def execAnd (e : Fin 96) (sd sa sb : Fin 32) (co : Word) (s : State) : Out :=
  doneAll s (issue e (sAlu (· &&& ·) sd sa sb) (decodeV co.toNat))

/-- OR (R214). -/
def execOr (e : Fin 96) (sd sa sb : Fin 32) (co : Word) (s : State) : Out :=
  doneAll s (issue e (sAlu (· ||| ·) sd sa sb) (decodeV co.toNat))

/-- XOR (R214). -/
def execXor (e : Fin 96) (sd sa sb : Fin 32) (co : Word) (s : State) : Out :=
  doneAll s (issue e (sAlu (· ^^^ ·) sd sa sb) (decodeV co.toNat))

/-- SLL (R214). -/
def execSll (e : Fin 96) (sd sa sb : Fin 32) (co : Word) (s : State) : Out :=
  doneAll s (issue e (sAlu opSll sd sa sb) (decodeV co.toNat))

/-- SRL (R214). -/
def execSrl (e : Fin 96) (sd sa sb : Fin 32) (co : Word) (s : State) : Out :=
  doneAll s (issue e (sAlu opSrl sd sa sb) (decodeV co.toNat))

/-- SRA (R214). -/
def execSra (e : Fin 96) (sd sa sb : Fin 32) (co : Word) (s : State) : Out :=
  doneAll s (issue e (sAlu opSra sd sa sb) (decodeV co.toNat))

/-- SLT (R214). -/
def execSlt (e : Fin 96) (sd sa sb : Fin 32) (co : Word) (s : State) : Out :=
  doneAll s (issue e (sAlu opSlt sd sa sb) (decodeV co.toNat))

/-- SLTU (R214). -/
def execSltu (e : Fin 96) (sd sa sb : Fin 32) (co : Word) (s : State) : Out :=
  doneAll s (issue e (sAlu opSltu sd sa sb) (decodeV co.toNat))

/-- MUL (R214). -/
def execMul (e : Fin 96) (sd sa sb : Fin 32) (co : Word) (s : State) : Out :=
  doneAll s (issue e (sAlu (· * ·) sd sa sb) (decodeV co.toNat))

/-- MULH (R214). -/
def execMulh (e : Fin 96) (sd sa sb : Fin 32) (co : Word) (s : State) : Out :=
  doneAll s (issue e (sAlu opMulh sd sa sb) (decodeV co.toNat))

/-- MULHU (R214). -/
def execMulhu (e : Fin 96) (sd sa sb : Fin 32) (co : Word) (s : State) : Out :=
  doneAll s (issue e (sAlu opMulhu sd sa sb) (decodeV co.toNat))

/-- MIN (R214). -/
def execMin (e : Fin 96) (sd sa sb : Fin 32) (co : Word) (s : State) : Out :=
  doneAll s (issue e (sAlu opMin sd sa sb) (decodeV co.toNat))

/-- MAX (R214). -/
def execMax (e : Fin 96) (sd sa sb : Fin 32) (co : Word) (s : State) : Out :=
  doneAll s (issue e (sAlu opMax sd sa sb) (decodeV co.toNat))

/-- ADDI (R214). -/
def execAddi (e : Fin 96) (sd sa : Fin 32) (imm : BitVec 16) (co : Word) (s : State) : Out :=
  doneAll s (issue e (sImm (· + sext imm) sd sa) (decodeV co.toNat))

/-- ANDI (R214). -/
def execAndi (e : Fin 96) (sd sa : Fin 32) (imm : BitVec 16) (co : Word) (s : State) : Out :=
  doneAll s (issue e (sImm (· &&& zext imm) sd sa) (decodeV co.toNat))

/-- ORI (R214). -/
def execOri (e : Fin 96) (sd sa : Fin 32) (imm : BitVec 16) (co : Word) (s : State) : Out :=
  doneAll s (issue e (sImm (· ||| zext imm) sd sa) (decodeV co.toNat))

/-- XORI (R214). -/
def execXori (e : Fin 96) (sd sa : Fin 32) (imm : BitVec 16) (co : Word) (s : State) : Out :=
  doneAll s (issue e (sImm (· ^^^ zext imm) sd sa) (decodeV co.toNat))

/-- SLLI (R214). -/
def execSlli (e : Fin 96) (sd sa : Fin 32) (imm : BitVec 16) (co : Word) (s : State) : Out :=
  doneAll s (issue e (sImm (fun x => opSll x (zext imm)) sd sa) (decodeV co.toNat))

/-- SRLI (R214). -/
def execSrli (e : Fin 96) (sd sa : Fin 32) (imm : BitVec 16) (co : Word) (s : State) : Out :=
  doneAll s (issue e (sImm (fun x => opSrl x (zext imm)) sd sa) (decodeV co.toNat))

/-- SRAI (R214). -/
def execSrai (e : Fin 96) (sd sa : Fin 32) (imm : BitVec 16) (co : Word) (s : State) : Out :=
  doneAll s (issue e (sImm (fun x => opSra x (zext imm)) sd sa) (decodeV co.toNat))

/-- SLTI (R214). -/
def execSlti (e : Fin 96) (sd sa : Fin 32) (imm : BitVec 16) (co : Word) (s : State) : Out :=
  doneAll s (issue e (sImm (fun x => opSlt x (sext imm)) sd sa) (decodeV co.toNat))

/-- LDI (R214). -/
def execLdi (e : Fin 96) (sd : Fin 32) (imm : Word) (s : State) : Out :=
  doneAll s (issue e (sImm (fun _ => imm) sd 0) (syl [] [] (fun _ _ _ => resNone)))

/-- LUI (R214). -/
def execLui (e : Fin 96) (sd : Fin 32) (imm : BitVec 16) (co : Word) (s : State) : Out :=
  doneAll s (issue e (sImm (fun _ => zext imm <<< 16) sd 0) (decodeV co.toNat))

/-- LW (R214). -/
def execLw (e : Fin 96) (sd sa : Fin 32) (imm : BitVec 16) (co : Word) (s : State) : Out :=
  doneAll s (issue e (sLoad 4 sd sa imm) (decodeV co.toNat))

/-- LHU (R214). -/
def execLhu (e : Fin 96) (sd sa : Fin 32) (imm : BitVec 16) (co : Word) (s : State) : Out :=
  doneAll s (issue e (sLoad 2 sd sa imm) (decodeV co.toNat))

/-- LBU (R214). -/
def execLbu (e : Fin 96) (sd sa : Fin 32) (imm : BitVec 16) (co : Word) (s : State) : Out :=
  doneAll s (issue e (sLoad 1 sd sa imm) (decodeV co.toNat))

/-- SW (R214). -/
def execSw (e : Fin 96) (sd sa : Fin 32) (imm : BitVec 16) (co : Word) (s : State) : Out :=
  doneAll s (issue e (sStore 4 sd sa imm) (decodeV co.toNat))

/-- SH (R214). -/
def execSh (e : Fin 96) (sd sa : Fin 32) (imm : BitVec 16) (co : Word) (s : State) : Out :=
  doneAll s (issue e (sStore 2 sd sa imm) (decodeV co.toNat))

/-- SB (R214). -/
def execSb (e : Fin 96) (sd sa : Fin 32) (imm : BitVec 16) (co : Word) (s : State) : Out :=
  doneAll s (issue e (sStore 1 sd sa imm) (decodeV co.toNat))

/-- BEQ (R214). -/
def execBeq (e : Fin 96) (sa sb : Fin 32) (off : BitVec 16) (co : Word) (s : State) : Out :=
  doneAll s (issue e (sBranch 0 sa sb off) (decodeV co.toNat))

/-- BNE (R214). -/
def execBne (e : Fin 96) (sa sb : Fin 32) (off : BitVec 16) (co : Word) (s : State) : Out :=
  doneAll s (issue e (sBranch 1 sa sb off) (decodeV co.toNat))

/-- BLT (R214). -/
def execBlt (e : Fin 96) (sa sb : Fin 32) (off : BitVec 16) (co : Word) (s : State) : Out :=
  doneAll s (issue e (sBranch 2 sa sb off) (decodeV co.toNat))

/-- BGE (R214). -/
def execBge (e : Fin 96) (sa sb : Fin 32) (off : BitVec 16) (co : Word) (s : State) : Out :=
  doneAll s (issue e (sBranch 3 sa sb off) (decodeV co.toNat))

/-- BLTU (R214). -/
def execBltu (e : Fin 96) (sa sb : Fin 32) (off : BitVec 16) (co : Word) (s : State) : Out :=
  doneAll s (issue e (sBranch 4 sa sb off) (decodeV co.toNat))

/-- BGEU (R214). -/
def execBgeu (e : Fin 96) (sa sb : Fin 32) (off : BitVec 16) (co : Word) (s : State) : Out :=
  doneAll s (issue e (sBranch 5 sa sb off) (decodeV co.toNat))

/-- JAL (R214). -/
def execJal (e : Fin 96) (off : BitVec 26) (co : Word) (s : State) : Out :=
  doneAll s (issue e (sJal off) (decodeV co.toNat))

/-- JALR (R214). -/
def execJalr (e : Fin 96) (sd sa : Fin 32) (imm : BitVec 16) (co : Word) (s : State) : Out :=
  doneAll s (issue e (sJalr sd sa imm) (decodeV co.toNat))

/-- LOOP (R215). -/
def execLoop (e : Fin 96) (sa : Fin 32) (imm : BitVec 16) (co : Word) (s : State) : Out :=
  doneAll s (issue e (sLoop sa imm) (decodeV co.toNat))

/-- AMOADD (R446). -/
def execAmoadd (e : Fin 96) (sd sa sb : Fin 32) (co : Word) (s : State) : Out :=
  doneAll s (issue e (sAmo (· + ·) sd sa sb) (decodeV co.toNat))

/-- AMOSWP (R446). -/
def execAmoswp (e : Fin 96) (sd sa sb : Fin 32) (co : Word) (s : State) : Out :=
  doneAll s (issue e (sAmo (fun _ y => y) sd sa sb) (decodeV co.toNat))

/-- MFS (R210). -/
def execMfs (e : Fin 96) (sd : Fin 32) (imm : BitVec 16) (co : Word) (s : State) : Out :=
  doneAll s (issue e (sMfs sd imm) (decodeV co.toNat))

/-- MTS (R210). -/
def execMts (e : Fin 96) (sa : Fin 32) (imm : BitVec 16) (co : Word) (s : State) : Out :=
  doneAll s (issue e (sMts sa imm) (decodeV co.toNat))

/-- TKGET (R240). -/
def execTkget (e : Fin 96) (sd : Fin 32) (co : Word) (s : State) : Out :=
  doneAll s (issue e (sTkget sd) (decodeV co.toNat))

/-- TKDONE (R243). -/
def execTkdone (e : Fin 96) (sd sa sb : Fin 32) (co : Word) (s : State) : Out :=
  doneAll s (issue e (sTkdone sd sa sb) (decodeV co.toNat))

/-- SUGO (R228). -/
def execSugo (e : Fin 96) (sa : Fin 32) (imm : BitVec 16) (co : Word) (s : State) : Out :=
  doneAll s (issue e (sSugo sa imm) (decodeV co.toNat))

/-- SUWAIT (R214). -/
def execSuwait (e : Fin 96) (sd : Fin 32) (imm : BitVec 16) (co : Word) (s : State) : Out :=
  doneAll s (issue e (sSuwait sd imm) (decodeV co.toNat))

/-- BAR (R239). -/
def execBar (e : Fin 96) (sd : Fin 32) (imm : BitVec 16) (co : Word) (s : State) : Out :=
  doneAll s (issue e (sBar sd imm) (decodeV co.toNat))

/-- WAITEV (R238). -/
def execWaitev (e : Fin 96) (sd : Fin 32) (imm : BitVec 16) (co : Word) (s : State) : Out :=
  doneAll s (issue e (sWaitev sd imm) (decodeV co.toNat))

/-- FENCE (R214). -/
def execFence (e : Fin 96) (co : Word) (s : State) : Out :=
  doneAll s (issue e (sFence) (decodeV co.toNat))

/-- FAULT (R248). -/
def execFault (e : Fin 96) (imm : BitVec 16) (co : Word) (s : State) : Out :=
  doneAll s (issue e (sFault imm) (decodeV co.toNat))

/-- HALT (R214). -/
def execHalt (e : Fin 96) (co : Word) (s : State) : Out :=
  doneAll s (issue e (sHalt) (decodeV co.toNat))

/-- VNOP (R216). -/
def execVnop (e : Fin 96) (co : Word) (s : State) : Out :=
  doneAll s (issue e (decodeS co.toNat 0) (syl [] [] (fun _ _ _ => resNone)))

/-- VADD (R216). -/
def execVadd (e : Fin 96) (pg : Fin 8) (vd va vb : Fin 64) (md : Fin 32) (co : Word) (s : State) : Out :=
  doneAll s (issue e (decodeS co.toNat 0) (vAddSub false pg vd va vb md))

/-- VSUB (R216). -/
def execVsub (e : Fin 96) (pg : Fin 8) (vd va vb : Fin 64) (md : Fin 32) (co : Word) (s : State) : Out :=
  doneAll s (issue e (decodeS co.toNat 0) (vAddSub true pg vd va vb md))

/-- VAND (R216). -/
def execVand (e : Fin 96) (pg : Fin 8) (vd va vb : Fin 64) (co : Word) (s : State) : Out :=
  doneAll s (issue e (decodeS co.toNat 0) (vAlu (· &&& ·) pg vd va vb))

/-- VOR (R216). -/
def execVor (e : Fin 96) (pg : Fin 8) (vd va vb : Fin 64) (co : Word) (s : State) : Out :=
  doneAll s (issue e (decodeS co.toNat 0) (vAlu (· ||| ·) pg vd va vb))

/-- VXOR (R216). -/
def execVxor (e : Fin 96) (pg : Fin 8) (vd va vb : Fin 64) (co : Word) (s : State) : Out :=
  doneAll s (issue e (decodeS co.toNat 0) (vAlu (· ^^^ ·) pg vd va vb))

/-- VSLL (R216). -/
def execVsll (e : Fin 96) (pg : Fin 8) (vd va vb : Fin 64) (co : Word) (s : State) : Out :=
  doneAll s (issue e (decodeS co.toNat 0) (vAlu opSll pg vd va vb))

/-- VSRL (R216). -/
def execVsrl (e : Fin 96) (pg : Fin 8) (vd va vb : Fin 64) (co : Word) (s : State) : Out :=
  doneAll s (issue e (decodeS co.toNat 0) (vAlu opSrl pg vd va vb))

/-- VSRA (R216). -/
def execVsra (e : Fin 96) (pg : Fin 8) (vd va vb : Fin 64) (co : Word) (s : State) : Out :=
  doneAll s (issue e (decodeS co.toNat 0) (vAlu opSra pg vd va vb))

/-- VMIN (R216). -/
def execVmin (e : Fin 96) (pg : Fin 8) (vd va vb : Fin 64) (md : Fin 32) (co : Word) (s : State) : Out :=
  doneAll s (issue e (decodeS co.toNat 0) (vMinMax false pg vd va vb md))

/-- VMAX (R216). -/
def execVmax (e : Fin 96) (pg : Fin 8) (vd va vb : Fin 64) (md : Fin 32) (co : Word) (s : State) : Out :=
  doneAll s (issue e (decodeS co.toNat 0) (vMinMax true pg vd va vb md))

/-- VMUL (R216). -/
def execVmul (e : Fin 96) (pg : Fin 8) (vd va vb : Fin 64) (co : Word) (s : State) : Out :=
  doneAll s (issue e (decodeS co.toNat 0) (vAlu (· * ·) pg vd va vb))

/-- VMULH (R216). -/
def execVmulh (e : Fin 96) (pg : Fin 8) (vd va vb : Fin 64) (md : Fin 32) (co : Word) (s : State) : Out :=
  doneAll s (issue e (decodeS co.toNat 0) (vMulh pg vd va vb md))

/-- VMAC (R216). -/
def execVmac (e : Fin 96) (pg : Fin 8) (vd va vb : Fin 64) (md : Fin 32) (co : Word) (s : State) : Out :=
  doneAll s (issue e (decodeS co.toNat 0) (vMac pg vd va vb md))

/-- VMUL64 (R216). -/
def execVmul64 (e : Fin 96) (pg : Fin 8) (vd va vb : Fin 64) (md : Fin 32) (co : Word) (s : State) : Out :=
  doneAll s (issue e (decodeS co.toNat 0) (vMul64 pg vd va vb md))

/-- VNARROW (R217). -/
def execVnarrow (e : Fin 96) (pg : Fin 8) (vd va vb : Fin 64) (md : Fin 32) (co : Word) (s : State) : Out :=
  doneAll s (issue e (decodeS co.toNat 0) (vNarrow pg vd va vb md))

/-- VDIV (R217). -/
def execVdiv (e : Fin 96) (pg : Fin 8) (vd va vb : Fin 64) (md : Fin 32) (co : Word) (s : State) : Out :=
  doneAll s (issue e (decodeS co.toNat 0) (vDiv pg vd va vb md))

/-- VADDI (R216). -/
def execVaddi (e : Fin 96) (pg : Fin 8) (vd va : Fin 64) (imm : BitVec 11) (co : Word) (s : State) : Out :=
  doneAll s (issue e (decodeS co.toNat 0) (vUn (· + sext imm) pg vd va))

/-- VANDI (R216). -/
def execVandi (e : Fin 96) (pg : Fin 8) (vd va : Fin 64) (imm : BitVec 11) (co : Word) (s : State) : Out :=
  doneAll s (issue e (decodeS co.toNat 0) (vUn (· &&& sext imm) pg vd va))

/-- VSLLI (R216). -/
def execVslli (e : Fin 96) (pg : Fin 8) (vd va : Fin 64) (imm : BitVec 11) (co : Word) (s : State) : Out :=
  doneAll s (issue e (decodeS co.toNat 0) (vUn (fun x => opSll x (zext imm)) pg vd va))

/-- VSRLI (R216). -/
def execVsrli (e : Fin 96) (pg : Fin 8) (vd va : Fin 64) (imm : BitVec 11) (co : Word) (s : State) : Out :=
  doneAll s (issue e (decodeS co.toNat 0) (vUn (fun x => opSrl x (zext imm)) pg vd va))

/-- VSRAI (R216). -/
def execVsrai (e : Fin 96) (pg : Fin 8) (vd va : Fin 64) (imm : BitVec 11) (co : Word) (s : State) : Out :=
  doneAll s (issue e (decodeS co.toNat 0) (vUn (fun x => opSra x (zext imm)) pg vd va))

/-- VCLAMP (R216). -/
def execVclamp (e : Fin 96) (pg : Fin 8) (vd va : Fin 64) (md : Fin 32) (co : Word) (s : State) : Out :=
  doneAll s (issue e (decodeS co.toNat 0) (vClamp pg vd va md))

/-- VMOV (R216). -/
def execVmov (e : Fin 96) (pg : Fin 8) (vd va : Fin 64) (co : Word) (s : State) : Out :=
  doneAll s (issue e (decodeS co.toNat 0) (vUn id pg vd va))

/-- VBCAST (R216). -/
def execVbcast (e : Fin 96) (pg : Fin 8) (vd : Fin 64) (md : Fin 32) (co : Word) (s : State) : Out :=
  doneAll s (issue e (decodeS co.toNat 0) (vBcast pg vd md))

/-- VLANEID (R216). -/
def execVlaneid (e : Fin 96) (pg : Fin 8) (vd : Fin 64) (co : Word) (s : State) : Out :=
  doneAll s (issue e (decodeS co.toNat 0) (vLaneid pg vd))

/-- VSLIDE (R216). -/
def execVslide (e : Fin 96) (pg : Fin 8) (vd va vb : Fin 64) (md : Fin 32) (co : Word) (s : State) : Out :=
  doneAll s (issue e (decodeS co.toNat 0) (vSlide pg vd va vb md))

/-- VPERM (R216). -/
def execVperm (e : Fin 96) (pg : Fin 8) (vd va vb : Fin 64) (co : Word) (s : State) : Out :=
  doneAll s (issue e (decodeS co.toNat 0) (vPerm pg vd va vb))

/-- VCMP (R216). -/
def execVcmp (e : Fin 96) (pg pd : Fin 8) (va vb : Fin 64) (md : Fin 32) (co : Word) (s : State) : Out :=
  doneAll s (issue e (decodeS co.toNat 0) (vCmp pg pd va [vb] (md.val % 8) (fun g i => g.lane vb i)))

/-- VCMPI (R216). -/
def execVcmpi (e : Fin 96) (pg pd : Fin 8) (va : Fin 64) (cond : Fin 8) (imm : BitVec 8) (co : Word) (s : State) : Out :=
  doneAll s (issue e (decodeS co.toNat 0) (vCmp pg pd va [] cond (fun _ _ => sext imm)))

/-- VPOP (R216). -/
def execVpop (e : Fin 96) (pg pd : Fin 8) (va vb : Fin 64) (md : Fin 32) (co : Word) (s : State) : Out :=
  doneAll s (issue e (decodeS co.toNat 0) (vPop pg pd va vb md))

/-- VPMOVS (R216). -/
def execVpmovs (e : Fin 96) (pg : Fin 8) (va : Fin 64) (md : Fin 32) (co : Word) (s : State) : Out :=
  doneAll s (issue e (decodeS co.toNat 0) (vPmovs pg va md))

/-- VSPMOV (R216). -/
def execVspmov (e : Fin 96) (pg : Fin 8) (vd : Fin 64) (md : Fin 32) (co : Word) (s : State) : Out :=
  doneAll s (issue e (decodeS co.toNat 0) (vSpmov pg vd md))

/-- VEXT (R216). -/
def execVext (e : Fin 96) (pg : Fin 8) (va vb : Fin 64) (md : Fin 32) (co : Word) (s : State) : Out :=
  doneAll s (issue e (decodeS co.toNat 0) (vExt pg va vb md))

/-- VREDACC (R216). -/
def execVredacc (e : Fin 96) (pg : Fin 8) (va : Fin 64) (md : Fin 32) (co : Word) (s : State) : Out :=
  doneAll s (issue e (decodeS co.toNat 0) (vRedacc pg va md))

/-- VLDW (R216). -/
def execVldw (e : Fin 96) (pg : Fin 8) (vd : Fin 64) (sa : Fin 32) (off : BitVec 12) (co : Word) (s : State) : Out :=
  doneAll s (issue e (decodeS co.toNat 0) (vLoad 4 false pg vd sa off))

/-- VLDH (R216). -/
def execVldh (e : Fin 96) (pg : Fin 8) (vd : Fin 64) (sa : Fin 32) (off : BitVec 12) (co : Word) (s : State) : Out :=
  doneAll s (issue e (decodeS co.toNat 0) (vLoad 2 false pg vd sa off))

/-- VLDHS (R216). -/
def execVldhs (e : Fin 96) (pg : Fin 8) (vd : Fin 64) (sa : Fin 32) (off : BitVec 12) (co : Word) (s : State) : Out :=
  doneAll s (issue e (decodeS co.toNat 0) (vLoad 2 true pg vd sa off))

/-- VLDB (R216). -/
def execVldb (e : Fin 96) (pg : Fin 8) (vd : Fin 64) (sa : Fin 32) (off : BitVec 12) (co : Word) (s : State) : Out :=
  doneAll s (issue e (decodeS co.toNat 0) (vLoad 1 false pg vd sa off))

/-- VSTW (R216). -/
def execVstw (e : Fin 96) (pg : Fin 8) (vd : Fin 64) (sa : Fin 32) (off : BitVec 12) (co : Word) (s : State) : Out :=
  doneAll s (issue e (decodeS co.toNat 0) (vStore 4 pg vd sa off))

/-- VSTH (R216). -/
def execVsth (e : Fin 96) (pg : Fin 8) (vd : Fin 64) (sa : Fin 32) (off : BitVec 12) (co : Word) (s : State) : Out :=
  doneAll s (issue e (decodeS co.toNat 0) (vStore 2 pg vd sa off))

/-- VSTB (R216). -/
def execVstb (e : Fin 96) (pg : Fin 8) (vd : Fin 64) (sa : Fin 32) (off : BitVec 12) (co : Word) (s : State) : Out :=
  doneAll s (issue e (decodeS co.toNat 0) (vStore 1 pg vd sa off))

/-- VGATHER (R216). -/
def execVgather (e : Fin 96) (pg : Fin 8) (vd va : Fin 64) (sa : Fin 32) (size : Fin 4) (co : Word) (s : State) : Out :=
  doneAll s (issue e (decodeS co.toNat 0) (vGather pg vd va sa size))

/-- VSCATTER (R216). -/
def execVscatter (e : Fin 96) (pg : Fin 8) (vd va : Fin 64) (sa : Fin 32) (size : Fin 4) (co : Word) (s : State) : Out :=
  doneAll s (issue e (decodeS co.toNat 0) (vScatter pg vd va sa size))

/-- VSTC (R216). -/
def execVstc (e : Fin 96) (pg : Fin 8) (vd : Fin 64) (sa : Fin 32) (size : Fin 4) (co : Word) (s : State) : Out :=
  doneAll s (issue e (decodeS co.toNat 0) (vStc pg vd sa size))

/-- VCRC (R216). -/
def execVcrc (e : Fin 96) (pg : Fin 8) (va vb : Fin 64) (md : Fin 32) (co : Word) (s : State) : Out :=
  doneAll s (issue e (decodeS co.toNat 0) (vCrc pg va vb md))

/-- SMP (R234). -/
def execSmp (e : Fin 96) (pg : Fin 8) (vd va vb : Fin 64) (md : Fin 32) (co : Word) (s : State) : Out :=
  doneAll s (issue e (decodeS co.toNat 0) (vSmp pg vd va vb md))

/-- LUTL (R235). -/
def execLutl (e : Fin 96) (pg : Fin 8) (vd va : Fin 64) (md : Fin 32) (co : Word) (s : State) : Out :=
  doneAll s (issue e (decodeS co.toNat 0) (vLutl pg vd va md))

/-- ILLEGAL_OP (R247). -/
def execIllegalOp (e : Fin 96) (w : BitVec 64) (s : State) : Out :=
  doneAll s (meetIllegal e w)

end Sys2Proof.Machine
end

