-- ==== Sys2Proof/Machine/Dispatch.lean ====
section
/-! DEFINITION. One arm per command: the command's meaning, or its refusal by name. -/

namespace Sys2Proof.Machine

def exec (i : Instr) (s : State) : Host.Outcome State Fault Refusal :=
  match i with
  | .registerWrite a addr v => Sys2Proof.Machine.execRegisterWrite a addr v s
  | .curCommit a w v => Sys2Proof.Machine.execCurCommit a w v s
  | .curTimeSecHiRead a => Sys2Proof.Machine.execCurTimeSecHiRead a s
  | .referenceEvent src at_ phase => Sys2Proof.Machine.execReferenceEvent src at_ phase s
  | .referenceEventMissing => Sys2Proof.Machine.execReferenceEventMissing s
  | .curtainEdge budget => Sys2Proof.Machine.execCurtainEdge budget s
  | .slotStart j => Sys2Proof.Machine.execSlotStart j s
  | .markEmit b j => Sys2Proof.Machine.execMarkEmit b j s
  | .commitClose => Sys2Proof.Machine.execCommitClose s
  | .rescueInstant => Sys2Proof.Machine.execRescueInstant s
  | .intervalStart => Sys2Proof.Machine.execIntervalStart s
  | .camsyncFire m j => Sys2Proof.Machine.execCamsyncFire m j s
  | .camsyncEnd m => Sys2Proof.Machine.execCamsyncEnd m s
  | .syncOutFire o j => Sys2Proof.Machine.execSyncOutFire o j s
  | .syncOutEnd o => Sys2Proof.Machine.execSyncOutEnd o s
  | .sourceAdoption => Sys2Proof.Machine.execSourceAdoption s
  | .dprxLinkTrained x ok rate lanes fmt pixelKHz period => Sys2Proof.Machine.execDprxLinkTrained x ok rate lanes fmt pixelKHz period s
  | .dprxLinkLost x => Sys2Proof.Machine.execDprxLinkLost x s
  | .sourceFrameArrival x at_ fmt plane0 plane1 => Sys2Proof.Machine.execSourceFrameArrival x at_ fmt plane0 plane1 s
  | .netPacket x at_ p => Sys2Proof.Machine.execNetPacket x at_ p s
  | .netFrameSkewTimeout x received => Sys2Proof.Machine.execNetFrameSkewTimeout x received s
  | .ptpMessage p at_ m => Sys2Proof.Machine.execPtpMessage p at_ m s
  | .ptpAnnounceTimeout p => Sys2Proof.Machine.execPtpAnnounceTimeout p s
  | .sourceLossTimeout x => Sys2Proof.Machine.execSourceLossTimeout x s
  | .srcForce a x v => Sys2Proof.Machine.execSrcForce a x v s
  | .sourceWakeActivity x => Sys2Proof.Machine.execSourceWakeActivity x s
  | .previewLinkTrained p lanes capacity => Sys2Proof.Machine.execPreviewLinkTrained p lanes capacity s
  | .previewFrame p => Sys2Proof.Machine.execPreviewFrame p s
  | .footprintRegionDecided g => Sys2Proof.Machine.execFootprintRegionDecided g s
  | .stpForce a v => Sys2Proof.Machine.execStpForce a v s
  | .stpHeldInv a v => Sys2Proof.Machine.execStpHeldInv a v s
  | .nop e co => Sys2Proof.Machine.execNop e co s
  | .add e sd sa sb co => Sys2Proof.Machine.execAdd e sd sa sb co s
  | .sub e sd sa sb co => Sys2Proof.Machine.execSub e sd sa sb co s
  | .and e sd sa sb co => Sys2Proof.Machine.execAnd e sd sa sb co s
  | .or e sd sa sb co => Sys2Proof.Machine.execOr e sd sa sb co s
  | .xor e sd sa sb co => Sys2Proof.Machine.execXor e sd sa sb co s
  | .sll e sd sa sb co => Sys2Proof.Machine.execSll e sd sa sb co s
  | .srl e sd sa sb co => Sys2Proof.Machine.execSrl e sd sa sb co s
  | .sra e sd sa sb co => Sys2Proof.Machine.execSra e sd sa sb co s
  | .slt e sd sa sb co => Sys2Proof.Machine.execSlt e sd sa sb co s
  | .sltu e sd sa sb co => Sys2Proof.Machine.execSltu e sd sa sb co s
  | .mul e sd sa sb co => Sys2Proof.Machine.execMul e sd sa sb co s
  | .mulh e sd sa sb co => Sys2Proof.Machine.execMulh e sd sa sb co s
  | .mulhu e sd sa sb co => Sys2Proof.Machine.execMulhu e sd sa sb co s
  | .min e sd sa sb co => Sys2Proof.Machine.execMin e sd sa sb co s
  | .max e sd sa sb co => Sys2Proof.Machine.execMax e sd sa sb co s
  | .addi e sd sa imm co => Sys2Proof.Machine.execAddi e sd sa imm co s
  | .andi e sd sa imm co => Sys2Proof.Machine.execAndi e sd sa imm co s
  | .ori e sd sa imm co => Sys2Proof.Machine.execOri e sd sa imm co s
  | .xori e sd sa imm co => Sys2Proof.Machine.execXori e sd sa imm co s
  | .slli e sd sa imm co => Sys2Proof.Machine.execSlli e sd sa imm co s
  | .srli e sd sa imm co => Sys2Proof.Machine.execSrli e sd sa imm co s
  | .srai e sd sa imm co => Sys2Proof.Machine.execSrai e sd sa imm co s
  | .slti e sd sa imm co => Sys2Proof.Machine.execSlti e sd sa imm co s
  | .ldi e sd imm => Sys2Proof.Machine.execLdi e sd imm s
  | .lui e sd imm co => Sys2Proof.Machine.execLui e sd imm co s
  | .lw e sd sa imm co => Sys2Proof.Machine.execLw e sd sa imm co s
  | .lhu e sd sa imm co => Sys2Proof.Machine.execLhu e sd sa imm co s
  | .lbu e sd sa imm co => Sys2Proof.Machine.execLbu e sd sa imm co s
  | .sw e sd sa imm co => Sys2Proof.Machine.execSw e sd sa imm co s
  | .sh e sd sa imm co => Sys2Proof.Machine.execSh e sd sa imm co s
  | .sb e sd sa imm co => Sys2Proof.Machine.execSb e sd sa imm co s
  | .beq e sa sb off co => Sys2Proof.Machine.execBeq e sa sb off co s
  | .bne e sa sb off co => Sys2Proof.Machine.execBne e sa sb off co s
  | .blt e sa sb off co => Sys2Proof.Machine.execBlt e sa sb off co s
  | .bge e sa sb off co => Sys2Proof.Machine.execBge e sa sb off co s
  | .bltu e sa sb off co => Sys2Proof.Machine.execBltu e sa sb off co s
  | .bgeu e sa sb off co => Sys2Proof.Machine.execBgeu e sa sb off co s
  | .jal e off co => Sys2Proof.Machine.execJal e off co s
  | .jalr e sd sa imm co => Sys2Proof.Machine.execJalr e sd sa imm co s
  | .loop e sa imm co => Sys2Proof.Machine.execLoop e sa imm co s
  | .amoadd e sd sa sb co => Sys2Proof.Machine.execAmoadd e sd sa sb co s
  | .amoswp e sd sa sb co => Sys2Proof.Machine.execAmoswp e sd sa sb co s
  | .mfs e sd imm co => Sys2Proof.Machine.execMfs e sd imm co s
  | .mts e sa imm co => Sys2Proof.Machine.execMts e sa imm co s
  | .tkget e sd co => Sys2Proof.Machine.execTkget e sd co s
  | .tkdone e sd sa sb co => Sys2Proof.Machine.execTkdone e sd sa sb co s
  | .sugo e sa imm co => Sys2Proof.Machine.execSugo e sa imm co s
  | .suwait e sd imm co => Sys2Proof.Machine.execSuwait e sd imm co s
  | .bar e sd imm co => Sys2Proof.Machine.execBar e sd imm co s
  | .waitev e sd imm co => Sys2Proof.Machine.execWaitev e sd imm co s
  | .fence e co => Sys2Proof.Machine.execFence e co s
  | .fault e imm co => Sys2Proof.Machine.execFault e imm co s
  | .halt e co => Sys2Proof.Machine.execHalt e co s
  | .illegalOp e w => Sys2Proof.Machine.execIllegalOp e w s
  | .vnop e co => Sys2Proof.Machine.execVnop e co s
  | .vadd e pg vd va vb md co => Sys2Proof.Machine.execVadd e pg vd va vb md co s
  | .vsub e pg vd va vb md co => Sys2Proof.Machine.execVsub e pg vd va vb md co s
  | .vand e pg vd va vb co => Sys2Proof.Machine.execVand e pg vd va vb co s
  | .vor e pg vd va vb co => Sys2Proof.Machine.execVor e pg vd va vb co s
  | .vxor e pg vd va vb co => Sys2Proof.Machine.execVxor e pg vd va vb co s
  | .vsll e pg vd va vb co => Sys2Proof.Machine.execVsll e pg vd va vb co s
  | .vsrl e pg vd va vb co => Sys2Proof.Machine.execVsrl e pg vd va vb co s
  | .vsra e pg vd va vb co => Sys2Proof.Machine.execVsra e pg vd va vb co s
  | .vmin e pg vd va vb md co => Sys2Proof.Machine.execVmin e pg vd va vb md co s
  | .vmax e pg vd va vb md co => Sys2Proof.Machine.execVmax e pg vd va vb md co s
  | .vmul e pg vd va vb co => Sys2Proof.Machine.execVmul e pg vd va vb co s
  | .vmulh e pg vd va vb md co => Sys2Proof.Machine.execVmulh e pg vd va vb md co s
  | .vmac e pg vd va vb md co => Sys2Proof.Machine.execVmac e pg vd va vb md co s
  | .vmul64 e pg vd va vb md co => Sys2Proof.Machine.execVmul64 e pg vd va vb md co s
  | .vnarrow e pg vd va vb md co => Sys2Proof.Machine.execVnarrow e pg vd va vb md co s
  | .vdiv e pg vd va vb md co => Sys2Proof.Machine.execVdiv e pg vd va vb md co s
  | .vaddi e pg vd va imm co => Sys2Proof.Machine.execVaddi e pg vd va imm co s
  | .vandi e pg vd va imm co => Sys2Proof.Machine.execVandi e pg vd va imm co s
  | .vslli e pg vd va imm co => Sys2Proof.Machine.execVslli e pg vd va imm co s
  | .vsrli e pg vd va imm co => Sys2Proof.Machine.execVsrli e pg vd va imm co s
  | .vsrai e pg vd va imm co => Sys2Proof.Machine.execVsrai e pg vd va imm co s
  | .vclamp e pg vd va md co => Sys2Proof.Machine.execVclamp e pg vd va md co s
  | .vmov e pg vd va co => Sys2Proof.Machine.execVmov e pg vd va co s
  | .vbcast e pg vd md co => Sys2Proof.Machine.execVbcast e pg vd md co s
  | .vlaneid e pg vd co => Sys2Proof.Machine.execVlaneid e pg vd co s
  | .vslide e pg vd va vb md co => Sys2Proof.Machine.execVslide e pg vd va vb md co s
  | .vperm e pg vd va vb co => Sys2Proof.Machine.execVperm e pg vd va vb co s
  | .vcmp e pg pd va vb md co => Sys2Proof.Machine.execVcmp e pg pd va vb md co s
  | .vcmpi e pg pd va cond imm co => Sys2Proof.Machine.execVcmpi e pg pd va cond imm co s
  | .vpop e pg pd va vb md co => Sys2Proof.Machine.execVpop e pg pd va vb md co s
  | .vpmovs e pg va md co => Sys2Proof.Machine.execVpmovs e pg va md co s
  | .vspmov e pg vd md co => Sys2Proof.Machine.execVspmov e pg vd md co s
  | .vext e pg va vb md co => Sys2Proof.Machine.execVext e pg va vb md co s
  | .vredacc e pg va md co => Sys2Proof.Machine.execVredacc e pg va md co s
  | .vldw e pg vd sa off co => Sys2Proof.Machine.execVldw e pg vd sa off co s
  | .vldh e pg vd sa off co => Sys2Proof.Machine.execVldh e pg vd sa off co s
  | .vldhs e pg vd sa off co => Sys2Proof.Machine.execVldhs e pg vd sa off co s
  | .vldb e pg vd sa off co => Sys2Proof.Machine.execVldb e pg vd sa off co s
  | .vstw e pg vd sa off co => Sys2Proof.Machine.execVstw e pg vd sa off co s
  | .vsth e pg vd sa off co => Sys2Proof.Machine.execVsth e pg vd sa off co s
  | .vstb e pg vd sa off co => Sys2Proof.Machine.execVstb e pg vd sa off co s
  | .vgather e pg vd va sa size co => Sys2Proof.Machine.execVgather e pg vd va sa size co s
  | .vscatter e pg vd va sa size co => Sys2Proof.Machine.execVscatter e pg vd va sa size co s
  | .vstc e pg vd sa size co => Sys2Proof.Machine.execVstc e pg vd sa size co s
  | .vcrc e pg va vb md co => Sys2Proof.Machine.execVcrc e pg va vb md co s
  | .smp e pg vd va vb md co => Sys2Proof.Machine.execSmp e pg vd va vb md co s
  | .lutl e pg vd va md co => Sys2Proof.Machine.execLutl e pg vd va md co s
  | .samplerServe c n => Sys2Proof.Machine.execSamplerServe c n s
  | .lutUnitServe u => Sys2Proof.Machine.execLutUnitServe u s
  | .read2d e u => Sys2Proof.Machine.execRead2d e u s
  | .write2d e u => Sys2Proof.Machine.execWrite2d e u s
  | .unpack e u => Sys2Proof.Machine.execUnpack e u s
  | .post e u => Sys2Proof.Machine.execPost e u s
  | .postAccept e u => Sys2Proof.Machine.execPostAccept e u s
  | .engWatchdog e => Sys2Proof.Machine.execEngWatchdog e s
  | .regfileParity e => Sys2Proof.Machine.execRegfileParity e s
  | .pstoreEcc e => Sys2Proof.Machine.execPstoreEcc e s
  | .unitFault e unit => Sys2Proof.Machine.execUnitFault e unit s
  | .programStoreCopy u e => Sys2Proof.Machine.execProgramStoreCopy u e s
  | .engPdataLoWrite a e v => Sys2Proof.Machine.execEngPdataLoWrite a e v s
  | .engPdataHiWrite a e v => Sys2Proof.Machine.execEngPdataHiWrite a e v s
  | .engPdataHiRead a e => Sys2Proof.Machine.execEngPdataHiRead a e s
  | .bsNop b => Sys2Proof.Machine.execBsNop b s
  | .bsIdle b cnt => Sys2Proof.Machine.execBsIdle b cnt s
  | .bsFetch b pred => Sys2Proof.Machine.execBsFetch b pred s
  | .bsSend b pred => Sys2Proof.Machine.execBsSend b pred s
  | .bsKsym b pred imm => Sys2Proof.Machine.execBsKsym b pred imm s
  | .bsTurn b pred => Sys2Proof.Machine.execBsTurn b pred s
  | .bsSetf b pred flag => Sys2Proof.Machine.execBsSetf b pred flag s
  | .bsClrf b pred flag => Sys2Proof.Machine.execBsClrf b pred flag s
  | .bsJmp b target => Sys2Proof.Machine.execBsJmp b target s
  | .bsBr b target cond => Sys2Proof.Machine.execBsBr b target cond s
  | .bsLdc b imm => Sys2Proof.Machine.execBsLdc b imm s
  | .bsDjnz b target => Sys2Proof.Machine.execBsDjnz b target s
  | .bsWaitc b cond => Sys2Proof.Machine.execBsWaitc b cond s
  | .bsCall b target => Sys2Proof.Machine.execBsCall b target s
  | .bsRtn b => Sys2Proof.Machine.execBsRtn b s
  | .bsEvt b imm => Sys2Proof.Machine.execBsEvt b imm s
  | .bsHalt b => Sys2Proof.Machine.execBsHalt b s
  | .bsStatusRead a b => Sys2Proof.Machine.execBsStatusRead a b s
  | .bsUdataHiWrite a b v => Sys2Proof.Machine.execBsUdataHiWrite a b v s
  | .returnWindowDue p => Sys2Proof.Machine.execReturnWindowDue p s
  | .status h flags lastCur fwdErr state => Sys2Proof.Machine.execStatus h flags lastCur fwdErr state s
  | .readData h bs => Sys2Proof.Machine.execReadData h bs s
  | .serviceData h bs => Sys2Proof.Machine.execServiceData h bs s
  | .echoReply h rtt => Sys2Proof.Machine.execEchoReply h rtt s
  | .pageWrite w h addr bs => Sys2Proof.Machine.execPageWrite w h addr bs s
  | .codeDense w h addr bs => Sys2Proof.Machine.execCodeDense w h addr bs s
  | .codeSparse w h addr bs => Sys2Proof.Machine.execCodeSparse w h addr bs s
  | .pageCopy w h addr bs => Sys2Proof.Machine.execPageCopy w h addr bs s
  | .regWrite w h addr bs => Sys2Proof.Machine.execRegWrite w h addr bs s
  | .readReq w h addr bs => Sys2Proof.Machine.execReadReq w h addr bs s
  | .curtain w h bs => Sys2Proof.Machine.execCurtain w h bs s
  | .slotSched w h bs => Sys2Proof.Machine.execSlotSched w h bs s
  | .echo w h tag => Sys2Proof.Machine.execEcho w h tag s
  | .curMark w sym => Sys2Proof.Machine.execCurMark w sym s
  | .stbMark w sym => Sys2Proof.Machine.execStbMark w sym s
  | .ta w chain driver => Sys2Proof.Machine.execTa w chain driver s
  | .abt w busy => Sys2Proof.Machine.execAbt w busy s
  | .powerLogicOff w h => Sys2Proof.Machine.execPowerLogicOff w h s
  | .powerRailOn w h => Sys2Proof.Machine.execPowerRailOn w h s
  | .powerLightOn w h => Sys2Proof.Machine.execPowerLightOn w h s
  | .powerLightOff w h => Sys2Proof.Machine.execPowerLightOff w h s
  | .powerRailOff w h => Sys2Proof.Machine.execPowerRailOff w h s
  | .powerHold w h => Sys2Proof.Machine.execPowerHold w h s
  | .diagRead w h first tests => Sys2Proof.Machine.execDiagRead w h first tests s
  | .borrow w h slot cur8 => Sys2Proof.Machine.execBorrow w h slot cur8 s
  | .railRead w h mv bad => Sys2Proof.Machine.execRailRead w h mv bad s
  | .calFlat w h cur8 => Sys2Proof.Machine.execCalFlat w h cur8 s
  | .flArm w h cur8 slot => Sys2Proof.Machine.execFlArm w h cur8 slot s
  | .flRead w h sensor sat bad counts => Sys2Proof.Machine.execFlRead w h sensor sat bad counts s
  | .vfRead w h first classes => Sys2Proof.Machine.execVfRead w h first classes s
  | .driverLineLossHold w => Sys2Proof.Machine.execDriverLineLossHold w s
  | .tilePowerAdvance t found => Sys2Proof.Machine.execTilePowerAdvance t found s
  | .railSettleElapsed t => Sys2Proof.Machine.execRailSettleElapsed t s
  | .railDischargeElapsed t => Sys2Proof.Machine.execRailDischargeElapsed t s
  | .tileReportTimeout t => Sys2Proof.Machine.execTileReportTimeout t s
  | .logicLineRestart p => Sys2Proof.Machine.execLogicLineRestart p s
  | .readbackScrub p => Sys2Proof.Machine.execReadbackScrub p s
  | .diagWindow => Sys2Proof.Machine.execDiagWindow s
  | .drvLampSetA a v => Sys2Proof.Machine.execDrvLampSetA a v s
  | .drvLampSetB a v => Sys2Proof.Machine.execDrvLampSetB a v s
  | .calRun a v => Sys2Proof.Machine.execCalRun a v s
  | .calRunResult t e fit => Sys2Proof.Machine.execCalRunResult t e fit s
  | .tempPoll => Sys2Proof.Machine.execTempPoll s
  | .calTrim a v => Sys2Proof.Machine.execCalTrim a v s
  | .bankTrimMeasured b swing dly => Sys2Proof.Machine.execBankTrimMeasured b swing dly s
  | .amonConversion a sa sb => Sys2Proof.Machine.execAmonConversion a sa sb s
  | .timeCellSend => Sys2Proof.Machine.execTimeCellSend s
  | .timeCell h at_ time256 edgeAt num prio serial lead epoch nhops => Sys2Proof.Machine.execTimeCell h at_ time256 edgeAt num prio serial lead epoch nhops s
  | .delayRequest h at_ => Sys2Proof.Machine.execDelayRequest h at_ s
  | .delayResponse h t1 t2 t3 t4 => Sys2Proof.Machine.execDelayResponse h t1 t2 t3 t4 s
  | .controlCandidacy h kind target prio serial epoch => Sys2Proof.Machine.execControlCandidacy h kind target prio serial epoch s
  | .controlLeadDecision h winner prio serial outcomes => Sys2Proof.Machine.execControlLeadDecision h winner prio serial outcomes s
  | .controlFieldsAnnounce h fields => Sys2Proof.Machine.execControlFieldsAnnounce h fields s
  | .controlCensusRequest h num gen report => Sys2Proof.Machine.execControlCensusRequest h num gen report s
  | .sourceCell h share frame bx by_ fmt win packed last bs => Sys2Proof.Machine.execSourceCell h share frame bx by_ fmt win packed last bs s
  | .promptCell h stamp unit code kind level coalesced block count tenants a => Sys2Proof.Machine.execPromptCell h stamp unit code kind level coalesced block count tenants a s
  | .bulkCell h dst len off bs => Sys2Proof.Machine.execBulkCell h dst len off bs s
  | .bulkAck h seq status => Sys2Proof.Machine.execBulkAck h seq status s
  | .xferUnreachable => Sys2Proof.Machine.execXferUnreachable s
  | .cmpXferGo a v => Sys2Proof.Machine.execCmpXferGo a v s
  | .cmpRoleReq a v => Sys2Proof.Machine.execCmpRoleReq a v s
  | .cmpCensus a v => Sys2Proof.Machine.execCmpCensus a v s
  | .laneLoss e lane => Sys2Proof.Machine.execLaneLoss e lane s
  | .linkDown e east west => Sys2Proof.Machine.execLinkDown e east west s
  | .linkUp e peer lanes east west => Sys2Proof.Machine.execLinkUp e peer lanes east west s
  | .leadLost => Sys2Proof.Machine.execLeadLost s
  | .shareBlockReady share bx by_ => Sys2Proof.Machine.execShareBlockReady share bx by_ s
  | .shareRawTimeout => Sys2Proof.Machine.execShareRawTimeout s
  | .bankOwnerWrite a n v => Sys2Proof.Machine.execBankOwnerWrite a n v s
  | .bankPwrWrite a n v => Sys2Proof.Machine.execBankPwrWrite a n v s
  | .bankPowerMoveDone n => Sys2Proof.Machine.execBankPowerMoveDone n s
  | .bankScrubRead n word found => Sys2Proof.Machine.execBankScrubRead n word found s
  | .atomicFetchadd a addr bytes v => Sys2Proof.Machine.execAtomicFetchadd a addr bytes v s
  | .atomicSwap a addr bytes v => Sys2Proof.Machine.execAtomicSwap a addr bytes v s
  | .mrw c mr data => Sys2Proof.Machine.execMrw c mr data s
  | .mrr c mr => Sys2Proof.Machine.execMrr c mr s
  | .wffRff mask => Sys2Proof.Machine.execWffRff mask s
  | .rdc mask => Sys2Proof.Machine.execRdc mask s
  | .loopback mask => Sys2Proof.Machine.execLoopback mask s
  | .chApply a c v => Sys2Proof.Machine.execChApply a c v s
  | .delayApplied c => Sys2Proof.Machine.execDelayApplied c s
  | .mr4Poll c mr4 => Sys2Proof.Machine.execMr4Poll c mr4 s
  | .delayCheck c steps => Sys2Proof.Machine.execDelayCheck c steps s
  | .channelFault c => Sys2Proof.Machine.execChannelFault c s
  | .dramRelaid => Sys2Proof.Machine.execDramRelaid s
  | .pkrHeadWrite a t v => Sys2Proof.Machine.execPkrHeadWrite a t v s
  | .encode lane t slot => Sys2Proof.Machine.execEncode lane t slot s
  | .decode lane t slot => Sys2Proof.Machine.execDecode lane t slot s
  | .flush lane t slot => Sys2Proof.Machine.execFlush lane t slot s
  | .packerFault lane => Sys2Proof.Machine.execPackerFault lane s
  | .caddyProgram house own fetch code => Sys2Proof.Machine.execCaddyProgram house own fetch code s
  | .caddyErase house own fetch code => Sys2Proof.Machine.execCaddyErase house own fetch code s
  | .caddyOpComplete => Sys2Proof.Machine.execCaddyOpComplete s
  | .caddyEnergyRecheck code => Sys2Proof.Machine.execCaddyEnergyRecheck code s
  | .holdupLoadTest dTest dTrend => Sys2Proof.Machine.execHoldupLoadTest dTest dTrend s
  | .caddyMarginRead found near => Sys2Proof.Machine.execCaddyMarginRead found near s
  | .pageRefresh code => Sys2Proof.Machine.execPageRefresh code s
  | .cadProtectLock a v => Sys2Proof.Machine.execCadProtectLock a v s
  | .load a v => Sys2Proof.Machine.execLoad a v s
  | .live a v => Sys2Proof.Machine.execLive a v s
  | .liveRound => Sys2Proof.Machine.execLiveRound s
  | .verify a v => Sys2Proof.Machine.execVerify a v s
  | .pnxRevoke a v => Sys2Proof.Machine.execPnxRevoke a v s
  | .flashRead a v => Sys2Proof.Machine.execFlashRead a v s
  | .flashProgram a v => Sys2Proof.Machine.execFlashProgram a v s
  | .flashErase4k a v => Sys2Proof.Machine.execFlashErase4k a v s
  | .flashErase64k a v => Sys2Proof.Machine.execFlashErase64k a v s
  | .cuqTailWrite a t v => Sys2Proof.Machine.execCuqTailWrite a t v s
  | .cpqHeadWrite a t v => Sys2Proof.Machine.execCpqHeadWrite a t v s
  | .pbhHeadWrite a t v => Sys2Proof.Machine.execPbhHeadWrite a t v s
  | .cueNop t => Sys2Proof.Machine.execCueNop t s
  | .write t => Sys2Proof.Machine.execWrite t s
  | .read t => Sys2Proof.Machine.execRead t s
  | .commit t => Sys2Proof.Machine.execCommit t s
  | .handover t => Sys2Proof.Machine.execHandover t s
  | .drvTxn t => Sys2Proof.Machine.execDrvTxn t s
  | .setTime t => Sys2Proof.Machine.execSetTime t s
  | .census t => Sys2Proof.Machine.execCensus t s
  | .cueFence t => Sys2Proof.Machine.execCueFence t s
  | .reset t => Sys2Proof.Machine.execReset t s
  | .mark t => Sys2Proof.Machine.execMark t s
  | .discard t => Sys2Proof.Machine.execDiscard t s
  | .scheduledCueRelease => Sys2Proof.Machine.execScheduledCueRelease s
  | .tenOwnWrite a o v => Sys2Proof.Machine.execTenOwnWrite a o v s
  | .tenBindWrite a t srcIp v => Sys2Proof.Machine.execTenBindWrite a t srcIp v s
  | .tenReset a t v => Sys2Proof.Machine.execTenReset a t v s
  | .tenDiscard a t v => Sys2Proof.Machine.execTenDiscard a t v s
  | .tenCensus a v => Sys2Proof.Machine.execTenCensus a v s
  | .functionLevelReset t => Sys2Proof.Machine.execFunctionLevelReset t s
  | .pcieHotReset => Sys2Proof.Machine.execPcieHotReset s
  | .pcieLinkLoss => Sys2Proof.Machine.execPcieLinkLoss s
  | .mgmtRead f => Sys2Proof.Machine.execMgmtRead f s
  | .mgmtWrite f => Sys2Proof.Machine.execMgmtWrite f s
  | .mgmtCue f => Sys2Proof.Machine.execMgmtCue f s
  | .arpRequest sha spa tpa => Sys2Proof.Machine.execArpRequest sha spa tpa s
  | .icmpEchoRequest dst id seq data => Sys2Proof.Machine.execIcmpEchoRequest dst id seq data s
  | .spiRead addr => Sys2Proof.Machine.execSpiRead addr s
  | .spiWrite addr v => Sys2Proof.Machine.execSpiWrite addr v s
  | .pbRecordRelease => Sys2Proof.Machine.execPbRecordRelease s
  | .pbCoalesceClose => Sys2Proof.Machine.execPbCoalesceClose s
  | .pbCaddyCopy => Sys2Proof.Machine.execPbCaddyCopy s
  | .msixHoldoff t v => Sys2Proof.Machine.execMsixHoldoff t v s
  | .sysModeReqRehearsal a => Sys2Proof.Machine.execSysModeReqRehearsal a s
  | .sysModeReqShow a => Sys2Proof.Machine.execSysModeReqShow a s
  | .sysModeReqHold a => Sys2Proof.Machine.execSysModeReqHold a s
  | .sysModeReqTest a => Sys2Proof.Machine.execSysModeReqTest a s
  | .wakeResume => Sys2Proof.Machine.execWakeResume s
  | .l1KeeperAccess a addr write => Sys2Proof.Machine.execL1KeeperAccess a addr write s
  | .vddAoGood testEn => Sys2Proof.Machine.execVddAoGood testEn s
  | .vddAoLoss => Sys2Proof.Machine.execVddAoLoss s
  | .porNRise testEn => Sys2Proof.Machine.execPorNRise testEn s
  | .spineSupplyLoss => Sys2Proof.Machine.execSpineSupplyLoss s
  | .portSupplyFault b => Sys2Proof.Machine.execPortSupplyFault b s
  | .pfailNFall => Sys2Proof.Machine.execPfailNFall s
  | .pfailNRise => Sys2Proof.Machine.execPfailNRise s
  | .hcWatchdog dramOk => Sys2Proof.Machine.execHcWatchdog dramOk s
  | .hcFault dramOk => Sys2Proof.Machine.execHcFault dramOk s
  | .sysRestart a v dramOk => Sys2Proof.Machine.execSysRestart a v dramOk s
  | .thermalSample q0 q1 q2 q3 sp => Sys2Proof.Machine.execThermalSample q0 q1 q2 q3 sp s
  | .idcode => Sys2Proof.Machine.execIdcode s
  | .bypass => Sys2Proof.Machine.execBypass s
  | .sample balls => Sys2Proof.Machine.execSample balls s
  | .preload balls => Sys2Proof.Machine.execPreload balls s
  | .extest balls => Sys2Proof.Machine.execExtest balls s
  | .registerRead a addr => Sys2Proof.Machine.execRegisterRead a addr s
  | .bsIllegalOp b ecc => Sys2Proof.Machine.execBsIllegalOp b ecc s
  | .netLinkDown p => Sys2Proof.Machine.execNetLinkDown p s
  | .netLinkUp p => Sys2Proof.Machine.execNetLinkUp p s
  | .ptpDelayReq p at_ seq => Sys2Proof.Machine.execPtpDelayReq p at_ seq s
  | .previewHpd p up => Sys2Proof.Machine.execPreviewHpd p up s
  | .driverLockLoss w => Sys2Proof.Machine.execDriverLockLoss w s
  | .driverLockGain w => Sys2Proof.Machine.execDriverLockGain w s
  | .laneLock e lane => Sys2Proof.Machine.execLaneLock e lane s
  | .vddHoldGood => Sys2Proof.Machine.execVddHoldGood s
  | .vddHoldLoss => Sys2Proof.Machine.execVddHoldLoss s
  | .refclkLoss => Sys2Proof.Machine.execRefclkLoss s

end Sys2Proof.Machine
end

