-- ==== Sys2Proof/Laws/State.lean ====
section
/-! SUPPORT. What each primitive update makes of each field of State: one simp law per update, a conjunction over the fields.
Every update leaves the queue of commands as it is. -/

namespace Sys2Proof.Machine

@[simp] theorem applyAct_reg (s : State) (a : Nat) (v : Word) :
    (applyAct s (.reg a v)).pending = s.pending ∧ (applyAct s (.reg a v)).free = s.free ∧ (applyAct s (.reg a v)).fuses = s.fuses ∧
    (applyAct s (.reg a v)).regs = putReg s.regs a v ∧ (applyAct s (.reg a v)).lampRegs = s.lampRegs ∧ (applyAct s (.reg a v)).cur = s.cur ∧
    (applyAct s (.reg a v)).srcs = s.srcs ∧ (applyAct s (.reg a v)).ptp = s.ptp ∧ (applyAct s (.reg a v)).pvw = s.pvw ∧
    (applyAct s (.reg a v)).stp = s.stp ∧ (applyAct s (.reg a v)).engs = s.engs ∧ (applyAct s (.reg a v)).mem = s.mem ∧
    (applyAct s (.reg a v)).ddr = s.ddr ∧ (applyAct s (.reg a v)).pkr = s.pkr ∧ (applyAct s (.reg a v)).ports = s.ports ∧
    (applyAct s (.reg a v)).seqs = s.seqs ∧ (applyAct s (.reg a v)).far = s.far ∧ (applyAct s (.reg a v)).tiles = s.tiles ∧
    (applyAct s (.reg a v)).drvs = s.drvs ∧ (applyAct s (.reg a v)).drive = s.drive ∧ (applyAct s (.reg a v)).cal = s.cal ∧
    (applyAct s (.reg a v)).cmp = s.cmp ∧ (applyAct s (.reg a v)).cad = s.cad ∧ (applyAct s (.reg a v)).caddy = s.caddy ∧
    (applyAct s (.reg a v)).pnx = s.pnx ∧ (applyAct s (.reg a v)).flash = s.flash ∧ (applyAct s (.reg a v)).tenants = s.tenants ∧
    (applyAct s (.reg a v)).book = s.book ∧ (applyAct s (.reg a v)).sys = s.sys ∧ (applyAct s (.reg a v)).jtag = s.jtag ∧
    (applyAct s (.reg a v)).out = s.out ∧ (applyAct s (.reg a v)).dram = s.dram ∧ (applyAct s (.reg a v)).sram = s.sram ∧
    (applyAct s (.reg a v)).host = s.host :=
  ⟨rfl, rfl, rfl, rfl, rfl, rfl, rfl, rfl, rfl, rfl, rfl, rfl, rfl, rfl, rfl, rfl, rfl, rfl, rfl, rfl, rfl, rfl, rfl, rfl, rfl, rfl, rfl, rfl, rfl, rfl, rfl, rfl, rfl, rfl⟩

@[simp] theorem applyAct_fld (s : State) (a : Nat) (f : Field) (v : Nat) :
    (applyAct s (.fld a f v)).pending = s.pending ∧ (applyAct s (.fld a f v)).free = s.free ∧ (applyAct s (.fld a f v)).fuses = s.fuses ∧
    (applyAct s (.fld a f v)).regs = putReg s.regs a (putF (rd s a) f v) ∧ (applyAct s (.fld a f v)).lampRegs = s.lampRegs ∧
    (applyAct s (.fld a f v)).cur = s.cur ∧ (applyAct s (.fld a f v)).srcs = s.srcs ∧ (applyAct s (.fld a f v)).ptp = s.ptp ∧
    (applyAct s (.fld a f v)).pvw = s.pvw ∧ (applyAct s (.fld a f v)).stp = s.stp ∧ (applyAct s (.fld a f v)).engs = s.engs ∧
    (applyAct s (.fld a f v)).mem = s.mem ∧ (applyAct s (.fld a f v)).ddr = s.ddr ∧ (applyAct s (.fld a f v)).pkr = s.pkr ∧
    (applyAct s (.fld a f v)).ports = s.ports ∧ (applyAct s (.fld a f v)).seqs = s.seqs ∧ (applyAct s (.fld a f v)).far = s.far ∧
    (applyAct s (.fld a f v)).tiles = s.tiles ∧ (applyAct s (.fld a f v)).drvs = s.drvs ∧ (applyAct s (.fld a f v)).drive = s.drive ∧
    (applyAct s (.fld a f v)).cal = s.cal ∧ (applyAct s (.fld a f v)).cmp = s.cmp ∧ (applyAct s (.fld a f v)).cad = s.cad ∧
    (applyAct s (.fld a f v)).caddy = s.caddy ∧ (applyAct s (.fld a f v)).pnx = s.pnx ∧ (applyAct s (.fld a f v)).flash = s.flash ∧
    (applyAct s (.fld a f v)).tenants = s.tenants ∧ (applyAct s (.fld a f v)).book = s.book ∧ (applyAct s (.fld a f v)).sys = s.sys ∧
    (applyAct s (.fld a f v)).jtag = s.jtag ∧ (applyAct s (.fld a f v)).out = s.out ∧ (applyAct s (.fld a f v)).dram = s.dram ∧
    (applyAct s (.fld a f v)).sram = s.sram ∧ (applyAct s (.fld a f v)).host = s.host :=
  ⟨rfl, rfl, rfl, rfl, rfl, rfl, rfl, rfl, rfl, rfl, rfl, rfl, rfl, rfl, rfl, rfl, rfl, rfl, rfl, rfl, rfl, rfl, rfl, rfl, rfl, rfl, rfl, rfl, rfl, rfl, rfl, rfl, rfl, rfl⟩

@[simp] theorem applyAct_inc (s : State) (a : Nat) (f : Field) (n : Nat) :
    (applyAct s (.inc a f n)).pending = s.pending ∧ (applyAct s (.inc a f n)).free = s.free ∧ (applyAct s (.inc a f n)).fuses = s.fuses ∧
    (applyAct s (.inc a f n)).regs = putReg s.regs a (putF (rd s a) f (rf s a f + n)) ∧ (applyAct s (.inc a f n)).lampRegs = s.lampRegs ∧
    (applyAct s (.inc a f n)).cur = s.cur ∧ (applyAct s (.inc a f n)).srcs = s.srcs ∧ (applyAct s (.inc a f n)).ptp = s.ptp ∧
    (applyAct s (.inc a f n)).pvw = s.pvw ∧ (applyAct s (.inc a f n)).stp = s.stp ∧ (applyAct s (.inc a f n)).engs = s.engs ∧
    (applyAct s (.inc a f n)).mem = s.mem ∧ (applyAct s (.inc a f n)).ddr = s.ddr ∧ (applyAct s (.inc a f n)).pkr = s.pkr ∧
    (applyAct s (.inc a f n)).ports = s.ports ∧ (applyAct s (.inc a f n)).seqs = s.seqs ∧ (applyAct s (.inc a f n)).far = s.far ∧
    (applyAct s (.inc a f n)).tiles = s.tiles ∧ (applyAct s (.inc a f n)).drvs = s.drvs ∧ (applyAct s (.inc a f n)).drive = s.drive ∧
    (applyAct s (.inc a f n)).cal = s.cal ∧ (applyAct s (.inc a f n)).cmp = s.cmp ∧ (applyAct s (.inc a f n)).cad = s.cad ∧
    (applyAct s (.inc a f n)).caddy = s.caddy ∧ (applyAct s (.inc a f n)).pnx = s.pnx ∧ (applyAct s (.inc a f n)).flash = s.flash ∧
    (applyAct s (.inc a f n)).tenants = s.tenants ∧ (applyAct s (.inc a f n)).book = s.book ∧ (applyAct s (.inc a f n)).sys = s.sys ∧
    (applyAct s (.inc a f n)).jtag = s.jtag ∧ (applyAct s (.inc a f n)).out = s.out ∧ (applyAct s (.inc a f n)).dram = s.dram ∧
    (applyAct s (.inc a f n)).sram = s.sram ∧ (applyAct s (.inc a f n)).host = s.host :=
  ⟨rfl, rfl, rfl, rfl, rfl, rfl, rfl, rfl, rfl, rfl, rfl, rfl, rfl, rfl, rfl, rfl, rfl, rfl, rfl, rfl, rfl, rfl, rfl, rfl, rfl, rfl, rfl, rfl, rfl, rfl, rfl, rfl, rfl, rfl⟩

@[simp] theorem applyAct_sat (s : State) (a : Nat) (f : Field) (n : Nat) :
    (applyAct s (.sat a f n)).pending = s.pending ∧ (applyAct s (.sat a f n)).free = s.free ∧ (applyAct s (.sat a f n)).fuses = s.fuses ∧
    (applyAct s (.sat a f n)).regs = putReg s.regs a (putF (rd s a) f (min (rf s a f + n) (2 ^ f.width - 1))) ∧
    (applyAct s (.sat a f n)).lampRegs = s.lampRegs ∧ (applyAct s (.sat a f n)).cur = s.cur ∧ (applyAct s (.sat a f n)).srcs = s.srcs ∧
    (applyAct s (.sat a f n)).ptp = s.ptp ∧ (applyAct s (.sat a f n)).pvw = s.pvw ∧ (applyAct s (.sat a f n)).stp = s.stp ∧
    (applyAct s (.sat a f n)).engs = s.engs ∧ (applyAct s (.sat a f n)).mem = s.mem ∧ (applyAct s (.sat a f n)).ddr = s.ddr ∧
    (applyAct s (.sat a f n)).pkr = s.pkr ∧ (applyAct s (.sat a f n)).ports = s.ports ∧ (applyAct s (.sat a f n)).seqs = s.seqs ∧
    (applyAct s (.sat a f n)).far = s.far ∧ (applyAct s (.sat a f n)).tiles = s.tiles ∧ (applyAct s (.sat a f n)).drvs = s.drvs ∧
    (applyAct s (.sat a f n)).drive = s.drive ∧ (applyAct s (.sat a f n)).cal = s.cal ∧ (applyAct s (.sat a f n)).cmp = s.cmp ∧
    (applyAct s (.sat a f n)).cad = s.cad ∧ (applyAct s (.sat a f n)).caddy = s.caddy ∧ (applyAct s (.sat a f n)).pnx = s.pnx ∧
    (applyAct s (.sat a f n)).flash = s.flash ∧ (applyAct s (.sat a f n)).tenants = s.tenants ∧ (applyAct s (.sat a f n)).book = s.book ∧
    (applyAct s (.sat a f n)).sys = s.sys ∧ (applyAct s (.sat a f n)).jtag = s.jtag ∧ (applyAct s (.sat a f n)).out = s.out ∧
    (applyAct s (.sat a f n)).dram = s.dram ∧ (applyAct s (.sat a f n)).sram = s.sram ∧ (applyAct s (.sat a f n)).host = s.host :=
  ⟨rfl, rfl, rfl, rfl, rfl, rfl, rfl, rfl, rfl, rfl, rfl, rfl, rfl, rfl, rfl, rfl, rfl, rfl, rfl, rfl, rfl, rfl, rfl, rfl, rfl, rfl, rfl, rfl, rfl, rfl, rfl, rfl, rfl, rfl⟩

@[simp] theorem applyAct_lamp (s : State) (a : Nat) (v : Word) :
    (applyAct s (.lamp a v)).pending = s.pending ∧ (applyAct s (.lamp a v)).free = s.free ∧ (applyAct s (.lamp a v)).fuses = s.fuses ∧
    (applyAct s (.lamp a v)).regs = s.regs ∧ (applyAct s (.lamp a v)).lampRegs = putReg s.lampRegs a v ∧ (applyAct s (.lamp a v)).cur = s.cur ∧
    (applyAct s (.lamp a v)).srcs = s.srcs ∧ (applyAct s (.lamp a v)).ptp = s.ptp ∧ (applyAct s (.lamp a v)).pvw = s.pvw ∧
    (applyAct s (.lamp a v)).stp = s.stp ∧ (applyAct s (.lamp a v)).engs = s.engs ∧ (applyAct s (.lamp a v)).mem = s.mem ∧
    (applyAct s (.lamp a v)).ddr = s.ddr ∧ (applyAct s (.lamp a v)).pkr = s.pkr ∧ (applyAct s (.lamp a v)).ports = s.ports ∧
    (applyAct s (.lamp a v)).seqs = s.seqs ∧ (applyAct s (.lamp a v)).far = s.far ∧ (applyAct s (.lamp a v)).tiles = s.tiles ∧
    (applyAct s (.lamp a v)).drvs = s.drvs ∧ (applyAct s (.lamp a v)).drive = s.drive ∧ (applyAct s (.lamp a v)).cal = s.cal ∧
    (applyAct s (.lamp a v)).cmp = s.cmp ∧ (applyAct s (.lamp a v)).cad = s.cad ∧ (applyAct s (.lamp a v)).caddy = s.caddy ∧
    (applyAct s (.lamp a v)).pnx = s.pnx ∧ (applyAct s (.lamp a v)).flash = s.flash ∧ (applyAct s (.lamp a v)).tenants = s.tenants ∧
    (applyAct s (.lamp a v)).book = s.book ∧ (applyAct s (.lamp a v)).sys = s.sys ∧ (applyAct s (.lamp a v)).jtag = s.jtag ∧
    (applyAct s (.lamp a v)).out = s.out ∧ (applyAct s (.lamp a v)).dram = s.dram ∧ (applyAct s (.lamp a v)).sram = s.sram ∧
    (applyAct s (.lamp a v)).host = s.host :=
  ⟨rfl, rfl, rfl, rfl, rfl, rfl, rfl, rfl, rfl, rfl, rfl, rfl, rfl, rfl, rfl, rfl, rfl, rfl, rfl, rfl, rfl, rfl, rfl, rfl, rfl, rfl, rfl, rfl, rfl, rfl, rfl, rfl, rfl, rfl⟩

@[simp] theorem applyAct_clockTo (s : State) (n : Nat) :
    (applyAct s (.clockTo n)).pending = s.pending ∧ (applyAct s (.clockTo n)).free = s.free ∧ (applyAct s (.clockTo n)).fuses = s.fuses ∧
    (applyAct s (.clockTo n)).regs = s.regs ∧ (applyAct s (.clockTo n)).lampRegs = s.lampRegs ∧
    (applyAct s (.clockTo n)).cur = { s.cur with clock := max s.cur.clock n } ∧ (applyAct s (.clockTo n)).srcs = s.srcs ∧
    (applyAct s (.clockTo n)).ptp = s.ptp ∧ (applyAct s (.clockTo n)).pvw = s.pvw ∧ (applyAct s (.clockTo n)).stp = s.stp ∧
    (applyAct s (.clockTo n)).engs = s.engs ∧ (applyAct s (.clockTo n)).mem = s.mem ∧ (applyAct s (.clockTo n)).ddr = s.ddr ∧
    (applyAct s (.clockTo n)).pkr = s.pkr ∧ (applyAct s (.clockTo n)).ports = s.ports ∧ (applyAct s (.clockTo n)).seqs = s.seqs ∧
    (applyAct s (.clockTo n)).far = s.far ∧ (applyAct s (.clockTo n)).tiles = s.tiles ∧ (applyAct s (.clockTo n)).drvs = s.drvs ∧
    (applyAct s (.clockTo n)).drive = s.drive ∧ (applyAct s (.clockTo n)).cal = s.cal ∧ (applyAct s (.clockTo n)).cmp = s.cmp ∧
    (applyAct s (.clockTo n)).cad = s.cad ∧ (applyAct s (.clockTo n)).caddy = s.caddy ∧ (applyAct s (.clockTo n)).pnx = s.pnx ∧
    (applyAct s (.clockTo n)).flash = s.flash ∧ (applyAct s (.clockTo n)).tenants = s.tenants ∧ (applyAct s (.clockTo n)).book = s.book ∧
    (applyAct s (.clockTo n)).sys = s.sys ∧ (applyAct s (.clockTo n)).jtag = s.jtag ∧ (applyAct s (.clockTo n)).out = s.out ∧
    (applyAct s (.clockTo n)).dram = s.dram ∧ (applyAct s (.clockTo n)).sram = s.sram ∧ (applyAct s (.clockTo n)).host = s.host :=
  ⟨rfl, rfl, rfl, rfl, rfl, rfl, rfl, rfl, rfl, rfl, rfl, rfl, rfl, rfl, rfl, rfl, rfl, rfl, rfl, rfl, rfl, rfl, rfl, rfl, rfl, rfl, rfl, rfl, rfl, rfl, rfl, rfl, rfl, rfl⟩

@[simp] theorem applyAct_draw (s : State) :
    (applyAct s (.draw)).pending = s.pending ∧ (applyAct s (.draw)).free = s.free + 1 ∧ (applyAct s (.draw)).fuses = s.fuses ∧
    (applyAct s (.draw)).regs = s.regs ∧ (applyAct s (.draw)).lampRegs = s.lampRegs ∧ (applyAct s (.draw)).cur = s.cur ∧
    (applyAct s (.draw)).srcs = s.srcs ∧ (applyAct s (.draw)).ptp = s.ptp ∧ (applyAct s (.draw)).pvw = s.pvw ∧ (applyAct s (.draw)).stp = s.stp ∧
    (applyAct s (.draw)).engs = s.engs ∧ (applyAct s (.draw)).mem = s.mem ∧ (applyAct s (.draw)).ddr = s.ddr ∧ (applyAct s (.draw)).pkr = s.pkr ∧
    (applyAct s (.draw)).ports = s.ports ∧ (applyAct s (.draw)).seqs = s.seqs ∧ (applyAct s (.draw)).far = s.far ∧
    (applyAct s (.draw)).tiles = s.tiles ∧ (applyAct s (.draw)).drvs = s.drvs ∧ (applyAct s (.draw)).drive = s.drive ∧
    (applyAct s (.draw)).cal = s.cal ∧ (applyAct s (.draw)).cmp = s.cmp ∧ (applyAct s (.draw)).cad = s.cad ∧ (applyAct s (.draw)).caddy = s.caddy ∧
    (applyAct s (.draw)).pnx = s.pnx ∧ (applyAct s (.draw)).flash = s.flash ∧ (applyAct s (.draw)).tenants = s.tenants ∧
    (applyAct s (.draw)).book = s.book ∧ (applyAct s (.draw)).sys = s.sys ∧ (applyAct s (.draw)).jtag = s.jtag ∧ (applyAct s (.draw)).out = s.out ∧
    (applyAct s (.draw)).dram = s.dram ∧ (applyAct s (.draw)).sram = s.sram ∧ (applyAct s (.draw)).host = s.host :=
  ⟨rfl, rfl, rfl, rfl, rfl, rfl, rfl, rfl, rfl, rfl, rfl, rfl, rfl, rfl, rfl, rfl, rfl, rfl, rfl, rfl, rfl, rfl, rfl, rfl, rfl, rfl, rfl, rfl, rfl, rfl, rfl, rfl, rfl, rfl⟩

@[simp] theorem applyAct_cur (s : State) (f : Cur → Cur) :
    (applyAct s (.cur f)).pending = s.pending ∧ (applyAct s (.cur f)).free = s.free ∧ (applyAct s (.cur f)).fuses = s.fuses ∧
    (applyAct s (.cur f)).regs = s.regs ∧ (applyAct s (.cur f)).lampRegs = s.lampRegs ∧ (applyAct s (.cur f)).cur = f s.cur ∧
    (applyAct s (.cur f)).srcs = s.srcs ∧ (applyAct s (.cur f)).ptp = s.ptp ∧ (applyAct s (.cur f)).pvw = s.pvw ∧ (applyAct s (.cur f)).stp = s.stp ∧
    (applyAct s (.cur f)).engs = s.engs ∧ (applyAct s (.cur f)).mem = s.mem ∧ (applyAct s (.cur f)).ddr = s.ddr ∧ (applyAct s (.cur f)).pkr = s.pkr ∧
    (applyAct s (.cur f)).ports = s.ports ∧ (applyAct s (.cur f)).seqs = s.seqs ∧ (applyAct s (.cur f)).far = s.far ∧
    (applyAct s (.cur f)).tiles = s.tiles ∧ (applyAct s (.cur f)).drvs = s.drvs ∧ (applyAct s (.cur f)).drive = s.drive ∧
    (applyAct s (.cur f)).cal = s.cal ∧ (applyAct s (.cur f)).cmp = s.cmp ∧ (applyAct s (.cur f)).cad = s.cad ∧ (applyAct s (.cur f)).caddy = s.caddy ∧
    (applyAct s (.cur f)).pnx = s.pnx ∧ (applyAct s (.cur f)).flash = s.flash ∧ (applyAct s (.cur f)).tenants = s.tenants ∧
    (applyAct s (.cur f)).book = s.book ∧ (applyAct s (.cur f)).sys = s.sys ∧ (applyAct s (.cur f)).jtag = s.jtag ∧ (applyAct s (.cur f)).out = s.out ∧
    (applyAct s (.cur f)).dram = s.dram ∧ (applyAct s (.cur f)).sram = s.sram ∧ (applyAct s (.cur f)).host = s.host :=
  ⟨rfl, rfl, rfl, rfl, rfl, rfl, rfl, rfl, rfl, rfl, rfl, rfl, rfl, rfl, rfl, rfl, rfl, rfl, rfl, rfl, rfl, rfl, rfl, rfl, rfl, rfl, rfl, rfl, rfl, rfl, rfl, rfl, rfl, rfl⟩

@[simp] theorem applyAct_src (s : State) (i : Nat) (f : Source → Source) :
    (applyAct s (.src i f)).pending = s.pending ∧ (applyAct s (.src i f)).free = s.free ∧ (applyAct s (.src i f)).fuses = s.fuses ∧
    (applyAct s (.src i f)).regs = s.regs ∧ (applyAct s (.src i f)).lampRegs = s.lampRegs ∧ (applyAct s (.src i f)).cur = s.cur ∧
    (applyAct s (.src i f)).srcs = mapPut srcDflt s.srcs i (f (mapGet srcDflt s.srcs i)) ∧ (applyAct s (.src i f)).ptp = s.ptp ∧
    (applyAct s (.src i f)).pvw = s.pvw ∧ (applyAct s (.src i f)).stp = s.stp ∧ (applyAct s (.src i f)).engs = s.engs ∧
    (applyAct s (.src i f)).mem = s.mem ∧ (applyAct s (.src i f)).ddr = s.ddr ∧ (applyAct s (.src i f)).pkr = s.pkr ∧
    (applyAct s (.src i f)).ports = s.ports ∧ (applyAct s (.src i f)).seqs = s.seqs ∧ (applyAct s (.src i f)).far = s.far ∧
    (applyAct s (.src i f)).tiles = s.tiles ∧ (applyAct s (.src i f)).drvs = s.drvs ∧ (applyAct s (.src i f)).drive = s.drive ∧
    (applyAct s (.src i f)).cal = s.cal ∧ (applyAct s (.src i f)).cmp = s.cmp ∧ (applyAct s (.src i f)).cad = s.cad ∧
    (applyAct s (.src i f)).caddy = s.caddy ∧ (applyAct s (.src i f)).pnx = s.pnx ∧ (applyAct s (.src i f)).flash = s.flash ∧
    (applyAct s (.src i f)).tenants = s.tenants ∧ (applyAct s (.src i f)).book = s.book ∧ (applyAct s (.src i f)).sys = s.sys ∧
    (applyAct s (.src i f)).jtag = s.jtag ∧ (applyAct s (.src i f)).out = s.out ∧ (applyAct s (.src i f)).dram = s.dram ∧
    (applyAct s (.src i f)).sram = s.sram ∧ (applyAct s (.src i f)).host = s.host :=
  ⟨rfl, rfl, rfl, rfl, rfl, rfl, rfl, rfl, rfl, rfl, rfl, rfl, rfl, rfl, rfl, rfl, rfl, rfl, rfl, rfl, rfl, rfl, rfl, rfl, rfl, rfl, rfl, rfl, rfl, rfl, rfl, rfl, rfl, rfl⟩

@[simp] theorem applyAct_ptp (s : State) (i : Nat) (f : PtpPort → PtpPort) :
    (applyAct s (.ptp i f)).pending = s.pending ∧ (applyAct s (.ptp i f)).free = s.free ∧ (applyAct s (.ptp i f)).fuses = s.fuses ∧
    (applyAct s (.ptp i f)).regs = s.regs ∧ (applyAct s (.ptp i f)).lampRegs = s.lampRegs ∧ (applyAct s (.ptp i f)).cur = s.cur ∧
    (applyAct s (.ptp i f)).srcs = s.srcs ∧ (applyAct s (.ptp i f)).ptp = mapPut ptpDflt s.ptp i (f (mapGet ptpDflt s.ptp i)) ∧
    (applyAct s (.ptp i f)).pvw = s.pvw ∧ (applyAct s (.ptp i f)).stp = s.stp ∧ (applyAct s (.ptp i f)).engs = s.engs ∧
    (applyAct s (.ptp i f)).mem = s.mem ∧ (applyAct s (.ptp i f)).ddr = s.ddr ∧ (applyAct s (.ptp i f)).pkr = s.pkr ∧
    (applyAct s (.ptp i f)).ports = s.ports ∧ (applyAct s (.ptp i f)).seqs = s.seqs ∧ (applyAct s (.ptp i f)).far = s.far ∧
    (applyAct s (.ptp i f)).tiles = s.tiles ∧ (applyAct s (.ptp i f)).drvs = s.drvs ∧ (applyAct s (.ptp i f)).drive = s.drive ∧
    (applyAct s (.ptp i f)).cal = s.cal ∧ (applyAct s (.ptp i f)).cmp = s.cmp ∧ (applyAct s (.ptp i f)).cad = s.cad ∧
    (applyAct s (.ptp i f)).caddy = s.caddy ∧ (applyAct s (.ptp i f)).pnx = s.pnx ∧ (applyAct s (.ptp i f)).flash = s.flash ∧
    (applyAct s (.ptp i f)).tenants = s.tenants ∧ (applyAct s (.ptp i f)).book = s.book ∧ (applyAct s (.ptp i f)).sys = s.sys ∧
    (applyAct s (.ptp i f)).jtag = s.jtag ∧ (applyAct s (.ptp i f)).out = s.out ∧ (applyAct s (.ptp i f)).dram = s.dram ∧
    (applyAct s (.ptp i f)).sram = s.sram ∧ (applyAct s (.ptp i f)).host = s.host :=
  ⟨rfl, rfl, rfl, rfl, rfl, rfl, rfl, rfl, rfl, rfl, rfl, rfl, rfl, rfl, rfl, rfl, rfl, rfl, rfl, rfl, rfl, rfl, rfl, rfl, rfl, rfl, rfl, rfl, rfl, rfl, rfl, rfl, rfl, rfl⟩

@[simp] theorem applyAct_pvw (s : State) (i : Nat) (f : Preview → Preview) :
    (applyAct s (.pvw i f)).pending = s.pending ∧ (applyAct s (.pvw i f)).free = s.free ∧ (applyAct s (.pvw i f)).fuses = s.fuses ∧
    (applyAct s (.pvw i f)).regs = s.regs ∧ (applyAct s (.pvw i f)).lampRegs = s.lampRegs ∧ (applyAct s (.pvw i f)).cur = s.cur ∧
    (applyAct s (.pvw i f)).srcs = s.srcs ∧ (applyAct s (.pvw i f)).ptp = s.ptp ∧
    (applyAct s (.pvw i f)).pvw = mapPut pvwDflt s.pvw i (f (mapGet pvwDflt s.pvw i)) ∧ (applyAct s (.pvw i f)).stp = s.stp ∧
    (applyAct s (.pvw i f)).engs = s.engs ∧ (applyAct s (.pvw i f)).mem = s.mem ∧ (applyAct s (.pvw i f)).ddr = s.ddr ∧
    (applyAct s (.pvw i f)).pkr = s.pkr ∧ (applyAct s (.pvw i f)).ports = s.ports ∧ (applyAct s (.pvw i f)).seqs = s.seqs ∧
    (applyAct s (.pvw i f)).far = s.far ∧ (applyAct s (.pvw i f)).tiles = s.tiles ∧ (applyAct s (.pvw i f)).drvs = s.drvs ∧
    (applyAct s (.pvw i f)).drive = s.drive ∧ (applyAct s (.pvw i f)).cal = s.cal ∧ (applyAct s (.pvw i f)).cmp = s.cmp ∧
    (applyAct s (.pvw i f)).cad = s.cad ∧ (applyAct s (.pvw i f)).caddy = s.caddy ∧ (applyAct s (.pvw i f)).pnx = s.pnx ∧
    (applyAct s (.pvw i f)).flash = s.flash ∧ (applyAct s (.pvw i f)).tenants = s.tenants ∧ (applyAct s (.pvw i f)).book = s.book ∧
    (applyAct s (.pvw i f)).sys = s.sys ∧ (applyAct s (.pvw i f)).jtag = s.jtag ∧ (applyAct s (.pvw i f)).out = s.out ∧
    (applyAct s (.pvw i f)).dram = s.dram ∧ (applyAct s (.pvw i f)).sram = s.sram ∧ (applyAct s (.pvw i f)).host = s.host :=
  ⟨rfl, rfl, rfl, rfl, rfl, rfl, rfl, rfl, rfl, rfl, rfl, rfl, rfl, rfl, rfl, rfl, rfl, rfl, rfl, rfl, rfl, rfl, rfl, rfl, rfl, rfl, rfl, rfl, rfl, rfl, rfl, rfl, rfl, rfl⟩

@[simp] theorem applyAct_stp (s : State) (f : Steep → Steep) :
    (applyAct s (.stp f)).pending = s.pending ∧ (applyAct s (.stp f)).free = s.free ∧ (applyAct s (.stp f)).fuses = s.fuses ∧
    (applyAct s (.stp f)).regs = s.regs ∧ (applyAct s (.stp f)).lampRegs = s.lampRegs ∧ (applyAct s (.stp f)).cur = s.cur ∧
    (applyAct s (.stp f)).srcs = s.srcs ∧ (applyAct s (.stp f)).ptp = s.ptp ∧ (applyAct s (.stp f)).pvw = s.pvw ∧ (applyAct s (.stp f)).stp = f s.stp ∧
    (applyAct s (.stp f)).engs = s.engs ∧ (applyAct s (.stp f)).mem = s.mem ∧ (applyAct s (.stp f)).ddr = s.ddr ∧ (applyAct s (.stp f)).pkr = s.pkr ∧
    (applyAct s (.stp f)).ports = s.ports ∧ (applyAct s (.stp f)).seqs = s.seqs ∧ (applyAct s (.stp f)).far = s.far ∧
    (applyAct s (.stp f)).tiles = s.tiles ∧ (applyAct s (.stp f)).drvs = s.drvs ∧ (applyAct s (.stp f)).drive = s.drive ∧
    (applyAct s (.stp f)).cal = s.cal ∧ (applyAct s (.stp f)).cmp = s.cmp ∧ (applyAct s (.stp f)).cad = s.cad ∧ (applyAct s (.stp f)).caddy = s.caddy ∧
    (applyAct s (.stp f)).pnx = s.pnx ∧ (applyAct s (.stp f)).flash = s.flash ∧ (applyAct s (.stp f)).tenants = s.tenants ∧
    (applyAct s (.stp f)).book = s.book ∧ (applyAct s (.stp f)).sys = s.sys ∧ (applyAct s (.stp f)).jtag = s.jtag ∧ (applyAct s (.stp f)).out = s.out ∧
    (applyAct s (.stp f)).dram = s.dram ∧ (applyAct s (.stp f)).sram = s.sram ∧ (applyAct s (.stp f)).host = s.host :=
  ⟨rfl, rfl, rfl, rfl, rfl, rfl, rfl, rfl, rfl, rfl, rfl, rfl, rfl, rfl, rfl, rfl, rfl, rfl, rfl, rfl, rfl, rfl, rfl, rfl, rfl, rfl, rfl, rfl, rfl, rfl, rfl, rfl, rfl, rfl⟩

@[simp] theorem applyAct_ten (s : State) (i : Nat) (f : Tenant → Tenant) :
    (applyAct s (.ten i f)).pending = s.pending ∧ (applyAct s (.ten i f)).free = s.free ∧ (applyAct s (.ten i f)).fuses = s.fuses ∧
    (applyAct s (.ten i f)).regs = s.regs ∧ (applyAct s (.ten i f)).lampRegs = s.lampRegs ∧ (applyAct s (.ten i f)).cur = s.cur ∧
    (applyAct s (.ten i f)).srcs = s.srcs ∧ (applyAct s (.ten i f)).ptp = s.ptp ∧ (applyAct s (.ten i f)).pvw = s.pvw ∧
    (applyAct s (.ten i f)).stp = s.stp ∧ (applyAct s (.ten i f)).engs = s.engs ∧ (applyAct s (.ten i f)).mem = s.mem ∧
    (applyAct s (.ten i f)).ddr = s.ddr ∧ (applyAct s (.ten i f)).pkr = s.pkr ∧ (applyAct s (.ten i f)).ports = s.ports ∧
    (applyAct s (.ten i f)).seqs = s.seqs ∧ (applyAct s (.ten i f)).far = s.far ∧ (applyAct s (.ten i f)).tiles = s.tiles ∧
    (applyAct s (.ten i f)).drvs = s.drvs ∧ (applyAct s (.ten i f)).drive = s.drive ∧ (applyAct s (.ten i f)).cal = s.cal ∧
    (applyAct s (.ten i f)).cmp = s.cmp ∧ (applyAct s (.ten i f)).cad = s.cad ∧ (applyAct s (.ten i f)).caddy = s.caddy ∧
    (applyAct s (.ten i f)).pnx = s.pnx ∧ (applyAct s (.ten i f)).flash = s.flash ∧
    (applyAct s (.ten i f)).tenants = mapPut tenantDflt s.tenants i (f (mapGet tenantDflt s.tenants i)) ∧ (applyAct s (.ten i f)).book = s.book ∧
    (applyAct s (.ten i f)).sys = s.sys ∧ (applyAct s (.ten i f)).jtag = s.jtag ∧ (applyAct s (.ten i f)).out = s.out ∧
    (applyAct s (.ten i f)).dram = s.dram ∧ (applyAct s (.ten i f)).sram = s.sram ∧ (applyAct s (.ten i f)).host = s.host :=
  ⟨rfl, rfl, rfl, rfl, rfl, rfl, rfl, rfl, rfl, rfl, rfl, rfl, rfl, rfl, rfl, rfl, rfl, rfl, rfl, rfl, rfl, rfl, rfl, rfl, rfl, rfl, rfl, rfl, rfl, rfl, rfl, rfl, rfl, rfl⟩

@[simp] theorem applyAct_book (s : State) (f : Book → Book) :
    (applyAct s (.book f)).pending = s.pending ∧ (applyAct s (.book f)).free = s.free ∧ (applyAct s (.book f)).fuses = s.fuses ∧
    (applyAct s (.book f)).regs = s.regs ∧ (applyAct s (.book f)).lampRegs = s.lampRegs ∧ (applyAct s (.book f)).cur = s.cur ∧
    (applyAct s (.book f)).srcs = s.srcs ∧ (applyAct s (.book f)).ptp = s.ptp ∧ (applyAct s (.book f)).pvw = s.pvw ∧
    (applyAct s (.book f)).stp = s.stp ∧ (applyAct s (.book f)).engs = s.engs ∧ (applyAct s (.book f)).mem = s.mem ∧
    (applyAct s (.book f)).ddr = s.ddr ∧ (applyAct s (.book f)).pkr = s.pkr ∧ (applyAct s (.book f)).ports = s.ports ∧
    (applyAct s (.book f)).seqs = s.seqs ∧ (applyAct s (.book f)).far = s.far ∧ (applyAct s (.book f)).tiles = s.tiles ∧
    (applyAct s (.book f)).drvs = s.drvs ∧ (applyAct s (.book f)).drive = s.drive ∧ (applyAct s (.book f)).cal = s.cal ∧
    (applyAct s (.book f)).cmp = s.cmp ∧ (applyAct s (.book f)).cad = s.cad ∧ (applyAct s (.book f)).caddy = s.caddy ∧
    (applyAct s (.book f)).pnx = s.pnx ∧ (applyAct s (.book f)).flash = s.flash ∧ (applyAct s (.book f)).tenants = s.tenants ∧
    (applyAct s (.book f)).book = f s.book ∧ (applyAct s (.book f)).sys = s.sys ∧ (applyAct s (.book f)).jtag = s.jtag ∧
    (applyAct s (.book f)).out = s.out ∧ (applyAct s (.book f)).dram = s.dram ∧ (applyAct s (.book f)).sram = s.sram ∧
    (applyAct s (.book f)).host = s.host :=
  ⟨rfl, rfl, rfl, rfl, rfl, rfl, rfl, rfl, rfl, rfl, rfl, rfl, rfl, rfl, rfl, rfl, rfl, rfl, rfl, rfl, rfl, rfl, rfl, rfl, rfl, rfl, rfl, rfl, rfl, rfl, rfl, rfl, rfl, rfl⟩

@[simp] theorem applyAct_sys (s : State) (f : Sys → Sys) :
    (applyAct s (.sys f)).pending = s.pending ∧ (applyAct s (.sys f)).free = s.free ∧ (applyAct s (.sys f)).fuses = s.fuses ∧
    (applyAct s (.sys f)).regs = s.regs ∧ (applyAct s (.sys f)).lampRegs = s.lampRegs ∧ (applyAct s (.sys f)).cur = s.cur ∧
    (applyAct s (.sys f)).srcs = s.srcs ∧ (applyAct s (.sys f)).ptp = s.ptp ∧ (applyAct s (.sys f)).pvw = s.pvw ∧ (applyAct s (.sys f)).stp = s.stp ∧
    (applyAct s (.sys f)).engs = s.engs ∧ (applyAct s (.sys f)).mem = s.mem ∧ (applyAct s (.sys f)).ddr = s.ddr ∧ (applyAct s (.sys f)).pkr = s.pkr ∧
    (applyAct s (.sys f)).ports = s.ports ∧ (applyAct s (.sys f)).seqs = s.seqs ∧ (applyAct s (.sys f)).far = s.far ∧
    (applyAct s (.sys f)).tiles = s.tiles ∧ (applyAct s (.sys f)).drvs = s.drvs ∧ (applyAct s (.sys f)).drive = s.drive ∧
    (applyAct s (.sys f)).cal = s.cal ∧ (applyAct s (.sys f)).cmp = s.cmp ∧ (applyAct s (.sys f)).cad = s.cad ∧ (applyAct s (.sys f)).caddy = s.caddy ∧
    (applyAct s (.sys f)).pnx = s.pnx ∧ (applyAct s (.sys f)).flash = s.flash ∧ (applyAct s (.sys f)).tenants = s.tenants ∧
    (applyAct s (.sys f)).book = s.book ∧ (applyAct s (.sys f)).sys = f s.sys ∧ (applyAct s (.sys f)).jtag = s.jtag ∧
    (applyAct s (.sys f)).out = s.out ∧ (applyAct s (.sys f)).dram = s.dram ∧ (applyAct s (.sys f)).sram = s.sram ∧
    (applyAct s (.sys f)).host = s.host :=
  ⟨rfl, rfl, rfl, rfl, rfl, rfl, rfl, rfl, rfl, rfl, rfl, rfl, rfl, rfl, rfl, rfl, rfl, rfl, rfl, rfl, rfl, rfl, rfl, rfl, rfl, rfl, rfl, rfl, rfl, rfl, rfl, rfl, rfl, rfl⟩

@[simp] theorem applyAct_jtag (s : State) (f : Jtag → Jtag) :
    (applyAct s (.jtag f)).pending = s.pending ∧ (applyAct s (.jtag f)).free = s.free ∧ (applyAct s (.jtag f)).fuses = s.fuses ∧
    (applyAct s (.jtag f)).regs = s.regs ∧ (applyAct s (.jtag f)).lampRegs = s.lampRegs ∧ (applyAct s (.jtag f)).cur = s.cur ∧
    (applyAct s (.jtag f)).srcs = s.srcs ∧ (applyAct s (.jtag f)).ptp = s.ptp ∧ (applyAct s (.jtag f)).pvw = s.pvw ∧
    (applyAct s (.jtag f)).stp = s.stp ∧ (applyAct s (.jtag f)).engs = s.engs ∧ (applyAct s (.jtag f)).mem = s.mem ∧
    (applyAct s (.jtag f)).ddr = s.ddr ∧ (applyAct s (.jtag f)).pkr = s.pkr ∧ (applyAct s (.jtag f)).ports = s.ports ∧
    (applyAct s (.jtag f)).seqs = s.seqs ∧ (applyAct s (.jtag f)).far = s.far ∧ (applyAct s (.jtag f)).tiles = s.tiles ∧
    (applyAct s (.jtag f)).drvs = s.drvs ∧ (applyAct s (.jtag f)).drive = s.drive ∧ (applyAct s (.jtag f)).cal = s.cal ∧
    (applyAct s (.jtag f)).cmp = s.cmp ∧ (applyAct s (.jtag f)).cad = s.cad ∧ (applyAct s (.jtag f)).caddy = s.caddy ∧
    (applyAct s (.jtag f)).pnx = s.pnx ∧ (applyAct s (.jtag f)).flash = s.flash ∧ (applyAct s (.jtag f)).tenants = s.tenants ∧
    (applyAct s (.jtag f)).book = s.book ∧ (applyAct s (.jtag f)).sys = s.sys ∧ (applyAct s (.jtag f)).jtag = f s.jtag ∧
    (applyAct s (.jtag f)).out = s.out ∧ (applyAct s (.jtag f)).dram = s.dram ∧ (applyAct s (.jtag f)).sram = s.sram ∧
    (applyAct s (.jtag f)).host = s.host :=
  ⟨rfl, rfl, rfl, rfl, rfl, rfl, rfl, rfl, rfl, rfl, rfl, rfl, rfl, rfl, rfl, rfl, rfl, rfl, rfl, rfl, rfl, rfl, rfl, rfl, rfl, rfl, rfl, rfl, rfl, rfl, rfl, rfl, rfl, rfl⟩

@[simp] theorem applyAct_out (s : State) (f : Outs → Outs) :
    (applyAct s (.out f)).pending = s.pending ∧ (applyAct s (.out f)).free = s.free ∧ (applyAct s (.out f)).fuses = s.fuses ∧
    (applyAct s (.out f)).regs = s.regs ∧ (applyAct s (.out f)).lampRegs = s.lampRegs ∧ (applyAct s (.out f)).cur = s.cur ∧
    (applyAct s (.out f)).srcs = s.srcs ∧ (applyAct s (.out f)).ptp = s.ptp ∧ (applyAct s (.out f)).pvw = s.pvw ∧ (applyAct s (.out f)).stp = s.stp ∧
    (applyAct s (.out f)).engs = s.engs ∧ (applyAct s (.out f)).mem = s.mem ∧ (applyAct s (.out f)).ddr = s.ddr ∧ (applyAct s (.out f)).pkr = s.pkr ∧
    (applyAct s (.out f)).ports = s.ports ∧ (applyAct s (.out f)).seqs = s.seqs ∧ (applyAct s (.out f)).far = s.far ∧
    (applyAct s (.out f)).tiles = s.tiles ∧ (applyAct s (.out f)).drvs = s.drvs ∧ (applyAct s (.out f)).drive = s.drive ∧
    (applyAct s (.out f)).cal = s.cal ∧ (applyAct s (.out f)).cmp = s.cmp ∧ (applyAct s (.out f)).cad = s.cad ∧ (applyAct s (.out f)).caddy = s.caddy ∧
    (applyAct s (.out f)).pnx = s.pnx ∧ (applyAct s (.out f)).flash = s.flash ∧ (applyAct s (.out f)).tenants = s.tenants ∧
    (applyAct s (.out f)).book = s.book ∧ (applyAct s (.out f)).sys = s.sys ∧ (applyAct s (.out f)).jtag = s.jtag ∧
    (applyAct s (.out f)).out = f s.out ∧ (applyAct s (.out f)).dram = s.dram ∧ (applyAct s (.out f)).sram = s.sram ∧
    (applyAct s (.out f)).host = s.host :=
  ⟨rfl, rfl, rfl, rfl, rfl, rfl, rfl, rfl, rfl, rfl, rfl, rfl, rfl, rfl, rfl, rfl, rfl, rfl, rfl, rfl, rfl, rfl, rfl, rfl, rfl, rfl, rfl, rfl, rfl, rfl, rfl, rfl, rfl, rfl⟩

@[simp] theorem applyAct_fuse (s : State) (f : Fuses → Fuses) :
    (applyAct s (.fuse f)).pending = s.pending ∧ (applyAct s (.fuse f)).free = s.free ∧ (applyAct s (.fuse f)).fuses = f s.fuses ∧
    (applyAct s (.fuse f)).regs = s.regs ∧ (applyAct s (.fuse f)).lampRegs = s.lampRegs ∧ (applyAct s (.fuse f)).cur = s.cur ∧
    (applyAct s (.fuse f)).srcs = s.srcs ∧ (applyAct s (.fuse f)).ptp = s.ptp ∧ (applyAct s (.fuse f)).pvw = s.pvw ∧
    (applyAct s (.fuse f)).stp = s.stp ∧ (applyAct s (.fuse f)).engs = s.engs ∧ (applyAct s (.fuse f)).mem = s.mem ∧
    (applyAct s (.fuse f)).ddr = s.ddr ∧ (applyAct s (.fuse f)).pkr = s.pkr ∧ (applyAct s (.fuse f)).ports = s.ports ∧
    (applyAct s (.fuse f)).seqs = s.seqs ∧ (applyAct s (.fuse f)).far = s.far ∧ (applyAct s (.fuse f)).tiles = s.tiles ∧
    (applyAct s (.fuse f)).drvs = s.drvs ∧ (applyAct s (.fuse f)).drive = s.drive ∧ (applyAct s (.fuse f)).cal = s.cal ∧
    (applyAct s (.fuse f)).cmp = s.cmp ∧ (applyAct s (.fuse f)).cad = s.cad ∧ (applyAct s (.fuse f)).caddy = s.caddy ∧
    (applyAct s (.fuse f)).pnx = s.pnx ∧ (applyAct s (.fuse f)).flash = s.flash ∧ (applyAct s (.fuse f)).tenants = s.tenants ∧
    (applyAct s (.fuse f)).book = s.book ∧ (applyAct s (.fuse f)).sys = s.sys ∧ (applyAct s (.fuse f)).jtag = s.jtag ∧
    (applyAct s (.fuse f)).out = s.out ∧ (applyAct s (.fuse f)).dram = s.dram ∧ (applyAct s (.fuse f)).sram = s.sram ∧
    (applyAct s (.fuse f)).host = s.host :=
  ⟨rfl, rfl, rfl, rfl, rfl, rfl, rfl, rfl, rfl, rfl, rfl, rfl, rfl, rfl, rfl, rfl, rfl, rfl, rfl, rfl, rfl, rfl, rfl, rfl, rfl, rfl, rfl, rfl, rfl, rfl, rfl, rfl, rfl, rfl⟩

@[simp] theorem applyAct_eng (s : State) (i : Nat) (f : Engine → Engine) :
    (applyAct s (.eng i f)).pending = s.pending ∧ (applyAct s (.eng i f)).free = s.free ∧ (applyAct s (.eng i f)).fuses = s.fuses ∧
    (applyAct s (.eng i f)).regs = s.regs ∧ (applyAct s (.eng i f)).lampRegs = s.lampRegs ∧ (applyAct s (.eng i f)).cur = s.cur ∧
    (applyAct s (.eng i f)).srcs = s.srcs ∧ (applyAct s (.eng i f)).ptp = s.ptp ∧ (applyAct s (.eng i f)).pvw = s.pvw ∧
    (applyAct s (.eng i f)).stp = s.stp ∧ (applyAct s (.eng i f)).engs = mapPut engDflt s.engs i (f (mapGet engDflt s.engs i)) ∧
    (applyAct s (.eng i f)).mem = s.mem ∧ (applyAct s (.eng i f)).ddr = s.ddr ∧ (applyAct s (.eng i f)).pkr = s.pkr ∧
    (applyAct s (.eng i f)).ports = s.ports ∧ (applyAct s (.eng i f)).seqs = s.seqs ∧ (applyAct s (.eng i f)).far = s.far ∧
    (applyAct s (.eng i f)).tiles = s.tiles ∧ (applyAct s (.eng i f)).drvs = s.drvs ∧ (applyAct s (.eng i f)).drive = s.drive ∧
    (applyAct s (.eng i f)).cal = s.cal ∧ (applyAct s (.eng i f)).cmp = s.cmp ∧ (applyAct s (.eng i f)).cad = s.cad ∧
    (applyAct s (.eng i f)).caddy = s.caddy ∧ (applyAct s (.eng i f)).pnx = s.pnx ∧ (applyAct s (.eng i f)).flash = s.flash ∧
    (applyAct s (.eng i f)).tenants = s.tenants ∧ (applyAct s (.eng i f)).book = s.book ∧ (applyAct s (.eng i f)).sys = s.sys ∧
    (applyAct s (.eng i f)).jtag = s.jtag ∧ (applyAct s (.eng i f)).out = s.out ∧ (applyAct s (.eng i f)).dram = s.dram ∧
    (applyAct s (.eng i f)).sram = s.sram ∧ (applyAct s (.eng i f)).host = s.host :=
  ⟨rfl, rfl, rfl, rfl, rfl, rfl, rfl, rfl, rfl, rfl, rfl, rfl, rfl, rfl, rfl, rfl, rfl, rfl, rfl, rfl, rfl, rfl, rfl, rfl, rfl, rfl, rfl, rfl, rfl, rfl, rfl, rfl, rfl, rfl⟩

@[simp] theorem applyAct_mem (s : State) (f : MemUnit → MemUnit) :
    (applyAct s (.mem f)).pending = s.pending ∧ (applyAct s (.mem f)).free = s.free ∧ (applyAct s (.mem f)).fuses = s.fuses ∧
    (applyAct s (.mem f)).regs = s.regs ∧ (applyAct s (.mem f)).lampRegs = s.lampRegs ∧ (applyAct s (.mem f)).cur = s.cur ∧
    (applyAct s (.mem f)).srcs = s.srcs ∧ (applyAct s (.mem f)).ptp = s.ptp ∧ (applyAct s (.mem f)).pvw = s.pvw ∧ (applyAct s (.mem f)).stp = s.stp ∧
    (applyAct s (.mem f)).engs = s.engs ∧ (applyAct s (.mem f)).mem = f s.mem ∧ (applyAct s (.mem f)).ddr = s.ddr ∧ (applyAct s (.mem f)).pkr = s.pkr ∧
    (applyAct s (.mem f)).ports = s.ports ∧ (applyAct s (.mem f)).seqs = s.seqs ∧ (applyAct s (.mem f)).far = s.far ∧
    (applyAct s (.mem f)).tiles = s.tiles ∧ (applyAct s (.mem f)).drvs = s.drvs ∧ (applyAct s (.mem f)).drive = s.drive ∧
    (applyAct s (.mem f)).cal = s.cal ∧ (applyAct s (.mem f)).cmp = s.cmp ∧ (applyAct s (.mem f)).cad = s.cad ∧ (applyAct s (.mem f)).caddy = s.caddy ∧
    (applyAct s (.mem f)).pnx = s.pnx ∧ (applyAct s (.mem f)).flash = s.flash ∧ (applyAct s (.mem f)).tenants = s.tenants ∧
    (applyAct s (.mem f)).book = s.book ∧ (applyAct s (.mem f)).sys = s.sys ∧ (applyAct s (.mem f)).jtag = s.jtag ∧ (applyAct s (.mem f)).out = s.out ∧
    (applyAct s (.mem f)).dram = s.dram ∧ (applyAct s (.mem f)).sram = s.sram ∧ (applyAct s (.mem f)).host = s.host :=
  ⟨rfl, rfl, rfl, rfl, rfl, rfl, rfl, rfl, rfl, rfl, rfl, rfl, rfl, rfl, rfl, rfl, rfl, rfl, rfl, rfl, rfl, rfl, rfl, rfl, rfl, rfl, rfl, rfl, rfl, rfl, rfl, rfl, rfl, rfl⟩

@[simp] theorem applyAct_ddr (s : State) (f : DramUnit → DramUnit) :
    (applyAct s (.ddr f)).pending = s.pending ∧ (applyAct s (.ddr f)).free = s.free ∧ (applyAct s (.ddr f)).fuses = s.fuses ∧
    (applyAct s (.ddr f)).regs = s.regs ∧ (applyAct s (.ddr f)).lampRegs = s.lampRegs ∧ (applyAct s (.ddr f)).cur = s.cur ∧
    (applyAct s (.ddr f)).srcs = s.srcs ∧ (applyAct s (.ddr f)).ptp = s.ptp ∧ (applyAct s (.ddr f)).pvw = s.pvw ∧ (applyAct s (.ddr f)).stp = s.stp ∧
    (applyAct s (.ddr f)).engs = s.engs ∧ (applyAct s (.ddr f)).mem = s.mem ∧ (applyAct s (.ddr f)).ddr = f s.ddr ∧ (applyAct s (.ddr f)).pkr = s.pkr ∧
    (applyAct s (.ddr f)).ports = s.ports ∧ (applyAct s (.ddr f)).seqs = s.seqs ∧ (applyAct s (.ddr f)).far = s.far ∧
    (applyAct s (.ddr f)).tiles = s.tiles ∧ (applyAct s (.ddr f)).drvs = s.drvs ∧ (applyAct s (.ddr f)).drive = s.drive ∧
    (applyAct s (.ddr f)).cal = s.cal ∧ (applyAct s (.ddr f)).cmp = s.cmp ∧ (applyAct s (.ddr f)).cad = s.cad ∧ (applyAct s (.ddr f)).caddy = s.caddy ∧
    (applyAct s (.ddr f)).pnx = s.pnx ∧ (applyAct s (.ddr f)).flash = s.flash ∧ (applyAct s (.ddr f)).tenants = s.tenants ∧
    (applyAct s (.ddr f)).book = s.book ∧ (applyAct s (.ddr f)).sys = s.sys ∧ (applyAct s (.ddr f)).jtag = s.jtag ∧ (applyAct s (.ddr f)).out = s.out ∧
    (applyAct s (.ddr f)).dram = s.dram ∧ (applyAct s (.ddr f)).sram = s.sram ∧ (applyAct s (.ddr f)).host = s.host :=
  ⟨rfl, rfl, rfl, rfl, rfl, rfl, rfl, rfl, rfl, rfl, rfl, rfl, rfl, rfl, rfl, rfl, rfl, rfl, rfl, rfl, rfl, rfl, rfl, rfl, rfl, rfl, rfl, rfl, rfl, rfl, rfl, rfl, rfl, rfl⟩

@[simp] theorem applyAct_pkr (s : State) (f : Packer → Packer) :
    (applyAct s (.pkr f)).pending = s.pending ∧ (applyAct s (.pkr f)).free = s.free ∧ (applyAct s (.pkr f)).fuses = s.fuses ∧
    (applyAct s (.pkr f)).regs = s.regs ∧ (applyAct s (.pkr f)).lampRegs = s.lampRegs ∧ (applyAct s (.pkr f)).cur = s.cur ∧
    (applyAct s (.pkr f)).srcs = s.srcs ∧ (applyAct s (.pkr f)).ptp = s.ptp ∧ (applyAct s (.pkr f)).pvw = s.pvw ∧ (applyAct s (.pkr f)).stp = s.stp ∧
    (applyAct s (.pkr f)).engs = s.engs ∧ (applyAct s (.pkr f)).mem = s.mem ∧ (applyAct s (.pkr f)).ddr = s.ddr ∧ (applyAct s (.pkr f)).pkr = f s.pkr ∧
    (applyAct s (.pkr f)).ports = s.ports ∧ (applyAct s (.pkr f)).seqs = s.seqs ∧ (applyAct s (.pkr f)).far = s.far ∧
    (applyAct s (.pkr f)).tiles = s.tiles ∧ (applyAct s (.pkr f)).drvs = s.drvs ∧ (applyAct s (.pkr f)).drive = s.drive ∧
    (applyAct s (.pkr f)).cal = s.cal ∧ (applyAct s (.pkr f)).cmp = s.cmp ∧ (applyAct s (.pkr f)).cad = s.cad ∧ (applyAct s (.pkr f)).caddy = s.caddy ∧
    (applyAct s (.pkr f)).pnx = s.pnx ∧ (applyAct s (.pkr f)).flash = s.flash ∧ (applyAct s (.pkr f)).tenants = s.tenants ∧
    (applyAct s (.pkr f)).book = s.book ∧ (applyAct s (.pkr f)).sys = s.sys ∧ (applyAct s (.pkr f)).jtag = s.jtag ∧ (applyAct s (.pkr f)).out = s.out ∧
    (applyAct s (.pkr f)).dram = s.dram ∧ (applyAct s (.pkr f)).sram = s.sram ∧ (applyAct s (.pkr f)).host = s.host :=
  ⟨rfl, rfl, rfl, rfl, rfl, rfl, rfl, rfl, rfl, rfl, rfl, rfl, rfl, rfl, rfl, rfl, rfl, rfl, rfl, rfl, rfl, rfl, rfl, rfl, rfl, rfl, rfl, rfl, rfl, rfl, rfl, rfl, rfl, rfl⟩

@[simp] theorem applyAct_port (s : State) (i : Nat) (f : Port → Port) :
    (applyAct s (.port i f)).pending = s.pending ∧ (applyAct s (.port i f)).free = s.free ∧ (applyAct s (.port i f)).fuses = s.fuses ∧
    (applyAct s (.port i f)).regs = s.regs ∧ (applyAct s (.port i f)).lampRegs = s.lampRegs ∧ (applyAct s (.port i f)).cur = s.cur ∧
    (applyAct s (.port i f)).srcs = s.srcs ∧ (applyAct s (.port i f)).ptp = s.ptp ∧ (applyAct s (.port i f)).pvw = s.pvw ∧
    (applyAct s (.port i f)).stp = s.stp ∧ (applyAct s (.port i f)).engs = s.engs ∧ (applyAct s (.port i f)).mem = s.mem ∧
    (applyAct s (.port i f)).ddr = s.ddr ∧ (applyAct s (.port i f)).pkr = s.pkr ∧
    (applyAct s (.port i f)).ports = mapPut portDflt s.ports i (f (mapGet portDflt s.ports i)) ∧ (applyAct s (.port i f)).seqs = s.seqs ∧
    (applyAct s (.port i f)).far = s.far ∧ (applyAct s (.port i f)).tiles = s.tiles ∧ (applyAct s (.port i f)).drvs = s.drvs ∧
    (applyAct s (.port i f)).drive = s.drive ∧ (applyAct s (.port i f)).cal = s.cal ∧ (applyAct s (.port i f)).cmp = s.cmp ∧
    (applyAct s (.port i f)).cad = s.cad ∧ (applyAct s (.port i f)).caddy = s.caddy ∧ (applyAct s (.port i f)).pnx = s.pnx ∧
    (applyAct s (.port i f)).flash = s.flash ∧ (applyAct s (.port i f)).tenants = s.tenants ∧ (applyAct s (.port i f)).book = s.book ∧
    (applyAct s (.port i f)).sys = s.sys ∧ (applyAct s (.port i f)).jtag = s.jtag ∧ (applyAct s (.port i f)).out = s.out ∧
    (applyAct s (.port i f)).dram = s.dram ∧ (applyAct s (.port i f)).sram = s.sram ∧ (applyAct s (.port i f)).host = s.host :=
  ⟨rfl, rfl, rfl, rfl, rfl, rfl, rfl, rfl, rfl, rfl, rfl, rfl, rfl, rfl, rfl, rfl, rfl, rfl, rfl, rfl, rfl, rfl, rfl, rfl, rfl, rfl, rfl, rfl, rfl, rfl, rfl, rfl, rfl, rfl⟩

@[simp] theorem applyAct_bseq (s : State) (i : Nat) (f : BankSeq → BankSeq) :
    (applyAct s (.bseq i f)).pending = s.pending ∧ (applyAct s (.bseq i f)).free = s.free ∧ (applyAct s (.bseq i f)).fuses = s.fuses ∧
    (applyAct s (.bseq i f)).regs = s.regs ∧ (applyAct s (.bseq i f)).lampRegs = s.lampRegs ∧ (applyAct s (.bseq i f)).cur = s.cur ∧
    (applyAct s (.bseq i f)).srcs = s.srcs ∧ (applyAct s (.bseq i f)).ptp = s.ptp ∧ (applyAct s (.bseq i f)).pvw = s.pvw ∧
    (applyAct s (.bseq i f)).stp = s.stp ∧ (applyAct s (.bseq i f)).engs = s.engs ∧ (applyAct s (.bseq i f)).mem = s.mem ∧
    (applyAct s (.bseq i f)).ddr = s.ddr ∧ (applyAct s (.bseq i f)).pkr = s.pkr ∧ (applyAct s (.bseq i f)).ports = s.ports ∧
    (applyAct s (.bseq i f)).seqs = mapPut seqDflt s.seqs i (f (mapGet seqDflt s.seqs i)) ∧ (applyAct s (.bseq i f)).far = s.far ∧
    (applyAct s (.bseq i f)).tiles = s.tiles ∧ (applyAct s (.bseq i f)).drvs = s.drvs ∧ (applyAct s (.bseq i f)).drive = s.drive ∧
    (applyAct s (.bseq i f)).cal = s.cal ∧ (applyAct s (.bseq i f)).cmp = s.cmp ∧ (applyAct s (.bseq i f)).cad = s.cad ∧
    (applyAct s (.bseq i f)).caddy = s.caddy ∧ (applyAct s (.bseq i f)).pnx = s.pnx ∧ (applyAct s (.bseq i f)).flash = s.flash ∧
    (applyAct s (.bseq i f)).tenants = s.tenants ∧ (applyAct s (.bseq i f)).book = s.book ∧ (applyAct s (.bseq i f)).sys = s.sys ∧
    (applyAct s (.bseq i f)).jtag = s.jtag ∧ (applyAct s (.bseq i f)).out = s.out ∧ (applyAct s (.bseq i f)).dram = s.dram ∧
    (applyAct s (.bseq i f)).sram = s.sram ∧ (applyAct s (.bseq i f)).host = s.host :=
  ⟨rfl, rfl, rfl, rfl, rfl, rfl, rfl, rfl, rfl, rfl, rfl, rfl, rfl, rfl, rfl, rfl, rfl, rfl, rfl, rfl, rfl, rfl, rfl, rfl, rfl, rfl, rfl, rfl, rfl, rfl, rfl, rfl, rfl, rfl⟩

@[simp] theorem applyAct_far (s : State) (i : Nat) (f : FarEnd → FarEnd) :
    (applyAct s (.far i f)).pending = s.pending ∧ (applyAct s (.far i f)).free = s.free ∧ (applyAct s (.far i f)).fuses = s.fuses ∧
    (applyAct s (.far i f)).regs = s.regs ∧ (applyAct s (.far i f)).lampRegs = s.lampRegs ∧ (applyAct s (.far i f)).cur = s.cur ∧
    (applyAct s (.far i f)).srcs = s.srcs ∧ (applyAct s (.far i f)).ptp = s.ptp ∧ (applyAct s (.far i f)).pvw = s.pvw ∧
    (applyAct s (.far i f)).stp = s.stp ∧ (applyAct s (.far i f)).engs = s.engs ∧ (applyAct s (.far i f)).mem = s.mem ∧
    (applyAct s (.far i f)).ddr = s.ddr ∧ (applyAct s (.far i f)).pkr = s.pkr ∧ (applyAct s (.far i f)).ports = s.ports ∧
    (applyAct s (.far i f)).seqs = s.seqs ∧ (applyAct s (.far i f)).far = mapPut farDflt s.far i (f (mapGet farDflt s.far i)) ∧
    (applyAct s (.far i f)).tiles = s.tiles ∧ (applyAct s (.far i f)).drvs = s.drvs ∧ (applyAct s (.far i f)).drive = s.drive ∧
    (applyAct s (.far i f)).cal = s.cal ∧ (applyAct s (.far i f)).cmp = s.cmp ∧ (applyAct s (.far i f)).cad = s.cad ∧
    (applyAct s (.far i f)).caddy = s.caddy ∧ (applyAct s (.far i f)).pnx = s.pnx ∧ (applyAct s (.far i f)).flash = s.flash ∧
    (applyAct s (.far i f)).tenants = s.tenants ∧ (applyAct s (.far i f)).book = s.book ∧ (applyAct s (.far i f)).sys = s.sys ∧
    (applyAct s (.far i f)).jtag = s.jtag ∧ (applyAct s (.far i f)).out = s.out ∧ (applyAct s (.far i f)).dram = s.dram ∧
    (applyAct s (.far i f)).sram = s.sram ∧ (applyAct s (.far i f)).host = s.host :=
  ⟨rfl, rfl, rfl, rfl, rfl, rfl, rfl, rfl, rfl, rfl, rfl, rfl, rfl, rfl, rfl, rfl, rfl, rfl, rfl, rfl, rfl, rfl, rfl, rfl, rfl, rfl, rfl, rfl, rfl, rfl, rfl, rfl, rfl, rfl⟩

@[simp] theorem applyAct_tile (s : State) (i : Nat) (f : TilePwr → TilePwr) :
    (applyAct s (.tile i f)).pending = s.pending ∧ (applyAct s (.tile i f)).free = s.free ∧ (applyAct s (.tile i f)).fuses = s.fuses ∧
    (applyAct s (.tile i f)).regs = s.regs ∧ (applyAct s (.tile i f)).lampRegs = s.lampRegs ∧ (applyAct s (.tile i f)).cur = s.cur ∧
    (applyAct s (.tile i f)).srcs = s.srcs ∧ (applyAct s (.tile i f)).ptp = s.ptp ∧ (applyAct s (.tile i f)).pvw = s.pvw ∧
    (applyAct s (.tile i f)).stp = s.stp ∧ (applyAct s (.tile i f)).engs = s.engs ∧ (applyAct s (.tile i f)).mem = s.mem ∧
    (applyAct s (.tile i f)).ddr = s.ddr ∧ (applyAct s (.tile i f)).pkr = s.pkr ∧ (applyAct s (.tile i f)).ports = s.ports ∧
    (applyAct s (.tile i f)).seqs = s.seqs ∧ (applyAct s (.tile i f)).far = s.far ∧
    (applyAct s (.tile i f)).tiles = mapPut tileDflt s.tiles i (f (mapGet tileDflt s.tiles i)) ∧ (applyAct s (.tile i f)).drvs = s.drvs ∧
    (applyAct s (.tile i f)).drive = s.drive ∧ (applyAct s (.tile i f)).cal = s.cal ∧ (applyAct s (.tile i f)).cmp = s.cmp ∧
    (applyAct s (.tile i f)).cad = s.cad ∧ (applyAct s (.tile i f)).caddy = s.caddy ∧ (applyAct s (.tile i f)).pnx = s.pnx ∧
    (applyAct s (.tile i f)).flash = s.flash ∧ (applyAct s (.tile i f)).tenants = s.tenants ∧ (applyAct s (.tile i f)).book = s.book ∧
    (applyAct s (.tile i f)).sys = s.sys ∧ (applyAct s (.tile i f)).jtag = s.jtag ∧ (applyAct s (.tile i f)).out = s.out ∧
    (applyAct s (.tile i f)).dram = s.dram ∧ (applyAct s (.tile i f)).sram = s.sram ∧ (applyAct s (.tile i f)).host = s.host :=
  ⟨rfl, rfl, rfl, rfl, rfl, rfl, rfl, rfl, rfl, rfl, rfl, rfl, rfl, rfl, rfl, rfl, rfl, rfl, rfl, rfl, rfl, rfl, rfl, rfl, rfl, rfl, rfl, rfl, rfl, rfl, rfl, rfl, rfl, rfl⟩

@[simp] theorem applyAct_drv (s : State) (i : Nat) (f : Driver → Driver) :
    (applyAct s (.drv i f)).pending = s.pending ∧ (applyAct s (.drv i f)).free = s.free ∧ (applyAct s (.drv i f)).fuses = s.fuses ∧
    (applyAct s (.drv i f)).regs = s.regs ∧ (applyAct s (.drv i f)).lampRegs = s.lampRegs ∧ (applyAct s (.drv i f)).cur = s.cur ∧
    (applyAct s (.drv i f)).srcs = s.srcs ∧ (applyAct s (.drv i f)).ptp = s.ptp ∧ (applyAct s (.drv i f)).pvw = s.pvw ∧
    (applyAct s (.drv i f)).stp = s.stp ∧ (applyAct s (.drv i f)).engs = s.engs ∧ (applyAct s (.drv i f)).mem = s.mem ∧
    (applyAct s (.drv i f)).ddr = s.ddr ∧ (applyAct s (.drv i f)).pkr = s.pkr ∧ (applyAct s (.drv i f)).ports = s.ports ∧
    (applyAct s (.drv i f)).seqs = s.seqs ∧ (applyAct s (.drv i f)).far = s.far ∧ (applyAct s (.drv i f)).tiles = s.tiles ∧
    (applyAct s (.drv i f)).drvs = mapPut drvDflt s.drvs i (f (mapGet drvDflt s.drvs i)) ∧ (applyAct s (.drv i f)).drive = s.drive ∧
    (applyAct s (.drv i f)).cal = s.cal ∧ (applyAct s (.drv i f)).cmp = s.cmp ∧ (applyAct s (.drv i f)).cad = s.cad ∧
    (applyAct s (.drv i f)).caddy = s.caddy ∧ (applyAct s (.drv i f)).pnx = s.pnx ∧ (applyAct s (.drv i f)).flash = s.flash ∧
    (applyAct s (.drv i f)).tenants = s.tenants ∧ (applyAct s (.drv i f)).book = s.book ∧ (applyAct s (.drv i f)).sys = s.sys ∧
    (applyAct s (.drv i f)).jtag = s.jtag ∧ (applyAct s (.drv i f)).out = s.out ∧ (applyAct s (.drv i f)).dram = s.dram ∧
    (applyAct s (.drv i f)).sram = s.sram ∧ (applyAct s (.drv i f)).host = s.host :=
  ⟨rfl, rfl, rfl, rfl, rfl, rfl, rfl, rfl, rfl, rfl, rfl, rfl, rfl, rfl, rfl, rfl, rfl, rfl, rfl, rfl, rfl, rfl, rfl, rfl, rfl, rfl, rfl, rfl, rfl, rfl, rfl, rfl, rfl, rfl⟩

@[simp] theorem applyAct_drive (s : State) (f : Drive → Drive) :
    (applyAct s (.drive f)).pending = s.pending ∧ (applyAct s (.drive f)).free = s.free ∧ (applyAct s (.drive f)).fuses = s.fuses ∧
    (applyAct s (.drive f)).regs = s.regs ∧ (applyAct s (.drive f)).lampRegs = s.lampRegs ∧ (applyAct s (.drive f)).cur = s.cur ∧
    (applyAct s (.drive f)).srcs = s.srcs ∧ (applyAct s (.drive f)).ptp = s.ptp ∧ (applyAct s (.drive f)).pvw = s.pvw ∧
    (applyAct s (.drive f)).stp = s.stp ∧ (applyAct s (.drive f)).engs = s.engs ∧ (applyAct s (.drive f)).mem = s.mem ∧
    (applyAct s (.drive f)).ddr = s.ddr ∧ (applyAct s (.drive f)).pkr = s.pkr ∧ (applyAct s (.drive f)).ports = s.ports ∧
    (applyAct s (.drive f)).seqs = s.seqs ∧ (applyAct s (.drive f)).far = s.far ∧ (applyAct s (.drive f)).tiles = s.tiles ∧
    (applyAct s (.drive f)).drvs = s.drvs ∧ (applyAct s (.drive f)).drive = f s.drive ∧ (applyAct s (.drive f)).cal = s.cal ∧
    (applyAct s (.drive f)).cmp = s.cmp ∧ (applyAct s (.drive f)).cad = s.cad ∧ (applyAct s (.drive f)).caddy = s.caddy ∧
    (applyAct s (.drive f)).pnx = s.pnx ∧ (applyAct s (.drive f)).flash = s.flash ∧ (applyAct s (.drive f)).tenants = s.tenants ∧
    (applyAct s (.drive f)).book = s.book ∧ (applyAct s (.drive f)).sys = s.sys ∧ (applyAct s (.drive f)).jtag = s.jtag ∧
    (applyAct s (.drive f)).out = s.out ∧ (applyAct s (.drive f)).dram = s.dram ∧ (applyAct s (.drive f)).sram = s.sram ∧
    (applyAct s (.drive f)).host = s.host :=
  ⟨rfl, rfl, rfl, rfl, rfl, rfl, rfl, rfl, rfl, rfl, rfl, rfl, rfl, rfl, rfl, rfl, rfl, rfl, rfl, rfl, rfl, rfl, rfl, rfl, rfl, rfl, rfl, rfl, rfl, rfl, rfl, rfl, rfl, rfl⟩

@[simp] theorem applyAct_cal (s : State) (f : Cal → Cal) :
    (applyAct s (.cal f)).pending = s.pending ∧ (applyAct s (.cal f)).free = s.free ∧ (applyAct s (.cal f)).fuses = s.fuses ∧
    (applyAct s (.cal f)).regs = s.regs ∧ (applyAct s (.cal f)).lampRegs = s.lampRegs ∧ (applyAct s (.cal f)).cur = s.cur ∧
    (applyAct s (.cal f)).srcs = s.srcs ∧ (applyAct s (.cal f)).ptp = s.ptp ∧ (applyAct s (.cal f)).pvw = s.pvw ∧ (applyAct s (.cal f)).stp = s.stp ∧
    (applyAct s (.cal f)).engs = s.engs ∧ (applyAct s (.cal f)).mem = s.mem ∧ (applyAct s (.cal f)).ddr = s.ddr ∧ (applyAct s (.cal f)).pkr = s.pkr ∧
    (applyAct s (.cal f)).ports = s.ports ∧ (applyAct s (.cal f)).seqs = s.seqs ∧ (applyAct s (.cal f)).far = s.far ∧
    (applyAct s (.cal f)).tiles = s.tiles ∧ (applyAct s (.cal f)).drvs = s.drvs ∧ (applyAct s (.cal f)).drive = s.drive ∧
    (applyAct s (.cal f)).cal = f s.cal ∧ (applyAct s (.cal f)).cmp = s.cmp ∧ (applyAct s (.cal f)).cad = s.cad ∧
    (applyAct s (.cal f)).caddy = s.caddy ∧ (applyAct s (.cal f)).pnx = s.pnx ∧ (applyAct s (.cal f)).flash = s.flash ∧
    (applyAct s (.cal f)).tenants = s.tenants ∧ (applyAct s (.cal f)).book = s.book ∧ (applyAct s (.cal f)).sys = s.sys ∧
    (applyAct s (.cal f)).jtag = s.jtag ∧ (applyAct s (.cal f)).out = s.out ∧ (applyAct s (.cal f)).dram = s.dram ∧
    (applyAct s (.cal f)).sram = s.sram ∧ (applyAct s (.cal f)).host = s.host :=
  ⟨rfl, rfl, rfl, rfl, rfl, rfl, rfl, rfl, rfl, rfl, rfl, rfl, rfl, rfl, rfl, rfl, rfl, rfl, rfl, rfl, rfl, rfl, rfl, rfl, rfl, rfl, rfl, rfl, rfl, rfl, rfl, rfl, rfl, rfl⟩

@[simp] theorem applyAct_cmp (s : State) (f : Company → Company) :
    (applyAct s (.cmp f)).pending = s.pending ∧ (applyAct s (.cmp f)).free = s.free ∧ (applyAct s (.cmp f)).fuses = s.fuses ∧
    (applyAct s (.cmp f)).regs = s.regs ∧ (applyAct s (.cmp f)).lampRegs = s.lampRegs ∧ (applyAct s (.cmp f)).cur = s.cur ∧
    (applyAct s (.cmp f)).srcs = s.srcs ∧ (applyAct s (.cmp f)).ptp = s.ptp ∧ (applyAct s (.cmp f)).pvw = s.pvw ∧ (applyAct s (.cmp f)).stp = s.stp ∧
    (applyAct s (.cmp f)).engs = s.engs ∧ (applyAct s (.cmp f)).mem = s.mem ∧ (applyAct s (.cmp f)).ddr = s.ddr ∧ (applyAct s (.cmp f)).pkr = s.pkr ∧
    (applyAct s (.cmp f)).ports = s.ports ∧ (applyAct s (.cmp f)).seqs = s.seqs ∧ (applyAct s (.cmp f)).far = s.far ∧
    (applyAct s (.cmp f)).tiles = s.tiles ∧ (applyAct s (.cmp f)).drvs = s.drvs ∧ (applyAct s (.cmp f)).drive = s.drive ∧
    (applyAct s (.cmp f)).cal = s.cal ∧ (applyAct s (.cmp f)).cmp = f s.cmp ∧ (applyAct s (.cmp f)).cad = s.cad ∧
    (applyAct s (.cmp f)).caddy = s.caddy ∧ (applyAct s (.cmp f)).pnx = s.pnx ∧ (applyAct s (.cmp f)).flash = s.flash ∧
    (applyAct s (.cmp f)).tenants = s.tenants ∧ (applyAct s (.cmp f)).book = s.book ∧ (applyAct s (.cmp f)).sys = s.sys ∧
    (applyAct s (.cmp f)).jtag = s.jtag ∧ (applyAct s (.cmp f)).out = s.out ∧ (applyAct s (.cmp f)).dram = s.dram ∧
    (applyAct s (.cmp f)).sram = s.sram ∧ (applyAct s (.cmp f)).host = s.host :=
  ⟨rfl, rfl, rfl, rfl, rfl, rfl, rfl, rfl, rfl, rfl, rfl, rfl, rfl, rfl, rfl, rfl, rfl, rfl, rfl, rfl, rfl, rfl, rfl, rfl, rfl, rfl, rfl, rfl, rfl, rfl, rfl, rfl, rfl, rfl⟩

@[simp] theorem applyAct_cad (s : State) (f : Caddy → Caddy) :
    (applyAct s (.cad f)).pending = s.pending ∧ (applyAct s (.cad f)).free = s.free ∧ (applyAct s (.cad f)).fuses = s.fuses ∧
    (applyAct s (.cad f)).regs = s.regs ∧ (applyAct s (.cad f)).lampRegs = s.lampRegs ∧ (applyAct s (.cad f)).cur = s.cur ∧
    (applyAct s (.cad f)).srcs = s.srcs ∧ (applyAct s (.cad f)).ptp = s.ptp ∧ (applyAct s (.cad f)).pvw = s.pvw ∧ (applyAct s (.cad f)).stp = s.stp ∧
    (applyAct s (.cad f)).engs = s.engs ∧ (applyAct s (.cad f)).mem = s.mem ∧ (applyAct s (.cad f)).ddr = s.ddr ∧ (applyAct s (.cad f)).pkr = s.pkr ∧
    (applyAct s (.cad f)).ports = s.ports ∧ (applyAct s (.cad f)).seqs = s.seqs ∧ (applyAct s (.cad f)).far = s.far ∧
    (applyAct s (.cad f)).tiles = s.tiles ∧ (applyAct s (.cad f)).drvs = s.drvs ∧ (applyAct s (.cad f)).drive = s.drive ∧
    (applyAct s (.cad f)).cal = s.cal ∧ (applyAct s (.cad f)).cmp = s.cmp ∧ (applyAct s (.cad f)).cad = f s.cad ∧
    (applyAct s (.cad f)).caddy = s.caddy ∧ (applyAct s (.cad f)).pnx = s.pnx ∧ (applyAct s (.cad f)).flash = s.flash ∧
    (applyAct s (.cad f)).tenants = s.tenants ∧ (applyAct s (.cad f)).book = s.book ∧ (applyAct s (.cad f)).sys = s.sys ∧
    (applyAct s (.cad f)).jtag = s.jtag ∧ (applyAct s (.cad f)).out = s.out ∧ (applyAct s (.cad f)).dram = s.dram ∧
    (applyAct s (.cad f)).sram = s.sram ∧ (applyAct s (.cad f)).host = s.host :=
  ⟨rfl, rfl, rfl, rfl, rfl, rfl, rfl, rfl, rfl, rfl, rfl, rfl, rfl, rfl, rfl, rfl, rfl, rfl, rfl, rfl, rfl, rfl, rfl, rfl, rfl, rfl, rfl, rfl, rfl, rfl, rfl, rfl, rfl, rfl⟩

@[simp] theorem applyAct_pnx (s : State) (f : Loader → Loader) :
    (applyAct s (.pnx f)).pending = s.pending ∧ (applyAct s (.pnx f)).free = s.free ∧ (applyAct s (.pnx f)).fuses = s.fuses ∧
    (applyAct s (.pnx f)).regs = s.regs ∧ (applyAct s (.pnx f)).lampRegs = s.lampRegs ∧ (applyAct s (.pnx f)).cur = s.cur ∧
    (applyAct s (.pnx f)).srcs = s.srcs ∧ (applyAct s (.pnx f)).ptp = s.ptp ∧ (applyAct s (.pnx f)).pvw = s.pvw ∧ (applyAct s (.pnx f)).stp = s.stp ∧
    (applyAct s (.pnx f)).engs = s.engs ∧ (applyAct s (.pnx f)).mem = s.mem ∧ (applyAct s (.pnx f)).ddr = s.ddr ∧ (applyAct s (.pnx f)).pkr = s.pkr ∧
    (applyAct s (.pnx f)).ports = s.ports ∧ (applyAct s (.pnx f)).seqs = s.seqs ∧ (applyAct s (.pnx f)).far = s.far ∧
    (applyAct s (.pnx f)).tiles = s.tiles ∧ (applyAct s (.pnx f)).drvs = s.drvs ∧ (applyAct s (.pnx f)).drive = s.drive ∧
    (applyAct s (.pnx f)).cal = s.cal ∧ (applyAct s (.pnx f)).cmp = s.cmp ∧ (applyAct s (.pnx f)).cad = s.cad ∧ (applyAct s (.pnx f)).caddy = s.caddy ∧
    (applyAct s (.pnx f)).pnx = f s.pnx ∧ (applyAct s (.pnx f)).flash = s.flash ∧ (applyAct s (.pnx f)).tenants = s.tenants ∧
    (applyAct s (.pnx f)).book = s.book ∧ (applyAct s (.pnx f)).sys = s.sys ∧ (applyAct s (.pnx f)).jtag = s.jtag ∧ (applyAct s (.pnx f)).out = s.out ∧
    (applyAct s (.pnx f)).dram = s.dram ∧ (applyAct s (.pnx f)).sram = s.sram ∧ (applyAct s (.pnx f)).host = s.host :=
  ⟨rfl, rfl, rfl, rfl, rfl, rfl, rfl, rfl, rfl, rfl, rfl, rfl, rfl, rfl, rfl, rfl, rfl, rfl, rfl, rfl, rfl, rfl, rfl, rfl, rfl, rfl, rfl, rfl, rfl, rfl, rfl, rfl, rfl, rfl⟩

@[simp] theorem applyAct_dram (s : State) (a : Nat) (bs : List Byte) :
    (applyAct s (.dram a bs)).pending = s.pending ∧ (applyAct s (.dram a bs)).free = s.free ∧ (applyAct s (.dram a bs)).fuses = s.fuses ∧
    (applyAct s (.dram a bs)).regs = s.regs ∧ (applyAct s (.dram a bs)).lampRegs = s.lampRegs ∧ (applyAct s (.dram a bs)).cur = s.cur ∧
    (applyAct s (.dram a bs)).srcs = s.srcs ∧ (applyAct s (.dram a bs)).ptp = s.ptp ∧ (applyAct s (.dram a bs)).pvw = s.pvw ∧
    (applyAct s (.dram a bs)).stp = s.stp ∧ (applyAct s (.dram a bs)).engs = s.engs ∧ (applyAct s (.dram a bs)).mem = s.mem ∧
    (applyAct s (.dram a bs)).ddr = s.ddr ∧ (applyAct s (.dram a bs)).pkr = s.pkr ∧ (applyAct s (.dram a bs)).ports = s.ports ∧
    (applyAct s (.dram a bs)).seqs = s.seqs ∧ (applyAct s (.dram a bs)).far = s.far ∧ (applyAct s (.dram a bs)).tiles = s.tiles ∧
    (applyAct s (.dram a bs)).drvs = s.drvs ∧ (applyAct s (.dram a bs)).drive = s.drive ∧ (applyAct s (.dram a bs)).cal = s.cal ∧
    (applyAct s (.dram a bs)).cmp = s.cmp ∧ (applyAct s (.dram a bs)).cad = s.cad ∧ (applyAct s (.dram a bs)).caddy = s.caddy ∧
    (applyAct s (.dram a bs)).pnx = s.pnx ∧ (applyAct s (.dram a bs)).flash = s.flash ∧ (applyAct s (.dram a bs)).tenants = s.tenants ∧
    (applyAct s (.dram a bs)).book = s.book ∧ (applyAct s (.dram a bs)).sys = s.sys ∧ (applyAct s (.dram a bs)).jtag = s.jtag ∧
    (applyAct s (.dram a bs)).out = s.out ∧ (applyAct s (.dram a bs)).dram = mapPuts zeroByte s.dram a bs ∧ (applyAct s (.dram a bs)).sram = s.sram ∧
    (applyAct s (.dram a bs)).host = s.host :=
  ⟨rfl, rfl, rfl, rfl, rfl, rfl, rfl, rfl, rfl, rfl, rfl, rfl, rfl, rfl, rfl, rfl, rfl, rfl, rfl, rfl, rfl, rfl, rfl, rfl, rfl, rfl, rfl, rfl, rfl, rfl, rfl, rfl, rfl, rfl⟩

@[simp] theorem applyAct_dramDrop (s : State) (a n : Nat) :
    (applyAct s (.dramDrop a n)).pending = s.pending ∧ (applyAct s (.dramDrop a n)).free = s.free ∧ (applyAct s (.dramDrop a n)).fuses = s.fuses ∧
    (applyAct s (.dramDrop a n)).regs = s.regs ∧ (applyAct s (.dramDrop a n)).lampRegs = s.lampRegs ∧ (applyAct s (.dramDrop a n)).cur = s.cur ∧
    (applyAct s (.dramDrop a n)).srcs = s.srcs ∧ (applyAct s (.dramDrop a n)).ptp = s.ptp ∧ (applyAct s (.dramDrop a n)).pvw = s.pvw ∧
    (applyAct s (.dramDrop a n)).stp = s.stp ∧ (applyAct s (.dramDrop a n)).engs = s.engs ∧ (applyAct s (.dramDrop a n)).mem = s.mem ∧
    (applyAct s (.dramDrop a n)).ddr = s.ddr ∧ (applyAct s (.dramDrop a n)).pkr = s.pkr ∧ (applyAct s (.dramDrop a n)).ports = s.ports ∧
    (applyAct s (.dramDrop a n)).seqs = s.seqs ∧ (applyAct s (.dramDrop a n)).far = s.far ∧ (applyAct s (.dramDrop a n)).tiles = s.tiles ∧
    (applyAct s (.dramDrop a n)).drvs = s.drvs ∧ (applyAct s (.dramDrop a n)).drive = s.drive ∧ (applyAct s (.dramDrop a n)).cal = s.cal ∧
    (applyAct s (.dramDrop a n)).cmp = s.cmp ∧ (applyAct s (.dramDrop a n)).cad = s.cad ∧ (applyAct s (.dramDrop a n)).caddy = s.caddy ∧
    (applyAct s (.dramDrop a n)).pnx = s.pnx ∧ (applyAct s (.dramDrop a n)).flash = s.flash ∧ (applyAct s (.dramDrop a n)).tenants = s.tenants ∧
    (applyAct s (.dramDrop a n)).book = s.book ∧ (applyAct s (.dramDrop a n)).sys = s.sys ∧ (applyAct s (.dramDrop a n)).jtag = s.jtag ∧
    (applyAct s (.dramDrop a n)).out = s.out ∧ (applyAct s (.dramDrop a n)).dram = mapDrop s.dram a n ∧ (applyAct s (.dramDrop a n)).sram = s.sram ∧
    (applyAct s (.dramDrop a n)).host = s.host :=
  ⟨rfl, rfl, rfl, rfl, rfl, rfl, rfl, rfl, rfl, rfl, rfl, rfl, rfl, rfl, rfl, rfl, rfl, rfl, rfl, rfl, rfl, rfl, rfl, rfl, rfl, rfl, rfl, rfl, rfl, rfl, rfl, rfl, rfl, rfl⟩

@[simp] theorem applyAct_sram (s : State) (a : Nat) (bs : List Byte) :
    (applyAct s (.sram a bs)).pending = s.pending ∧ (applyAct s (.sram a bs)).free = s.free ∧ (applyAct s (.sram a bs)).fuses = s.fuses ∧
    (applyAct s (.sram a bs)).regs = s.regs ∧ (applyAct s (.sram a bs)).lampRegs = s.lampRegs ∧ (applyAct s (.sram a bs)).cur = s.cur ∧
    (applyAct s (.sram a bs)).srcs = s.srcs ∧ (applyAct s (.sram a bs)).ptp = s.ptp ∧ (applyAct s (.sram a bs)).pvw = s.pvw ∧
    (applyAct s (.sram a bs)).stp = s.stp ∧ (applyAct s (.sram a bs)).engs = s.engs ∧ (applyAct s (.sram a bs)).mem = s.mem ∧
    (applyAct s (.sram a bs)).ddr = s.ddr ∧ (applyAct s (.sram a bs)).pkr = s.pkr ∧ (applyAct s (.sram a bs)).ports = s.ports ∧
    (applyAct s (.sram a bs)).seqs = s.seqs ∧ (applyAct s (.sram a bs)).far = s.far ∧ (applyAct s (.sram a bs)).tiles = s.tiles ∧
    (applyAct s (.sram a bs)).drvs = s.drvs ∧ (applyAct s (.sram a bs)).drive = s.drive ∧ (applyAct s (.sram a bs)).cal = s.cal ∧
    (applyAct s (.sram a bs)).cmp = s.cmp ∧ (applyAct s (.sram a bs)).cad = s.cad ∧ (applyAct s (.sram a bs)).caddy = s.caddy ∧
    (applyAct s (.sram a bs)).pnx = s.pnx ∧ (applyAct s (.sram a bs)).flash = s.flash ∧ (applyAct s (.sram a bs)).tenants = s.tenants ∧
    (applyAct s (.sram a bs)).book = s.book ∧ (applyAct s (.sram a bs)).sys = s.sys ∧ (applyAct s (.sram a bs)).jtag = s.jtag ∧
    (applyAct s (.sram a bs)).out = s.out ∧ (applyAct s (.sram a bs)).dram = s.dram ∧ (applyAct s (.sram a bs)).sram = mapPuts zeroByte s.sram a bs ∧
    (applyAct s (.sram a bs)).host = s.host :=
  ⟨rfl, rfl, rfl, rfl, rfl, rfl, rfl, rfl, rfl, rfl, rfl, rfl, rfl, rfl, rfl, rfl, rfl, rfl, rfl, rfl, rfl, rfl, rfl, rfl, rfl, rfl, rfl, rfl, rfl, rfl, rfl, rfl, rfl, rfl⟩

@[simp] theorem applyAct_sramDrop (s : State) (a n : Nat) :
    (applyAct s (.sramDrop a n)).pending = s.pending ∧ (applyAct s (.sramDrop a n)).free = s.free ∧ (applyAct s (.sramDrop a n)).fuses = s.fuses ∧
    (applyAct s (.sramDrop a n)).regs = s.regs ∧ (applyAct s (.sramDrop a n)).lampRegs = s.lampRegs ∧ (applyAct s (.sramDrop a n)).cur = s.cur ∧
    (applyAct s (.sramDrop a n)).srcs = s.srcs ∧ (applyAct s (.sramDrop a n)).ptp = s.ptp ∧ (applyAct s (.sramDrop a n)).pvw = s.pvw ∧
    (applyAct s (.sramDrop a n)).stp = s.stp ∧ (applyAct s (.sramDrop a n)).engs = s.engs ∧ (applyAct s (.sramDrop a n)).mem = s.mem ∧
    (applyAct s (.sramDrop a n)).ddr = s.ddr ∧ (applyAct s (.sramDrop a n)).pkr = s.pkr ∧ (applyAct s (.sramDrop a n)).ports = s.ports ∧
    (applyAct s (.sramDrop a n)).seqs = s.seqs ∧ (applyAct s (.sramDrop a n)).far = s.far ∧ (applyAct s (.sramDrop a n)).tiles = s.tiles ∧
    (applyAct s (.sramDrop a n)).drvs = s.drvs ∧ (applyAct s (.sramDrop a n)).drive = s.drive ∧ (applyAct s (.sramDrop a n)).cal = s.cal ∧
    (applyAct s (.sramDrop a n)).cmp = s.cmp ∧ (applyAct s (.sramDrop a n)).cad = s.cad ∧ (applyAct s (.sramDrop a n)).caddy = s.caddy ∧
    (applyAct s (.sramDrop a n)).pnx = s.pnx ∧ (applyAct s (.sramDrop a n)).flash = s.flash ∧ (applyAct s (.sramDrop a n)).tenants = s.tenants ∧
    (applyAct s (.sramDrop a n)).book = s.book ∧ (applyAct s (.sramDrop a n)).sys = s.sys ∧ (applyAct s (.sramDrop a n)).jtag = s.jtag ∧
    (applyAct s (.sramDrop a n)).out = s.out ∧ (applyAct s (.sramDrop a n)).dram = s.dram ∧ (applyAct s (.sramDrop a n)).sram = mapDrop s.sram a n ∧
    (applyAct s (.sramDrop a n)).host = s.host :=
  ⟨rfl, rfl, rfl, rfl, rfl, rfl, rfl, rfl, rfl, rfl, rfl, rfl, rfl, rfl, rfl, rfl, rfl, rfl, rfl, rfl, rfl, rfl, rfl, rfl, rfl, rfl, rfl, rfl, rfl, rfl, rfl, rfl, rfl, rfl⟩

@[simp] theorem applyAct_host (s : State) (a : Nat) (bs : List Byte) :
    (applyAct s (.host a bs)).pending = s.pending ∧ (applyAct s (.host a bs)).free = s.free ∧ (applyAct s (.host a bs)).fuses = s.fuses ∧
    (applyAct s (.host a bs)).regs = s.regs ∧ (applyAct s (.host a bs)).lampRegs = s.lampRegs ∧ (applyAct s (.host a bs)).cur = s.cur ∧
    (applyAct s (.host a bs)).srcs = s.srcs ∧ (applyAct s (.host a bs)).ptp = s.ptp ∧ (applyAct s (.host a bs)).pvw = s.pvw ∧
    (applyAct s (.host a bs)).stp = s.stp ∧ (applyAct s (.host a bs)).engs = s.engs ∧ (applyAct s (.host a bs)).mem = s.mem ∧
    (applyAct s (.host a bs)).ddr = s.ddr ∧ (applyAct s (.host a bs)).pkr = s.pkr ∧ (applyAct s (.host a bs)).ports = s.ports ∧
    (applyAct s (.host a bs)).seqs = s.seqs ∧ (applyAct s (.host a bs)).far = s.far ∧ (applyAct s (.host a bs)).tiles = s.tiles ∧
    (applyAct s (.host a bs)).drvs = s.drvs ∧ (applyAct s (.host a bs)).drive = s.drive ∧ (applyAct s (.host a bs)).cal = s.cal ∧
    (applyAct s (.host a bs)).cmp = s.cmp ∧ (applyAct s (.host a bs)).cad = s.cad ∧ (applyAct s (.host a bs)).caddy = s.caddy ∧
    (applyAct s (.host a bs)).pnx = s.pnx ∧ (applyAct s (.host a bs)).flash = s.flash ∧ (applyAct s (.host a bs)).tenants = s.tenants ∧
    (applyAct s (.host a bs)).book = s.book ∧ (applyAct s (.host a bs)).sys = s.sys ∧ (applyAct s (.host a bs)).jtag = s.jtag ∧
    (applyAct s (.host a bs)).out = s.out ∧ (applyAct s (.host a bs)).dram = s.dram ∧ (applyAct s (.host a bs)).sram = s.sram ∧
    (applyAct s (.host a bs)).host = mapPuts zeroByte s.host a bs :=
  ⟨rfl, rfl, rfl, rfl, rfl, rfl, rfl, rfl, rfl, rfl, rfl, rfl, rfl, rfl, rfl, rfl, rfl, rfl, rfl, rfl, rfl, rfl, rfl, rfl, rfl, rfl, rfl, rfl, rfl, rfl, rfl, rfl, rfl, rfl⟩

@[simp] theorem applyAct_hostDrop (s : State) (a n : Nat) :
    (applyAct s (.hostDrop a n)).pending = s.pending ∧ (applyAct s (.hostDrop a n)).free = s.free ∧ (applyAct s (.hostDrop a n)).fuses = s.fuses ∧
    (applyAct s (.hostDrop a n)).regs = s.regs ∧ (applyAct s (.hostDrop a n)).lampRegs = s.lampRegs ∧ (applyAct s (.hostDrop a n)).cur = s.cur ∧
    (applyAct s (.hostDrop a n)).srcs = s.srcs ∧ (applyAct s (.hostDrop a n)).ptp = s.ptp ∧ (applyAct s (.hostDrop a n)).pvw = s.pvw ∧
    (applyAct s (.hostDrop a n)).stp = s.stp ∧ (applyAct s (.hostDrop a n)).engs = s.engs ∧ (applyAct s (.hostDrop a n)).mem = s.mem ∧
    (applyAct s (.hostDrop a n)).ddr = s.ddr ∧ (applyAct s (.hostDrop a n)).pkr = s.pkr ∧ (applyAct s (.hostDrop a n)).ports = s.ports ∧
    (applyAct s (.hostDrop a n)).seqs = s.seqs ∧ (applyAct s (.hostDrop a n)).far = s.far ∧ (applyAct s (.hostDrop a n)).tiles = s.tiles ∧
    (applyAct s (.hostDrop a n)).drvs = s.drvs ∧ (applyAct s (.hostDrop a n)).drive = s.drive ∧ (applyAct s (.hostDrop a n)).cal = s.cal ∧
    (applyAct s (.hostDrop a n)).cmp = s.cmp ∧ (applyAct s (.hostDrop a n)).cad = s.cad ∧ (applyAct s (.hostDrop a n)).caddy = s.caddy ∧
    (applyAct s (.hostDrop a n)).pnx = s.pnx ∧ (applyAct s (.hostDrop a n)).flash = s.flash ∧ (applyAct s (.hostDrop a n)).tenants = s.tenants ∧
    (applyAct s (.hostDrop a n)).book = s.book ∧ (applyAct s (.hostDrop a n)).sys = s.sys ∧ (applyAct s (.hostDrop a n)).jtag = s.jtag ∧
    (applyAct s (.hostDrop a n)).out = s.out ∧ (applyAct s (.hostDrop a n)).dram = s.dram ∧ (applyAct s (.hostDrop a n)).sram = s.sram ∧
    (applyAct s (.hostDrop a n)).host = mapDrop s.host a n :=
  ⟨rfl, rfl, rfl, rfl, rfl, rfl, rfl, rfl, rfl, rfl, rfl, rfl, rfl, rfl, rfl, rfl, rfl, rfl, rfl, rfl, rfl, rfl, rfl, rfl, rfl, rfl, rfl, rfl, rfl, rfl, rfl, rfl, rfl, rfl⟩

@[simp] theorem applyAct_caddy (s : State) (a : Nat) (bs : List Byte) :
    (applyAct s (.caddy a bs)).pending = s.pending ∧ (applyAct s (.caddy a bs)).free = s.free ∧ (applyAct s (.caddy a bs)).fuses = s.fuses ∧
    (applyAct s (.caddy a bs)).regs = s.regs ∧ (applyAct s (.caddy a bs)).lampRegs = s.lampRegs ∧ (applyAct s (.caddy a bs)).cur = s.cur ∧
    (applyAct s (.caddy a bs)).srcs = s.srcs ∧ (applyAct s (.caddy a bs)).ptp = s.ptp ∧ (applyAct s (.caddy a bs)).pvw = s.pvw ∧
    (applyAct s (.caddy a bs)).stp = s.stp ∧ (applyAct s (.caddy a bs)).engs = s.engs ∧ (applyAct s (.caddy a bs)).mem = s.mem ∧
    (applyAct s (.caddy a bs)).ddr = s.ddr ∧ (applyAct s (.caddy a bs)).pkr = s.pkr ∧ (applyAct s (.caddy a bs)).ports = s.ports ∧
    (applyAct s (.caddy a bs)).seqs = s.seqs ∧ (applyAct s (.caddy a bs)).far = s.far ∧ (applyAct s (.caddy a bs)).tiles = s.tiles ∧
    (applyAct s (.caddy a bs)).drvs = s.drvs ∧ (applyAct s (.caddy a bs)).drive = s.drive ∧ (applyAct s (.caddy a bs)).cal = s.cal ∧
    (applyAct s (.caddy a bs)).cmp = s.cmp ∧ (applyAct s (.caddy a bs)).cad = s.cad ∧
    (applyAct s (.caddy a bs)).caddy = mapPuts erasedByte s.caddy a bs ∧ (applyAct s (.caddy a bs)).pnx = s.pnx ∧
    (applyAct s (.caddy a bs)).flash = s.flash ∧ (applyAct s (.caddy a bs)).tenants = s.tenants ∧ (applyAct s (.caddy a bs)).book = s.book ∧
    (applyAct s (.caddy a bs)).sys = s.sys ∧ (applyAct s (.caddy a bs)).jtag = s.jtag ∧ (applyAct s (.caddy a bs)).out = s.out ∧
    (applyAct s (.caddy a bs)).dram = s.dram ∧ (applyAct s (.caddy a bs)).sram = s.sram ∧ (applyAct s (.caddy a bs)).host = s.host :=
  ⟨rfl, rfl, rfl, rfl, rfl, rfl, rfl, rfl, rfl, rfl, rfl, rfl, rfl, rfl, rfl, rfl, rfl, rfl, rfl, rfl, rfl, rfl, rfl, rfl, rfl, rfl, rfl, rfl, rfl, rfl, rfl, rfl, rfl, rfl⟩

@[simp] theorem applyAct_caddyDrop (s : State) (a n : Nat) :
    (applyAct s (.caddyDrop a n)).pending = s.pending ∧ (applyAct s (.caddyDrop a n)).free = s.free ∧ (applyAct s (.caddyDrop a n)).fuses = s.fuses ∧
    (applyAct s (.caddyDrop a n)).regs = s.regs ∧ (applyAct s (.caddyDrop a n)).lampRegs = s.lampRegs ∧ (applyAct s (.caddyDrop a n)).cur = s.cur ∧
    (applyAct s (.caddyDrop a n)).srcs = s.srcs ∧ (applyAct s (.caddyDrop a n)).ptp = s.ptp ∧ (applyAct s (.caddyDrop a n)).pvw = s.pvw ∧
    (applyAct s (.caddyDrop a n)).stp = s.stp ∧ (applyAct s (.caddyDrop a n)).engs = s.engs ∧ (applyAct s (.caddyDrop a n)).mem = s.mem ∧
    (applyAct s (.caddyDrop a n)).ddr = s.ddr ∧ (applyAct s (.caddyDrop a n)).pkr = s.pkr ∧ (applyAct s (.caddyDrop a n)).ports = s.ports ∧
    (applyAct s (.caddyDrop a n)).seqs = s.seqs ∧ (applyAct s (.caddyDrop a n)).far = s.far ∧ (applyAct s (.caddyDrop a n)).tiles = s.tiles ∧
    (applyAct s (.caddyDrop a n)).drvs = s.drvs ∧ (applyAct s (.caddyDrop a n)).drive = s.drive ∧ (applyAct s (.caddyDrop a n)).cal = s.cal ∧
    (applyAct s (.caddyDrop a n)).cmp = s.cmp ∧ (applyAct s (.caddyDrop a n)).cad = s.cad ∧ (applyAct s (.caddyDrop a n)).caddy = mapDrop s.caddy a n ∧
    (applyAct s (.caddyDrop a n)).pnx = s.pnx ∧ (applyAct s (.caddyDrop a n)).flash = s.flash ∧ (applyAct s (.caddyDrop a n)).tenants = s.tenants ∧
    (applyAct s (.caddyDrop a n)).book = s.book ∧ (applyAct s (.caddyDrop a n)).sys = s.sys ∧ (applyAct s (.caddyDrop a n)).jtag = s.jtag ∧
    (applyAct s (.caddyDrop a n)).out = s.out ∧ (applyAct s (.caddyDrop a n)).dram = s.dram ∧ (applyAct s (.caddyDrop a n)).sram = s.sram ∧
    (applyAct s (.caddyDrop a n)).host = s.host :=
  ⟨rfl, rfl, rfl, rfl, rfl, rfl, rfl, rfl, rfl, rfl, rfl, rfl, rfl, rfl, rfl, rfl, rfl, rfl, rfl, rfl, rfl, rfl, rfl, rfl, rfl, rfl, rfl, rfl, rfl, rfl, rfl, rfl, rfl, rfl⟩

@[simp] theorem applyAct_flash (s : State) (a : Nat) (bs : List Byte) :
    (applyAct s (.flash a bs)).pending = s.pending ∧ (applyAct s (.flash a bs)).free = s.free ∧ (applyAct s (.flash a bs)).fuses = s.fuses ∧
    (applyAct s (.flash a bs)).regs = s.regs ∧ (applyAct s (.flash a bs)).lampRegs = s.lampRegs ∧ (applyAct s (.flash a bs)).cur = s.cur ∧
    (applyAct s (.flash a bs)).srcs = s.srcs ∧ (applyAct s (.flash a bs)).ptp = s.ptp ∧ (applyAct s (.flash a bs)).pvw = s.pvw ∧
    (applyAct s (.flash a bs)).stp = s.stp ∧ (applyAct s (.flash a bs)).engs = s.engs ∧ (applyAct s (.flash a bs)).mem = s.mem ∧
    (applyAct s (.flash a bs)).ddr = s.ddr ∧ (applyAct s (.flash a bs)).pkr = s.pkr ∧ (applyAct s (.flash a bs)).ports = s.ports ∧
    (applyAct s (.flash a bs)).seqs = s.seqs ∧ (applyAct s (.flash a bs)).far = s.far ∧ (applyAct s (.flash a bs)).tiles = s.tiles ∧
    (applyAct s (.flash a bs)).drvs = s.drvs ∧ (applyAct s (.flash a bs)).drive = s.drive ∧ (applyAct s (.flash a bs)).cal = s.cal ∧
    (applyAct s (.flash a bs)).cmp = s.cmp ∧ (applyAct s (.flash a bs)).cad = s.cad ∧ (applyAct s (.flash a bs)).caddy = s.caddy ∧
    (applyAct s (.flash a bs)).pnx = s.pnx ∧ (applyAct s (.flash a bs)).flash = mapPuts erasedByte s.flash a bs ∧
    (applyAct s (.flash a bs)).tenants = s.tenants ∧ (applyAct s (.flash a bs)).book = s.book ∧ (applyAct s (.flash a bs)).sys = s.sys ∧
    (applyAct s (.flash a bs)).jtag = s.jtag ∧ (applyAct s (.flash a bs)).out = s.out ∧ (applyAct s (.flash a bs)).dram = s.dram ∧
    (applyAct s (.flash a bs)).sram = s.sram ∧ (applyAct s (.flash a bs)).host = s.host :=
  ⟨rfl, rfl, rfl, rfl, rfl, rfl, rfl, rfl, rfl, rfl, rfl, rfl, rfl, rfl, rfl, rfl, rfl, rfl, rfl, rfl, rfl, rfl, rfl, rfl, rfl, rfl, rfl, rfl, rfl, rfl, rfl, rfl, rfl, rfl⟩

@[simp] theorem applyAct_flashDrop (s : State) (a n : Nat) :
    (applyAct s (.flashDrop a n)).pending = s.pending ∧ (applyAct s (.flashDrop a n)).free = s.free ∧ (applyAct s (.flashDrop a n)).fuses = s.fuses ∧
    (applyAct s (.flashDrop a n)).regs = s.regs ∧ (applyAct s (.flashDrop a n)).lampRegs = s.lampRegs ∧ (applyAct s (.flashDrop a n)).cur = s.cur ∧
    (applyAct s (.flashDrop a n)).srcs = s.srcs ∧ (applyAct s (.flashDrop a n)).ptp = s.ptp ∧ (applyAct s (.flashDrop a n)).pvw = s.pvw ∧
    (applyAct s (.flashDrop a n)).stp = s.stp ∧ (applyAct s (.flashDrop a n)).engs = s.engs ∧ (applyAct s (.flashDrop a n)).mem = s.mem ∧
    (applyAct s (.flashDrop a n)).ddr = s.ddr ∧ (applyAct s (.flashDrop a n)).pkr = s.pkr ∧ (applyAct s (.flashDrop a n)).ports = s.ports ∧
    (applyAct s (.flashDrop a n)).seqs = s.seqs ∧ (applyAct s (.flashDrop a n)).far = s.far ∧ (applyAct s (.flashDrop a n)).tiles = s.tiles ∧
    (applyAct s (.flashDrop a n)).drvs = s.drvs ∧ (applyAct s (.flashDrop a n)).drive = s.drive ∧ (applyAct s (.flashDrop a n)).cal = s.cal ∧
    (applyAct s (.flashDrop a n)).cmp = s.cmp ∧ (applyAct s (.flashDrop a n)).cad = s.cad ∧ (applyAct s (.flashDrop a n)).caddy = s.caddy ∧
    (applyAct s (.flashDrop a n)).pnx = s.pnx ∧ (applyAct s (.flashDrop a n)).flash = mapDrop s.flash a n ∧
    (applyAct s (.flashDrop a n)).tenants = s.tenants ∧ (applyAct s (.flashDrop a n)).book = s.book ∧ (applyAct s (.flashDrop a n)).sys = s.sys ∧
    (applyAct s (.flashDrop a n)).jtag = s.jtag ∧ (applyAct s (.flashDrop a n)).out = s.out ∧ (applyAct s (.flashDrop a n)).dram = s.dram ∧
    (applyAct s (.flashDrop a n)).sram = s.sram ∧ (applyAct s (.flashDrop a n)).host = s.host :=
  ⟨rfl, rfl, rfl, rfl, rfl, rfl, rfl, rfl, rfl, rfl, rfl, rfl, rfl, rfl, rfl, rfl, rfl, rfl, rfl, rfl, rfl, rfl, rfl, rfl, rfl, rfl, rfl, rfl, rfl, rfl, rfl, rfl, rfl, rfl⟩

/-- An interrupt message or EVENT frame touches the tenant and what the block puts out. -/
@[simp] theorem signalTenant_frame (s : State) (t vec : Nat) :
    (signalTenant s t vec).pending = s.pending ∧ (signalTenant s t vec).free = s.free ∧ (signalTenant s t vec).fuses = s.fuses ∧
    (signalTenant s t vec).regs = s.regs ∧ (signalTenant s t vec).lampRegs = s.lampRegs ∧ (signalTenant s t vec).cur = s.cur ∧
    (signalTenant s t vec).srcs = s.srcs ∧ (signalTenant s t vec).ptp = s.ptp ∧ (signalTenant s t vec).pvw = s.pvw ∧
    (signalTenant s t vec).stp = s.stp ∧ (signalTenant s t vec).engs = s.engs ∧ (signalTenant s t vec).mem = s.mem ∧
    (signalTenant s t vec).ddr = s.ddr ∧ (signalTenant s t vec).pkr = s.pkr ∧ (signalTenant s t vec).ports = s.ports ∧
    (signalTenant s t vec).seqs = s.seqs ∧ (signalTenant s t vec).far = s.far ∧ (signalTenant s t vec).tiles = s.tiles ∧
    (signalTenant s t vec).drvs = s.drvs ∧ (signalTenant s t vec).drive = s.drive ∧ (signalTenant s t vec).cal = s.cal ∧
    (signalTenant s t vec).cmp = s.cmp ∧ (signalTenant s t vec).cad = s.cad ∧ (signalTenant s t vec).caddy = s.caddy ∧
    (signalTenant s t vec).pnx = s.pnx ∧ (signalTenant s t vec).flash = s.flash ∧ (signalTenant s t vec).book = s.book ∧
    (signalTenant s t vec).sys = s.sys ∧ (signalTenant s t vec).jtag = s.jtag ∧ (signalTenant s t vec).dram = s.dram ∧
    (signalTenant s t vec).sram = s.sram ∧ (signalTenant s t vec).host = s.host := by
  unfold signalTenant
  dsimp only
  refine ⟨?_, ?_, ?_, ?_, ?_, ?_, ?_, ?_, ?_, ?_, ?_, ?_, ?_, ?_, ?_, ?_, ?_, ?_, ?_, ?_, ?_, ?_, ?_, ?_, ?_, ?_, ?_, ?_, ?_, ?_, ?_, ?_⟩ <;> repeat (first | rfl | split)

@[simp] theorem applyAct_signal (s : State) (t vec : Nat) : applyAct s (.signal t vec) = signalTenant s t vec := rfl

/-- An event touches its status register, the tenant and what the block puts out. -/
@[simp] theorem raiseEvt_frame (s : State) (blk t b : Nat) :
    (raiseEvt s blk t b).pending = s.pending ∧ (raiseEvt s blk t b).free = s.free ∧ (raiseEvt s blk t b).fuses = s.fuses ∧
    (raiseEvt s blk t b).lampRegs = s.lampRegs ∧ (raiseEvt s blk t b).cur = s.cur ∧ (raiseEvt s blk t b).srcs = s.srcs ∧
    (raiseEvt s blk t b).ptp = s.ptp ∧ (raiseEvt s blk t b).pvw = s.pvw ∧ (raiseEvt s blk t b).stp = s.stp ∧ (raiseEvt s blk t b).engs = s.engs ∧
    (raiseEvt s blk t b).mem = s.mem ∧ (raiseEvt s blk t b).ddr = s.ddr ∧ (raiseEvt s blk t b).pkr = s.pkr ∧ (raiseEvt s blk t b).ports = s.ports ∧
    (raiseEvt s blk t b).seqs = s.seqs ∧ (raiseEvt s blk t b).far = s.far ∧ (raiseEvt s blk t b).tiles = s.tiles ∧ (raiseEvt s blk t b).drvs = s.drvs ∧
    (raiseEvt s blk t b).drive = s.drive ∧ (raiseEvt s blk t b).cal = s.cal ∧ (raiseEvt s blk t b).cmp = s.cmp ∧ (raiseEvt s blk t b).cad = s.cad ∧
    (raiseEvt s blk t b).caddy = s.caddy ∧ (raiseEvt s blk t b).pnx = s.pnx ∧ (raiseEvt s blk t b).flash = s.flash ∧
    (raiseEvt s blk t b).book = s.book ∧ (raiseEvt s blk t b).sys = s.sys ∧ (raiseEvt s blk t b).jtag = s.jtag ∧ (raiseEvt s blk t b).dram = s.dram ∧
    (raiseEvt s blk t b).sram = s.sram ∧ (raiseEvt s blk t b).host = s.host := by
  unfold raiseEvt
  dsimp only
  split
  · simp only [signalTenant_frame, and_self]
  · exact ⟨rfl, rfl, rfl, rfl, rfl, rfl, rfl, rfl, rfl, rfl, rfl, rfl, rfl, rfl, rfl, rfl, rfl, rfl, rfl, rfl, rfl, rfl, rfl, rfl, rfl, rfl, rfl, rfl, rfl, rfl, rfl⟩

@[simp] theorem applyAct_evt (s : State) (blk t b : Nat) : applyAct s (.evt blk t b) = raiseEvt s blk t b := rfl

/-- The status bit of an event (R562). -/
theorem raiseEvt_regs (s : State) (blk t b : Nat) : (raiseEvt s blk t b).regs =
    putReg s.regs (evtStatus blk t) (rd s (evtStatus blk t) ||| BitVec.ofNat 32 (2 ^ b)) := by
  unfold raiseEvt
  dsimp only
  split
  · simp only [signalTenant_frame]
  · rfl

/-- A record touches the prompt book, the count of free values and the count of lost records. -/
@[simp] theorem applyAct_log (s : State) (r : PbRec) :
    (applyAct s (.log r)).pending = s.pending ∧ (applyAct s (.log r)).fuses = s.fuses ∧ (applyAct s (.log r)).lampRegs = s.lampRegs ∧
    (applyAct s (.log r)).cur = s.cur ∧ (applyAct s (.log r)).srcs = s.srcs ∧ (applyAct s (.log r)).ptp = s.ptp ∧ (applyAct s (.log r)).pvw = s.pvw ∧
    (applyAct s (.log r)).stp = s.stp ∧ (applyAct s (.log r)).engs = s.engs ∧ (applyAct s (.log r)).mem = s.mem ∧ (applyAct s (.log r)).ddr = s.ddr ∧
    (applyAct s (.log r)).pkr = s.pkr ∧ (applyAct s (.log r)).ports = s.ports ∧ (applyAct s (.log r)).seqs = s.seqs ∧
    (applyAct s (.log r)).far = s.far ∧ (applyAct s (.log r)).tiles = s.tiles ∧ (applyAct s (.log r)).drvs = s.drvs ∧
    (applyAct s (.log r)).drive = s.drive ∧ (applyAct s (.log r)).cal = s.cal ∧ (applyAct s (.log r)).cmp = s.cmp ∧ (applyAct s (.log r)).cad = s.cad ∧
    (applyAct s (.log r)).caddy = s.caddy ∧ (applyAct s (.log r)).pnx = s.pnx ∧ (applyAct s (.log r)).flash = s.flash ∧
    (applyAct s (.log r)).tenants = s.tenants ∧ (applyAct s (.log r)).sys = s.sys ∧ (applyAct s (.log r)).jtag = s.jtag ∧
    (applyAct s (.log r)).out = s.out ∧ (applyAct s (.log r)).dram = s.dram ∧ (applyAct s (.log r)).sram = s.sram ∧
    (applyAct s (.log r)).host = s.host :=
  ⟨rfl, rfl, rfl, rfl, rfl, rfl, rfl, rfl, rfl, rfl, rfl, rfl, rfl, rfl, rfl, rfl, rfl, rfl, rfl, rfl, rfl, rfl, rfl, rfl, rfl, rfl, rfl, rfl, rfl, rfl, rfl⟩

/-! ## Reading after an update -/

@[simp] theorem eng_curAct (s : State) (f : Cur → Cur) (e : Nat) : mapGet engDflt (applyAct s (.cur f)).engs e = mapGet engDflt s.engs e := rfl
@[simp] theorem rd_eng (s : State) (i : Nat) (f : Engine → Engine) (a : Nat) : rd (applyAct s (.eng i f)) a = rd s a := rfl
@[simp] theorem rd_cur (s : State) (f : Cur → Cur) (a : Nat) : rd (applyAct s (.cur f)) a = rd s a := rfl
@[simp] theorem rd_draw (s : State) (a : Nat) : rd (applyAct s .draw) a = rd s a := rfl
@[simp] theorem applyActs_nil (s : State) : applyActs s [] = s := rfl
@[simp] theorem applyActs_cons (s : State) (x : Act) (xs : List Act) : applyActs s (x :: xs) = applyActs (applyAct s x) xs := rfl

theorem applyActs_append (s : State) (xs ys : List Act) : applyActs s (xs ++ ys) = applyActs (applyActs s xs) ys := by
  induction xs generalizing s with
  | nil => rfl
  | cons x xs ih => exact ih (applyAct s x)

@[simp] theorem runEffs_nil (s : State) : runEffs s [] = s := rfl
@[simp] theorem runEffs_cons (s : State) (e : Eff) (es : List Eff) : runEffs s (e :: es) = runEffs (applyActs s (e s)) es := rfl

/-- Stages as one stage make what the stages make one after another. -/
theorem applyActs_seqE (s : State) (es : List Eff) : applyActs s (seqE es s) = runEffs s es := by
  induction es generalizing s with
  | nil => rfl
  | cons e es ih => simp only [seqE, runEffs_cons, applyActs_append, ih]

theorem runEffs_append (s : State) (xs ys : List Eff) : runEffs s (xs ++ ys) = runEffs (runEffs s xs) ys := by
  induction xs generalizing s with
  | nil => rfl
  | cons x xs ih => simp only [List.cons_append, runEffs_cons, ih]

/-- A conditional stage runs its stages or nothing. -/
theorem applyActs_whenE (s : State) (c : State → Bool) (es : List Eff) :
    applyActs s (whenE c es s) = if c s then runEffs s es else s := by
  unfold whenE
  split
  · exact applyActs_seqE s es
  · rfl

/-- Where its condition holds, the stages of a conditional stage are stages of the command. -/
theorem runEffs_whenE (s : State) (c : State → Bool) (es rest : List Eff) (h : c s = true) :
    runEffs s (whenE c es :: rest) = runEffs s (es ++ rest) := by
  rw [runEffs_cons, applyActs_whenE, if_pos h, runEffs_append]

/-- Where it does not, the command goes on without them. -/
theorem runEffs_whenE_not (s : State) (c : State → Bool) (es rest : List Eff) (h : c s = false) :
    runEffs s (whenE c es :: rest) = runEffs s rest := by
  rw [runEffs_cons, applyActs_whenE, if_neg (by simp [h])]

end Sys2Proof.Machine
end

