-- ==== Sys2Proof/Safety.lean ====
section
/-! DEFINITION. What claims say of a state: the canonical form of its sparse maps, reserved bits that read 0, bounds on the
show clock, and what an access needs to be carried out. -/

namespace Sys2Proof.Machine

/-- The addressed memories are in canonical form: strictly rising addresses, and no entry equal to what an unlisted address
reads as. -/
def Memory.wf (s : State) : Bool :=
  mapWf zeroByte s.dram && mapWf zeroByte s.sram && mapWf zeroByte s.host && mapWf erasedByte s.caddy && mapWf erasedByte s.flash

/-- Every implemented bit only: the reserved bits of each listed register are 0 (R7). -/
def reservedZero (m : SMap Word) : Bool := m.all (fun e => e.2 &&& regImpl e.1 == e.2)

/-- The two register files are in canonical form, with reserved bits 0. -/
def regsWf (s : State) : Bool :=
  mapWf regReset s.regs && mapWf regReset s.lampRegs && reservedZero s.regs && reservedZero s.lampRegs

/-- The per-unit data are in canonical form. -/
def unitsWf (s : State) : Bool :=
  mapWf srcDflt s.srcs && mapWf ptpDflt s.ptp && mapWf pvwDflt s.pvw && mapWf engDflt s.engs && mapWf portDflt s.ports
    && mapWf seqDflt s.seqs && mapWf farDflt s.far && mapWf tileDflt s.tiles && mapWf drvDflt s.drvs && mapWf tenantDflt s.tenants

/-- What every state of the block meets. -/
def State.Inv (s : State) : Prop := Memory.wf s = true ∧ regsWf s = true ∧ unitsWf s = true

/-- An access reaches its register: its transport and the mode let it through (R561, R564, R604) and the part has the unit (R3). -/
def reaches (s : State) (a : Acc) (addr : Nat) (write : Bool) : Prop :=
  refusal s a addr write = none ∧ absentAddr s addr = false ∧ mode s ≠ mHOLD

/-- A byte of each addressed memory. -/
def dramByte (s : State) (a : Nat) : Byte := mapGet zeroByte s.dram a
def sramByte (s : State) (a : Nat) : Byte := mapGet zeroByte s.sram a
def hostByte (s : State) (a : Nat) : Byte := mapGet zeroByte s.host a
def caddyByte (s : State) (a : Nat) : Byte := mapGet erasedByte s.caddy a
def flashByte (s : State) (a : Nat) : Byte := mapGet erasedByte s.flash a

/-- No byte of any addressed memory differs. -/
def sameMemory (s t : State) : Prop :=
  (∀ a, dramByte t a = dramByte s a) ∧ (∀ a, sramByte t a = sramByte s a) ∧ (∀ a, hostByte t a = hostByte s a)
    ∧ (∀ a, caddyByte t a = caddyByte s a) ∧ (∀ a, flashByte t a = flashByte s a)

/-- Outside the Caddy window, the census window and the SRAM bank window (R562). -/
def isRegister (addr : Nat) : Prop := addr < 0x01000000

/-- A register whose read has no effect of its own and gives what its fields hold (R9, R562). -/
def readsPlainly (u addr : Nat) (row : RegRow) (ix : List Nat) : Prop :=
  isRegister addr ∧ regRow? addr = some (row, ix) ∧ (row.owner = .win → u = 0 ∨ u = ix.headD 0)
    ∧ actingRead u row.base (ix.headD 0) = none

/-- A register whose write does nothing but what its access codes say, by a tenant that may write it, of a value it takes (R9, R563,
R592), its sealed fields unchanged (R12). -/
def writesPlainly (s : State) (u addr : Nat) (v : Word) (row : RegRow) (ix : List Nat) : Prop :=
  isRegister addr ∧ regRow? addr = some (row, ix) ∧ actingWrite u row.base (ix.headD 0) addr v = none ∧ mayWrite s u row ix = true
    ∧ valueCheck s row.base (ix.headD 0) addr v = none ∧ (sealed s = true → (rd s addr ^^^ v) &&& codeMask row (ix.headD 0) .rwl = 0)
    ∧ ∀ t, afterWrite row.base (ix.headD 0) (rd s addr) v t = []

/-- The staging set after a write of a register with staged bits (R62, R567). -/
def stagedAfter (s : State) (u addr : Nat) (v : Word) (row : RegRow) (ix : List Nat) : List Staged :=
  let k := thingOf row ix
  let m := codeMask row (ix.headD 0) .rws
  if m = 0 then (ten s u).staged else stage (ten s u).staged ⟨addr, m, v &&& m, k.1, k.2, epochOf s k.1 k.2⟩

/-! ## Bundles -/

/-- The bundle of a scalar and a vector syllable issues normally: its engine runs, both are legal, they write no common register,
nothing they meet is locked, the units they call are free, and neither faults (R218 to R223). -/
def issues (s : State) (e : Nat) (sy vy : Syl) : Prop :=
  engState s e = esRUN ∧ sy.illegal = false ∧ vy.illegal = false ∧ sy.writes.any vy.writes.contains = false
    ∧ locked s e (sy.vregs ++ vy.vregs) = false ∧ callFits s e sy.calls = true ∧ callFits s e vy.calls = true
    ∧ (sy.run s e (eng s e)).fault = none ∧ (vy.run (applyActs s (sy.run s e (eng s e)).mem) e (eng s e)).fault = none

/-- What such a bundle does before waits are settled: clocks are counted, the syllables' memory operations are made, both write the results of
the sources as they were at issue, a read of an uncorrectable word fails the ticket, and the engine waits or goes on. -/
def bundleState (s : State) (e : Nat) (sy vy : Syl) : State :=
  let g := eng s e
  let a := sy.run s e g
  let b := vy.run (applyActs s a.mem) e g
  let n := afterBundle (engPC s e) g.loops a
  applyActs s (cycleActs s e (max sy.clocks vy.clocks) ++ a.mem ++ b.mem ++ [.eng e (fun h => b.put (a.put h))]
    ++ (if a.ue || b.ue then failTicket e (applyActs s (a.mem ++ b.mem)) else [])
    ++ (match a.wait with
        | some w => [.eng e (fun h => { h with wait := some w }), engTo e esWAIT]
        | none => [.eng e (fun h => { h with loops := n.2 }), .fld (Reg.ENG_STATUS e) Fld.ENG_STATUS_PC n.1]))

/-- A bundle that only writes registers of its engine: clocks are counted, `put` gives the registers, and the engine goes on at `n` (the
next bundle and the loops that stay open). -/
def retire (s : State) (e clocks : Nat) (put : Engine → Engine) (n : Nat × List LoopLevel) : State :=
  applyActs s (cycleActs s e clocks
    ++ [.eng e put, .eng e (fun h => { h with loops := n.2 }), .fld (Reg.ENG_STATUS e) Fld.ENG_STATUS_PC n.1])

/-- Where an engine goes on after a bundle without a jump (R215). -/
def onward (s : State) (e : Nat) : Nat × List LoopLevel := seqNext (engPC s e) (eng s e).loops

/-- A bundle that only writes registers, and the waits that it settles. -/
abbrev retires (s : State) (e clocks : Nat) (put : Engine → Engine) : Host.Outcome State Fault Refusal :=
  .next (runEffs (retire s e clocks put (onward s e)) wakeAll)

/-- The syllable of a NOP or VNOP. -/
def nopSyl : Syl := syl [] [] (fun _ _ _ => resNone)

/-! ## Results -/

/-- The state after one list of updates. -/
abbrev nextBy (s : State) (xs : List Act) : Host.Outcome State Fault Refusal := .next (applyActs s xs)

end Sys2Proof.Machine
end

