-- ==== Sys2Proof/Laws/Ops.lean ====
section
/-! SUPPORT. The laws of sparse maps: what a key reads as after a write, and that every operation keeps the canonical form;
then that every primitive update, and every list of them, keeps the invariant of State. -/

namespace Sys2Proof.Machine

section Maps

variable {α : Type} [DecidableEq α] (d : Nat → α)

theorem mapWfFrom_mono {lo lo' : Nat} (h : lo' ≤ lo) : ∀ {m : SMap α}, mapWfFrom d lo m = true → mapWfFrom d lo' m = true
  | [], _ => rfl
  | (k, v) :: m, hm => by
    simp only [mapWfFrom, Bool.and_eq_true, decide_eq_true_eq] at hm ⊢
    exact ⟨⟨Nat.le_trans h hm.1.1, hm.1.2⟩, hm.2⟩

/-- Below its first key a canonical map reads as unlisted. -/
theorem mapGet_below {lo k : Nat} (hk : k < lo) : ∀ {m : SMap α}, mapWfFrom d lo m = true → mapGet d m k = d k
  | [], _ => rfl
  | (k', v) :: m, hm => by
    simp only [mapWfFrom, Bool.and_eq_true, decide_eq_true_eq] at hm
    have h1 : k ≠ k' := by omega
    simp only [mapGet, if_neg h1]
    exact mapGet_below (by omega) hm.2

/-- A write keeps the canonical form. -/
theorem mapPut_wfFrom {lo k : Nat} (hk : lo ≤ k) (v : α) :
    ∀ {m : SMap α}, mapWfFrom d lo m = true → mapWfFrom d lo (mapPut d m k v) = true
  | [], _ => by
    simp only [mapPut]
    split
    · rfl
    · simp_all [mapWfFrom]
  | (k', v') :: m, hm => by
    simp only [mapWfFrom, Bool.and_eq_true, decide_eq_true_eq] at hm
    simp only [mapPut]
    split
    · split
      · simp_all [mapWfFrom]
      · simp_all [mapWfFrom] <;> omega
    · split
      · split
        · exact mapWfFrom_mono d (by omega) hm.2
        · simp_all [mapWfFrom]
      · simp only [mapWfFrom, Bool.and_eq_true, decide_eq_true_eq]
        exact ⟨hm.1, mapPut_wfFrom (by omega) v hm.2⟩

theorem mapPut_wf {m : SMap α} (h : mapWf d m = true) (k : Nat) (v : α) : mapWf d (mapPut d m k v) = true :=
  mapPut_wfFrom d (Nat.zero_le k) v h

/-- A write leaves every other key alone. -/
theorem mapGet_mapPut_other {k k' : Nat} (h : k' ≠ k) (v : α) : ∀ m : SMap α, mapGet d (mapPut d m k v) k' = mapGet d m k'
  | [] => by
    simp only [mapPut]
    split
    · rfl
    · simp only [mapGet, if_neg h]
  | (k0, v0) :: m => by
    simp only [mapPut]
    split
    · split
      · rfl
      · simp only [mapGet, if_neg h]
    · split
      · split
        · simp only [mapGet]; rw [if_neg (by omega)]
        · simp only [mapGet]; rw [if_neg h, if_neg (by omega)]
      · simp only [mapGet, mapGet_mapPut_other h v m]

theorem mapGet_mapPut_sameFrom {lo k : Nat} (hk : lo ≤ k) (v : α) :
    ∀ {m : SMap α}, mapWfFrom d lo m = true → mapGet d (mapPut d m k v) k = v
  | [], _ => by
    simp only [mapPut]
    split
    · simp_all [mapGet]
    · simp only [mapGet, if_pos]
  | (k0, v0) :: m, hm => by
    simp only [mapWfFrom, Bool.and_eq_true, decide_eq_true_eq] at hm
    simp only [mapPut]
    split
    · split
      · next hv =>
        have h1 : k ≠ k0 := by omega
        simp only [mapGet, if_neg h1]
        rw [mapGet_below d (by omega) hm.2, hv]
      · simp only [mapGet, if_pos]
    · split
      · next hk0 =>
        split
        · next hv =>
          rw [mapGet_below d (by omega) hm.2, hv]
        · simp only [mapGet, if_pos]
      · next h1 h2 =>
        simp only [mapGet, if_neg h2]
        exact mapGet_mapPut_sameFrom (by omega) v hm.2

/-- A read after a write of the same key gives the value written. -/
theorem mapGet_mapPut_same {m : SMap α} (h : mapWf d m = true) (k : Nat) (v : α) : mapGet d (mapPut d m k v) k = v :=
  mapGet_mapPut_sameFrom d (Nat.zero_le k) v h

theorem mapPuts_wf : ∀ (vs : List α) {m : SMap α} (k : Nat), mapWf d m = true → mapWf d (mapPuts d m k vs) = true
  | [], _, _, h => h
  | v :: vs, _, k, h => mapPuts_wf vs (k + 1) (mapPut_wf d h k v)

/-- Consecutive writes leave every key outside them alone. -/
theorem mapGet_mapPuts_other {k' : Nat} : ∀ (vs : List α) (m : SMap α) (k : Nat), (k' < k ∨ k + vs.length ≤ k') →
    mapGet d (mapPuts d m k vs) k' = mapGet d m k'
  | [], _, _, _ => rfl
  | v :: vs, m, k, h => by
    simp only [List.length_cons] at h
    rw [mapPuts, mapGet_mapPuts_other vs _ (k + 1) (by omega), mapGet_mapPut_other d (by omega)]

theorem mapWfFrom_filter (p : Nat × α → Bool) : ∀ {lo : Nat} {m : SMap α}, mapWfFrom d lo m = true → mapWfFrom d lo (m.filter p) = true
  | _, [], _ => rfl
  | lo, (k, v) :: m, hm => by
    simp only [mapWfFrom, Bool.and_eq_true, decide_eq_true_eq] at hm
    simp only [List.filter_cons]
    split
    · simp only [mapWfFrom, Bool.and_eq_true, decide_eq_true_eq]
      exact ⟨hm.1, mapWfFrom_filter p hm.2⟩
    · exact mapWfFrom_filter p (mapWfFrom_mono d (by omega) hm.2)

theorem mapDrop_wf {m : SMap α} (h : mapWf d m = true) (a n : Nat) : mapWf d (mapDrop m a n) = true :=
  mapWfFrom_filter d _ h

end Maps

/-! ## Registers -/

theorem reservedZero_mapPut (m : SMap Word) (a : Nat) (v : Word) (hv : v &&& regImpl a = v) (h : reservedZero m = true) :
    reservedZero (mapPut regReset m a v) = true := by
  induction m with
  | nil =>
    simp only [mapPut]
    split
    · rfl
    · simp [reservedZero, hv]
  | cons e m ih =>
    obtain ⟨k, w⟩ := e
    simp only [reservedZero, List.all_cons, Bool.and_eq_true, beq_iff_eq] at h ih
    simp only [mapPut]
    split
    · split <;> simp [reservedZero, h.1, h.2, hv]
    · split
      · split <;> simp [reservedZero, h.2, hv]
      · simp only [reservedZero, List.all_cons, Bool.and_eq_true, beq_iff_eq]
        exact ⟨h.1, ih h.2⟩

theorem putReg_wf {m : SMap Word} (h : mapWf regReset m = true) (a : Nat) (v : Word) : mapWf regReset (putReg m a v) = true :=
  mapPut_wf regReset h a _

theorem putReg_reservedZero {m : SMap Word} (h : reservedZero m = true) (a : Nat) (v : Word) : reservedZero (putReg m a v) = true := by
  refine reservedZero_mapPut m a _ ?_ h
  rw [BitVec.and_assoc, BitVec.and_self]

/-- Two control addresses that differ: a write of one leaves the other (R9). -/
theorem rd_putReg_other (s : State) (a a' : Nat) (v : Word) (h : a' ≠ a) :
    mapGet regReset (putReg s.regs a v) a' = rd s a' := mapGet_mapPut_other regReset h _ _

/-- A register written reads as its implemented bits. -/
theorem rd_putReg_same {s : State} (h : mapWf regReset s.regs = true) (a : Nat) (v : Word) :
    mapGet regReset (putReg s.regs a v) a = v &&& regImpl a := mapGet_mapPut_same regReset h a _

/-! ## Every primitive update keeps the invariant -/

theorem signalTenant_tenants (s : State) (t vec : Nat) (h : mapWf tenantDflt s.tenants = true) :
    mapWf tenantDflt (signalTenant s t vec).tenants = true := by
  unfold signalTenant
  dsimp only
  repeat (first | assumption | exact mapPut_wf _ h _ _ | split)

theorem raiseEvt_tenants (s : State) (blk t b : Nat) (h : mapWf tenantDflt s.tenants = true) :
    mapWf tenantDflt (raiseEvt s blk t b).tenants = true := by
  unfold raiseEvt
  dsimp only
  split
  · exact signalTenant_tenants _ _ _ h
  · exact h

/-- A primitive update keeps the memories in canonical form. -/
theorem applyAct_memory_wf (s : State) (x : Act) (h : Memory.wf s = true) : Memory.wf (applyAct s x) = true := by
  simp only [Memory.wf, Bool.and_eq_true] at h ⊢
  obtain ⟨⟨⟨⟨h1, h2⟩, h3⟩, h4⟩, h5⟩ := h
  cases x <;> simp_all [mapPuts_wf, mapDrop_wf]

/-- A primitive update keeps the register files in canonical form and their reserved bits 0. -/
theorem applyAct_regs_wf (s : State) (x : Act) (h : regsWf s = true) : regsWf (applyAct s x) = true := by
  simp only [regsWf, Bool.and_eq_true] at h ⊢
  obtain ⟨⟨⟨h1, h2⟩, h3⟩, h4⟩ := h
  cases x <;> simp_all [putReg_wf, putReg_reservedZero, raiseEvt_regs]
  all_goals
    simp only [applyAct]
    split <;> simp_all [putReg_wf, putReg_reservedZero]

/-- A primitive update keeps the per-unit data in canonical form. -/
theorem applyAct_units_wf (s : State) (x : Act) (h : unitsWf s = true) : unitsWf (applyAct s x) = true := by
  simp only [unitsWf, Bool.and_eq_true] at h ⊢
  obtain ⟨⟨⟨⟨⟨⟨⟨⟨⟨h1, h2⟩, h3⟩, h4⟩, h5⟩, h6⟩, h7⟩, h8⟩, h9⟩, h10⟩ := h
  cases x <;> simp_all [mapPut_wf, signalTenant_tenants, raiseEvt_tenants]

theorem applyAct_inv (s : State) (x : Act) (h : s.Inv) : (applyAct s x).Inv :=
  ⟨applyAct_memory_wf s x h.1, applyAct_regs_wf s x h.2.1, applyAct_units_wf s x h.2.2⟩

/-- So does a list of them. -/
theorem applyActs_inv (s : State) (xs : List Act) (h : s.Inv) : (applyActs s xs).Inv := by
  induction xs generalizing s with
  | nil => exact h
  | cons x xs ih => exact ih _ (applyAct_inv s x h)

/-- And the stages of a command. -/
theorem runEffs_inv (s : State) (es : List Eff) (h : s.Inv) : (runEffs s es).Inv := by
  induction es generalizing s with
  | nil => exact h
  | cons e es ih => exact ih _ (applyActs_inv s _ h)

/-! ## The queue of commands -/

@[simp] theorem applyAct_pending (s : State) (x : Act) : (applyAct s x).pending = s.pending := by
  cases x <;> simp

@[simp] theorem applyActs_pending (s : State) (xs : List Act) : (applyActs s xs).pending = s.pending := by
  induction xs generalizing s with
  | nil => rfl
  | cons x xs ih => rw [applyActs_cons, ih, applyAct_pending]

@[simp] theorem runEffs_pending (s : State) (es : List Eff) : (runEffs s es).pending = s.pending := by
  induction es generalizing s with
  | nil => rfl
  | cons e es ih => rw [runEffs_cons, ih, applyActs_pending]

/-! ## Accesses -/

/-- An access that reaches its register is carried out for its tenant. -/
theorem gate_reaches {s : State} {a : Acc} {addr : Nat} {w : Bool} (h : reaches s a addr w) (r : Bool) (e : Nat → Eff) :
    gate a addr w r e s = e (actsFor a) s := by
  obtain ⟨h1, h2, h3⟩ := h
  simp [gate, h1, h2, h3]

end Sys2Proof.Machine
end

