-- ==== Sys2Proof/Laws/Exec.lean ====
section
/-! SUPPORT. What a command can do, said once: it answers a next state, reached by stages of primitive updates. -/

namespace Sys2Proof.Machine

theorem done_runs (s : State) (xs : List Act) : ∃ es, done s xs = .next (runEffs s es) := ⟨[fun _ => xs], rfl⟩
theorem doneAll_runs (s : State) (es : List Eff) : ∃ es', doneAll s es = .next (runEffs s es') := ⟨es, rfl⟩

/-- Every command answers a next state that stages of primitive updates lead to. -/
theorem exec_runs (c : Instr) (s : State) : ∃ es, exec c s = .next (runEffs s es) := by
  cases c with
  | registerWrite a addr v => exact done_runs s _
  | curCommit a w v => exact done_runs s _
  | curTimeSecHiRead a => exact done_runs s _
  | referenceEvent src at_ phase => exact doneAll_runs s _
  | referenceEventMissing => exact doneAll_runs s _
  | curtainEdge budget => exact doneAll_runs s _
  | slotStart j => exact done_runs s _
  | markEmit b j => exact done_runs s _
  | commitClose => exact doneAll_runs s _
  | rescueInstant => exact doneAll_runs s _
  | intervalStart => exact doneAll_runs s _
  | camsyncFire m j => exact doneAll_runs s _
  | camsyncEnd m => exact done_runs s _
  | syncOutFire o j => exact doneAll_runs s _
  | syncOutEnd o => exact done_runs s _
  | sourceAdoption => exact doneAll_runs s _
  | dprxLinkTrained x ok rate lanes fmt pixelKHz period => exact doneAll_runs s _
  | dprxLinkLost x => exact doneAll_runs s _
  | sourceFrameArrival x at_ fmt plane0 plane1 => exact doneAll_runs s _
  | netPacket x at_ p => exact doneAll_runs s _
  | netFrameSkewTimeout x received => exact doneAll_runs s _
  | ptpMessage p at_ m => exact doneAll_runs s _
  | ptpAnnounceTimeout p => exact doneAll_runs s _
  | sourceLossTimeout x => exact doneAll_runs s _
  | srcForce a x v => exact done_runs s _
  | sourceWakeActivity x => exact done_runs s _
  | previewLinkTrained p lanes capacity => exact doneAll_runs s _
  | previewFrame p => exact doneAll_runs s _
  | footprintRegionDecided g => exact doneAll_runs s _
  | stpForce a v => exact done_runs s _
  | stpHeldInv a v => exact done_runs s _
  | nop e co => exact doneAll_runs s _
  | add e sd sa sb co => exact doneAll_runs s _
  | sub e sd sa sb co => exact doneAll_runs s _
  | and e sd sa sb co => exact doneAll_runs s _
  | or e sd sa sb co => exact doneAll_runs s _
  | xor e sd sa sb co => exact doneAll_runs s _
  | sll e sd sa sb co => exact doneAll_runs s _
  | srl e sd sa sb co => exact doneAll_runs s _
  | sra e sd sa sb co => exact doneAll_runs s _
  | slt e sd sa sb co => exact doneAll_runs s _
  | sltu e sd sa sb co => exact doneAll_runs s _
  | mul e sd sa sb co => exact doneAll_runs s _
  | mulh e sd sa sb co => exact doneAll_runs s _
  | mulhu e sd sa sb co => exact doneAll_runs s _
  | min e sd sa sb co => exact doneAll_runs s _
  | max e sd sa sb co => exact doneAll_runs s _
  | addi e sd sa imm co => exact doneAll_runs s _
  | andi e sd sa imm co => exact doneAll_runs s _
  | ori e sd sa imm co => exact doneAll_runs s _
  | xori e sd sa imm co => exact doneAll_runs s _
  | slli e sd sa imm co => exact doneAll_runs s _
  | srli e sd sa imm co => exact doneAll_runs s _
  | srai e sd sa imm co => exact doneAll_runs s _
  | slti e sd sa imm co => exact doneAll_runs s _
  | ldi e sd imm => exact doneAll_runs s _
  | lui e sd imm co => exact doneAll_runs s _
  | lw e sd sa imm co => exact doneAll_runs s _
  | lhu e sd sa imm co => exact doneAll_runs s _
  | lbu e sd sa imm co => exact doneAll_runs s _
  | sw e sd sa imm co => exact doneAll_runs s _
  | sh e sd sa imm co => exact doneAll_runs s _
  | sb e sd sa imm co => exact doneAll_runs s _
  | beq e sa sb off co => exact doneAll_runs s _
  | bne e sa sb off co => exact doneAll_runs s _
  | blt e sa sb off co => exact doneAll_runs s _
  | bge e sa sb off co => exact doneAll_runs s _
  | bltu e sa sb off co => exact doneAll_runs s _
  | bgeu e sa sb off co => exact doneAll_runs s _
  | jal e off co => exact doneAll_runs s _
  | jalr e sd sa imm co => exact doneAll_runs s _
  | loop e sa imm co => exact doneAll_runs s _
  | amoadd e sd sa sb co => exact doneAll_runs s _
  | amoswp e sd sa sb co => exact doneAll_runs s _
  | mfs e sd imm co => exact doneAll_runs s _
  | mts e sa imm co => exact doneAll_runs s _
  | tkget e sd co => exact doneAll_runs s _
  | tkdone e sd sa sb co => exact doneAll_runs s _
  | sugo e sa imm co => exact doneAll_runs s _
  | suwait e sd imm co => exact doneAll_runs s _
  | bar e sd imm co => exact doneAll_runs s _
  | waitev e sd imm co => exact doneAll_runs s _
  | fence e co => exact doneAll_runs s _
  | fault e imm co => exact doneAll_runs s _
  | halt e co => exact doneAll_runs s _
  | illegalOp e w => exact doneAll_runs s _
  | vnop e co => exact doneAll_runs s _
  | vadd e pg vd va vb md co => exact doneAll_runs s _
  | vsub e pg vd va vb md co => exact doneAll_runs s _
  | vand e pg vd va vb co => exact doneAll_runs s _
  | vor e pg vd va vb co => exact doneAll_runs s _
  | vxor e pg vd va vb co => exact doneAll_runs s _
  | vsll e pg vd va vb co => exact doneAll_runs s _
  | vsrl e pg vd va vb co => exact doneAll_runs s _
  | vsra e pg vd va vb co => exact doneAll_runs s _
  | vmin e pg vd va vb md co => exact doneAll_runs s _
  | vmax e pg vd va vb md co => exact doneAll_runs s _
  | vmul e pg vd va vb co => exact doneAll_runs s _
  | vmulh e pg vd va vb md co => exact doneAll_runs s _
  | vmac e pg vd va vb md co => exact doneAll_runs s _
  | vmul64 e pg vd va vb md co => exact doneAll_runs s _
  | vnarrow e pg vd va vb md co => exact doneAll_runs s _
  | vdiv e pg vd va vb md co => exact doneAll_runs s _
  | vaddi e pg vd va imm co => exact doneAll_runs s _
  | vandi e pg vd va imm co => exact doneAll_runs s _
  | vslli e pg vd va imm co => exact doneAll_runs s _
  | vsrli e pg vd va imm co => exact doneAll_runs s _
  | vsrai e pg vd va imm co => exact doneAll_runs s _
  | vclamp e pg vd va md co => exact doneAll_runs s _
  | vmov e pg vd va co => exact doneAll_runs s _
  | vbcast e pg vd md co => exact doneAll_runs s _
  | vlaneid e pg vd co => exact doneAll_runs s _
  | vslide e pg vd va vb md co => exact doneAll_runs s _
  | vperm e pg vd va vb co => exact doneAll_runs s _
  | vcmp e pg pd va vb md co => exact doneAll_runs s _
  | vcmpi e pg pd va cond imm co => exact doneAll_runs s _
  | vpop e pg pd va vb md co => exact doneAll_runs s _
  | vpmovs e pg va md co => exact doneAll_runs s _
  | vspmov e pg vd md co => exact doneAll_runs s _
  | vext e pg va vb md co => exact doneAll_runs s _
  | vredacc e pg va md co => exact doneAll_runs s _
  | vldw e pg vd sa off co => exact doneAll_runs s _
  | vldh e pg vd sa off co => exact doneAll_runs s _
  | vldhs e pg vd sa off co => exact doneAll_runs s _
  | vldb e pg vd sa off co => exact doneAll_runs s _
  | vstw e pg vd sa off co => exact doneAll_runs s _
  | vsth e pg vd sa off co => exact doneAll_runs s _
  | vstb e pg vd sa off co => exact doneAll_runs s _
  | vgather e pg vd va sa size co => exact doneAll_runs s _
  | vscatter e pg vd va sa size co => exact doneAll_runs s _
  | vstc e pg vd sa size co => exact doneAll_runs s _
  | vcrc e pg va vb md co => exact doneAll_runs s _
  | smp e pg vd va vb md co => exact doneAll_runs s _
  | lutl e pg vd va md co => exact doneAll_runs s _
  | samplerServe c n => exact doneAll_runs s _
  | lutUnitServe u => exact doneAll_runs s _
  | read2d e u => exact doneAll_runs s _
  | write2d e u => exact doneAll_runs s _
  | unpack e u => exact doneAll_runs s _
  | post e u => exact doneAll_runs s _
  | postAccept e u => exact doneAll_runs s _
  | engWatchdog e => exact doneAll_runs s _
  | regfileParity e => exact doneAll_runs s _
  | pstoreEcc e => exact doneAll_runs s _
  | unitFault e unit => exact doneAll_runs s _
  | programStoreCopy u e => exact done_runs s _
  | engPdataLoWrite a e v => exact done_runs s _
  | engPdataHiWrite a e v => exact done_runs s _
  | engPdataHiRead a e => exact done_runs s _
  | bsNop b => exact doneAll_runs s _
  | bsIdle b cnt => exact doneAll_runs s _
  | bsFetch b pred => exact doneAll_runs s _
  | bsSend b pred => exact doneAll_runs s _
  | bsKsym b pred imm => exact doneAll_runs s _
  | bsTurn b pred => exact doneAll_runs s _
  | bsSetf b pred flag => exact doneAll_runs s _
  | bsClrf b pred flag => exact doneAll_runs s _
  | bsJmp b target => exact doneAll_runs s _
  | bsBr b target cond => exact doneAll_runs s _
  | bsLdc b imm => exact doneAll_runs s _
  | bsDjnz b target => exact doneAll_runs s _
  | bsWaitc b cond => exact doneAll_runs s _
  | bsCall b target => exact doneAll_runs s _
  | bsRtn b => exact doneAll_runs s _
  | bsEvt b imm => exact doneAll_runs s _
  | bsHalt b => exact done_runs s _
  | bsStatusRead a b => exact done_runs s _
  | bsUdataHiWrite a b v => exact done_runs s _
  | returnWindowDue p => exact done_runs s _
  | status h flags lastCur fwdErr state => exact done_runs s _
  | readData h bs => exact done_runs s _
  | serviceData h bs => exact done_runs s _
  | echoReply h rtt => exact done_runs s _
  | pageWrite w h addr bs => exact done_runs s _
  | codeDense w h addr bs => exact done_runs s _
  | codeSparse w h addr bs => exact done_runs s _
  | pageCopy w h addr bs => exact done_runs s _
  | regWrite w h addr bs => exact done_runs s _
  | readReq w h addr bs => exact done_runs s _
  | curtain w h bs => exact done_runs s _
  | slotSched w h bs => exact done_runs s _
  | echo w h tag => exact done_runs s _
  | curMark w sym => exact done_runs s _
  | stbMark w sym => exact done_runs s _
  | ta w chain driver => exact done_runs s _
  | abt w busy => exact done_runs s _
  | powerLogicOff w h => exact done_runs s _
  | powerRailOn w h => exact done_runs s _
  | powerLightOn w h => exact done_runs s _
  | powerLightOff w h => exact done_runs s _
  | powerRailOff w h => exact done_runs s _
  | powerHold w h => exact done_runs s _
  | diagRead w h first tests => exact done_runs s _
  | borrow w h slot cur8 => exact done_runs s _
  | railRead w h mv bad => exact done_runs s _
  | calFlat w h cur8 => exact done_runs s _
  | flArm w h cur8 slot => exact done_runs s _
  | flRead w h sensor sat bad counts => exact done_runs s _
  | vfRead w h first classes => exact done_runs s _
  | driverLineLossHold w => exact done_runs s _
  | tilePowerAdvance t found => exact done_runs s _
  | railSettleElapsed t => exact done_runs s _
  | railDischargeElapsed t => exact done_runs s _
  | tileReportTimeout t => exact doneAll_runs s _
  | logicLineRestart p => exact doneAll_runs s _
  | readbackScrub p => exact done_runs s _
  | diagWindow => exact doneAll_runs s _
  | drvLampSetA a v => exact done_runs s _
  | drvLampSetB a v => exact done_runs s _
  | calRun a v => exact done_runs s _
  | calRunResult t e fit => exact done_runs s _
  | tempPoll => exact done_runs s _
  | calTrim a v => exact done_runs s _
  | bankTrimMeasured b swing dly => exact done_runs s _
  | amonConversion a sa sb => exact done_runs s _
  | timeCellSend => exact doneAll_runs s _
  | timeCell h at_ time256 edgeAt num prio serial lead epoch nhops => exact doneAll_runs s _
  | delayRequest h at_ => exact doneAll_runs s _
  | delayResponse h t1 t2 t3 t4 => exact done_runs s _
  | controlCandidacy h kind target prio serial epoch => exact doneAll_runs s _
  | controlLeadDecision h winner prio serial outcomes => exact doneAll_runs s _
  | controlFieldsAnnounce h fields => exact doneAll_runs s _
  | controlCensusRequest h num gen report => exact doneAll_runs s _
  | sourceCell h share frame bx by_ fmt win packed last bs => exact doneAll_runs s _
  | promptCell h stamp unit code kind level coalesced block count tenants a => exact doneAll_runs s _
  | bulkCell h dst len off bs => exact doneAll_runs s _
  | bulkAck h seq status => exact doneAll_runs s _
  | xferUnreachable => exact doneAll_runs s _
  | cmpXferGo a v => exact done_runs s _
  | cmpRoleReq a v => exact done_runs s _
  | cmpCensus a v => exact done_runs s _
  | laneLoss e lane => exact doneAll_runs s _
  | linkDown e east west => exact doneAll_runs s _
  | linkUp e peer lanes east west => exact doneAll_runs s _
  | leadLost => exact done_runs s _
  | shareBlockReady share bx by_ => exact doneAll_runs s _
  | shareRawTimeout => exact doneAll_runs s _
  | bankOwnerWrite a n v => exact done_runs s _
  | bankPwrWrite a n v => exact done_runs s _
  | bankPowerMoveDone n => exact done_runs s _
  | bankScrubRead n word found => exact doneAll_runs s _
  | atomicFetchadd a addr bytes v => exact done_runs s _
  | atomicSwap a addr bytes v => exact done_runs s _
  | mrw c mr data => exact done_runs s _
  | mrr c mr => exact done_runs s _
  | wffRff mask => exact done_runs s _
  | rdc mask => exact done_runs s _
  | loopback mask => exact done_runs s _
  | chApply a c v => exact done_runs s _
  | delayApplied c => exact done_runs s _
  | mr4Poll c mr4 => exact done_runs s _
  | delayCheck c steps => exact done_runs s _
  | channelFault c =>
    simp only [exec, execChannelFault]
    split <;> exact done_runs s _
  | dramRelaid => exact done_runs s _
  | pkrHeadWrite a t v => exact done_runs s _
  | encode lane t slot => exact doneAll_runs s _
  | decode lane t slot => exact doneAll_runs s _
  | flush lane t slot => exact doneAll_runs s _
  | packerFault lane => exact done_runs s _
  | caddyProgram house own fetch code => exact doneAll_runs s _
  | caddyErase house own fetch code => exact doneAll_runs s _
  | caddyOpComplete => exact doneAll_runs s _
  | caddyEnergyRecheck code => exact doneAll_runs s _
  | holdupLoadTest dTest dTrend => exact doneAll_runs s _
  | caddyMarginRead found near => exact doneAll_runs s _
  | pageRefresh code => exact done_runs s _
  | cadProtectLock a v => exact done_runs s _
  | load a v => exact done_runs s _
  | live a v => exact done_runs s _
  | liveRound => exact done_runs s _
  | verify a v => exact done_runs s _
  | pnxRevoke a v => exact done_runs s _
  | flashRead a v => exact done_runs s _
  | flashProgram a v => exact done_runs s _
  | flashErase4k a v => exact done_runs s _
  | flashErase64k a v => exact done_runs s _
  | cuqTailWrite a t v => exact done_runs s _
  | cpqHeadWrite a t v => exact done_runs s _
  | pbhHeadWrite a t v => exact done_runs s _
  | cueNop t => exact done_runs s _
  | write t => exact done_runs s _
  | read t => exact done_runs s _
  | commit t => exact done_runs s _
  | handover t => exact done_runs s _
  | drvTxn t => exact done_runs s _
  | setTime t => exact done_runs s _
  | census t => exact done_runs s _
  | cueFence t => exact done_runs s _
  | reset t => exact done_runs s _
  | mark t => exact done_runs s _
  | discard t => exact done_runs s _
  | scheduledCueRelease => exact done_runs s _
  | tenOwnWrite a o v => exact done_runs s _
  | tenBindWrite a t srcIp v => exact done_runs s _
  | tenReset a t v => exact done_runs s _
  | tenDiscard a t v => exact done_runs s _
  | tenCensus a v => exact done_runs s _
  | functionLevelReset t => exact done_runs s _
  | pcieHotReset => exact done_runs s _
  | pcieLinkLoss => exact done_runs s _
  | mgmtRead f => exact done_runs s _
  | mgmtWrite f => exact done_runs s _
  | mgmtCue f => exact done_runs s _
  | arpRequest sha spa tpa => exact done_runs s _
  | icmpEchoRequest dst id seq data => exact done_runs s _
  | spiRead addr => exact done_runs s _
  | spiWrite addr v => exact done_runs s _
  | pbRecordRelease => exact done_runs s _
  | pbCoalesceClose => exact done_runs s _
  | pbCaddyCopy => exact done_runs s _
  | msixHoldoff t v => exact done_runs s _
  | sysModeReqRehearsal a => exact done_runs s _
  | sysModeReqShow a => exact done_runs s _
  | sysModeReqHold a => exact done_runs s _
  | sysModeReqTest a => exact done_runs s _
  | wakeResume => exact done_runs s _
  | l1KeeperAccess a addr write => exact done_runs s _
  | vddAoGood testEn => exact doneAll_runs s _
  | vddAoLoss => exact doneAll_runs s _
  | porNRise testEn => exact doneAll_runs s _
  | spineSupplyLoss => exact doneAll_runs s _
  | portSupplyFault b => exact doneAll_runs s _
  | pfailNFall => exact done_runs s _
  | pfailNRise => exact done_runs s _
  | hcWatchdog dramOk => exact done_runs s _
  | hcFault dramOk => exact doneAll_runs s _
  | sysRestart a v dramOk => exact done_runs s _
  | thermalSample q0 q1 q2 q3 sp => exact done_runs s _
  | idcode => exact done_runs s _
  | bypass => exact done_runs s _
  | sample balls => exact done_runs s _
  | preload balls => exact done_runs s _
  | extest balls => exact done_runs s _
  | registerRead a addr => exact done_runs s _
  | bsIllegalOp b ecc => exact done_runs s _
  | netLinkDown p => exact doneAll_runs s _
  | netLinkUp p => exact doneAll_runs s _
  | ptpDelayReq p at_ seq => exact doneAll_runs s _
  | previewHpd p up => exact done_runs s _
  | driverLockLoss w => exact done_runs s _
  | driverLockGain w => exact done_runs s _
  | laneLock e lane => exact done_runs s _
  | vddHoldGood => exact doneAll_runs s _
  | vddHoldLoss => exact done_runs s _
  | refclkLoss => exact doneAll_runs s _

end Sys2Proof.Machine
end

