-- ==== Sys2Proof/Laws/Frame.lean ====
section
/-! SUPPORT. Footprints: which registers, which memories and which parts of the state a list of updates leaves as they were, and what a
field reads after it is set. -/

namespace Sys2Proof.Machine

/-! ## Footprints of updates -/

/-- May an update change the control register at `r`? -/
def Act.mayReg (x : Act) (r : Nat) : Bool :=
  match x with
  | .reg a _ => a == r
  | .fld a _ _ => a == r
  | .inc a _ _ => a == r
  | .sat a _ _ => a == r
  | .evt blk t _ => evtStatus blk t == r
  | .log _ => r == Reg.PB_UNIT_LOST
  | _ => false

/-- May an update change an addressed memory? -/
def Act.mayMem (x : Act) : Bool :=
  match x with
  | .dram .. => true
  | .dramDrop .. => true
  | .sram .. => true
  | .sramDrop .. => true
  | .host .. => true
  | .hostDrop .. => true
  | .caddy .. => true
  | .caddyDrop .. => true
  | .flash .. => true
  | .flashDrop .. => true
  | _ => false

/-- May an update change the sync keeper's state? -/
def Act.mayCur (x : Act) : Bool :=
  match x with
  | .cur _ => true
  | .clockTo _ => true
  | _ => false

/-- May an update change system state? -/
def Act.maySys (x : Act) : Bool :=
  match x with
  | .sys _ => true
  | _ => false

theorem rd_applyAct_other (s : State) (x : Act) (r : Nat) (h : x.mayReg r = false) : rd (applyAct s x) r = rd s r := by
  cases x <;> simp only [Act.mayReg, beq_eq_false_iff_ne, ne_eq] at h <;> try rfl
  case reg a v => exact rd_putReg_other s a r _ (Ne.symm h)
  case fld a f v => exact rd_putReg_other s a r _ (Ne.symm h)
  case inc a f n => exact rd_putReg_other s a r _ (Ne.symm h)
  case sat a f n => exact rd_putReg_other s a r _ (Ne.symm h)
  case evt blk t b =>
    show mapGet regReset (raiseEvt s blk t b).regs r = _
    rw [raiseEvt_regs]
    exact rd_putReg_other s _ r _ (Ne.symm h)
  case log q =>
    show mapGet regReset (applyAct s (.log q)).regs r = _
    simp only [applyAct]
    split
    · rfl
    · exact rd_putReg_other s _ r _ h
  case signal t v =>
    show mapGet regReset (signalTenant s t v).regs r = _
    simp [rd]

/-- A register that no update of a list may change. -/
theorem rd_applyActs_other (s : State) (xs : List Act) (r : Nat) (h : xs.all (fun x => !x.mayReg r) = true) :
    rd (applyActs s xs) r = rd s r := by
  induction xs generalizing s with
  | nil => rfl
  | cons x xs ih =>
    simp only [List.all_cons, Bool.and_eq_true, Bool.not_eq_true'] at h
    rw [applyActs_cons, ih _ h.2, rd_applyAct_other _ _ _ h.1]

theorem sameMemory_refl (s : State) : sameMemory s s := ⟨fun _ => rfl, fun _ => rfl, fun _ => rfl, fun _ => rfl, fun _ => rfl⟩

theorem sameMemory_trans {s t u : State} (h : sameMemory s t) (k : sameMemory t u) : sameMemory s u :=
  ⟨fun a => (k.1 a).trans (h.1 a), fun a => (k.2.1 a).trans (h.2.1 a), fun a => (k.2.2.1 a).trans (h.2.2.1 a),
    fun a => (k.2.2.2.1 a).trans (h.2.2.2.1 a), fun a => (k.2.2.2.2 a).trans (h.2.2.2.2 a)⟩

theorem sameMemory_applyAct (s : State) (x : Act) (h : x.mayMem = false) : sameMemory s (applyAct s x) := by
  cases x <;> simp only [Act.mayMem, Bool.true_eq_false] at h <;>
    simp [sameMemory, dramByte, sramByte, hostByte, caddyByte, flashByte]

/-- No byte of memory differs where no update of a list may change one. -/
theorem sameMemory_applyActs (s : State) (xs : List Act) (h : xs.all (fun x => !x.mayMem) = true) : sameMemory s (applyActs s xs) := by
  induction xs generalizing s with
  | nil => exact sameMemory_refl s
  | cons x xs ih =>
    simp only [List.all_cons, Bool.and_eq_true, Bool.not_eq_true'] at h
    exact sameMemory_trans (sameMemory_applyAct s x h.1) (ih _ h.2)

theorem cur_applyActs (s : State) (xs : List Act) (h : xs.all (fun x => !x.mayCur) = true) : (applyActs s xs).cur = s.cur := by
  induction xs generalizing s with
  | nil => rfl
  | cons x xs ih =>
    simp only [List.all_cons, Bool.and_eq_true, Bool.not_eq_true'] at h
    rw [applyActs_cons, ih _ h.2]
    cases x <;> simp only [Act.mayCur, Bool.true_eq_false, false_and] at h <;> simp

theorem sys_applyActs (s : State) (xs : List Act) (h : xs.all (fun x => !x.maySys) = true) : (applyActs s xs).sys = s.sys := by
  induction xs generalizing s with
  | nil => rfl
  | cons x xs ih =>
    simp only [List.all_cons, Bool.and_eq_true, Bool.not_eq_true'] at h
    rw [applyActs_cons, ih _ h.2]
    cases x <;> simp only [Act.maySys, Bool.true_eq_false, false_and] at h <;> simp

/-! ## Fields -/

theorem width_eq (f : Field) : f.hi - f.lo + 1 = f.width := rfl

theorem mask_getLsbD (f : Field) (j : Nat) (hj : j < 32) : f.mask.getLsbD j = (decide (f.lo ≤ j) && decide (j - f.lo < f.width)) := by
  simp only [Field.mask, width_eq, BitVec.getLsbD_ofNat, hj, decide_true, Bool.true_and, Nat.testBit_mul_two_pow, Nat.testBit_two_pow_sub_one]

/-- The bits of a field. -/
theorem getF_testBit (w : Word) (f : Field) (i : Nat) : (getF w f).testBit i = (decide (i < f.width) && w.getLsbD (f.lo + i)) := by
  simp only [getF, bitsOf, width_eq, Nat.testBit_mod_two_pow, Nat.testBit_div_two_pow, BitVec.getLsbD, Nat.add_comm]

/-- The bits of a word with a field set. -/
theorem putF_getLsbD (w : Word) (f : Field) (v j : Nat) (hj : j < 32) :
    (putF w f v).getLsbD j = if f.lo ≤ j ∧ j - f.lo < f.width then v.testBit (j - f.lo) else w.getLsbD j := by
  simp only [putF, BitVec.getLsbD_or, BitVec.getLsbD_and, BitVec.getLsbD_not, mask_getLsbD f j hj, hj, decide_true, Bool.true_and,
    BitVec.getLsbD_ofNat, Nat.testBit_mul_two_pow, Nat.testBit_mod_two_pow]
  by_cases h1 : f.lo ≤ j <;> by_cases h2 : j - f.lo < f.width <;> simp [h1, h2]

/-- A field reads what it was set to, cut to its width. -/
theorem getF_putF (w : Word) (f : Field) (v : Nat) (h : f.lo + f.width ≤ 32) : getF (putF w f v) f = v % 2 ^ f.width := by
  apply Nat.eq_of_testBit_eq
  intro i
  rw [getF_testBit, Nat.testBit_mod_two_pow]
  by_cases hi : i < f.width
  · rw [putF_getLsbD w f v _ (by omega)]
    simp [hi]
  · simp [hi]

/-- Setting a field leaves one that shares no bit with it. -/
theorem getF_putF_other (w : Word) (f g : Field) (v : Nat) (k : g.lo + g.width ≤ 32) (h : f.lo + f.width ≤ g.lo ∨ g.lo + g.width ≤ f.lo) :
    getF (putF w f v) g = getF w g := by
  apply Nat.eq_of_testBit_eq
  intro i
  rw [getF_testBit, getF_testBit]
  by_cases hi : i < g.width
  · rw [putF_getLsbD w f v _ (by omega), if_neg (by omega)]
  · simp [hi]

/-- A field that a mask covers is not cut by it. -/
theorem getF_and (w m : Word) (f : Field) (k : f.lo + f.width ≤ 32) (h : m &&& f.mask = f.mask) : getF (w &&& m) f = getF w f := by
  apply Nat.eq_of_testBit_eq
  intro i
  rw [getF_testBit, getF_testBit, BitVec.getLsbD_and]
  by_cases hi : i < f.width
  · have e := congrArg (fun x => x.getLsbD (f.lo + i)) h
    simp only [BitVec.getLsbD_and, mask_getLsbD f (f.lo + i) (by omega)] at e
    simp at e
    simp [hi, e]
  · simp [hi]

theorem getF_lt (w : Word) (f : Field) : getF w f < 2 ^ f.width := Nat.mod_lt _ (Nat.two_pow_pos _)

/-- What a field reads after its register is written. -/
theorem rf_reg {s : State} (h : regsWf s = true) (a : Nat) (v : Word) (f : Field) (k : f.lo + f.width ≤ 32) (m : regImpl a &&& f.mask = f.mask) :
    rf (applyAct s (.reg a v)) a f = getF v f := by
  have hw : mapWf regReset s.regs = true := by
    simp only [regsWf, Bool.and_eq_true] at h
    exact h.1.1.1
  show getF (mapGet regReset (putReg s.regs a v) a) f = _
  rw [rd_putReg_same hw, getF_and _ _ _ k m]

/-- What a field reads after it is set. -/
theorem rf_fld {s : State} (h : regsWf s = true) (a : Nat) (f : Field) (v : Nat) (k : f.lo + f.width ≤ 32) (m : regImpl a &&& f.mask = f.mask) :
    rf (applyAct s (.fld a f v)) a f = v % 2 ^ f.width := (rf_reg h a _ f k m).trans (getF_putF _ _ _ k)

/-- What another field of the register reads. -/
theorem rf_fld_other {s : State} (h : regsWf s = true) (a : Nat) (f g : Field) (v : Nat) (k : g.lo + g.width ≤ 32)
    (m : regImpl a &&& g.mask = g.mask) (d : f.lo + f.width ≤ g.lo ∨ g.lo + g.width ≤ f.lo) :
    rf (applyAct s (.fld a f v)) a g = rf s a g := (rf_reg h a _ g k m).trans (getF_putF_other _ _ _ _ k d)

/-- A counter after an increment. -/
theorem rf_inc {s : State} (h : regsWf s = true) (a : Nat) (f : Field) (n : Nat) (k : f.lo + f.width ≤ 32) (m : regImpl a &&& f.mask = f.mask) :
    rf (applyAct s (.inc a f n)) a f = (rf s a f + n) % 2 ^ f.width := (rf_reg h a _ f k m).trans (getF_putF _ _ _ k)

/-! ## Per-unit data -/

theorem units_of_inv {s : State} (h : s.Inv) :
    mapWf srcDflt s.srcs = true ∧ mapWf ptpDflt s.ptp = true ∧ mapWf pvwDflt s.pvw = true ∧ mapWf engDflt s.engs = true
      ∧ mapWf portDflt s.ports = true ∧ mapWf seqDflt s.seqs = true ∧ mapWf farDflt s.far = true ∧ mapWf tileDflt s.tiles = true
      ∧ mapWf drvDflt s.drvs = true ∧ mapWf tenantDflt s.tenants = true := by
  have := h.2.2
  simp only [unitsWf, Bool.and_eq_true, and_assoc] at this
  exact this

theorem mem_of_inv {s : State} (h : s.Inv) :
    mapWf zeroByte s.dram = true ∧ mapWf zeroByte s.sram = true ∧ mapWf zeroByte s.host = true ∧ mapWf erasedByte s.caddy = true
      ∧ mapWf erasedByte s.flash = true := by
  have := h.1
  simp only [Memory.wf, Bool.and_eq_true, and_assoc] at this
  exact this

theorem regs_of_inv {s : State} (h : s.Inv) : mapWf regReset s.regs = true ∧ mapWf regReset s.lampRegs = true := by
  have := h.2.1
  simp only [regsWf, Bool.and_eq_true, and_assoc] at this
  exact ⟨this.1, this.2.1⟩

theorem get_src_same {s : State} (h : s.Inv) (i : Nat) (f : Source → Source) :
    mapGet srcDflt (applyAct s (.src i f)).srcs i = f (mapGet srcDflt s.srcs i) := mapGet_mapPut_same srcDflt (units_of_inv h).1 i _

theorem get_src_other (s : State) (i j : Nat) (f : Source → Source) (h : j ≠ i) :
    mapGet srcDflt (applyAct s (.src i f)).srcs j = mapGet srcDflt s.srcs j := mapGet_mapPut_other srcDflt h _ _

theorem get_ptp_same {s : State} (h : s.Inv) (i : Nat) (f : PtpPort → PtpPort) :
    mapGet ptpDflt (applyAct s (.ptp i f)).ptp i = f (mapGet ptpDflt s.ptp i) := mapGet_mapPut_same ptpDflt (units_of_inv h).2.1 i _

theorem get_ptp_other (s : State) (i j : Nat) (f : PtpPort → PtpPort) (h : j ≠ i) :
    mapGet ptpDflt (applyAct s (.ptp i f)).ptp j = mapGet ptpDflt s.ptp j := mapGet_mapPut_other ptpDflt h _ _

theorem get_pvw_same {s : State} (h : s.Inv) (i : Nat) (f : Preview → Preview) :
    mapGet pvwDflt (applyAct s (.pvw i f)).pvw i = f (mapGet pvwDflt s.pvw i) := mapGet_mapPut_same pvwDflt (units_of_inv h).2.2.1 i _

theorem get_pvw_other (s : State) (i j : Nat) (f : Preview → Preview) (h : j ≠ i) :
    mapGet pvwDflt (applyAct s (.pvw i f)).pvw j = mapGet pvwDflt s.pvw j := mapGet_mapPut_other pvwDflt h _ _

theorem get_eng_same {s : State} (h : s.Inv) (i : Nat) (f : Engine → Engine) :
    mapGet engDflt (applyAct s (.eng i f)).engs i = f (mapGet engDflt s.engs i) := mapGet_mapPut_same engDflt (units_of_inv h).2.2.2.1 i _

theorem get_eng_other (s : State) (i j : Nat) (f : Engine → Engine) (h : j ≠ i) :
    mapGet engDflt (applyAct s (.eng i f)).engs j = mapGet engDflt s.engs j := mapGet_mapPut_other engDflt h _ _

theorem get_port_same {s : State} (h : s.Inv) (i : Nat) (f : Port → Port) :
    mapGet portDflt (applyAct s (.port i f)).ports i = f (mapGet portDflt s.ports i) := mapGet_mapPut_same portDflt (units_of_inv h).2.2.2.2.1 i _

theorem get_port_other (s : State) (i j : Nat) (f : Port → Port) (h : j ≠ i) :
    mapGet portDflt (applyAct s (.port i f)).ports j = mapGet portDflt s.ports j := mapGet_mapPut_other portDflt h _ _

theorem get_bseq_same {s : State} (h : s.Inv) (i : Nat) (f : BankSeq → BankSeq) :
    mapGet seqDflt (applyAct s (.bseq i f)).seqs i = f (mapGet seqDflt s.seqs i) := mapGet_mapPut_same seqDflt (units_of_inv h).2.2.2.2.2.1 i _

theorem get_bseq_other (s : State) (i j : Nat) (f : BankSeq → BankSeq) (h : j ≠ i) :
    mapGet seqDflt (applyAct s (.bseq i f)).seqs j = mapGet seqDflt s.seqs j := mapGet_mapPut_other seqDflt h _ _

theorem get_far_same {s : State} (h : s.Inv) (i : Nat) (f : FarEnd → FarEnd) :
    mapGet farDflt (applyAct s (.far i f)).far i = f (mapGet farDflt s.far i) := mapGet_mapPut_same farDflt (units_of_inv h).2.2.2.2.2.2.1 i _

theorem get_far_other (s : State) (i j : Nat) (f : FarEnd → FarEnd) (h : j ≠ i) :
    mapGet farDflt (applyAct s (.far i f)).far j = mapGet farDflt s.far j := mapGet_mapPut_other farDflt h _ _

theorem get_tile_same {s : State} (h : s.Inv) (i : Nat) (f : TilePwr → TilePwr) :
    mapGet tileDflt (applyAct s (.tile i f)).tiles i = f (mapGet tileDflt s.tiles i) := mapGet_mapPut_same tileDflt (units_of_inv h).2.2.2.2.2.2.2.1 i _

theorem get_tile_other (s : State) (i j : Nat) (f : TilePwr → TilePwr) (h : j ≠ i) :
    mapGet tileDflt (applyAct s (.tile i f)).tiles j = mapGet tileDflt s.tiles j := mapGet_mapPut_other tileDflt h _ _

theorem get_drv_same {s : State} (h : s.Inv) (i : Nat) (f : Driver → Driver) :
    mapGet drvDflt (applyAct s (.drv i f)).drvs i = f (mapGet drvDflt s.drvs i) := mapGet_mapPut_same drvDflt (units_of_inv h).2.2.2.2.2.2.2.2.1 i _

theorem get_drv_other (s : State) (i j : Nat) (f : Driver → Driver) (h : j ≠ i) :
    mapGet drvDflt (applyAct s (.drv i f)).drvs j = mapGet drvDflt s.drvs j := mapGet_mapPut_other drvDflt h _ _

theorem get_ten_same {s : State} (h : s.Inv) (i : Nat) (f : Tenant → Tenant) :
    mapGet tenantDflt (applyAct s (.ten i f)).tenants i = f (mapGet tenantDflt s.tenants i) := mapGet_mapPut_same tenantDflt (units_of_inv h).2.2.2.2.2.2.2.2.2 i _

theorem get_ten_other (s : State) (i j : Nat) (f : Tenant → Tenant) (h : j ≠ i) :
    mapGet tenantDflt (applyAct s (.ten i f)).tenants j = mapGet tenantDflt s.tenants j := mapGet_mapPut_other tenantDflt h _ _

end Sys2Proof.Machine
end

