-- ==== Sys2Proof/Certificates/Slice0/Obligations.lean ====
section
/-! DEFINITION. The statements about the block: what a step does, what every step keeps, and what each command does. -/

open Sys2Proof Sys2Proof.Machine

/-! ## The machine as a whole -/

/-- A step with a command in front is exec of that command on the state with the queue's rest. -/
def Obligations.StepRunsFrontCommand : Prop :=
  ∀ (s : State) (c : Instr) (cs : List Instr), s.pending = c :: cs → step s = exec c { s with pending := cs }

/-- With no command waiting and REFCLK and VDD_AO there, a step is one fabric clock: the clock with its fraction advances by 5/6 ns,
corrected by the slew, and nothing else changes (R34; the model's choice, log entry 1). -/
def Obligations.StepTicksOnEmptyQueue : Prop :=
  ∀ s : State, s.pending = [] → s.sys.refclk = true → s.sys.vddAo = true → -1000000 ≤ s.cur.slew →
    ∃ c f : Nat, step s = .next { s with cur := { s.cur with clock := c, frac := f } } ∧ f < 6000000
      ∧ (6000000 * c + f : Int) = 6000000 * s.cur.clock + s.cur.frac + 5 * (1000000 + s.cur.slew)

/-- State.reset: no command waits, the mode is BOOT, no curtain runs, a register reads the reset value of its field table, memory lists
nothing, and every engine is in OFF with its registers 0. (Readings and choices of the model: log entries 4, 5, 6.) -/
def Obligations.ResetLeaves : Prop :=
  State.reset.pending = [] ∧ mode State.reset = mBOOT ∧ State.reset.cur.running = false
    ∧ (∀ a, rd State.reset a = regReset a) ∧ (∀ a, rdLamp State.reset a = regReset a)
    ∧ (∀ a, dramByte State.reset a = 0) ∧ (∀ a, sramByte State.reset a = 0)
    ∧ (∀ e : Fin 96, engState State.reset e = esOFF)
    ∧ (∀ e n, (eng State.reset e).sr n = 0 ∧ (eng State.reset e).sticky = 0 ∧ ∀ i, (eng State.reset e).lane n i = 0)

/-- The invariant holds right after reset. (Readings and choices of the model: log entry 5.) -/
def Obligations.ResetMeetsInvariant : Prop := State.reset.Inv

/-- Whatever command stands in front, a step from a state that meets the invariant leads to one that meets it: memories, register files
and per-unit data stay in canonical form, and reserved bits stay 0 (R7). -/
def Obligations.StepKeepsInvariant : Prop := ∀ s t : State, s.Inv → step s = .next t → t.Inv

/-- Every command answers a next state and leaves the queue of waiting commands as it was. -/
def Obligations.CommandsKeepTheQueue : Prop := ∀ (c : Instr) (s : State), ∃ t, exec c s = .next t ∧ t.pending = s.pending

/-- Two memories in canonical form that read alike everywhere are the same data. A write of consecutive bytes is what those addresses read
afterwards, and every other address reads as before (R6). (Readings and choices of the model: log entry 6.) -/
def Obligations.MemoryReadsAsWritten : Prop :=
  (∀ (d : Nat → Byte) (m n : SMap Byte), mapWf d m = true → mapWf d n = true → (∀ k, mapGet d m k = mapGet d n k) → m = n) ∧
  (∀ (m : SMap Byte) (a : Nat) (bs : List Byte), mapWf zeroByte m = true →
    mapGets zeroByte (mapPuts zeroByte m a bs) a bs.length = bs
      ∧ (∀ k, k < a ∨ a + bs.length ≤ k → mapGet zeroByte (mapPuts zeroByte m a bs) k = mapGet zeroByte m k)
      ∧ mapWf zeroByte (mapPuts zeroByte m a bs) = true)

/-- A reserved field reads 0: in every state of the invariant, at every control address (R7). -/
def Obligations.ReservedFieldsReadZero : Prop :=
  ∀ (s : State) (a : Nat), s.Inv → rd s a &&& ~~~(regImpl a) = 0 ∧ rdLamp s a &&& ~~~(regImpl a) = 0

/-! ## Control space -/

/-- A register read by a tenant answers with what the register's codes give it (RWS under the tenant's view, WO as 0) and changes nothing else;
over SPI it is read as T0 (R9, R561). In HOLD the L1 keeper answers a read of SYS, and the access is a wake cause (R604). A read of
CUR_TIME_SEC_HI latches the whole show clock into the reading tenant's latch and gives the upper seconds (R86). -/
def Obligations.RegisterReadsAnswer : Prop :=
  (∀ (s : State) (a : Acc) (addr : Nat) (row : RegRow) (ix : List Nat),
    (reaches s a addr false → readsPlainly (actsFor a) addr row ix →
      exec (.registerRead a addr) s = .next { s with out := { s.out with readData := regWord s (actsFor a) row ix addr } })
    ∧ (reaches s ⟨0, .spi⟩ addr false → readsPlainly 0 addr row ix →
      exec (.spiRead addr) s = .next { s with out := { s.out with readData := regWord s 0 row ix addr } })) ∧
  (∀ (s : State) (a : Acc) (addr : Nat) (row : RegRow) (ix : List Nat), mode s = mHOLD → bindMode s a.t = 0 → addr < 0x100000 →
    absentAddr s addr = false → readsPlainly a.t addr row ix →
      exec (.l1KeeperAccess a addr false) s = nextBy s (wakeFrom 3 s ++ [gives (regWord s a.t row ix addr)])) ∧
  (∀ (s : State) (a : Acc), reaches s a Reg.CUR_TIME_SEC_HI false →
    exec (.curTimeSecHiRead a) s = nextBy s
      [.ten (actsFor a) (fun q => { q with latchSec := now s / 1000000000 % 2 ^ 32, latchNs := now s % 1000000000 }),
       gives (putF 0 Fld.CUR_TIME_SEC_HI_SEC_HI (now s / 1000000000 / 2 ^ 32))])

/-- A register write takes effect under the access code of each field: the register holds the written word, staged bits enter the writer's
staging set, and nothing else changes (R9, R62, R561). A refused write changes nothing of the register files but the event status and the
fault record of the tenant, and no memory (R563, R580). A write of FORCE marks the source for full damage at its next adoption (R121).
(Readings and choices of the model: log entries 43, 79.) -/
def Obligations.RegisterWritesAct : Prop :=
  (∀ (s : State) (a : Acc) (addr : Nat) (v : Word) (row : RegRow) (ix : List Nat),
    (reaches s a addr true → writesPlainly s (actsFor a) addr v row ix →
      exec (.registerWrite a addr v) s = nextBy s
        ([.reg addr (writtenWord s row (ix.headD 0) (rd s addr) (raisedValue s row.base v))]
          ++ (if codeMask row (ix.headD 0) .rws = 0 then []
              else [.ten (actsFor a) (fun q => { q with staged := stagedAfter s (actsFor a) addr v row ix })])))
    ∧ (reaches s ⟨0, .spi⟩ addr true → writesPlainly s 0 addr v row ix →
      exec (.spiWrite addr v) s = exec (.registerWrite ⟨0, .spi⟩ addr v) s)) ∧
  (∀ (s : State) (a : Acc) (addr : Nat) (v : Word) (row : RegRow) (ix : List Nat), s.Inv → reaches s a addr true →
    isRegister addr → regRow? addr = some (row, ix) → actingWrite (actsFor a) row.base (ix.headD 0) addr v = none →
    mayWrite s (actsFor a) row ix = false →
      ∃ t, exec (.registerWrite a addr v) s = .next t ∧ sameMemory s t
        ∧ rf t (Reg.TEN_FAULT_LAST (actsFor a)) Fld.TEN_FAULT_LAST_STATUS = stNOT_OWNER
        ∧ rd t (Reg.TEN_FAULT_ADDR (actsFor a)) = BitVec.ofNat 32 addr
        ∧ (ten t (actsFor a)).staged = (ten s (actsFor a)).staged) ∧
  (∀ (s : State) (a : Acc) (x : Fin 6) (v : Word), s.Inv → reaches s a (Reg.SRC_CTRL x) true → actsFor a = 0 →
    getF v Fld.SRC_CTRL_MAX_LANES ≠ 3 → getF v Fld.SRC_CTRL_MAX_RATE ≠ 3 → getF v Fld.SRC_CTRL_FORCE = 1 →
      ∃ t, exec (.srcForce a x v) s = .next t ∧ (mapGet srcDflt t.srcs x).force = true)

/-- The access codes, bit by bit: a bit of RW code takes the written bit, of RWL code until the image is sealed, a W1C bit written as 1
is cleared, a W1S bit written as 1 is set, and a bit of no such code keeps its value (R9). -/
def Obligations.AccessCodesAct : Prop :=
  ∀ (s : State) (row : RegRow) (i b : Nat) (old v : Word),
    let has := fun c => (codeMask row i c).getLsbD b
    let new := (writtenWord s row i old v).getLsbD b
    (has .rw = true → has .w1c = false → has .w1s = false → new = v.getLsbD b)
    ∧ (has .rwl = true → has .rw = false → has .w1c = false → has .w1s = false → new = if sealed s then old.getLsbD b else v.getLsbD b)
    ∧ (has .w1c = true → has .rw = false → has .rwl = false → has .w1s = false → new = (old.getLsbD b && !v.getLsbD b))
    ∧ (has .w1s = true → has .rw = false → has .rwl = false → has .w1c = false → new = (old.getLsbD b || v.getLsbD b))
    ∧ (has .rw = false → has .rwl = false → has .w1c = false → has .w1s = false → new = old.getLsbD b)

/-- When a staged field is written more than once before a commit, the last value written is the one committed (R11). -/
def Obligations.LastStagedValueWins : Prop :=
  ∀ (l : List Staged) (e : Staged) (r : Rd), overlay r (stage l e) e.addr &&& e.mask = e.val &&& e.mask

/-- A write of CUR_COMMIT in its own window takes the staging set whole as the newest commit and empties it (R62). -/
def Obligations.CommitTakesTheStagingSet : Prop :=
  ∀ (s : State) (a : Acc) (w : Fin 8) (v : Word), s.Inv → reaches s a (Reg.CUR_COMMIT w) true → (actsFor a = 0 ∨ actsFor a = w.val) →
    ∃ t c, exec (.curCommit a w v) s = .next t ∧ (ten t w).staged = [] ∧ t.cur.commits.getLast? = some c
      ∧ c.who = w.val ∧ c.tag = getF v Fld.CUR_COMMIT_TAG ∧ c.fields = (ten s w).staged ∧ c.late = (s.cur.running && s.cur.closed)
      ∧ sameMemory s t

/-! ## Curtains -/

/-- A reference event of the selected reference in LOCKED within 10 us stays LOCKED, and in ACQUIRE the 16th good one in a row locks; the
event's instant is kept, and no event is counted missing (R37). The third missing reference event in a row takes LOCKED to HOLDOVER; an
earlier one is counted and the state stays (R37, R650). (Readings and choices of the model: log entries 11, 12.) -/
def Obligations.ReferenceIsFollowed : Prop :=
  (∀ (s : State) (src : Fin 6) (at_ : Nat) (phase : Int), s.Inv → s.cur.refSrc ≠ 0 → src.val = s.cur.refSrc → (src.val = 1 ∨ src.val = 5) →
    s.cur.missing = 0 → phase.natAbs < 1000 →
      ∃ t, exec (.referenceEvent src at_ phase) s = .next t
        ∧ t.cur.missing = 0
        ∧ (lock s = lkLOCKED → lock t = lkLOCKED)
        ∧ (lock s = lkACQUIRE → 15 ≤ s.cur.good → lock t = lkLOCKED)
        ∧ (lock s = lkACQUIRE → s.cur.good < 15 → lock t = lkACQUIRE ∧ t.cur.good = s.cur.good + 1)) ∧
  (∀ s : State, s.Inv → s.cur.refSrc ≠ 0 → s.cur.lastRef ≠ none → lock s = lkLOCKED →
    ∃ t, exec .referenceEventMissing s = .next t ∧ t.cur.missing = s.cur.missing + 1
      ∧ lock t = if 3 ≤ s.cur.missing + 1 then lkHOLDOVER else lkLOCKED)

/-- Curtain edge n of a series lies at its anchor plus n exact periods rounded to the nanosecond, half away from zero, and successive
periods differ by at most 1 ns; each edge sets the next one so, from the anchor and not from the edge before (R42). -/
def Obligations.EdgesNeverDrift : Prop :=
  (∀ (anchor : Int) (rate : Fin 21) (n : Nat),
    let hz := rateHz rate
    let e := edgeOf anchor rate
    let x : Int := (n * 1000000000 * hz.2 : Nat)
    2 * (hz.1 * (e n - anchor) - x) ≤ hz.1 ∧ -(hz.1 : Int) < 2 * (hz.1 * (e n - anchor) - x)
      ∧ ((e (n + 2) - e (n + 1)) - (e (n + 1) - e n)).natAbs ≤ 1)
  ∧ ∀ s : State, s.cur.rateNext = none → s.cur.moveNext = false → s.cur.offset = 0 →
    (s.cur.next : Int) = edgeOf s.cur.anchor s.cur.rate (s.cur.n + 1) → 0 ≤ edgeOf s.cur.anchor s.cur.rate (s.cur.n + 2) →
      let c := nextEdge s s.cur
      (c.edge : Int) = edgeOf c.anchor c.rate c.n ∧ (c.next : Int) = edgeOf c.anchor c.rate (c.n + 1) ∧ c.anchor = s.cur.anchor
        ∧ c.rate = s.cur.rate ∧ c.n = s.cur.n + 1

/-- The instants of a curtain: at the edge the series turns first (the edge is the one that was due, a new period with its instants still
to come, CUR_NUM one higher, 0 after a cold start), then what the edge shows, counts and takes in; the commit close, the rescue
instant and the push deadline move the clock to C, X and D and mark the instant as passed before what follows from it; a slot starts at
its place after the edge (R42, R44, R46, R58). (Readings and choices of the model: log entries 2, 13, 16.) -/
def Obligations.CurtainInstantsPass : Prop :=
  ∀ s : State, s.cur.running = true →
    (∀ b, ∃ u, exec (.curtainEdge b) s = .next (runEffs u ([ticketCounts, curtainDone, commitsShow, edgeEnters b, armRows, edgeModes, queueRegs] ++ wakeAll))
      ∧ u.cur.edge = s.cur.next ∧ u.cur.closed = false ∧ u.cur.decided = false ∧ u.cur.interval = false ∧ u.cur.slot = 0
      ∧ u.cur.clock = max s.cur.clock s.cur.next
      ∧ (s.Inv → rf u Reg.CUR_NUM Fld.CUR_NUM_NUM = if s.sys.coldCount then 0 else (rf s Reg.CUR_NUM Fld.CUR_NUM_NUM + 1) % 2 ^ 32))
    ∧ (s.cur.closed = false → exec .commitClose s = .next (runEffs (applyActs s [.clockTo (instC s)])
        ([closeCommits, announceAll, writeLists, companyClose, latchAll evCLOSE, fun _ => [.cur (fun c => { c with closed := true })]] ++ wakeAll)))
    ∧ (s.cur.decided = false → exec .rescueInstant s = .next (runEffs
        (applyActs s [.clockTo (instX s), .cur (fun c => { c with decided := true })])
        ([latchAll evRESCUE, reserveUnknown, withdrawLate,
          fun s => seqE ((s.ports.filter (fun q => !q.2.parts.isEmpty)).map (fun q => dropBacklog q.1)) s, rowMatches, queueRegs] ++ wakeAll)))
    ∧ (s.cur.interval = false → exec .intervalStart s = .next (runEffs
        (applyActs s [.clockTo (instD s), .cur (fun c => { c with interval := true })])
        ([fun s => eventNow s 1 0 allTenants 0 0, latchAll evDEADLINE, withdraw notDone, parkTiles,
          fun _ => [.pnx (fun p => { p with parked := p.staged.isSome })], holdTiles, driveInterval, queueRegs] ++ wakeAll)))
    ∧ (∀ j : Fin 8, j.val < slotCount (rdLamp s) → exec (.slotStart j) s = .next { s with cur := { s.cur with
        clock := max s.cur.clock (s.cur.edge + slotStart (rdLamp s) s.cur.rate j), slot := j } })

/-- A curtain or slot-strobe mark leaves every running port of the bank for its instant less the port's advance, 1,023 ns ahead (R269, R271,
R272). A CAMSYNC or SYNC_OUT output that its settings at the lamps name for the slot goes active at the slot's instant plus PHASE, for
WIDTH, and returns inactive at the end of it (R52, R54, R56). (Readings and choices of the model: log entry 2.) -/
def Obligations.MarksAndOutputsFireAtTheirInstants : Prop :=
  (∀ (s : State) (b : Fin 16) (j : Fin 8), s.cur.running = true → j.val < slotCount (rdLamp s) → now s ≤ markInstant s j →
    ∃ t, exec (.markEmit b j) s = .next t ∧ t.cur.clock = max s.cur.clock (markInstant s j - 1023)
      ∧ (∀ p ∈ bankPorts b, portOn (rd s) p = true → (port s p).up = true → (port s p).startAt + 50000 ≤ markInstant s j - 1023 →
          ∃ l ∈ t.out.lines, l.port = p ∧ l.when_ = markInstant s j - rf s (Reg.PORT_ADV (p / 64) (p % 64)) Fld.PORT_ADV_ADV
            ∧ l.kcode = if j.val = 0 then kCUR else kSTB)
      ∧ t.regs = s.regs ∧ sameMemory s t) ∧
  (∀ s : State, syncLive s = true →
    (∀ (m j : Fin 8) (i : Nat), getF (rdLamp s (Reg.CUR_CAMSYNC_CTRL m)) Fld.CUR_CAMSYNC_CTRL_EN = 1 → j.val < slotCount (rdLamp s) →
      getF (rdLamp s (Reg.CUR_CAMSYNC_CTRL m)) Fld.CUR_CAMSYNC_CTRL_MODE = 1 →
      bitsOf (getF (rdLamp s (Reg.CUR_CAMSYNC_CTRL m)) Fld.CUR_CAMSYNC_CTRL_SLOT_MASK) j j = 1 →
      firstAt (now s) (slotInstants s j (sreg (rdLamp s (Reg.CUR_CAMSYNC_PHASE m)))) = some i →
        ∃ t, exec (.camsyncFire m j) s = .next t ∧ bit t.cur.camsync m = true ∧ t.cur.clock = max s.cur.clock i
          ∧ t.cur.camsyncEnd = s.cur.camsyncEnd.set m (i + getF (rdLamp s (Reg.CUR_CAMSYNC_WIDTH m)) Fld.CUR_CAMSYNC_WIDTH_WIDTH)
          ∧ t.regs = s.regs ∧ sameMemory s t)
    ∧ (∀ m : Fin 8, bit s.cur.camsync m = true → ∃ t, exec (.camsyncEnd m) s = .next t ∧ bit t.cur.camsync m = false
        ∧ t.cur.clock = max s.cur.clock (s.cur.camsyncEnd.getD m 0) ∧ t.regs = s.regs ∧ sameMemory s t)
    ∧ (∀ (o : Fin 4) (j : Fin 8) (i : Nat), getF (rdLamp s (Reg.CUR_SYNCOUT_CTRL o)) Fld.CUR_SYNCOUT_CTRL_EN = 1 →
      getF (rdLamp s (Reg.CUR_SYNCOUT_CTRL o)) Fld.CUR_SYNCOUT_CTRL_EVENT = 0 →
      firstAt (now s) (syncInstants s (rdLamp s) 0 j (sreg (rdLamp s (Reg.CUR_SYNCOUT_PHASE o)))) = some i →
        ∃ t, exec (.syncOutFire o j) s = .next t ∧ bit t.cur.syncOut o = true ∧ t.cur.clock = max s.cur.clock i
          ∧ t.cur.syncOutEnd = s.cur.syncOutEnd.set o (i + getF (rdLamp s (Reg.CUR_SYNCOUT_WIDTH o)) Fld.CUR_SYNCOUT_WIDTH_WIDTH)
          ∧ t.regs = s.regs ∧ sameMemory s t)
    ∧ (∀ o : Fin 4, bit s.cur.syncOut o = true → ∃ t, exec (.syncOutEnd o) s = .next t ∧ bit t.cur.syncOut o = false
        ∧ t.cur.clock = max s.cur.clock (s.cur.syncOutEnd.getD o 0) ∧ t.regs = s.regs ∧ sameMemory s t))

/-! ## Sources, PTP and previews -/

/-- Links and loss: a DisplayPort source that is on and trains is up in its format; a lost link leaves it down and, if it was up and not yet
LOST, in LOST; with no frame for LOSS_FRAMES expected periods an ACTIVE source is LOST; activity on a wake-enabled source in HOLD is wake
cause 1 (R92, R106, R107, R114). Frames: the complete frame of an ACTIVE source on an unchanged, valid format waits for adoption in the
buffer that the writer fills; a packet that matches its flow and is new is counted as received; a packet still missing SKEW_MAX after the
marker discards the frame (R93 to R95, R102, R103). (Readings and choices of the model: log entries 2, 17.) -/
def Obligations.SourcesFollowTheirLinks : Prop :=
  (∀ s : State, s.Inv →
    (∀ (x : Fin 4) (rate lanes : Nat) (f : FrameFmt) (khz ns : Nat), srcState s x ≠ ssOFF → rf s (Reg.SRC_CTRL x) Fld.SRC_CTRL_HPD = 1 →
      ∃ t, exec (.dprxLinkTrained x true rate lanes f khz ns) s = .next t ∧ (srcOf t x).linkUp = true ∧ (srcOf t x).fmt = some f)
    ∧ (∀ x : Fin 4, ∃ t, exec (.dprxLinkLost x) s = .next t ∧ (srcOf t x).linkUp = false
        ∧ ((srcOf s x).linkUp = true → srcState s x ≠ ssOFF → srcState t x = ssLOST))
    ∧ (∀ (x : Fin 6) (l : Nat), srcState s x = ssACTIVE → (srcOf s x).lastArrival = some l →
      ∃ t, exec (.sourceLossTimeout x) s = .next t ∧ srcState t x = ssLOST
        ∧ t.cur.clock = max s.cur.clock (l + max 1 (rf s (Reg.SRC_CTRL x) Fld.SRC_CTRL_LOSS_FRAMES) * (rd s (Reg.SRC_PERIOD x)).toNat))
    ∧ (∀ x : Fin 6, mode s = mHOLD → s.sys.waking = false → bitsOf (rf s Reg.SRC_WAKE Fld.SRC_WAKE_EN) x x = 1 →
        bitsOf (rf s Reg.SYS_WAKE Fld.SYS_WAKE_EN) 0 0 = 1 →
      exec (.sourceWakeActivity x) s = nextBy s [.fld Reg.SYS_WAKE Fld.SYS_WAKE_CAUSE 1, .sys (fun y => { y with waking := true })])) ∧
  (∀ s : State, s.Inv →
    (∀ (x : Fin 6) (at_ : Nat) (f : FrameFmt) (p0 p1 : List (List Nat)), x.val < 4 → srcState s x = ssACTIVE → (srcOf s x).linkUp = true →
      (srcOf s x).fmt = some f → fmtOk x f 0 = true → frameBytes f ≤ bufSize (rd s) x → (srcOf s x).fmtRefused = false →
      (srcOf s x).lastArrival ≠ none → (srcOf s x).discardFirst = false →
        ∃ t, exec (.sourceFrameArrival x at_ f p0 p1) s = .next t
          ∧ (srcOf t x).arrived.getLast? = some ⟨writeBuf (srcOf s x), max s.cur.clock at_, f⟩
          ∧ (srcOf t x).adopted = (srcOf s x).adopted)
    ∧ (∀ (x : Fin 2) (at_ : Nat) (p : NetPacket), srcState s (4 + x) ≠ ssOFF → packetOk s (4 + x) p = true → packetNew s (4 + x) p = true →
        ∃ t, exec (.netPacket x at_ p) s = .next t ∧ (srcOf t (4 + x)).netGot = (srcOf s (4 + x)).netGot ++ [p.seq])
    ∧ (∀ x : Fin 6, 4 ≤ x.val → (srcOf s x).netMarker ≠ none → netComplete (srcOf s x) = false →
        ∃ t, exec (.netFrameSkewTimeout x false) s = .next t ∧ (srcOf t x).netGot = [] ∧ (srcOf t x).netMarker = none
          ∧ t.cur.clock = max s.cur.clock ((srcOf s x).netMarkerAt + skewMax s x)
          ∧ rf t (Reg.SRC_GAP_CNT x) Fld.SRC_GAP_CNT_COUNT = (rf s (Reg.SRC_GAP_CNT x) Fld.SRC_GAP_CNT_COUNT + 1) % 2 ^ 32
          ∧ sameMemory s t))

/-- Adoption at A_k: admission, then each source in turn; an ACTIVE source adopts its newest frame that arrived 20 us before and drops the
older ones, any other with an adopted frame keeps it (R102, R104). (Readings and choices of the model: log entry 2.) -/
def Obligations.AdoptionTakesTheNewestFrame : Prop :=
  (∀ s : State, s.cur.running = true →
    exec .sourceAdoption s = .next (runEffs (applyActs s [.clockTo (instA s)]) (admission ++ (List.range 6).map adoptOne)))
  ∧ ∀ (s : State) (x : Nat) (a : Arrived), s.Inv → srcState s x = ssACTIVE →
    ((srcOf s x).arrived.filter (fun a => decide (a.stamp + 20000 ≤ now s))).getLast? = some a →
      (srcOf (applyActs s (adoptOne x s)) x).adopted = some a.buf
        ∧ (srcOf (applyActs s (adoptOne x s)) x).arrived = (srcOf s x).arrived.filter (fun b => decide (a.stamp < b.stamp))
        ∧ (srcOf (applyActs s (adoptOne x s)) x).force = false

/-- PTP: with EN an Announce gives the port its grandmaster, a Sync its times and offset, a Delay_Resp to the last request its delay; a timeout
forgets the grandmaster; a Delay_Req notes when it left; a NET port's link follows its state (R96, R106). Previews: a link that trains with
HPD and EN reads as trained; HPD reads as the pin; the frame of a trained preview in a mode with curtains shows its selected picture, and
its curtain (R117, R118, R122). (Readings and choices of the model: log entries 17, 23.) -/
def Obligations.PtpPortsAndPreviewsFollow : Prop :=
  (∀ (s : State) (p : Fin 2) (at_ : Nat), s.Inv → rf s Reg.SRC_PTP Fld.SRC_PTP_EN = 1 →
    (∀ d, ∃ t, exec (.ptpMessage p at_ (.announce d)) s = .next t ∧ (mapGet ptpDflt t.ptp p).dataset = some d
      ∧ (mapGet ptpDflt t.ptp p).announceAt = at_)
    ∧ (∀ t1 iv, ∃ t, exec (.ptpMessage p at_ (.sync t1 iv)) s = .next t ∧ (mapGet ptpDflt t.ptp p).syncT2 = at_
      ∧ (mapGet ptpDflt t.ptp p).offset = (at_ : Int) - t1 - (mapGet ptpDflt s.ptp p).delay)
    ∧ (∀ seq t4, seq = (mapGet ptpDflt s.ptp p).reqSeq → ∃ t, exec (.ptpMessage p at_ (.delayResp seq t4)) s = .next t
      ∧ (mapGet ptpDflt t.ptp p).delay
        = (((mapGet ptpDflt s.ptp p).syncT2 : Int) - (mapGet ptpDflt s.ptp p).syncT1 + ((t4 : Int) - (mapGet ptpDflt s.ptp p).reqT3)) / 2)
    ∧ (∃ t, exec (.ptpAnnounceTimeout p) s = .next t ∧ (mapGet ptpDflt t.ptp p).dataset = none)
    ∧ (∀ seq, ∃ t, exec (.ptpDelayReq p at_ seq) s = .next t ∧ (mapGet ptpDflt t.ptp p).reqT3 = at_
      ∧ (mapGet ptpDflt t.ptp p).reqSeq = seq ∧ t.out.frames.length = s.out.frames.length + 1 ∧ t.regs = s.regs)
    ∧ (∃ t, exec (.netLinkDown p) s = .next t ∧ (mapGet ptpDflt t.ptp p).linkUp = false ∧ sameMemory s t)
    ∧ (∃ t, exec (.netLinkUp p) s = .next t ∧ (mapGet ptpDflt t.ptp p).linkUp = true ∧ t.regs = s.regs ∧ sameMemory s t)) ∧
  (∀ (s : State) (p : Fin 2), s.Inv →
    (∀ lanes cap, rf s (Reg.PVW_STATUS p) Fld.PVW_STATUS_HPD = 1 → rf s (Reg.PVW_CTRL p) Fld.PVW_CTRL_EN = 1 →
      ∃ t, exec (.previewLinkTrained p lanes cap) s = .next t ∧ rf t (Reg.PVW_STATUS p) Fld.PVW_STATUS_TRAINED = 1
        ∧ (mapGet pvwDflt t.pvw p).capacity = cap ∧ sameMemory s t)
    ∧ (∀ up, ∃ t, exec (.previewHpd p up) s = .next t ∧ rf t (Reg.PVW_STATUS p) Fld.PVW_STATUS_HPD = (if up then 1 else 0)
        ∧ (up = false → rf t (Reg.PVW_STATUS p) Fld.PVW_STATUS_TRAINED = 0) ∧ sameMemory s t)
    ∧ (curtainMode (mode s) = true → rf s (Reg.PVW_CTRL p) Fld.PVW_CTRL_EN = 1 → rf s (Reg.PVW_STATUS p) Fld.PVW_STATUS_TRAINED = 1 →
      ∃ t, exec (.previewFrame p) s = .next t ∧ (mapGet pvwDflt t.pvw p).shownSel = min 6 (rf s (Reg.PVW_CTRL p) Fld.PVW_CTRL_SEL)
        ∧ (mapGet pvwDflt t.pvw p).shownSlot = rf s (Reg.PVW_CTRL p) Fld.PVW_CTRL_SLOT
        ∧ (mapGet pvwDflt t.pvw p).shownCurtain = rf s Reg.CUR_NUM Fld.CUR_NUM_NUM ∧ (mapGet pvwDflt t.pvw p).live = true ∧ sameMemory s t))

/-! ## Tickets -/

/-- STP_FORCE.ALL pushes every page of the next curtain, STP_HELD_INV.ALL clears every held bit and tickets every region, both by T0 alone; the
footprint unit queues a ticket for the next region of a ticketed tile that a cause names, and counts the region decided (R149, R192,
R199). (Readings and choices of the model: log entry 18.) -/
def Obligations.RegionsAreTicketed : Prop :=
  ∀ (s : State) (a : Acc) (v : Word), actsFor a = 0 →
    (reaches s a Reg.STP_FORCE true → getF v Fld.STP_FORCE_ALL = 1 →
      exec (.stpForce a v) s = .next { s with stp := { s.stp with pushAll := true } })
    ∧ (reaches s a Reg.STP_HELD_INV true → getF v Fld.STP_HELD_INV_ALL = 1 →
      exec (.stpHeldInv a v) s = nextBy s ((List.range 384).map (fun w => Act.reg (Reg.STP_HELD_VALID w) 0)
        ++ [.stp (fun q => { q with nextCauses := { q.nextCauses with all := true } })]))
    ∧ (∀ g t i, s.cur.running = true → s.stp.nextRegion ≤ g → g < regionCount (rd s) → tileOf (rd s) g = some (t, i) →
        ticketsTile s t = true → wantsTicket s g t i = true → s.ddr.halted = false → s.sys.supplyLoss = false →
        rf s Reg.SYS_STATUS Fld.SYS_STATUS_GATED = 0 →
      ∃ u es, exec (.footprintRegionDecided g) s = .next (runEffs u (es ++ wakeAll))
        ∧ u.stp.tickets = s.stp.tickets ++ [newTicket s g t false none] ∧ u.stp.nextRegion = g + 1 ∧ u.stp.issued = s.stp.issued + 1)

/-! ## Engine instructions -/

/-- Register s0 reads 0 and p0 all ones; writes of them are discarded (R208). Special registers (R210): ID, CLUSTER and HOME read the engine's
place, CURNUM the coming curtain's number, SLOTS the slot count; STICKY clears each bit written as 1, and a write of a read-only one is
discarded. Both syllables of a bundle read their sources before either writes: a scalar result that the vector syllable broadcasts uses
the old value (R219). -/
def Obligations.FixedAndSpecialRegistersRead : Prop :=
  (∀ (g : Engine) (v : Word), g.sr 0 = 0 ∧ g.putS 0 v = g ∧ g.pr 0 = 0xFFFFFFFF ∧ g.putP 0 v = g) ∧
  (∀ (s : State) (e : Nat) (g : Engine) (v : Word),
    specialRead s e 0 g = BitVec.ofNat 32 e ∧ specialRead s e 1 g = BitVec.ofNat 32 (e / 6)
    ∧ specialRead s e 2 g = BitVec.ofNat 32 (engHome s e)
    ∧ specialRead s e 5 g = BitVec.ofNat 32 (rf s Reg.CUR_NUM Fld.CUR_NUM_NUM + 1)
    ∧ specialRead s e 6 g = BitVec.ofNat 32 (slotCount (rd s))
    ∧ (specialWrite 7 v g).sticky = g.sticky &&& ~~~(v.setWidth 2)
    ∧ (∀ k, k < 7 ∨ k = 12 → specialWrite k v g = g)) ∧
  (∀ (s : State) (e : Nat) (pg vd sd sa sb : Nat) (f : Word → Word → Word) (h : Engine),
    let a := (sAlu f sd sa sb).run s e (eng s e)
    let b := (vBcast pg vd sd).run (applyActs s a.mem) e (eng s e)
    b.put (a.put h) = (h.putS sd (f ((eng s e).sr sa) ((eng s e).sr sb))).putLanes vd (((eng s e).guarded pg).map (fun i => (i, (eng s e).sr sd))))

/-- Bundles: every scalar or vector operation with any companion that issues normally (R218 to R223) does what both syllables do (R214, R216,
R217, R219); two syllables that write a common register are ILLEGAL_BUNDLE, an operation or companion that is illegal is ILLEGAL_OP (R211, R212,
R219, R248), and an engine that does not run issues nothing. (Readings and choices of the model: log entries 9, 28, 29.) -/
def Obligations.BundlesIssue : Prop :=
  ∀ (s : State) (e : Fin 96) (co : Word),
    let acts := fun (i : Instr) (sy vy : Syl) =>
      (issues s e sy vy → exec i s = .next (runEffs (bundleState s e sy vy) wakeAll))
      ∧ (engState s e = esRUN → sy.illegal || vy.illegal → exec i s = .next (runEffs (applyActs s (programFault e flILLEGAL_OP 0 s)) wakeAll))
      ∧ (engState s e = esRUN → sy.illegal = false → vy.illegal = false → sy.writes.any vy.writes.contains →
          exec i s = .next (runEffs (applyActs s (programFault e flILLEGAL_BUNDLE 0 s)) wakeAll))
      ∧ (engState s e ≠ esRUN → exec i s = .next (runEffs s wakeAll))
    (∀ (sd sa sb : Fin 32) (imm off : BitVec 16), ∀ p ∈ ([
      (.nop e co, syl [] [] (fun _ _ _ => resNone)), (.add e sd sa sb co, sAlu (· + ·) sd sa sb),
      (.sub e sd sa sb co, sAlu (· - ·) sd sa sb), (.and e sd sa sb co, sAlu (· &&& ·) sd sa sb),
      (.or e sd sa sb co, sAlu (· ||| ·) sd sa sb), (.xor e sd sa sb co, sAlu (· ^^^ ·) sd sa sb),
      (.sll e sd sa sb co, sAlu opSll sd sa sb), (.srl e sd sa sb co, sAlu opSrl sd sa sb), (.sra e sd sa sb co, sAlu opSra sd sa sb),
      (.slt e sd sa sb co, sAlu opSlt sd sa sb), (.sltu e sd sa sb co, sAlu opSltu sd sa sb), (.mul e sd sa sb co, sAlu (· * ·) sd sa sb),
      (.mulh e sd sa sb co, sAlu opMulh sd sa sb), (.mulhu e sd sa sb co, sAlu opMulhu sd sa sb),
      (.min e sd sa sb co, sAlu opMin sd sa sb), (.max e sd sa sb co, sAlu opMax sd sa sb),
      (.addi e sd sa imm co, sImm (· + sext imm) sd sa), (.andi e sd sa imm co, sImm (· &&& zext imm) sd sa),
      (.ori e sd sa imm co, sImm (· ||| zext imm) sd sa), (.xori e sd sa imm co, sImm (· ^^^ zext imm) sd sa),
      (.slli e sd sa imm co, sImm (fun x => opSll x (zext imm)) sd sa), (.srli e sd sa imm co, sImm (fun x => opSrl x (zext imm)) sd sa),
      (.srai e sd sa imm co, sImm (fun x => opSra x (zext imm)) sd sa), (.slti e sd sa imm co, sImm (fun x => opSlt x (sext imm)) sd sa),
      (.lui e sd imm co, sImm (fun _ => zext imm <<< 16) sd 0), (.lw e sd sa imm co, sLoad 4 sd sa imm),
      (.lhu e sd sa imm co, sLoad 2 sd sa imm), (.lbu e sd sa imm co, sLoad 1 sd sa imm), (.sw e sd sa imm co, sStore 4 sd sa imm),
      (.sh e sd sa imm co, sStore 2 sd sa imm), (.sb e sd sa imm co, sStore 1 sd sa imm), (.beq e sa sb off co, sBranch 0 sa sb off),
      (.bne e sa sb off co, sBranch 1 sa sb off), (.blt e sa sb off co, sBranch 2 sa sb off), (.bge e sa sb off co, sBranch 3 sa sb off),
      (.bltu e sa sb off co, sBranch 4 sa sb off), (.bgeu e sa sb off co, sBranch 5 sa sb off), (.jalr e sd sa imm co, sJalr sd sa imm),
      (.loop e sa imm co, sLoop sa imm), (.amoadd e sd sa sb co, sAmo (· + ·) sd sa sb),
      (.amoswp e sd sa sb co, sAmo (fun _ y => y) sd sa sb), (.mfs e sd imm co, sMfs sd imm), (.mts e sa imm co, sMts sa imm),
      (.tkget e sd co, sTkget sd), (.tkdone e sd sa sb co, sTkdone sd sa sb), (.sugo e sa imm co, sSugo sa imm),
      (.suwait e sd imm co, sSuwait sd imm), (.bar e sd imm co, sBar sd imm), (.waitev e sd imm co, sWaitev sd imm), (.fence e co, sFence),
      (.halt e co, sHalt)] : List (Instr × Syl)), acts p.1 p.2 (decodeV co.toNat))
    ∧ (∀ (off : BitVec 26), ∀ p ∈ ([
      (.jal e off co, sJal off)] : List (Instr × Syl)), acts p.1 p.2 (decodeV co.toNat))
    ∧ (∀ (pg pd : Fin 8) (vd va vb : Fin 64) (md sa : Fin 32) (imm : BitVec 11) (off : BitVec 12) (size : Fin 4), ∀ p ∈ ([
      (.vnop e co, syl [] [] (fun _ _ _ => resNone)), (.vadd e pg vd va vb md co, vAddSub false pg vd va vb md),
      (.vsub e pg vd va vb md co, vAddSub true pg vd va vb md), (.vand e pg vd va vb co, vAlu (· &&& ·) pg vd va vb),
      (.vor e pg vd va vb co, vAlu (· ||| ·) pg vd va vb), (.vxor e pg vd va vb co, vAlu (· ^^^ ·) pg vd va vb),
      (.vsll e pg vd va vb co, vAlu opSll pg vd va vb), (.vsrl e pg vd va vb co, vAlu opSrl pg vd va vb),
      (.vsra e pg vd va vb co, vAlu opSra pg vd va vb), (.vmin e pg vd va vb md co, vMinMax false pg vd va vb md),
      (.vmax e pg vd va vb md co, vMinMax true pg vd va vb md), (.vmul e pg vd va vb co, vAlu (· * ·) pg vd va vb),
      (.vmulh e pg vd va vb md co, vMulh pg vd va vb md), (.vmac e pg vd va vb md co, vMac pg vd va vb md),
      (.vmul64 e pg vd va vb md co, vMul64 pg vd va vb md), (.vnarrow e pg vd va vb md co, vNarrow pg vd va vb md),
      (.vdiv e pg vd va vb md co, vDiv pg vd va vb md), (.vaddi e pg vd va imm co, vUn (· + sext imm) pg vd va),
      (.vandi e pg vd va imm co, vUn (· &&& sext imm) pg vd va), (.vslli e pg vd va imm co, vUn (fun x => opSll x (zext imm)) pg vd va),
      (.vsrli e pg vd va imm co, vUn (fun x => opSrl x (zext imm)) pg vd va),
      (.vsrai e pg vd va imm co, vUn (fun x => opSra x (zext imm)) pg vd va), (.vclamp e pg vd va md co, vClamp pg vd va md),
      (.vmov e pg vd va co, vUn id pg vd va), (.vbcast e pg vd md co, vBcast pg vd md), (.vlaneid e pg vd co, vLaneid pg vd),
      (.vslide e pg vd va vb md co, vSlide pg vd va vb md), (.vperm e pg vd va vb co, vPerm pg vd va vb),
      (.vcmp e pg pd va vb md co, vCmp pg pd va [vb] (md.val % 8) (fun g i => g.lane vb i)),
      (.vpop e pg pd va vb md co, vPop pg pd va vb md), (.vpmovs e pg va md co, vPmovs pg va md), (.vspmov e pg vd md co, vSpmov pg vd md),
      (.vext e pg va vb md co, vExt pg va vb md), (.vredacc e pg va md co, vRedacc pg va md),
      (.vldw e pg vd sa off co, vLoad 4 false pg vd sa off), (.vldh e pg vd sa off co, vLoad 2 false pg vd sa off),
      (.vldhs e pg vd sa off co, vLoad 2 true pg vd sa off), (.vldb e pg vd sa off co, vLoad 1 false pg vd sa off),
      (.vstw e pg vd sa off co, vStore 4 pg vd sa off), (.vsth e pg vd sa off co, vStore 2 pg vd sa off),
      (.vstb e pg vd sa off co, vStore 1 pg vd sa off), (.vgather e pg vd va sa size co, vGather pg vd va sa size),
      (.vscatter e pg vd va sa size co, vScatter pg vd va sa size), (.vstc e pg vd sa size co, vStc pg vd sa size),
      (.vcrc e pg va vb md co, vCrc pg va vb md), (.smp e pg vd va vb md co, vSmp pg vd va vb md),
      (.lutl e pg vd va md co, vLutl pg vd va md)] : List (Instr × Syl)), acts p.1 (decodeS co.toNat 0) p.2)
    ∧ (∀ (pg pd cond : Fin 8) (va : Fin 64) (imm : BitVec 8), ∀ p ∈ ([
      (.vcmpi e pg pd va cond imm co, vCmp pg pd va [] cond (fun _ _ => sext imm))] : List (Instr × Syl)), acts p.1 (decodeS co.toNat 0) p.2)

/-- The scalar register operations beside a VNOP: in one clock sd takes the operation of sa and sb as they were at issue, and the engine goes on
(R214, R219). The scalar immediate operations and the special registers beside a VNOP (R210, R214). LDI takes the bundle's upper word.
(Readings and choices of the model: log entry 9.) -/
def Obligations.ScalarOperationsRetire : Prop :=
  (∀ (s : State) (e : Fin 96) (sd sa sb : Fin 32), engState s e = esRUN →
    let a := (eng s e).sr sa
    let b := (eng s e).sr sb
    let gives := fun (r : Word) => retires s e 1 (fun h => h.putS sd r)
    exec (.nop e 0) s = retires s e 1 id
    ∧ exec (.add e sd sa sb 0) s = gives (a + b)
    ∧ exec (.sub e sd sa sb 0) s = gives (a - b)
    ∧ exec (.and e sd sa sb 0) s = gives (a &&& b)
    ∧ exec (.or e sd sa sb 0) s = gives (a ||| b)
    ∧ exec (.xor e sd sa sb 0) s = gives (a ^^^ b)
    ∧ exec (.sll e sd sa sb 0) s = gives (a <<< (b.toNat % 32))
    ∧ exec (.srl e sd sa sb 0) s = gives (a >>> (b.toNat % 32))
    ∧ exec (.sra e sd sa sb 0) s = gives (a.sshiftRight (b.toNat % 32))
    ∧ exec (.slt e sd sa sb 0) s = gives (if a.toInt < b.toInt then 1 else 0)
    ∧ exec (.sltu e sd sa sb 0) s = gives (if a.toNat < b.toNat then 1 else 0)
    ∧ exec (.mul e sd sa sb 0) s = gives (a * b)
    ∧ exec (.mulh e sd sa sb 0) s = gives (BitVec.ofInt 32 (a.toInt * b.toInt / 2 ^ 32))
    ∧ exec (.mulhu e sd sa sb 0) s = gives (BitVec.ofNat 32 (a.toNat * b.toNat / 2 ^ 32))
    ∧ exec (.min e sd sa sb 0) s = gives (if a.toInt ≤ b.toInt then a else b)
    ∧ exec (.max e sd sa sb 0) s = gives (if b.toInt ≤ a.toInt then a else b)) ∧
  (∀ (s : State) (e : Fin 96) (sd sa : Fin 32) (imm : BitVec 16) (w : Word), engState s e = esRUN →
    let a := (eng s e).sr sa
    let gives := fun (r : Word) => retires s e 1 (fun h => h.putS sd r)
    exec (.ldi e sd w) s = gives w
    ∧ exec (.lui e sd imm 0) s = gives (imm.zeroExtend 32 <<< 16)
    ∧ exec (.addi e sd sa imm 0) s = gives (a + imm.signExtend 32)
    ∧ exec (.andi e sd sa imm 0) s = gives (a &&& imm.zeroExtend 32)
    ∧ exec (.ori e sd sa imm 0) s = gives (a ||| imm.zeroExtend 32)
    ∧ exec (.xori e sd sa imm 0) s = gives (a ^^^ imm.zeroExtend 32)
    ∧ exec (.slli e sd sa imm 0) s = gives (a <<< ((imm.zeroExtend 32 : Word).toNat % 32))
    ∧ exec (.srli e sd sa imm 0) s = gives (a >>> ((imm.zeroExtend 32 : Word).toNat % 32))
    ∧ exec (.srai e sd sa imm 0) s = gives (a.sshiftRight ((imm.zeroExtend 32 : Word).toNat % 32))
    ∧ exec (.slti e sd sa imm 0) s = gives (if a.toInt < (imm.signExtend 32 : Word).toInt then 1 else 0)
    ∧ exec (.mfs e sd imm 0) s = gives (specialRead s e (imm.toNat % 16) (eng s e))
    ∧ exec (.mts e sa imm 0) s = retires s e 1 (specialWrite (imm.toNat % 16) a))

/-- What loads, stores and atomics do where the address reaches a bank and its word has no uncorrectable error: a load gives the zero-extended
bytes, a store writes the low bytes, an atomic gives the old word and writes the new one (R214, R446). The data space: an access that is not
aligned to its size is MISALIGNED, one outside the cluster's local banks and its quadrant's shared banks is ADDR_RANGE (R224 to R226).
(Readings and choices of the model: log entries 9, 25, 65.) -/
def Obligations.ScalarMemoryAccesses : Prop :=
  (∀ (s : State) (e : Nat) (g h : Engine) (sd sa sb : Nat) (imm : BitVec 16) (f : Word → Word → Word) (size a : Nat),
    (spaceAccess s (e / 6) (g.sr sa + sext imm).toNat size = .ok a → bankUE s a size = false →
      ((sLoad size sd sa imm).run s e g).put h = h.putS sd (BitVec.ofNat 32 (leValue (sramRead s a size)))
      ∧ ((sLoad size sd sa imm).run s e g).fault = none)
    ∧ (spaceAccess s (e / 6) (g.sr sa + sext imm).toNat size = .ok a →
      ((sStore size sd sa imm).run s e g).mem = bankArrive (a / 0x40000) s ++ bankWrite s a (leBytes size (g.sr sd).toNat)
      ∧ ((sStore size sd sa imm).run s e g).fault = none)
    ∧ (spaceAccess s (e / 6) (g.sr sa).toNat 4 = .ok a → bankUE s a 4 = false →
      ((sAmo f sd sa sb).run s e g).put h = h.putS sd (BitVec.ofNat 32 (leValue (sramRead s a 4)))
      ∧ ((sAmo f sd sa sb).run s e g).mem = bankArrive (a / 0x40000) s
          ++ bankWrite s a (leBytes 4 (f (BitVec.ofNat 32 (leValue (sramRead s a 4))) (g.sr sb)).toNat))
    ∧ (spaceAccess s (e / 6) (g.sr sa + sext imm).toNat size = .bad flMISALIGNED →
      ((sLoad size sd sa imm).run s e g).fault = some (flMISALIGNED, 0) ∧ ((sStore size sd sa imm).run s e g).fault = some (flMISALIGNED, 0))) ∧
  (∀ (s : State) (c a size : Nat),
    (a % size ≠ 0 → spaceAccess s c a size = .bad flMISALIGNED)
    ∧ (a % size = 0 → 0x600000 ≤ a → ¬ (0x01000000 ≤ a ∧ a < 0x01800000) → spaceAccess s c a size = .bad flADDR_RANGE)
    ∧ (∀ f, spaceAccess s c a size = .ok f → a < 0x600000 → f = 0x40000 * 24 * c + a))

/-- Branches and jumps beside a VNOP, three clocks: a taken branch goes on at PC plus the offset, leaving the loops whose body the target leaves; JAL and
JALR write the following address; LOOP opens a level for the bundles it names, and 0 runs skip them (R214, R215).
(Readings and choices of the model: log entries 9, 29.) -/
def Obligations.BranchesGoOn : Prop :=
  ∀ (s : State) (e : Fin 96), engState s e = esRUN →
    let pc := engPC s e
    let g := eng s e
    let goesTo := fun (put : Engine → Engine) (t : Nat) =>
      (.next (runEffs (retire s e 3 put (t, leaveLoops t g.loops)) wakeAll) : Host.Outcome State Fault Refusal)
    (∀ (sa sb : Fin 32) (off : BitVec 16),
      let br := fun (c : Bool) => if c then goesTo id ((pc + (sext off).toNat) % 4096) else retires s e 3 id
      exec (.beq e sa sb off 0) s = br (g.sr sa == g.sr sb) ∧ exec (.bne e sa sb off 0) s = br (g.sr sa != g.sr sb)
      ∧ exec (.blt e sa sb off 0) s = br (decide ((g.sr sa).toInt < (g.sr sb).toInt))
      ∧ exec (.bge e sa sb off 0) s = br (decide ((g.sr sb).toInt ≤ (g.sr sa).toInt))
      ∧ exec (.bltu e sa sb off 0) s = br (decide ((g.sr sa).toNat < (g.sr sb).toNat))
      ∧ exec (.bgeu e sa sb off 0) s = br (decide ((g.sr sb).toNat ≤ (g.sr sa).toNat)))
    ∧ (∀ off : BitVec 26, exec (.jal e off 0) s
        = goesTo (fun h => h.putS 31 (BitVec.ofNat 32 (pc + 1))) ((pc + (off.signExtend 32 : Word).toNat) % 4096))
    ∧ (∀ (sd sa : Fin 32) (imm : BitVec 16), exec (.jalr e sd sa imm 0) s
        = goesTo (fun h => h.putS sd (BitVec.ofNat 32 (pc + 1))) ((g.sr sa + sext imm).toNat % 4096))
    ∧ (∀ (sa : Fin 32) (imm : BitVec 16), g.loops.length < 2 → g.sr sa ≠ 0 → imm.toNat % 4096 ≠ 0 →
        exec (.loop e sa imm 0) s = .next (runEffs (retire s e 1 id
          ((pc + 1) % 4096, ⟨(pc + 1) % 4096, imm.toNat % 4096, (g.sr sa).toNat⟩ :: g.loops)) wakeAll))
    ∧ (∀ (sa : Fin 32) (imm : BitVec 16), g.loops.length < 2 → g.sr sa = 0 →
        exec (.loop e sa imm 0) s = .next (runEffs (retire s e 1 id (seqNext ((pc + imm.toNat % 4096) % 4096) g.loops)) wakeAll))

/-- What an engine that issues a waiting operation alone waits for, and that HALT stops it until the next edge (R214, R228, R238, R239, R243). A
WAITEV whose mask meets a latched bit ends at once: the engine goes on, sd holds the bits, and they are cleared (R238). TKGET gives the
QUEUED ticket nearest the head of the quadrant's queue whose home is the engine's HOME, as the four words of R240, and the ticket is HELD by
the engine; with none, four zeros (R240, R241). (Readings and choices of the model: log entries 9, 29.) -/
def Obligations.WaitsAndTicketsAreKept : Prop :=
  (∀ (s : State) (e : Nat), s.Inv → e < 96 → engState s e = esRUN → issues s e sHalt nopSyl →
    (∀ (sd sa sb : Nat) (imm : BitVec 16),
      (eng (bundleState s e (sSuwait sd imm) nopSyl) e).wait = some (.su (imm.toNat % 2) sd)
      ∧ (eng (bundleState s e (sBar sd imm) nopSyl) e).wait = some (.bar (imm.toNat % 4) sd)
      ∧ (eng (bundleState s e (sWaitev sd imm) nopSyl) e).wait = some (.ev (imm.toNat % 256) sd)
      ∧ (eng (bundleState s e sFence nopSyl) e).wait = some .fence
      ∧ (eng (bundleState s e (sTkdone sd sa sb) nopSyl) e).wait
          = some (.tkdone (((eng s e).sr sa).toNat % 65536) ((eng s e).sr sb).toNat sd)
      ∧ engState (bundleState s e (sWaitev sd imm) nopSyl) e = esWAIT)
    ∧ engState (bundleState s e sHalt nopSyl) e = esHALT) ∧
  (∀ (s : State) (e : Fin 96) (sd mask : Nat), s.Inv → (eng s e).wait = some (.ev mask sd) → (eng s e).evt &&& BitVec.ofNat 8 mask ≠ 0 →
    let hit := (eng s e).evt &&& BitVec.ofNat 8 mask
    let t := applyActs s (wakeEngine e s)
    eng t e = { ({ eng s e with evt := (eng s e).evt &&& ~~~hit }).putS sd (hit.zeroExtend 32) with wait := none, loops := (onward s e).2 }
      ∧ engState t e = esRUN ∧ engPC t e = (onward s e).1 % 4096) ∧
  (∀ (s : State) (e sd : Nat) (h : Engine), sd ≤ 28 →
    (nextTicket s e = none → ((sTkget sd).run s e (eng s e)).put h = (((h.putS sd 0).putS (sd + 1) 0).putS (sd + 2) 0).putS (sd + 3) 0
      ∧ ((sTkget sd).run s e (eng s e)).mem = [])
    ∧ (∀ k, nextTicket s e = some k → k.state = .queued
      ∧ (let w := ticketWords s e k
         ((sTkget sd).run s e (eng s e)).put h = (((h.putS sd w.1).putS (sd + 1) w.2.1).putS (sd + 2) w.2.2.1).putS (sd + 3) w.2.2.2)
      ∧ (∃ k' ∈ (applyActs s (((sTkget sd).run s e (eng s e)).mem)).stp.tickets, k'.region = k.region ∧ k'.state = .held ∧ k'.engine = some e)))

/-- Vector operations on lanes beside a scalar NOP: each guarded lane of vd takes the operation of the lanes at issue, the other lanes keep
their values (R213, R216, R217, R219). A lane that the guard leaves out keeps its value, a guarded one takes its new value (R213).
(Readings and choices of the model: log entries 9, 28.) -/
def Obligations.VectorLanesTakeTheirResults : Prop :=
  (∀ (s : State) (e : Fin 96) (pg : Fin 8) (vd va vb : Fin 64), engState s e = esRUN → (∀ c ∈ s.stp.calls, c.engine ≠ e.val) →
    let g := eng s e
    let each := fun (f : Nat → Word) => retires s e 1 (fun h => h.putLanes vd ((g.guarded pg).map (fun i => (i, f i))))
    let two := fun (f : Word → Word → Word) => each (fun i => f (g.lane va i) (g.lane vb i))
    let one := fun (f : Word → Word) => each (fun i => f (g.lane va i))
    exec (.vnop e 0) s = retires s e 1 id
    ∧ exec (.vadd e pg vd va vb 0 0) s = two (fun x y => x + y) ∧ exec (.vsub e pg vd va vb 0 0) s = two (fun x y => x - y)
    ∧ exec (.vadd e pg vd va vb 1 0) s = two (fun x y => satWord false (x.toInt + y.toInt))
    ∧ exec (.vsub e pg vd va vb 1 0) s = two (fun x y => satWord false (x.toInt - y.toInt))
    ∧ exec (.vadd e pg vd va vb 2 0) s = two (fun x y => satWord true ((x.toNat : Int) + y.toNat))
    ∧ exec (.vsub e pg vd va vb 2 0) s = two (fun x y => satWord true ((x.toNat : Int) - y.toNat))
    ∧ exec (.vand e pg vd va vb 0) s = two (fun x y => x &&& y) ∧ exec (.vor e pg vd va vb 0) s = two (fun x y => x ||| y)
    ∧ exec (.vxor e pg vd va vb 0) s = two (fun x y => x ^^^ y)
    ∧ exec (.vsll e pg vd va vb 0) s = two (fun x y => x <<< (y.toNat % 32))
    ∧ exec (.vsrl e pg vd va vb 0) s = two (fun x y => x >>> (y.toNat % 32))
    ∧ exec (.vsra e pg vd va vb 0) s = two (fun x y => x.sshiftRight (y.toNat % 32))
    ∧ exec (.vmul e pg vd va vb 0) s = two (fun x y => x * y)
    ∧ exec (.vmulh e pg vd va vb 0 0) s = two (fun x y => BitVec.ofInt 32 (x.toInt * y.toInt / 2 ^ 32))
    ∧ exec (.vmulh e pg vd va vb 1 0) s = two (fun x y => BitVec.ofNat 32 (x.toNat * y.toNat / 2 ^ 32))
    ∧ exec (.vmin e pg vd va vb 0 0) s = two (fun x y => if x.toInt < y.toInt then x else y)
    ∧ exec (.vmax e pg vd va vb 0 0) s = two (fun x y => if x.toInt < y.toInt then y else x)
    ∧ exec (.vmin e pg vd va vb 1 0) s = two (fun x y => if x.toNat < y.toNat then x else y)
    ∧ exec (.vmax e pg vd va vb 1 0) s = two (fun x y => if x.toNat < y.toNat then y else x)
    ∧ (∀ imm : BitVec 11, exec (.vaddi e pg vd va imm 0) s = one (fun x => x + imm.signExtend 32)
      ∧ exec (.vandi e pg vd va imm 0) s = one (fun x => x &&& imm.signExtend 32)
      ∧ exec (.vslli e pg vd va imm 0) s = one (fun x => x <<< ((imm.zeroExtend 32 : Word).toNat % 32))
      ∧ exec (.vsrli e pg vd va imm 0) s = one (fun x => x >>> ((imm.zeroExtend 32 : Word).toNat % 32))
      ∧ exec (.vsrai e pg vd va imm 0) s = one (fun x => x.sshiftRight ((imm.zeroExtend 32 : Word).toNat % 32)))
    ∧ exec (.vmov e pg vd va 0) s = one (fun x => x)
    ∧ exec (.vlaneid e pg vd 0) s = each (fun i => BitVec.ofNat 32 i)
    ∧ exec (.vperm e pg vd va vb 0) s = each (fun i => g.lane va ((g.lane vb i).toNat % 32))
    ∧ (∀ md : Fin 32, exec (.vbcast e pg vd md 0) s = each (fun _ => g.sr md)
      ∧ exec (.vslide e pg vd va vb md 0) s = each (fun i =>
          let j : Int := (i : Int) + toSigned 5 md
          if 0 ≤ j ∧ j < 32 then g.lane va j.toNat else g.lane vb (j % 32).toNat))
    ∧ (∀ md : Fin 32, md.val ≤ 30 → exec (.vclamp e pg vd va md 0) s = one (fun x => opMin (opMax x (g.sr md)) (g.sr (md + 1))))) ∧
  (∀ (g h : Engine) (pg n i : Nat) (f : Nat → Word), mapWf zeroWord h.v = true → i < 32 →
    (h.putLanes n ((g.guarded pg).map (fun i => (i, f i)))).lane n i = (if g.guard pg i then f i else h.lane n i)
      ∧ (∀ m j, m ≠ n → j < 32 → (h.putLanes n ((g.guarded pg).map (fun i => (i, f i)))).lane m j = h.lane m j)
      ∧ mapWf zeroWord (h.putLanes n ((g.guarded pg).map (fun i => (i, f i)))).v = true)

/-- What the wide, reducing and predicate operations and the calls do: VMAC and VMUL64 hold the exact product in 64 bits, VDIV by 0 gives the
limit of the dividend's sign and sets STICKY.DIVZ, the predicate operations leave unguarded bits alone, VEXT reads one guarded lane, a call
waits for its unit with the operands read at issue (R213, R216, R217, R222). (Readings and choices of the model: log entry 28.) -/
def Obligations.VectorOperationsAct : Prop :=
  (∀ (s : State) (e : Nat) (g h : Engine) (pg vd va vb md : Nat), vd % 2 = 0 →
      ((vMul64 pg vd va vb md).run s e g).put h = (g.guarded pg).foldl (fun h i => h.putPair vd i
        ((asInt32 (md % 2 == 1) (g.lane va i) * asInt32 (md % 2 == 1) (g.lane vb i)) % 2 ^ 64).toNat) h)
  ∧ (∀ (rnd : Nat) (uns : Bool) (a : Int), vdivLane rnd uns a 0
      = if a = 0 then 0 else if 0 < a then BitVec.ofInt 32 (rangeHi uns) else BitVec.ofInt 32 (rangeLo uns))
  ∧ (∀ (s : State) (e : Nat) (g h : Engine) (pg va md : Nat), ((vPmovs pg va md).run s e g).put h
      = h.putS md ((g.pr (va % 8) &&& g.pr pg) ||| (g.sr md &&& ~~~g.pr pg)))
  ∧ (∀ (s : State) (e : Nat) (g h : Engine) (pg va vb md : Nat), ((vExt pg va vb md).run s e g).put h
      = if g.guard pg (vb % 32) then h.putS md (g.lane va (vb % 32)) else h)
  ∧ (∀ (s : State) (e : Nat) (g : Engine) (pg vd va vb md : Nat),
      (applyActs s ((vSmp pg vd va vb md).run s e g).mem).stp.calls
        = s.stp.calls ++ [⟨e, false, vd, g.pr pg, g.lanes va, g.lanes vb, g.lanes vb, g.sr md⟩])

/-- A scalar operation leaves everything else alone: with no engine waiting, no memory, no other engine, no other register of this engine, and no control
register but its own status and cycle counters changes (R214). (Readings and choices of the model: log entry 9.) -/
def Obligations.ScalarOperationsFrame : Prop :=
  ∀ (s t : State) (e : Fin 96) (sd sa sb : Fin 32) (imm : BitVec 16) (i : Instr), s.Inv → engState s e = esRUN → waiting s = [] →
    i ∈ [.add e sd sa sb 0, .sub e sd sa sb 0, .and e sd sa sb 0, .or e sd sa sb 0, .xor e sd sa sb 0, .sll e sd sa sb 0, .srl e sd sa sb 0,
      .sra e sd sa sb 0, .slt e sd sa sb 0, .sltu e sd sa sb 0, .mul e sd sa sb 0, .mulh e sd sa sb 0, .mulhu e sd sa sb 0, .min e sd sa sb 0,
      .max e sd sa sb 0, .addi e sd sa imm 0, .andi e sd sa imm 0, .ori e sd sa imm 0, .xori e sd sa imm 0, .slli e sd sa imm 0,
      .srli e sd sa imm 0, .srai e sd sa imm 0, .slti e sd sa imm 0, .lui e sd imm 0] →
    exec i s = .next t →
      sameMemory s t ∧ (∀ q, q ≠ e.val → eng t q = eng s q) ∧ (∀ n, n ≠ sd.val → (eng t e).sr n = (eng s e).sr n)
      ∧ (∀ n j, (eng t e).lane n j = (eng s e).lane n j) ∧ (∀ n, (eng t e).pr n = (eng s e).pr n) ∧ (eng t e).sticky = (eng s e).sticky
      ∧ (∀ a, a ∉ [Reg.ENG_STATUS e, Reg.ENG_CYCLES_LO e, Reg.ENG_CYCLES_HI e, Reg.ENG_STALL e] → rd t a = rd s a)
      ∧ t.stp = s.stp ∧ t.cur = s.cur ∧ t.sys = s.sys ∧ t.tenants = s.tenants ∧ t.out = s.out ∧ t.book = s.book ∧ t.pending = s.pending

/-- FAULT stops its engine with a program fault: PROGRAM with the AUX code stands in ENG_FAULT with the PC, and the engine is in HALT; an illegal
operation does so with ILLEGAL_OP (R247, R248). (Readings and choices of the model: log entry 29.) -/
def Obligations.ProgramFaultsHalt : Prop :=
  ∀ (s : State) (e : Fin 96), s.Inv → engState s e = esRUN → heldTicket s e = none →
    let after := fun (code aux : Nat) => programFault e code aux
    (∀ imm : BitVec 16, exec (.fault e imm 0) s = .next (runEffs s ([fun s => [.draw, .eng e (fun h => h)] ++ after flPROGRAM (imm.toNat % 256) s] ++ wakeAll)))
    ∧ (∀ w : BitVec 64, isIllegalOp s e w = true → exec (.illegalOp e w) s = .next (runEffs s (after flILLEGAL_OP 0 :: wakeAll)))
    ∧ (∀ code aux, code < 256 → aux < 256 →
        let t := applyActs s (programFault e code aux s)
        engState t e = esHALT ∧ rf t (Reg.ENG_FAULT e) Fld.ENG_FAULT_CODE = code ∧ rf t (Reg.ENG_FAULT e) Fld.ENG_FAULT_AUX = aux
          ∧ rf t (Reg.ENG_FAULT e) Fld.ENG_FAULT_PC = engPC s e ∧ (eng t e).faulted = true ∧ sameMemory s t)

/-! ## Samplers, LUT units, stream units, program stores and engine faults -/

/-- A sampler or a LUT unit in service takes the call issued first: the call leaves the queue and each guarded lane of vd, vd+1 and vd+2 takes
the window's sample or the lookup at its position; a sample outside the window faults its engine (R232 to R236).
(Readings and choices of the model: log entries 24, 26.) -/
def Obligations.ClusterUnitsServe : Prop :=
  ∀ s : State, s.Inv →
    (∀ (c : Fin 16) (n : Fin 3) (k : UnitCall) (f : Nat), smpOut s c n = false →
      s.stp.calls.find? (fun q => !q.lut && q.engine / 6 == c.val) = some k → k.desc.toNat % 32 = 0 → k.desc.toNat < 0x600000 →
      unitAccess s (k.engine / 6) k.desc.toNat 32 = .ok f → bankUE s f 32 = false →
      let d := smpDesc s f
      let b := groupBytes d.packing
      let inside := fun (i : Nat) => (∀ t ∈ tapsOf d.crop (lanePos k i), inWindow d false t = true)
        ∧ (∀ t ∈ tapsOf (chromaCrop d.sampling d.crop) (chromaPos d.sampling (lanePos k i)), inWindow d true t = true)
      ((∀ i ∈ callLanes k, inside i ∧ ∀ a ∈ laneReads d (lanePos k i), ∃ x, unitAccess s (k.engine / 6) a b = .ok x ∧ bankUE s x b = false) →
        ∃ t, exec (.samplerServe c n) s = .next (runEffs t wakeAll) ∧ t.stp.calls = s.stp.calls.erase k ∧ sameMemory s t
          ∧ eng t k.engine = putCall k (fun i =>
              let v := windowPoint s (k.engine / 6) d (lanePos k i)
              (BitVec.ofNat 32 v.1, BitVec.ofNat 32 v.2.1, BitVec.ofNat 32 v.2.2)) (eng s k.engine))
      ∧ ((∃ i ∈ callLanes k, ∃ t ∈ tapsOf d.crop (lanePos k i), inWindow d false t = false) →
        exec (.samplerServe c n) s
          = .next (runEffs (applyActs s (dropCall k :: programFault k.engine flSAMPLE_WINDOW 0 s)) wakeAll)))
    ∧ (∀ (u : Fin 16) (k : UnitCall) (f : Nat), lutOut s u = false → lutCall s u = some k →
      unitAccess s (k.engine / 6) k.desc.toNat 8 = .ok f → bankUE s f 8 = false → (∀ i ∈ callLanes k, isW20 (laneW k i) = true) →
      let base := leValue (sramRead s f 4) + 2 ^ 32 * (leValue (sramRead s (f + 4) 4) % 16)
      let miss := min (Config.latticeMisses s.free) (4 * (callLanes k).length)
      (∀ i ∈ callLanes k, ∀ a ∈ lutReads s base (laneW k i), dramUE s a 2 = false) →
        ∃ t, exec (.lutUnitServe u) s = .next (runEffs t wakeAll) ∧ t.stp.calls = s.stp.calls.erase k ∧ sameMemory s t
          ∧ eng t k.engine = putCall k (fun i =>
              let v := lutLookup s base (laneW k i)
              (BitVec.ofInt 32 v.1, BitVec.ofInt 32 v.2.1, BitVec.ofInt 32 v.2.2))
              (if 0 < miss then (eng s k.engine).stick stLUT_MISS else eng s k.engine))

/-- Stream units: READ2D copies every line from DRAM to the bank and WRITE2D from the bank to DRAM, then the descriptor is DONE with OK; UNPACK
decodes a good block into the bank; POST, and a POST that waited for room in the page ring, hands a part that differs over to its port and
discards that of a withdrawn ticket; a malformed descriptor ends BAD_ARG (R228 to R231, R485).
(Readings and choices of the model: log entries 25, 52.) -/
def Obligations.StreamUnitsWork : Prop :=
  ∀ (s : State) (e : Fin 96) (u : Fin 2) (a : Nat), headDesc s e u = some a →
    let kind := descWord s e a 0 % 16
    let n := lineBytes s e a
    let w := descWord s e a
    let ends := fun (ls : List Eff) (disc : Bool) (st : Nat) => runEffs s (ls ++ [descDone e u a disc st] ++ wakeAll)
    (kind = 0 → rectBad s e a = true → exec (.read2d e u) s = .next (ends [] false stBAD_ARG))
    ∧ (kind = 1 → rectBad s e a = true → exec (.write2d e u) s = .next (ends [] false stBAD_ARG))
    ∧ (4 ≤ kind → exec (.read2d e u) s = .next (ends [] false stBAD_ARG))
    ∧ (kind = 0 → rectBad s e a = false → (∀ q ∈ descLines s e a, ∃ x, unitAccess s (e / 6) q.1 n = .ok x ∧ dramUE s q.2 n = false) →
      exec (.read2d e u) s = .next (ends ((descLines s e a).map (fun q s =>
        match unitAccess s (e / 6) q.1 n with
        | .ok x => dramReadActs s q.2 n ++ bankWrite s x (dramDeliver s q.2 n) ++ [.draw]
        | .refused b c o => bankRefused s b e c o
        | .bad _ => [])) false stOK))
    ∧ (kind = 1 → rectBad s e a = false →
      (∀ q ∈ descLines s e a, ∃ x, unitAccess s (e / 6) q.1 n = .ok x ∧ bankUE s x n = false ∧ dramRange s q.2 n = false) →
      exec (.write2d e u) s = .next (ends ((descLines s e a).map (fun q s =>
        match unitAccess s (e / 6) q.1 n with
        | .ok x => bankReadActs s x n ++ (if bankUE s x n then [] else dramStore s q.2 (sramRead s x n))
        | .refused b c o => bankRefused s b e c o
        | .bad _ => [])) false stOK))
    ∧ (∀ lane x out, kind = 2 → freeLane s = some lane → w 5 % 0x20000 ≠ 0 → w 4 % 65536 ≠ 0 →
      (∃ y, unitAccess s (e / 6) (w 1) (w 4 % 65536) = .ok y) → unitAccess s (e / 6) (w 1) (max 1 out.length) = .ok x →
      let src := w 2 + 2 ^ 32 * (w 3 % 16)
      let len := w 5 % 0x20000
      dramUE s src len = false → decodeBlock (dramBytes s src len) (w 4 % 65536) none = .ok out → out ≠ [] →
      exec (.unpack e u) s = .next (runEffs (applyActs s (dramReadActs s src len
          ++ [.pkr (fun p => { p with inThis := p.inThis + len, outThis := p.outThis + out.length }), .draw]
          ++ seqE [fun s => bankWrite s x out, descDone e u a false stOK] s)) wakeAll))
    ∧ (kind = 3 → postBad s e a = true →
        exec (.post e u) s = .next (ends [] false stBAD_ARG) ∧ exec (.postAccept e u) s = .next (ends [] false stBAD_ARG))
    ∧ (kind = 3 → postBad s e a = false → postWithdrawn s e a = true →
        exec (.post e u) s = .next (ends [] true stOK) ∧ exec (.postAccept e u) s = .next (ends [] true stOK))
    ∧ (∀ x p, kind = 3 → postBad s e a = false → postWithdrawn s e a = false → postOf s e a = some p →
        let len := w 2 % 0x40000
        let bank := 0x40000 * 24 * (e / 6) + w 1
        let i := ticketIndex s p.ticket
        let codes := unpackPart p.bytes (partLamps (rd s) p.ticket.tile i p.k).length (fun _ => 0)
        unitAccess s (e / 6) (w 1) len = .ok x → bankUE s bank len = false →
        pushesPart s (crcKey p.ticket.region p.slot p.k) p.crc codes = true → portClearing s p.port_ = false →
        (p.ticket.rescue = true → rescueFits s p.port_ (workSyms (partWork 0 (partRuns (rd s) p.ticket.tile i p.k) codes)) = true) →
        pageRingUsed s (p.port_ / 64) + p.bytes.length + p.alt.length ≤ pageRingSize s (p.port_ / 64) →
          exec (.post e u) s = .next (ends [fun s => bankReadActs s bank len, acceptPart p] false stOK)
          ∧ exec (.postAccept e u) s = .next (ends [fun s => bankReadActs s bank len, acceptPart p] false stOK))

/-- The program store is written through ENG_PDATA in OFF, STANDBY or MAPPED_OUT by T0 or the cluster's owner, the low word through the latch,
and read back by halves, ADDR advancing under AUTOINC; an understudy copies a faulted engine's program (R255, R258, R259, R261). The
watchdog stops an engine whose ticket it holds too long as a program fault does; a parity or program-store error maps an engine out; a
unit's error takes the unit out of its cluster; a fault is recorded with its level, code, auxiliary value and place (R236, R237, R246 to
R249). (Readings and choices of the model: log entries 26, 29.) -/
def Obligations.ProgramStoreAndFaultsAct : Prop :=
  (∀ (s : State) (a : Acc) (e : Fin 96) (v : Word),
    let advance := if rf s (Reg.ENG_PADDR e) Fld.ENG_PADDR_AUTOINC = 1
      then [Act.fld (Reg.ENG_PADDR e) Fld.ENG_PADDR_ADDR ((storeAddr s e + 1) % 4096)] else []
    (reaches s a (Reg.ENG_PDATA_LO e) true → mayEngine s (actsFor a) e = true → storeOpen s e = true →
      exec (.engPdataLoWrite a e v) s = nextBy s [.eng e (fun g => { g with latch := v })])
    ∧ (reaches s a (Reg.ENG_PDATA_HI e) true → mayEngine s (actsFor a) e = true → storeOpen s e = true →
      exec (.engPdataHiWrite a e v) s
        = nextBy s (.eng e (fun g => { g with prog := mapPut zeroBundle g.prog (storeAddr s e) (v ++ g.latch) }) :: advance))
    ∧ (reaches s a (Reg.ENG_PDATA_HI e) false →
      exec (.engPdataHiRead a e) s = nextBy s (gives ((storedBundle s e).extractLsb' 32 32) :: advance))
    ∧ (∀ u : Fin 8, usFree s u = true → exec (.programStoreCopy u e) s
        = nextBy s [.eng (usEngine s u) (fun g => { g with prog := (eng s e).copy, copyLate := s.cur.closed })])
    ∧ (mayEngine s (actsFor a) e = true → storeOpen s e = false → reaches s a (Reg.ENG_PDATA_HI e) true →
      exec (.engPdataHiWrite a e v) s = nextBy s (tenantFault s (actsFor a) stBUSY (Reg.ENG_PDATA_HI e)))) ∧
  (∀ (s : State) (e : Fin 96),
    (∀ k, heldTicket s e = some k → rf s (Reg.ENG_WDOG e) Fld.ENG_WDOG_LIMIT ≠ 0 → (engState s e = esRUN ∨ engState s e = esWAIT) →
      exec (.engWatchdog e) s = .next (runEffs (applyActs s [.clockTo (k.heldAt + 1000 * rf s (Reg.ENG_WDOG e) Fld.ENG_WDOG_LIMIT)])
        ([recordFault e flWATCHDOG 0, returnTicket e true, fun _ => [.eng e (fun g => { g with faulted := true, wait := none }), engTo e esHALT],
          fun s => breakBarriers (eng s e).place s, queueRegs] ++ wakeAll)))
    ∧ ((allEngines s).contains e.val = true → engState s e ≠ esMAPPED_OUT → engState s e ≠ esOFF →
      exec (.regfileParity e) s = .next (runEffs s ([recordFault e flREGFILE_PARITY 0, mapOut e, serveRegs, capacityCheck] ++ wakeAll))
      ∧ exec (.pstoreEcc e) s = .next (runEffs s ([recordFault e flPSTORE_ECC 0, mapOut e, serveRegs, capacityCheck] ++ wakeAll)))
    ∧ (∀ unit : Fin 4, (allEngines s).contains e.val = true →
      exec (.unitFault e unit) s = .next (runEffs s ([recordFault e flUNIT unit,
        fun s => if unit.val = 3 then [.fld (Reg.CL_UNITS (e / 6)) Fld.CL_UNITS_LUT_OUT 1]
          else [.fld (Reg.CL_UNITS (e / 6)) Fld.CL_UNITS_SMP_OUT (rf s (Reg.CL_UNITS (e / 6)) Fld.CL_UNITS_SMP_OUT ||| 2 ^ unit.val)],
        clusterOut (e / 6), clusterOut ((e / 6) ^^^ 1), serveRegs, capacityCheck] ++ wakeAll)))
    ∧ (∀ code aux, s.Inv → code < 256 → aux < 256 →
        let t := applyActs s (recordFault e code aux s)
        rf t (Reg.ENG_FAULT e) Fld.ENG_FAULT_VALID = 1 ∧ rf t (Reg.ENG_FAULT e) Fld.ENG_FAULT_CODE = code
          ∧ rf t (Reg.ENG_FAULT e) Fld.ENG_FAULT_AUX = aux ∧ rf t (Reg.ENG_FAULT e) Fld.ENG_FAULT_LEVEL = faultLevel code
          ∧ rf t (Reg.ENG_FAULT e) Fld.ENG_FAULT_PC = engPC s e))

/-! ## Lamp ports: bank sequencers and return packets -/

/-- A running sequencer's instructions: first every window still open has missed, giving `u`; then an instruction that emits k symbols begins after
the guard spans and ends k later, any other costs nothing within the first eight behind an emitting one and a symbol beyond; the PC and
the instruction's own state change, and nothing else; CUR or STB in KSYM, a condition above 7, a second CALL, an illegal opcode and an
uncorrectable word stop the sequencer in FAULT (R297 to R302). (Readings and choices of the model: log entry 53.) -/
def Obligations.SequencerInstructionsAct : Prop :=
  ∀ (s : State) (b : Fin 16), bsState s b = bsRUN →
    let u := runEffs s ((bankPorts b).map windowMiss)
    let c := (bseq u b).counter
    let z := (bseq u b).zeros
    let n := afterGuards u b (bankSym u b)
    let pc := rf u (Reg.BS_STATUS b) Fld.BS_STATUS_PC
    let on := (pc + 1) % 4096
    let goes := fun (syms zeros next_ : Nat) (xs : List Act) => nextBy u ([.bseq b (fun q => { q with syms := syms, zeros := zeros }),
      .fld (Reg.BS_STATUS b) Fld.BS_STATUS_PC next_] ++ xs)
    let free := goes (if z < 8 then n else n + 1) (z + 1)
    let emits := fun (k : Nat) => goes (emitAt u b n k + k) 0
    let stops := fun (cause : Nat) => nextBy u (seqFault b cause u)
    exec (.bsNop b) s = free on []
    ∧ (∀ k : Fin 2048, exec (.bsIdle b k) s = emits (k + 1) on [])
    ∧ (∀ a : Fin 4096, exec (.bsJmp b a) s = free a [])
    ∧ (∀ imm : BitVec 16, exec (.bsLdc b imm) s = free on [.bseq b (fun q => { q with counter := imm })])
    ∧ (∀ a : Fin 4096, exec (.bsDjnz b a) s = free (if c - 1 = 0 then on else a) [.bseq b (fun q => { q with counter := c - 1 })])
    ∧ (∀ (a : Fin 4096) (k : Fin 16) (v : Bool), bsCond u b k = some v →
        exec (.bsBr b a k) s = free (if v then a else on) [] ∧ exec (.bsWaitc b k) s = emits 1 (if v then on else pc) [])
    ∧ (∀ (a : Fin 4096) (k : Fin 16), 8 ≤ k.val → exec (.bsBr b a k) s = stops 1 ∧ exec (.bsWaitc b k) s = stops 1)
    ∧ (∀ a : Fin 4096, (bseq u b).full = false →
        exec (.bsCall b a) s = free a [.bseq b (fun q => { q with stack := BitVec.ofNat 16 on, full := true })])
    ∧ (∀ a : Fin 4096, (bseq u b).full = true → exec (.bsCall b a) s = stops 3)
    ∧ exec (.bsRtn b) s = free ((bseq u b).stack.toNat % 4096) [.bseq b (fun q => { q with full := false })]
    ∧ (∀ imm : Fin 65536, exec (.bsEvt b imm) s
        = free on [.fld (Reg.BS_STATUS b) Fld.BS_STATUS_PEVT 1, .fld (Reg.BS_STATUS b) Fld.BS_STATUS_EVT_IMM imm])
    ∧ exec (.bsHalt b) s = nextBy u [.fld (Reg.BS_STATUS b) Fld.BS_STATUS_STATE bsHALT]
    ∧ exec (.bsIllegalOp b false) s = stops 1 ∧ exec (.bsIllegalOp b true) s = stops 2
    ∧ (∀ pred k : Fin 8, (k.val = 5 ∨ k.val = 6) →
        exec (.bsSetf b pred k) s = free on ((lanes u b pred).map (fun p => .port p (fun q => { q with flags := setBit q.flags (k - 5) true })))
        ∧ exec (.bsClrf b pred k) s = free on ((lanes u b pred).map (fun p => .port p (fun q => { q with flags := setBit q.flags (k - 5) false }))))
    ∧ (∀ pred k : Fin 8, k.val ≠ 5 → k.val ≠ 6 → exec (.bsSetf b pred k) s = free on [] ∧ exec (.bsClrf b pred k) s = free on [])
    ∧ (∀ (pred : Fin 8) (imm : Fin 65536), imm.val / 256 ≠ kCUR → imm.val / 256 ≠ kSTB →
        exec (.bsKsym b pred imm) s = emits 2 on [.out (fun o => { o with lines := o.lines ++ (lanes u b pred).map (fun p =>
          ⟨p, symNs u b (emitAt u b n 2) + 1023 - rf u (Reg.PORT_ADV (p / 64) (p % 64)) Fld.PORT_ADV_ADV, imm.val / 256 % 256, [BitVec.ofNat 8 imm]⟩) })])
    ∧ (∀ (pred : Fin 8) (imm : Fin 65536), (imm.val / 256 = kCUR ∨ imm.val / 256 = kSTB) → exec (.bsKsym b pred imm) s = stops 1)

/-- What a running sequencer sends: SEND sends the oldest packet of each lane acted on, all from one symbol, for the length of the longest; TURN
opens a return window on each lane acted on, for the lane's oldest request or driver 0 of the next chain; FETCH fills one buffer of each
lane acted on with fewer than two packets (R283, R284, R291, R299). The microinstruction store takes a word through BS_UDATA in OFF or HALT
and refuses it with BUSY otherwise; a read of BS_STATUS clears PEVT; a return window that falls due moves the clock to the end of
BS_RET_IDLE (R286, R303, R314). (Readings and choices of the model: log entry 53.) -/
def Obligations.SequencersSendAndAreTold : Prop :=
  (∀ (s : State) (b : Fin 16) (pred : Fin 8), bsState s b = bsRUN →
    let u := runEffs s ((bankPorts b).map windowMiss)
    let n := afterGuards u b (bankSym u b)
    let pc := (rf u (Reg.BS_STATUS b) Fld.BS_STATUS_PC + 1) % 4096
    let emits := fun (k : Nat) (xs : List Act) => nextBy u ([.bseq b (fun q => { q with syms := emitAt u b n k + k, zeros := 0 }),
      .fld (Reg.BS_STATUS b) Fld.BS_STATUS_PC pc] ++ xs)
    let w := retWin (rd u) b + 8
    exec (.bsSend b pred) s = emits (longest u b pred)
      (seqE ((lanes u b pred).map (fun p => sendLane p (emitAt u b n (longest u b pred)))) u)
    ∧ exec (.bsTurn b pred) s = emits w ((lanes u b pred).flatMap (fun p =>
        let tg := responder u p
        let chains := rf u (Reg.PORT_CTRL (p / 64) (p % 64)) Fld.PORT_CTRL_CHAINS + 1
        [.out (fun o => { o with lines := o.lines ++ [⟨p, symNs u b (emitAt u b n w) + (1023 - rf u (Reg.PORT_ADV (p / 64) (p % 64)) Fld.PORT_ADV_ADV),
          kTA, [BitVec.ofNat 8 tg.1, BitVec.ofNat 8 tg.2]⟩] }),
         .port p (fun q => { q with
           window := some tg, since := 0, lastWin := symNs u b (emitAt u b n w + w)
           turn := if q.sent.isEmpty then (q.turn + 1) % chains else q.turn })]))
    ∧ (s.stp.bgReady.filter (·.2) = [] → exec (.bsFetch b pred) s = nextBy u
        ([.bseq b (fun q => { q with syms := if (bseq u b).zeros < 8 then n else n + 1, zeros := (bseq u b).zeros + 1 }),
          .fld (Reg.BS_STATUS b) Fld.BS_STATUS_PC pc] ++ seqE ((lanes u b pred).map fetchLane) u))
    ∧ (∀ p x, (port u p).bufs = [x] ++ (port u p).bufs.drop 1 → ∀ k, ∃ l rest, sendLane p k u = l :: rest
        ∧ (applyAct u l).out.lines = u.out.lines
          ++ [⟨p, symNs u (p / 64) k + 1023 - rf u (Reg.PORT_ADV (p / 64) (p % 64)) Fld.PORT_ADV_ADV, kSOP, pktBytes x.pkt⟩])) ∧
  (∀ (s : State) (a : Acc) (b : Fin 16) (v : Word),
    let addr := rf s (Reg.BS_UADDR b) Fld.BS_UADDR_ADDR
    let word := BitVec.ofNat 48 ((rd s (Reg.BS_UDATA_LO b)).toNat + 2 ^ 32 * getF v Fld.BS_UDATA_HI_DATA)
    (reaches s a (Reg.BS_UDATA_HI b) true → actsFor a = 0 → (bsState s b = bsOFF ∨ bsState s b = bsHALT) →
      exec (.bsUdataHiWrite a b v) s = nextBy s ([.reg (Reg.BS_UDATA_HI b) v,
        .bseq b (fun q => { q with store := mapPut zeroMicro q.store addr word })]
        ++ (if rf s (Reg.BS_UADDR b) Fld.BS_UADDR_AUTOINC = 1 then [.fld (Reg.BS_UADDR b) Fld.BS_UADDR_ADDR ((addr + 1) % 4096)] else [])))
    ∧ (reaches s a (Reg.BS_UDATA_HI b) true → actsFor a = 0 → (bsState s b = bsRUN ∨ bsState s b = bsFAULT) →
      exec (.bsUdataHiWrite a b v) s = nextBy s (tenantFault s 0 stBUSY (Reg.BS_UDATA_HI b)))
    ∧ (reaches s a (Reg.BS_STATUS b) false →
      exec (.bsStatusRead a b) s = nextBy s [gives (rd s (Reg.BS_STATUS b)), .fld (Reg.BS_STATUS b) Fld.BS_STATUS_PEVT 0])
    ∧ (∀ p : Fin 1024, (port s p).up = true → exec (.returnWindowDue p) s
        = nextBy s [.clockTo ((port s p).lastWin + 1000 * rf s (Reg.BS_RET_IDLE (p / 64)) Fld.BS_RET_IDLE_US)]))

/-- Return packets in their window: a valid one is counted, closes the window, ends the misses and makes the port ALIVE, and brings its news: a
STATUS the driver's state and forward errors, a round trip, register contents, a page CRC's verdict, the codes of a diagnosis; one in
error is counted and its request sent again at most twice (R282, R304, R305, R321, R344). (Readings and choices of the model: log entry 54.) -/
def Obligations.ReturnPacketsAreTaken : Prop :=
  ∀ (s : State) (h : RetHead), (port s h.port).window = some (h.chain.val, h.driver.val) →
    let p := h.port.val
    let k := retKey h
    let st := Reg.PORT_STATE (p / 64) (p % 64)
    let heard : List Act := [.inc (Reg.PORT_RET_OK (p / 64) (p % 64)) Fld.PORT_RET_OK_COUNT 1, .port p (fun q => { q with window := none }),
        .fld st Fld.PORT_STATE_MISSES 0, .fld st Fld.PORT_STATE_STATE psALIVE]
      ++ (if portState s p = psSILENT then portEvent s 1 p h.chain h.driver else [])
      ++ (match portTile (rd s) p with
          | some t => if tileState s t = tpINIT ∨ (tileState s t = tpCLEAR ∧ (tilePwr s t).phase < 3) ∨ tileState s t = tpLIGHT_ON then
              [.tile t (fun q => { q with waitFrom := now s })] else []
          | none => [])
    let words := fun (bs : List Byte) => (List.range (bs.length / 4)).map (fun i => BitVec.ofNat 32 (leValue ((bs.drop (4 * i)).take 4)))
    let errs := fun (e : Nat) => mapPut zeroNat (port s p).fwdErr (256 * h.chain.val + h.driver.val) e
    let base := fun (e state : Nat) => heard ++ [.far k (fun f => { f with state := some state, stateAt := now s }), .port p (fun q => { q with fwdErr := errs e }),
      .fld (Reg.PORT_FWD_ERR (p / 64) (p % 64)) Fld.PORT_FWD_ERR_COUNT (((errs e).map (·.2)).foldl (· + ·) 0)]
    (h.ok = true →
      (∀ flags cur (e : Fin 65536) (state : Fin 8), portTile (rd s) p = none → exec (.status h flags cur e state) s = nextBy s (base e state))
      ∧ (∀ t flags cur (e : Fin 65536) (state : Fin 8), portTile (rd s) p = some t → exec (.status h flags cur e state) s
          = nextBy s (base e state ++ (if flags.val % 2 = 1 then missedCurtain t p k s else [])
            ++ (if state.val = 5 then tileFault t 2 s
                else if state.val ≤ 1 ∧ tileState s t = tpLIGHT_ON then
                  (if (tilePwr s t).again.contains p then [] else
                    tileEvent s 5 t p h.chain h.driver ++ [.tile t (fun q => { q with again := q.again ++ [p] })])
                else if state.val = 0 ∧ tileState s t ≠ tpCLEAR then [.tile t (fun q => { q with met := false })]
                else [])))
      ∧ (∀ r rtt, asked s h = some r → r.pkt.typ = pkECHO →
          exec (.echoReply h rtt) s = nextBy s (heard ++ [answered h, .far k (fun f => { f with rtts := f.rtts ++ [rtt] })]))
      ∧ (∀ r bs, asked s h = some r → r.pkt.typ = pkREAD_REQ → h.tag.val = (r.pkt.payload.getD 1 0).toNat → r.why = .regs →
          r.pkt.payload.getD 0 0 ≠ 1 → exec (.readData h bs) s = nextBy s (heard ++ [answered h, .far k (fun f => { f with regs := mapPuts zeroWord f.regs (r.pkt.addr / 4) (words bs) })]))
      ∧ (∀ r bs first, asked s h = some r → r.pkt.typ = pkSERVICE → r.why = .diag first →
          exec (.serviceData h bs) s = nextBy s (heard ++ [answered h] ++ diagTake h first bs s)))
    ∧ (h.ok = false → ∀ r, asked s h = some r →
        let bad := fun (xs : List Act) => nextBy s ([.inc (Reg.PORT_RET_CRC (p / 64) (p % 64)) Fld.PORT_RET_CRC_COUNT 1, .port p (fun q => { q with window := none }),
          answered h] ++ xs)
        ∀ rtt, (r.tries < 2 → exec (.echoReply h rtt) s = bad (sendAgain p r s))
          ∧ (2 ≤ r.tries → exec (.echoReply h rtt) s = bad (reqFails r stCRC_MISMATCH s)))
/-! ## Lamp drivers -/

/-- A driver with its logic on and its line in lock discards and counts a packet in error or of a wrong length, ignores one that is not addressed to
it, and takes any other: codes go into a page that is not shown, for its own lamps alone, a write to a shown page is counted;
registers, requests, schedules and CURTAIN packets are kept for their mark or their turnaround (R276 to R281, R308, R321, R333).
(Readings and choices of the model: log entries 32, 56.) -/
def Obligations.DriversTakePackets : Prop :=
  ∀ (s : State) (w : DrvAt) (h : FwdHead) (addr : Fin 16777216) (bs : List Byte),
    let k := drvKey w
    let d := drv s k
    let page := addr.val / 65536
    let first := addr.val % 65536
    let counts := fun (a : Nat) => nextBy s [.drv k (fun d => d.setReg a ((dreg s k a + 1) % 2 ^ 32))]
    let puts := fun (f : Driver → Driver) => nextBy s (seqE [settleDrv k, fun _ => [.drv k f]] s)
    let hears := chainOff s k = false ∧ d.locked = true
    let takes := hears ∧ h.ok = true ∧ addressed w h = true
    (hears → h.ok = false → exec (.pageWrite w h addr bs) s = counts 0x24 ∧ exec (.codeDense w h addr bs) s = counts 0x24
      ∧ exec (.codeSparse w h addr bs) s = counts 0x24 ∧ exec (.pageCopy w h addr bs) s = counts 0x24 ∧ exec (.regWrite w h addr bs) s = counts 0x24
      ∧ exec (.readReq w h addr bs) s = counts 0x24 ∧ exec (.curtain w h bs) s = counts 0x24 ∧ exec (.slotSched w h bs) s = counts 0x24)
    ∧ (hears → h.ok = true → bs.length % 2 = 1 → exec (.pageWrite w h addr bs) s = counts 0x24)
    ∧ (hears → h.ok = true → addressed w h = false → bs.length = 16 → exec (.curtain w h bs) s = .next s)
    ∧ (takes → bs.length % 2 = 0 → bs.length ≤ 512 → exec (.pageWrite w h addr bs) s
        = if showsPage d page then counts 0x144 else puts (fun d =>
          (((List.range (bs.length / 2)).map (fun i => (first + i, leValue ((bs.drop (2 * i)).take 2)))).filter (fun q => holdsLamp s k q.1)).foldl
            (fun d q => d.putP page q.1 q.2) d))
    ∧ (takes → bs.length ≤ 512 → exec (.codeDense w h addr bs) s
        = if showsPage d page then counts 0x144 else puts (fun d =>
          ((bs.mapIdx (fun i b => (first + i, b.toNat))).filter (fun q => holdsLamp s k q.1)).foldl (fun d q => d.putC page q.1 q.2) d))
    ∧ (takes → sparseLen bs = true → exec (.codeSparse w h addr bs) s
        = if showsPage d page then counts 0x144 else puts (fun d =>
          ((sparseCodes first bs).filter (fun q => holdsLamp s k q.1)).foldl (fun d q => d.putC page q.1 q.2) d))
    ∧ (takes → bs.length = 10 → exec (.pageCopy w h addr bs) s
        = if showsPage d page then counts 0x144 else
          let x := fun (i : Nat) => leValue ((bs.drop (2 * i)).take 2)
          let src := (bs.getD 8 0).toNat
          puts (fun d => (((List.range (x 3)).flatMap (fun c => (List.range (x 1)).map (fun i => x 0 + c * x 2 + i))).filter (holdsLamp s k)).foldl
            (fun d l => (d.putP page l (mapGet zeroNat d.pwm (lampKey src l))).putC page l (mapGet zeroNat d.code (lampKey src l))) d))
    ∧ (takes → 4 ≤ bs.length → bs.length ≤ 64 → bs.length % 4 = 0 → exec (.regWrite w h addr bs) s
        = nextBy s ((List.range (bs.length / 4)).map (fun i =>
          let v := leValue ((bs.drop (4 * i)).take 4)
          let a := addr.val + 4 * i
          if 0x10C ≤ a ∧ a < 0x134 then .drv k (fun d => { d with writes := d.writes ++ [(a, BitVec.ofNat 32 v)] })
          else if drvFacts.contains a then .drv k id else .drv k (fun d => d.setReg a v))))
    ∧ (takes → bs.length = 4 → exec (.readReq w h addr bs) s = nextBy s (seqE [settleDrv k, fun u =>
        [.drv k (fun d => { d with reqs := d.reqs ++ [⟨pkREAD_DATA, (bs.getD 1 0).toNat, readAnswer u k addr bs⟩] })]] s))
    ∧ (takes → bs.length = 16 → exec (.curtain w h bs) s
        = nextBy s [.drv k (fun d => { d with curs := d.curs ++ [(leValue (bs.take 4), bs)] })])
    ∧ (takes → bs.length = 2 + 7 * (bs.getD 0 0).toNat → exec (.slotSched w h bs) s = nextBy s [.drv k (fun d => { d with schedNext := bs })])
    ∧ (takes → ∀ tag, exec (.echo w h tag) s = nextBy s [.drv k (fun d => { d with reqs := d.reqs ++ [⟨pkECHO_REPLY, tag.toNat, []⟩] })])

/-- Marks: a CUR mark without a CURTAIN packet of its number leaves the pages shown and sets MISSED_CURTAIN; with one the driver shows the packet's
PAGE_MAP, with its DARK_ALL and the schedule taken before, and scan registers written before take effect; a strobe out of order sets
MISSED_STROBE; a turnaround is answered with the oldest request or STATUS, an aborted packet is counted (R278, R282, R308, R321, R333).
(Readings and choices of the model: log entry 56.) -/
def Obligations.DriverMarksAct : Prop :=
  ∀ (s : State) (w : DrvAt) (sym : Byte), s.Inv →
    let k := drvKey w
    let d := drv s k
    chainOff s k = false → d.locked = true →
      (d.curs.find? (fun q => q.1 % 256 == sym.toNat) = none →
        ∃ t, exec (.curMark w sym) s = .next t ∧ (drv t k).shown = d.shown ∧ bit (drv t k).flags 0 = true ∧ (drv t k).slot = 0
          ∧ (drv t k).lit = d.lit ∧ (drv t k).markAt = now s ∧ t.regs = s.regs ∧ sameMemory s t)
      ∧ (∀ c, d.curs.find? (fun q => q.1 % 256 == sym.toNat) = some c →
        ∃ t, exec (.curMark w sym) s = .next t ∧ (drv t k).shown = ((c.2.drop 6).take (c.2.getD 4 0).toNat).map (·.toNat)
          ∧ (drv t k).dark = (c.2.getD 5 0).getLsbD 0 ∧ (drv t k).lastCur = sym.toNat ∧ (drv t k).slot = 0 ∧ (drv t k).flags = d.flags
          ∧ (drv t k).sched = (if d.schedNext.isEmpty then d.sched else d.schedNext) ∧ (drv t k).markAt = now s
          ∧ (d.power = [] → (drv t k).lit = (d.lit || d.holds) ∧ (drv t k).holds = false) ∧ t.regs = s.regs ∧ sameMemory s t)
      ∧ (∀ a v, d.writes = [(a, v)] → 0x10C ≤ a → a < 0x134 → mapWf drvWord d.regs = true →
        ∃ t, exec (.curMark w sym) s = .next t ∧ mapGet drvWord (drv t k).regs (a / 4) = v ∧ (drv t k).writes = [])
      ∧ exec (.stbMark w sym) s
          = nextBy s [.drv k (fun d => { d with slot := sym.toNat, flags := if sym.toNat = d.slot + 1 then d.flags else setBit d.flags 1 true })]
      ∧ (∀ (chain : Fin 16) (driver : Fin 256), chain.val = w.chain.val → driver.val = w.driver.val →
        let up := fun (bs : List Byte) => Act.out (fun o => { o with ups := o.ups ++ [⟨w.port, now s + dreg s k 0xC, kSOP, bs⟩] })
        (∀ q rest, d.reqs = q :: rest → exec (.ta w chain driver) s
            = nextBy s [up (retBytes q.typ w.chain w.driver q.tag q.bytes), .drv k (fun d => { d with reqs := d.reqs.drop 1 })])
        ∧ (d.reqs = [] → exec (.ta w chain driver) s
            = nextBy s [up (retBytes pkSTATUS w.chain w.driver 0 (statusBytes s k)), .drv k (fun d => { d with flags := 0 })]))
      ∧ exec (.abt w true) s = nextBy s [.drv k (fun d => d.setReg 0x24 ((dreg s k 0x24 + 1) % 2 ^ 32))]

/-- Service packets taken by a driver: LOGIC_OFF and the rail act at once on a capable driver's chain, LIGHT_ON, LIGHT_OFF and HOLD wait for the
mark; diagnosis codes, forward-voltage classes and sensor readings are returned and cleared; a borrowed pulse, a flat field and an armed
sensor are noted for their curtain (R336, R337, R346, R354, R361, R374, R375, R389). A driver's line: losing lock sets LOSS_OF_SYNC and
starts LINE_LOSS_HOLD, after which lit outputs without HOLD go off; lock gained ends it, and after a millisecond without transitions
switches a capable chain's logic on again (R282, R308, R338, R346, R347). (Readings and choices of the model: log entries 55, 59.) -/
def Obligations.DriverLinesAndServicesAct : Prop :=
  (∀ (s : State) (w : DrvAt) (h : FwdHead),
    let k := drvKey w
    let d := drv s k
    chainOff s k = false → d.locked = true → h.ok = true → addressed w h = true →
      let answers := fun (bs : List Byte) (f : Driver → Driver) =>
        nextBy s [.drv k (fun d => { f d with reqs := d.reqs ++ [⟨pkSERVICE_DATA, 0, bs⟩] })]
      exec (.powerLogicOff w h) s = (if powerCap s k 1 = true
        then nextBy s (.drive (fun q => { q with logics := mapPut falseFlag q.logics (k / 256) true })
          :: (chainDrivers s k).map (fun x => .drv x (fun d => { drvDflt x with locked := d.locked, lostAt := d.lostAt })))
        else .next s)
      ∧ exec (.powerRailOn w h) s = (if powerCap s k 0 = true
        then nextBy s [.drive (fun q => { q with rails := mapPut falseFlag q.rails (k / 256) true })] else .next s)
      ∧ exec (.powerRailOff w h) s = (if powerCap s k 0 = true
        then nextBy s (.drive (fun q => { q with rails := mapPut falseFlag q.rails (k / 256) false })
            :: (chainDrivers s k).map (fun x => .drv x (fun d => { d with lit := false, holds := false })))
        else .next s)
      ∧ exec (.powerLightOn w h) s = nextBy s [.drv k (fun d => { d with power := d.power ++ [2] })]
      ∧ exec (.powerLightOff w h) s = nextBy s [.drv k (fun d => { d with power := d.power ++ [3] })]
      ∧ exec (.powerHold w h) s = nextBy s [.drv k (fun d => { d with power := d.power ++ [5] })]
      ∧ (∀ (first : Fin 65536) (tests : List (Fin 4)),
        let a := first.val / 64 * 64
        let at_ := fun (i : Nat) => ((tests.map (·.val)).getD i 0)
        exec (.diagRead w h first tests) s = nextBy s [.drv k (fun d => { d with
          diag := mapDrop d.diag a 64
          reqs := d.reqs ++ [⟨pkSERVICE_DATA, 0, packTwo ((List.range 64).map (fun i =>
            if holdsLamp s k (a + i) then diagAfter (mapGet zeroNat (drv s k).diag (a + i)) (at_ i) else 0))⟩] })]
        ∧ exec (.vfRead w h first tests) s = nextBy s [.drv k (fun d => { d with
          vf := mapDrop d.vf a 64
          reqs := d.reqs ++ [⟨pkSERVICE_DATA, 0, packTwo ((List.range 64).map (fun i =>
            if !holdsLamp s k (a + i) then 0 else if at_ i = 0 then mapGet zeroNat (drv s k).vf (a + i) else at_ i % 4))⟩] })])
      ∧ (∀ slot cur8 : Byte, exec (.borrow w h slot cur8) s
          = if d.holds then .next s else nextBy s [.drv k (fun d => { d with borrow := some (slot.toNat, cur8.toNat) })])
      ∧ (∀ (mv : Fin 65536) (bad : Bool), exec (.railRead w h mv bad) s = answers (leBytes 2 mv ++ [if bad then 1 else 0, 0])
          (fun d => { d with fault := bad, lit := d.lit && !bad }))
      ∧ (∀ cur8 : Byte, s.cur.running = true → (rf s Reg.CUR_NUM Fld.CUR_NUM_NUM + 1) % 256 = cur8.toNat → now s + 600000 ≤ s.cur.next →
          exec (.calFlat w h cur8) s = nextBy s [.drv k (fun d => { d with flat := some cur8.toNat })])
      ∧ (∀ cur8 slot : Byte, exec (.flArm w h cur8 slot) s = nextBy s [.drv k (fun d => { d with arm := some (cur8.toNat, slot.toNat) })])
      ∧ (∀ (sensor : Fin 4) (sat bad : Bool) (n : List Nat) (q : Nat × Nat), d.taken.find? (fun q => q.1 == sensor.val) = some q →
          exec (.flRead w h sensor sat bad n) s = answers ([BitVec.ofNat 8 q.2, BitVec.ofNat 8 ((if sat then 1 else 0) + if bad then 2 else 0)]
            ++ (List.range 6).flatMap (fun i => leBytes 2 (n.getD i 0)) ++ [0, 0]) (fun d => { d with taken := d.taken.filter (fun x => x.1 != sensor.val) }))
      ∧ (∀ (sensor : Fin 4) (sat bad : Bool) (n : List Nat), d.taken.find? (fun q => q.1 == sensor.val) = none →
          exec (.flRead w h sensor sat bad n) s = answers ([0, 4] ++ List.replicate 14 0) id)) ∧
  (∀ (s : State) (w : DrvAt),
    let k := drvKey w
    let d := drv s k
    (d.locked = true → exec (.driverLockLoss w) s
      = nextBy s [.drv k (fun d => { d with locked := false, lostAt := some (now s), flags := setBit d.flags 2 true })])
    ∧ (∀ t, d.lostAt = some t → d.lit = true → d.holds = false → exec (.driverLineLossHold w) s
        = nextBy s [.clockTo (t + 1000000 * dreg s k 0x13C), .drv k (fun d => { d with lit := false })])
    ∧ (chainOff s k = false → exec (.driverLockGain w) s = nextBy s [.drv k (fun d => { d with locked := true, lostAt := none })])
    ∧ (∀ t, chainOff s k = true → d.lostAt = some t → exec (.driverLockGain w) s
        = nextBy s (.drv k (fun d => { d with locked := true, lostAt := none })
          :: if powerCap s k 1 = true ∧ t + 1000000 ≤ now s then [.drive (fun q => { q with logics := mapPut falseFlag q.logics (k / 256) false })]
             else [])))

/-! ## Tiles, live lamp states, calibration and monitors -/

/-- A tile in service goes towards its TARGET: up through INIT and CLEAR, its rail once the drivers report, its lamps at the next mark where
CLEAR has been met, and down again; a wait for the rail ends at RAIL_SETTLE or RAIL_DISCHARGE, and 2 s without a report end in FAULT (R340
to R343). The line of a SILENT port whose tile waits in LOGIC_OFF to be brought up is held for 2 ms and started, again no sooner than 2 s
after the last attempt (R338). (Readings and choices of the model: log entry 56.) -/
def Obligations.TilesAndLinesAreBroughtUp : Prop :=
  (∀ (s : State) (t : Fin 1024) (found : List (Nat × Nat)), tileOn (rd s) t = true →
    let q := tilePwr s t
    let ps := tilePortList (rd s) t
    let runs := fun (es : List Eff) => exec (.tilePowerAdvance t found) s = .next (runEffs s es)
    let phase := fun (n : Nat) => fun (_ : State) => [Act.tile t (fun x => { x with phase := n })]
    let light := fun (a : Nat) => fun (_ : State) => [Act.tile t (fun x => { x with light := some a })]
    (∀ st, s.Inv → st < 16 → rf (applyActs s (toState t st s)) (Reg.TD_POWER t) Fld.TD_POWER_STATE = st)
    ∧ (q.phase = 9 → q.railAt ≠ none → runs [toState t tpLOGIC_OFF, fun _ => [
        .tile t (fun x => { x with met := false, railOn := false, light := none, lightSent := none }), .fld (Reg.TD_POWER t) Fld.TD_POWER_CAUSE 0]])
    ∧ (q.phase ≠ 9 →
      (tileState s t = tpLOGIC_OFF → tileTarget s t ≠ 0 → (∀ p ∈ ps, portState s p = psALIVE) →
        runs [toState t tpLOGIC_ON, toState t tpINIT, fun _ => [.tile t (fun x => { x with chains := found.filter (fun c => ps.contains (c.1 / 16)) })], startInit t ps])
      ∧ (tileState s t = tpINIT → q.phase ≠ 0 → awaits s ps isInitWrite = false → tileTarget s t ≠ 0 → runs [toState t tpCLEAR, startClear t ps])
      ∧ (tileState s t = tpCLEAR → q.phase = 0 → clearWrites s ps = false → runs [fun s => readClear t ps s ++ phase 1 s])
      ∧ (tileState s t = tpCLEAR → q.phase = 1 → awaits s ps isClear = false → runs [fun s => clearMet t ps true s ++ phase 2 s])
      ∧ (tileState s t = tpCLEAR → q.phase = 2 → tileTarget s t ≠ 0 →
        runs [fun s => sendPower t 1 s ++ [.tile t (fun x => { x with railOn := true, phase := 3 })]])
      ∧ (tileState s t = tpCLEAR → q.phase = 3 → reports s t 2 = true → runs [toState t tpRAIL_ON])
      ∧ (tileState s t = tpRAIL_ON → q.phase ≠ 5 → tileTarget s t = 2 → q.met = true → q.light = none → q.lightSent = none → runs [light 2])
      ∧ (tileState s t = tpLIGHT_ON → tileTarget s t < 2 → q.light = none → q.lightSent = none → runs [light 3])
      ∧ ((tileState s t = tpRAIL_ON ∨ tileState s t = tpLIGHT_OFF) → q.phase ≠ 5 → tileTarget s t = 0 → runs [fun s => sendPower t 4 s ++ phase 5 s])
      ∧ ((tileState s t = tpRAIL_ON ∨ tileState s t = tpLIGHT_OFF) → q.phase = 5 → reports s t 1 = true → runs [toState t tpRAIL_OFF])
      ∧ (tileState s t = tpRAIL_OFF → runs [goOff t])
      ∧ (tileState s t = tpFAULT → tileTarget s t = 0 → runs [goOff t])
      ∧ (tileState s t = tpFAULT → tileTarget s t ≠ 0 → runs []))
    ∧ (∀ a, q.railAt = some a → q.railDone = false →
      let waited := fun (ms : Nat) => nextBy s [.clockTo (a + 1000000 * ms), .tile t (fun x => { x with railDone := true, waitFrom := max (now s) (a + 1000000 * ms) })]
      (q.phase = 3 → exec (.railSettleElapsed t) s = waited (rf s (Reg.TD_RAIL t) Fld.TD_RAIL_SETTLE))
      ∧ (q.phase = 5 → exec (.railDischargeElapsed t) s = waited (rf s (Reg.TD_RAIL t) Fld.TD_RAIL_DISCHARGE)))
    ∧ (waitsReport s t = true →
      let u := applyActs s [.clockTo (q.waitFrom + 2000000001)]
      exec (.tileReportTimeout t) s = nextBy u (tileFault t 4 u))) ∧
  (∀ (s : State) (p : Fin 1024) (t : Nat), s.Inv → portTile (rd s) p = some t → tileState s t = tpLOGIC_OFF → 0 < tileTarget s t →
    portState s p = psSILENT → bsState s (p / 64) ≠ bsOFF →
      ∃ u, exec (.logicLineRestart p) s = .next u ∧ (port u p).up = true ∧ (port u p).sent = [] ∧ (port u p).bufs = [] ∧ sameMemory s u
        ∧ (port u p).startAt = (match (port s p).restartAt with | some a => max (now s) (a + 2000000000) | none => now s) + 2000000
        ∧ now u = (port u p).startAt)

/-- Live lamp states: an idle port with SCRUB reads back the next shown part; a diagnosis window queues the chunks of every driver in service, or is
extended and counted while the last one's reads are out; DRV_LAMP_SET latches a lamp for its tile's owner and then sets its state, CONF 0 and
AGE kept (R352, R355, R356, R364, R367). (Readings and choices of the model: log entry 57.) -/
def Obligations.LampStatesAreKept : Prop :=
  ∀ s : State,
    (∀ (p : Fin 1024) (t i g j : Nat), portTile (rd s) p = some t → rf s Reg.DRV_CTRL Fld.DRV_CTRL_SCRUB ≠ 0 → awaits s [p] isRead = false →
      portClearing s p = false → scrubParts s t p ≠ [] →
      (scrubParts s t p)[(port s p).scrub % (scrubParts s t p).length]? = some (i, g, j) →
        let k := p - tilePort0 (rd s) t
        exec (.readbackScrub p) s = nextBy s [.port p (fun q => { q with
          scrub := (q.scrub + 1) % (scrubParts s t p).length
          house := q.house ++ [{ partRead s t i k (pageOf s (rf s Reg.CUR_NUM Fld.CUR_NUM_NUM) j) (.scrub g j) (partSentCrc s t i k j) with after := 0 }] })])
    ∧ (s.drive.winOn = false → exec .diagWindow s = nextBy s (.drive (fun d => { d with winOn := true, winAt := now s })
        :: (tilesOn (rd s)).flatMap (fun t => (tilePortList (rd s) t).map (fun p => queueHouse p ((portDrivers s t p).flatMap (windowReqs s t p))))))
    ∧ (s.drive.winOn = true → s.drive.winLate = false → awaits s ((tilesOn (rd s)).flatMap (tilePortList (rd s))) isDiag = true →
        exec .diagWindow s = nextBy s [.clockTo (s.drive.winAt + 1000000000 * max 1 (rf s Reg.DRV_CTRL Fld.DRV_CTRL_DIAG_WIN)),
          .drive (fun d => { d with winLate := true }), .inc Reg.DRV_DIAG_STAT Fld.DRV_DIAG_STAT_LATE 1])
    ∧ (∀ (a : Acc) (v : Word) (t : Nat), reaches s a Reg.DRV_LAMP_SET_A true →
      let p := getF v Fld.DRV_LAMP_SET_A_PORT
      let lamp := getF v Fld.DRV_LAMP_SET_A_LAMP
      portTile (rd s) p = some t →
      ((actsFor a = 0 ∨ ownerOf s 3 t = actsFor a) → lamp < lampsOfPort (rd s) p → exec (.drvLampSetA a v) s
        = nextBy s [.drive (fun d => { d with latch := mapPut noLatch d.latch (actsFor a) (some (p, lamp, t, epochOf s 3 t)) })])
      ∧ (actsFor a ≠ 0 → ownerOf s 3 t ≠ actsFor a → exec (.drvLampSetA a v) s = nextBy s (tenantFault s (actsFor a) stNOT_OWNER Reg.DRV_LAMP_SET_A)))
    ∧ (∀ (a : Acc) (v : Word) (p lamp t ep : Nat), reaches s a Reg.DRV_LAMP_SET_B true →
      mapGet noLatch s.drive.latch (actsFor a) = some (p, lamp, t, ep) → 1 ≤ getF v Fld.DRV_LAMP_SET_B_STATE → getF v Fld.DRV_LAMP_SET_B_STATE ≤ 4 →
      let emptied := Act.drive (fun d => { d with latch := mapPut noLatch d.latch (actsFor a) none })
      (epochOf s 3 t ≠ ep → exec (.drvLampSetB a v) s = nextBy s (emptied :: tenantFault s (actsFor a) stSTALE_ROLE Reg.DRV_LAMP_SET_B))
      ∧ (epochOf s 3 t = ep → (actsFor a = 0 ∨ ownerOf s 3 t = actsFor a) → exec (.drvLampSetB a v) s
        = nextBy s (emptied :: setLive t p lamp (8192 * getF v Fld.DRV_LAMP_SET_B_STATE + leValue (dramBytes s (liveAddr s p lamp) 2) % 2048) s)))

/-- Calibration: CAL_RUN queues a tile whose record allows it; a run's readings end in a commit of its gains where each colour has an
efficiency, no gain moves beyond MAX_STEP and the fit holds, and are rejected with the cause otherwise; temperatures are asked of the
drivers of lit tiles; CAL_TRIM asks the trims of the banks named, and what is measured within its range waits for the edge (R383, R386,
R388, R395, R396). A conversion of an enabled monitor input: samples that differ by 1,024 or more read OPEN, told once; else the code with
whether it lies outside the limits; two in-range conversions end OPEN (R398, R400). (Readings and choices of the model: log entries 58, 77.) -/
def Obligations.CalibrationAndMonitorsRun : Prop :=
  (∀ s : State,
    (∀ (a : Acc) (v : Word), reaches s a Reg.CAL_RUN true →
      let t := getF v Fld.CAL_RUN_TILE
      let ahead := fun (q : Nat × Nat) => decide (q.2 < now s) || (q.2 == now s && decide (q.1 < t))
      (actsFor a = 0 ∨ ownerOf s 3 t = actsFor a) → getF v Fld.CAL_RUN_GO = 1 → tileOn (rd s) t = true →
      rf s (Reg.TC_CTRL t) Fld.TC_CTRL_AUTO = 1 → sensors (rd s) t ≠ 0 → s.cal.queue.any (fun q => q.1 == t) = false →
        exec (.calRun a v) s = .next (runEffs s [
          fun _ => [.cal (fun c => { c with queue := c.queue.filter ahead ++ [(t, now s)] ++ c.queue.filter (fun q => !ahead q) })], calRegs t]))
    ∧ (∀ (t : Fin 1024) (q : CalRun) (e : List (Int × Nat)) (fit : Bool), s.cal.runs.find? (fun q => q.tile == t.val) = some q → q.phase = 4 →
      e.length = 3 → (∀ x ∈ e, 0 < x.1 ∧ 0 < x.2) →
      let steps := (List.range 3).any (fun k =>
        let g := gainOf s t k
        let n := targetGain (rec2 s (rd s) t (6 + 2 * k)) (e.getD k (1, 1))
        decide (g * rf s Reg.CAL_CTRL Fld.CAL_CTRL_MAX_STEP < 256 * (max g n - min g n)))
      (steps = true → exec (.calRunResult t (e.map some) fit) s = nextBy s (rejectRun t 2 s))
      ∧ (steps = false → fit = false → exec (.calRunResult t (e.map some) fit) s = nextBy s (rejectRun t 3 s))
      ∧ (steps = false → fit = true → exec (.calRunResult t (e.map some) fit) s = .next (runEffs s [
          fun s => [.cur (fun c => { c with commits := c.commits ++ [runCommit s q e] }),
            .cal (fun c => { c with runs := c.runs.filter (fun x => x.tile != t.val) }), .fld (Reg.TC_STAT t) Fld.TC_STAT_RESULT 1],
          calRegs t])))
    ∧ exec .tempPoll s = nextBy s ((tilesOn (rd s)).flatMap (fun t => if tileState s t ≠ tpLIGHT_ON then [] else
        (tilePortList (rd s) t).map (fun p => queueHouse p ((portDrivers s t p).map (fun k =>
          drvReq s k pkREAD_REQ 0x180 (readPayload 0 (newTag s p) 1) true .temp)))))
    ∧ (∀ (a : Acc) (v : Word), reaches s a Reg.CAL_TRIM true → actsFor a = 0 → getF v Fld.CAL_TRIM_GO = 1 → exec (.calTrim a v) s
        = .next (runEffs s (((List.range 16).filter (fun b => bitsOf (getF v Fld.CAL_TRIM_BANKS) b b == 1)).map startTrim)))
    ∧ (∀ (b : Fin 16) (swing dly : List Int), bit s.cal.trimWant b = true → bsState s b = bsRUN → awaits s (bankPorts b) isInitRead = false →
        ∃ t, exec (.bankTrimMeasured b swing dly) s = .next t ∧ t.cal.trimWant = setBit s.cal.trimWant b false ∧ sameMemory s t
          ∧ ((∃ x ∈ swing ++ dly, x < -8 ∨ 7 < x) → t.cal.trimReady = s.cal.trimReady)
          ∧ ((∀ x ∈ swing ++ dly, -8 ≤ x ∧ x ≤ 7) → ∃ z, t.cal.trimReady = s.cal.trimReady.filter (fun x => x.bank != b.val) ++ [z]
              ∧ z.bank = b.val ∧ z.swing = swing ∧ z.dly = dly))) ∧
  (∀ (s : State) (a : Fin 8) (sa sb : Fin 4096), s.Inv → s.sys.vddAo = true → rf s (Reg.AMON_CTRL a) Fld.AMON_CTRL_EN = 1 →
    let value := Reg.AMON_VALUE a
    ∃ t, exec (.amonConversion a sa sb) s = .next t ∧ sameMemory s t
      ∧ (sa.val + 1024 ≤ sb.val → rf t value Fld.AMON_VALUE_STATE = 2)
      ∧ (sb.val < sa.val + 1024 → rf s value Fld.AMON_VALUE_STATE ≠ 2 → rf t value Fld.AMON_VALUE_STATE = 1 ∧ rf t value Fld.AMON_VALUE_CODE = sa.val
          ∧ rf t value Fld.AMON_VALUE_LIMIT
            = if sa.val < rf s (Reg.AMON_LIMIT a) Fld.AMON_LIMIT_LO ∨ rf s (Reg.AMON_LIMIT a) Fld.AMON_LIMIT_HI < sa.val then 1 else 0))

/-! ## The company -/

/-- Company time: every 125 us each UP link carries the lead, the show time in 1/256 ns and the next edge, and a delay request; a request is
answered with the instants of its arrival and of the answer, which give the one-way delay less half of ASYM; a member follows its lead's
cells on its way to it as its reference (R413, R414, R416). Lanes and links of a company port in service: a lost lane leaves its link's
stripe, and its link goes DOWN with its last one; a lane in lock again waits a clean second; a link that goes down or comes up takes the
devices it reached with it (R408, R430). (Readings and choices of the model: log entries 60, 61.) -/
def Obligations.CompanyTimeAndLinks : Prop :=
  (∀ (s : State) (h : CellHead) (at_ : Nat),
    let u := applyActs s [.clockTo at_]
    ((linkUp s 0 || linkUp s 1) = true → exec .timeCellSend s = .next (runEffs (applyActs s [.clockTo (s.cmp.timeAt + 125000),
        .cmp (fun c => { c with timeAt := max (c.timeAt + 125000) s.cur.clock })]) [timeCells 0, timeCells 1]))
    ∧ (∀ e : Fin 2, linkUp s e = true → role s = rlLEAD →
      ∃ n, (applyActs s (timeCells e s)).out.cells = s.out.cells
        ++ [⟨e.val == 0, clTIME, 0, ownIndex s, none, 0, mapGet zeroNat s.cmp.txSeq (8 * e + clTIME), 0,
          [256 * now s, s.cur.next, (rf s Reg.CUR_NUM Fld.CUR_NUM_NUM + 1) % 2 ^ 32, rf s Reg.CMP_EPOCH Fld.CMP_EPOCH_LEAD_PRIO, ownSerial s,
            ownIndex s + 1, rf s Reg.CMP_EPOCH Fld.CMP_EPOCH_EPOCH, 0]⟩, ⟨e.val == 0, clTIME, 1, ownIndex s, none, 0, n, 0, [now s]⟩])
    ∧ (h.ok = true → linkUp s h.e = true → exec (.delayRequest h at_) s = nextBy u (sendCell h.e clTIME 2 (ownIndex s) none 0 0 [at_, now u] u))
    ∧ (∀ t1 t2 t3 t4 : Nat, h.ok = true → linkUp s h.e = true → exec (.delayResponse h t1 t2 t3 t4) s
        = nextBy s [.clockTo t4, .fld (Reg.CMP_LINK_DELAY h.e) Fld.CMP_LINK_DELAY_NS (divRound (500 * (((t4 : Int) - t1) - ((t3 : Int) - t2))
            + toSigned 16 (rf s (Reg.CMP_LINK_ASYM h.e) Fld.CMP_LINK_ASYM_ASYM) / 2) 1000).toNat])
    ∧ (∀ (time256 edge num prio serial epoch hops : Nat) (lead : Fin 16), cellMine s h = true → h.from_.val ≠ ownIndex s → s.cmp.conflict = false →
      role s = rlMEMBER → lead.val = leadIndex s → timeLink s lead = some h.e.val →
        let l := heardLead u h at_ time256 edge num prio serial epoch hops lead
        exec (.timeCell h at_ time256 edge num prio serial (some lead) epoch hops) s
          = nextBy u (followLead l u ++ seqE (referenceEvent 4 at_ l.phase) (applyActs u (followLead l u)))
          ∧ l.phase = (at_ : Int) - (time256 / 256 + rf s (Reg.CMP_LINK_DELAY h.e) Fld.CMP_LINK_DELAY_NS : Nat))) ∧
  (∀ s : State, s.Inv → cmpOn s = true →
    (∀ (e : Fin 2) (lane : Fin 4), bitsOf (rf s (Reg.CMP_LINK_STATE e) Fld.CMP_LINK_STATE_LANES) lane lane = 1 →
      ∃ t, exec (.laneLoss e lane) s = .next t ∧ sameMemory s t
        ∧ rf t (Reg.CMP_LINK_STATE e) Fld.CMP_LINK_STATE_LANES = rf s (Reg.CMP_LINK_STATE e) Fld.CMP_LINK_STATE_LANES - 2 ^ lane.val
        ∧ (rf s (Reg.CMP_LINK_STATE e) Fld.CMP_LINK_STATE_STATE = 2 → rf s (Reg.CMP_LINK_STATE e) Fld.CMP_LINK_STATE_LANES = 2 ^ lane.val →
            rf t (Reg.CMP_LINK_STATE e) Fld.CMP_LINK_STATE_STATE = 0))
    ∧ (∀ (e : Fin 2) (lane : Fin 4), bitsOf (rf s (Reg.CMP_LINK_STATE e) Fld.CMP_LINK_STATE_LANES) lane lane = 0 →
      ∃ t, exec (.laneLock e lane) s = .next t ∧ sameMemory s t ∧ t.cmp.laneAt = mapPut zeroNat s.cmp.laneAt (4 * e + lane) (now s + 1)
        ∧ rf t (Reg.CMP_LINK_STATE e) Fld.CMP_LINK_STATE_STATE
          = if rf s (Reg.CMP_LINK_STATE e) Fld.CMP_LINK_STATE_STATE = 0 then 1 else rf s (Reg.CMP_LINK_STATE e) Fld.CMP_LINK_STATE_STATE)
    ∧ (∀ (e : Fin 2) (ea we : List (Fin 16)), ∃ t, exec (.linkDown (some e) ea we) s = .next t ∧ sameMemory s t
        ∧ t.cmp.east = (if e.val = 0 then [] else ea.map Fin.val) ∧ t.cmp.west = (if e.val = 1 then [] else we.map Fin.val)
        ∧ t.cmp.lanesChanged = true ∧ rf t (Reg.CMP_LINK_STATE e) Fld.CMP_LINK_STATE_STATE = 0)
    ∧ (∀ (e : Fin 2) (peer : Fin 16) (lanes : BitVec 4) (ea we : List (Fin 16)), ∃ t, exec (.linkUp (some e) peer lanes ea we) s = .next t ∧ sameMemory s t
        ∧ t.cmp.east = ea.map Fin.val ∧ t.cmp.west = we.map Fin.val ∧ rf t (Reg.CMP_LINK_STATE e) Fld.CMP_LINK_STATE_PEER = peer.val
        ∧ rf t (Reg.CMP_LINK_STATE e) Fld.CMP_LINK_STATE_LANES = lanes.toNat
        ∧ rf t (Reg.CMP_LINK_STATE e) Fld.CMP_LINK_STATE_STATE = if lanes = 0 then 1 else 2))

/-- Who leads: requests join those the lead decides over at commit close, or are answered at once where their epoch is stale; a decision, a
lead's company-wide fields and a census request reach a member for their edge; the lead keeps the reports; silence of the lead for LEAD_LOSS
curtains starts an election (R415, R417 to R420, R428). What T0 asks of the company: a role request goes to the lead and reads BUSY until it
is settled, a census is set for an edge at least two ahead and announced by the lead alone; and LEAD_LOST, once for each silence (R417,
R420, R428). (Readings and choices of the model: log entries 61, 62.) -/
def Obligations.CompanyRolesAndRequests : Prop :=
  (∀ (s : State) (h : CellHead), cellMine s h = true → h.from_.val ≠ ownIndex s → s.cmp.conflict = false →
    let fromLead := role s = rlMEMBER ∧ h.from_.val = leadIndex s
    let epoch := rf s Reg.CMP_EPOCH Fld.CMP_EPOCH_EPOCH
    (∀ (kind : Fin 3) (target : Fin 16) (prio serial : Nat), role s = rlLEAD → kind.val = 1 → exec (.controlCandidacy h kind target prio serial epoch) s
        = .next (runEffs s [fun _ => [.cmp (fun c => { c with asks := c.asks ++ [⟨h.from_, kind, target, prio, serial⟩] })],
          forwardCell h clCONTROL 4 0 [kind, target, prio, serial, epoch]]))
    ∧ (∀ (kind : Fin 3) (target : Fin 16) (prio serial e : Nat), role s = rlLEAD → kind.val ≠ 0 → e ≠ epoch → exec (.controlCandidacy h kind target prio serial e) s
        = .next (runEffs s [sendTo h.from_ clCONTROL 1 0 [ownIndex s, rf s Reg.CMP_EPOCH Fld.CMP_EPOCH_LEAD_PRIO, ownSerial s, h.from_, stSTALE_ROLE],
          forwardCell h clCONTROL 4 0 [kind, target, prio, serial, e]]))
    ∧ (∀ (target : Fin 16) (prio serial e : Nat), s.cmp.electing = true → formable s = false → exec (.controlCandidacy h 0 target prio serial e) s
        = .next (runEffs s [fun _ => [.cmp (fun c => { c with cands := c.cands.filter (fun k => k.dev != h.from_.val) ++ [⟨h.from_, prio, serial⟩] })],
          forwardCell h clCONTROL 0 0 [0, target, prio, serial, e]]))
    ∧ (fromLead → ∀ (w : Fin 16) (prio serial : Nat) (outs : List (Nat × Nat)), s.cmp.decision = none → exec (.controlLeadDecision h w prio serial outs) s
        = .next (runEffs s [fun _ => [.cmp (fun c => { c with decision := some ⟨w, prio, serial, outs⟩ })],
          forwardCell h clCONTROL 1 0 ([w.val, prio, serial] ++ outs.flatMap (fun o => [o.1, o.2]))]))
    ∧ (fromLead → ∀ fields : List (Nat × Word), exec (.controlFieldsAnnounce h fields) s = .next (runEffs s [
          fun _ => [.cur (fun c => { c with commits := c.commits ++ [⟨8, 0, (fields.filter (fun f => companyWide f.1)).map (fun f => ⟨f.1, 0xFFFFFFFF, f.2, 0, 0, 0⟩),
            now s, false, none, some ((rf s Reg.CUR_NUM Fld.CUR_NUM_NUM + 2) % 2 ^ 32), false⟩] })],
          forwardCell h clCONTROL 2 0 (fields.flatMap (fun f => [f.1, f.2.toNat]))]))
    ∧ (∀ num gen : Nat, role s = rlMEMBER →
        let ahead := (num + 2 ^ 32 - rf s Reg.CUR_NUM Fld.CUR_NUM_NUM) % 2 ^ 32
        2 ≤ ahead → ahead < 2 ^ 31 → exec (.controlCensusRequest h num gen none) s
          = .next (runEffs s [fun _ => [.cmp (fun c => { c with census := some (num, gen) })], forwardCell h clCONTROL 3 0 [num, gen]]))
    ∧ (∀ num : Nat, role s = rlLEAD → bitsOf (rf s Reg.CMP_CENSUS_STAT Fld.CMP_CENSUS_STAT_MASK) h.from_ h.from_ = 0 →
        let gen := rf s Reg.CMP_CENSUS_STAT Fld.CMP_CENSUS_STAT_GEN
        exec (.controlCensusRequest h num gen (some true)) s
          = .next (runEffs s [fun _ => [.inc Reg.CMP_CENSUS_STAT Fld.CMP_CENSUS_STAT_MASK (2 ^ h.from_.val)], forwardCell h clCONTROL 3 1 [num, gen, 1]]))) ∧
  (∀ (s : State) (a : Acc) (v : Word), actsFor a = 0 →
    let kind := getF v Fld.CMP_ROLE_REQ_KIND
    let target := getF v Fld.CMP_ROLE_REQ_TARGET
    let prio := getF v Fld.CMP_ROLE_REQ_PRIO
    let epoch := getF v Fld.CMP_ROLE_REQ_EPOCH
    let stat := fun (st : Nat) => Act.reg Reg.CMP_ROLE_STAT
      (putF (putF 0 Fld.CMP_ROLE_STAT_NUM (rf s Reg.CUR_NUM Fld.CUR_NUM_NUM)) Fld.CMP_ROLE_STAT_STATUS st)
    (reaches s a Reg.CMP_ROLE_REQ true →
      ((kind = 0 ∨ kind = 3) → exec (.cmpRoleReq a v) s = nextBy s (stat stBAD_ARG :: tenantFault s 0 stBAD_ARG Reg.CMP_ROLE_REQ))
      ∧ ((kind = 1 ∨ kind = 2) → role s = rlMEMBER → exec (.cmpRoleReq a v) s
          = nextBy s (stat stBUSY :: sendTo (leadIndex s) clCONTROL 4 0 [kind, target, prio, ownSerial s, epoch] s))
      ∧ ((kind = 1 ∨ kind = 2) → role s = rlLEAD → exec (.cmpRoleReq a v) s
          = .next (runEffs s [fun _ => [stat stBUSY], takeAsk ⟨ownIndex s, kind, target, prio, ownSerial s⟩ epoch]))
      ∧ ((kind = 1 ∨ kind = 2) → (role s = rlALONE ∨ role s = rlPENDING) → exec (.cmpRoleReq a v) s = nextBy s [stat stUNREACHABLE]))
    ∧ (reaches s a Reg.CMP_CENSUS true → getF v Fld.CMP_CENSUS_GO = 1 →
      let num := (rf s Reg.CUR_NUM Fld.CUR_NUM_NUM + 1 + max 2 (rf s Reg.CMP_CTRL Fld.CMP_CTRL_CENSUS_AHEAD)) % 2 ^ 32
      let gen := (rf s Reg.CMP_CENSUS_STAT Fld.CMP_CENSUS_STAT_GEN + 1) % 65536
      (role s = rlLEAD → exec (.cmpCensus a v) s = nextBy s (.reg Reg.CMP_CENSUS_STAT (putF 0 Fld.CMP_CENSUS_STAT_GEN gen)
          :: .cmp (fun c => { c with census := some (num, gen) }) :: broadcast clCONTROL 3 0 [num, gen] s))
      ∧ (role s ≠ rlLEAD → exec (.cmpCensus a v) s = nextBy s (tenantFault s 0 stBAD_ARG Reg.CMP_CENSUS)))
    ∧ (role s = rlMEMBER → leadLossCurtains s ≤ s.cmp.quiet → s.cmp.electing = false → exec .leadLost s = .next (runEffs s [
        fun s => .cmp (fun c => { c with electing := true, cands := [] }) :: cmpEvent s 6 ctlUnit (leadIndex s),
        fun s => if rf s Reg.CMP_CTRL Fld.CMP_CTRL_AUTO_LEAD = 1 ∧ 0 < ownPrio s then stand (ownPrio s) s else []])))

/-- Cells carry data: a shared block is sent as it becomes ready, or raw after it has waited 2 us; a SOURCE cell reaches the sources that receive the
share, a record the company's book on the lead in its order, bytes of a bulk transfer in sequence their window, acknowledged; a transfer is
BUSY from GO to its last acknowledgement, or UNREACHABLE after 100 ms (R412, R423, R424, R427, R429, R488).
(Readings and choices of the model: log entries 34, 61, 63, 64.) -/
def Obligations.CellsCarryData : Prop :=
  ∀ (s : State) (h : CellHead),
    (∀ (k : Fin 6) (bx by_ : Nat), blockShared s k bx by_ = true → firstBlock s k bx by_ = false →
      ((freeLane s).isSome = true → exec (.shareBlockReady k bx by_) s = nextBy s (sendBlock k bx by_ true s))
      ∧ (freeLane s = none → exec (.shareBlockReady k bx by_) s
        = nextBy s [.cmp (fun c => { c with shareWait := c.shareWait ++ [⟨k, bx, by_, now s⟩] })]))
    ∧ (∀ w ws, s.cmp.shareWait = w :: ws →
      let u := applyActs s [.clockTo (w.since + 2000)]
      exec .shareRawTimeout s = nextBy u (.cmp (fun c => { c with shareWait := c.shareWait.drop 1 })
        :: .inc Reg.PKR_RAW_SHARE Fld.PKR_RAW_SHARE_COUNT 1 :: sendBlock w.share w.bx w.by_ false u))
    ∧ (cellMine s h = true →
      (∀ share frame bx by_ fmt win packed last (bs : List Byte), bs.length ≤ 256 → exec (.sourceCell h share frame bx by_ fmt win packed last bs) s
          = .next (runEffs s ((receivers s h.from_ share).flatMap (fun x => recvCell x frame bx by_ fmt win packed last bs)
            ++ [forwardCell h clSOURCE ((if packed then 1 else 0) + (if last then 2 else 0))
              (share + 256 * (frame % 65536) + 2 ^ 24 * (by_ * blocksX fmt + bx))
              ([fmt.sampling, fmt.depth, fmt.range, fmt.tf, fmt.color, fmt.width, fmt.height, win.ns] ++ bs.map BitVec.toNat)])))
      ∧ (∀ stamp unit code kind level co block count tenants a, role s = rlLEAD → ∃ t,
          exec (.promptCell h stamp unit code kind level co block count tenants a) s = .next t ∧ sameMemory s t ∧ t.regs = s.regs
          ∧ t.book = { s.book with companyRing := bookInsert ⟨stamp, unit % 4096 + 4096 * h.from_.val, code, kind, level, co, block, count, tenants, a⟩ s.book.companyRing })
      ∧ (∀ (dst len off : Nat) (bs : List Byte), bs.length ≤ 256 →
          let q := rxOf s h.from_ dst len off
          q.bad = false → q.done_ = off → off + bs.length ≤ len → exec (.bulkCell h dst len off bs) s = .next (runEffs s [
            fun s => dramStore s (dst + off) bs ++ [.cmp (fun c => { c with
                rxBulk := c.rxBulk.filter (fun p => p.from_ != h.from_.val) ++ [{ q with done_ := off + bs.length }] })]
              ++ sendTo h.from_ clBULK 1 0 [h.seq, stOK] s,
            forwardCell h clBULK 0 (dst + off) ([dst, len, off] ++ bs.map BitVec.toNat)]))
      ∧ (∀ x c, s.cmp.xfer = some x → x.dest = h.from_.val → x.flight = [c] → xferLen s ≤ x.sent →
          exec (.bulkAck h c.1 stOK) s = .next (runEffs s [xferDone stOK, forwardCell h clBULK 1 0 [c.1, stOK]])))
    ∧ (∀ x t, s.cmp.xfer = some x → x.deadAt = some t →
      let u := applyActs s [.clockTo (t + 100000000)]
      exec .xferUnreachable s = nextBy u (xferDone stUNREACHABLE u))
    ∧ (∀ (a : Acc) (v : Word), reaches s a Reg.XFER_CTRL true → actsFor a = 0 → getF v Fld.XFER_CTRL_GO = 1 →
      (rf s Reg.XFER_STAT Fld.XFER_STAT_STATE = 1 → exec (.cmpXferGo a v) s = nextBy s (tenantFault s 0 stBUSY Reg.XFER_CTRL))
      ∧ (rf s Reg.XFER_STAT Fld.XFER_STAT_STATE ≠ 1 → 0 < xferLen s → exec (.cmpXferGo a v) s = .next (runEffs s [
          fun s => [.reg Reg.XFER_STAT (putF (putF 0 Fld.XFER_STAT_STATE 1) Fld.XFER_STAT_STATUS stBUSY), .cmp (fun c => { c with
            xfer := some ⟨getF v Fld.XFER_CTRL_DEST, 0, [], if (route s (getF v Fld.XFER_CTRL_DEST)).isSome then none else some (now s)⟩ })],
          fun s => if xferLen s = 0 then xferDone stOK s else [], bulkSend bulkWindow])))
/-! ## Banks, atomics and DRAM -/

/-- Banks: whoever may hands one over to any owner allowed for it, which increments its epoch where the owner changes; a power target is set,
and the bank is CHANGING until it arrives; contents are lost in OFF alone; a scrub read corrects one bit and counts an uncorrectable word
(R438 to R440, R442, R447, R448). A 32-bit atomic on the SRAM bank window, aligned, by a tenant with SRAM_WIN on a bank it owns, gives the
old word and stores the sum or the new word there, and no other byte; a misaligned one or one of another width is refused BAD_ARG (R446).
(Readings and choices of the model: log entries 25, 65.) -/
def Obligations.BanksAndAtomicsAct : Prop :=
  (∀ (s : State) (a : Acc) (n : Fin 512) (v : Word), s.Inv →
    (reaches s a (Reg.BANK_OWNER n) true → mayBank s (actsFor a) n = true →
      let o := getF v Fld.BANK_OWNER_OWNER
      (bankAllows n o = true → ∃ t, exec (.bankOwnerWrite a n v) s = .next t ∧ bankOwner t n = o
        ∧ rf t (Reg.BANK_OWNER n) Fld.BANK_OWNER_EPOCH = (rf s (Reg.BANK_OWNER n) Fld.BANK_OWNER_EPOCH + (if o = bankOwner s n then 0 else 1)) % 65536
        ∧ (∀ r, r ≠ Reg.BANK_OWNER n → r ≠ Reg.PB_UNIT_LOST → rd t r = rd s r) ∧ sameMemory s t)
      ∧ (bankAllows n o = false → exec (.bankOwnerWrite a n v) s = nextBy s (tenantFault s (actsFor a) stBAD_ARG (Reg.BANK_OWNER n))))
    ∧ (reaches s a (Reg.BANK_PWR n) true → mayBank s (actsFor a) n = true → getF v Fld.BANK_PWR_PWR ≠ 3 →
      ∃ t, exec (.bankPwrWrite a n v) s = .next t ∧ bankTarget t n = getF v Fld.BANK_PWR_PWR
        ∧ bankState t n = (if bankOut s n = true ∨ bankState s n = getF v Fld.BANK_PWR_PWR then bankState s n else 3)
        ∧ (∀ r, r ≠ Reg.BANK_PWR n → rd t r = rd s r) ∧ sameMemory s t)
    ∧ (bankState s n = 3 → ∃ t, exec (.bankPowerMoveDone n) s = .next t ∧ bankState t n = bankTarget s n
        ∧ (∀ r, r ≠ Reg.BANK_PWR n → rd t r = rd s r)
        ∧ (∀ k, sramByte t k = if bankTarget s n = 0 ∧ k / 0x40000 = n.val then 0 else sramByte s k))
    ∧ (∀ word : Fin 32768, rf s Reg.MEM_CTRL Fld.MEM_CTRL_SCRUB = 1 → bankState s n = 2 → mapWf zeroNat s.mem.errs = true →
      wordErr s (0x40000 * n.val + 8 * word.val) = 0 →
        exec (.bankScrubRead n word 0) s = .next s
        ∧ (∃ t, exec (.bankScrubRead n word 1) s = .next t ∧ wordErr t (0x40000 * n.val + 8 * word.val) = 0 ∧ sameMemory s t
          ∧ rf t Reg.MEM_ECC_CORR Fld.MEM_ECC_CORR_COUNT = (rf s Reg.MEM_ECC_CORR Fld.MEM_ECC_CORR_COUNT + 1) % 2 ^ 32)
        ∧ (∃ t, exec (.bankScrubRead n word 2) s = .next t ∧ wordErr t (0x40000 * n.val + 8 * word.val) = 2 ∧ sameMemory s t
          ∧ rf t Reg.MEM_ECC_UE Fld.MEM_ECC_UE_COUNT = (rf s Reg.MEM_ECC_UE Fld.MEM_ECC_UE_COUNT + 1) % 2 ^ 32))) ∧
  (∀ (s : State) (a : Acc) (off bytes : Nat) (v : Word), s.Inv → off < 0x8000000 → reaches s a (0x08000000 + off) true →
    hasPriv s (actsFor a) pvSRAM_WIN = true →
      (off % 4 = 0 → bytes = 4 → windowCause s (actsFor a) off = none → wordErr s off ≤ 1 →
        let old := leValue (sramRead s off 4)
        let does := fun (c : Instr) (new : Nat) => ∃ t, exec c s = .next t ∧ t.out.readData = BitVec.ofNat 32 old
          ∧ leValue (sramRead t off 4) = new % 2 ^ 32 ∧ (∀ k, k < off ∨ off + 4 ≤ k → sramByte t k = sramByte s k)
          ∧ (∀ k, dramByte t k = dramByte s k) ∧ (∀ k, hostByte t k = hostByte s k)
          ∧ (∀ r, r ≠ Reg.MEM_ECC_CORR → r ≠ Reg.BANK_PWR (off / 0x40000) → rd t r = rd s r)
        does (.atomicFetchadd a (0x08000000 + off) bytes v) (old + v.toNat) ∧ does (.atomicSwap a (0x08000000 + off) bytes v) v.toNat)
      ∧ ((off % 4 ≠ 0 ∨ bytes ≠ 4) →
        let refused := nextBy s (tenantFault s (actsFor a) stBAD_ARG (0x08000000 + off) ++ [.out (fun o => { o with readData := 0 })])
        exec (.atomicFetchadd a (0x08000000 + off) bytes v) s = refused ∧ exec (.atomicSwap a (0x08000000 + off) bytes v) s = refused))

/-- The DRAM controller: a mode register written is read back, a comparing primitive reports its mask, each ends in DONE; CH_APPLY leaves the
shadow delays pending until the refresh, when they are taken into use; a faulty channel takes its pair out of service until DRAM is laid anew
(R460 to R462, R464, R466). (Readings and choices of the model: log entry 66.) -/
def Obligations.DramIsTrainedAndRelaid : Prop :=
  ∀ (s : State) (c : Fin 8), s.Inv →
    (trainOk s = true →
      (∀ mr data : Byte, exec (.mrw c mr data) s
        = nextBy s [.ddr (fun d => { d with modeRegs := mapPut noByte d.modeRegs (256 * c.val + mr.toNat) (some data) }),
            .fld Reg.DDR_TRN_CTRL Fld.DDR_TRN_CTRL_DONE 1])
      ∧ (∀ mr b : Byte, mapGet noByte s.ddr.modeRegs (256 * c.val + mr.toNat) = some b → ∃ t, exec (.mrr c mr) s = .next t
        ∧ rf t Reg.DDR_TRN_ARG Fld.DDR_TRN_ARG_RESULT = b.toNat ∧ rf t Reg.DDR_TRN_CTRL Fld.DDR_TRN_CTRL_DONE = 1
        ∧ (∀ r, r ≠ Reg.DDR_TRN_ARG → r ≠ Reg.DDR_TRN_CTRL → rd t r = rd s r) ∧ sameMemory s t)
      ∧ (∀ mask : Nat, mask < 2 ^ 36 →
        let reports := fun (o : Instr) => ∃ t, exec o s = .next t ∧ rd t Reg.DDR_TRN_ERR_LO = BitVec.ofNat 32 mask
          ∧ rf t Reg.DDR_TRN_ERR_HI Fld.DDR_TRN_ERR_HI_MASK = mask / 2 ^ 32 ∧ rf t Reg.DDR_TRN_CTRL Fld.DDR_TRN_CTRL_DONE = 1 ∧ sameMemory s t
        reports (.wffRff mask) ∧ reports (.rdc mask) ∧ reports (.loopback mask)))
    ∧ (∀ (a : Acc) (v : Word), reaches s a (Reg.CH_APPLY c) true → actsFor a = 0 → getF v Fld.CH_APPLY_GO = 1 →
      ∃ t, exec (.chApply a c v) s = .next t ∧ rf t (Reg.CH_STAT c) Fld.CH_STAT_PENDING = 1 ∧ t.ddr = s.ddr
        ∧ (∀ r, r ≠ Reg.CH_STAT c → rd t r = rd s r))
    ∧ (rf s (Reg.CH_STAT c) Fld.CH_STAT_PENDING = 1 → exec (.delayApplied c) s
      = nextBy s ([.fld (Reg.CH_STAT c) Fld.CH_STAT_PENDING 0,
          .ddr (fun d => { d with applied := (delayRegs c).foldl (fun m a => mapPut zeroWord m a (rd s a)) d.applied })]
        ++ eventNow s 11 1 allTenants (0xB00 + c.val) (arg [(16, c.val)])))
    ∧ (∀ mr4 : Byte, rf s (Reg.CH_STAT c) Fld.CH_STAT_STATE = 1 →
      ∃ t, exec (.mr4Poll c mr4) s = .next t ∧ rf t (Reg.CH_STAT c) Fld.CH_STAT_MR4 = mr4.toNat ∧ ∀ r, r ≠ Reg.CH_STAT c → rd t r = rd s r)
    ∧ (∀ (i r : Nat) (d : Int), (delayRegs c)[i]? = some r → ∃ t, exec (.delayCheck c [(i, d)]) s = .next t
        ∧ rf t r Fld.DLY_CA_DELAY = (clampInt (rf s r Fld.DLY_CA_DELAY + clampInt d (-2) 2) 0 255).toNat
        ∧ rf t (Reg.CH_STAT c) Fld.CH_STAT_PENDING = 1 ∧ ∀ q, q ≠ r → q ≠ Reg.CH_STAT c → rd t q = rd s q)
    ∧ ((channels s).contains c.val = true → ∃ t, exec (.channelFault c) s = .next t ∧ t.ddr.lost = true ∧ t.sys.degraded = true
        ∧ rf t (Reg.CH_STAT (2 * (c.val / 2))) Fld.CH_STAT_STATE = 3 ∧ rf t (Reg.CH_STAT (2 * (c.val / 2) + 1)) Fld.CH_STAT_STATE = 3
        ∧ channels t = (channels s).filter (fun x => x / 2 != c.val / 2) ∧ sameMemory s t)
    ∧ (s.ddr.lost = true → s.pnx.running = none → ∃ t, exec .dramRelaid s = .next t ∧ t.ddr.lost = false ∧ t.ddr.bad = []
        ∧ rf t Reg.DDR_CAP Fld.DDR_CAP_MIB = usableMiB (rd s Reg.DDR_CFG) (channels s).length
        ∧ (∀ k, k < 2 ^ 36 → dramByte t k = 0) ∧ (∀ k, sramByte t k = sramByte s k))

/-! ## The packer -/

/-- Code lengths have at most 15 bits, and every block the encoder writes decodes to its input: raw bytes after no history, or after the history of
a stream context for a block with CONT (R480). -/
def Obligations.EveryBlockDecodesToItsInput : Prop :=
  (∀ counts, ∀ l ∈ packLens counts, l ≤ 15)
  ∧ ∀ (raw hist : List Byte) (stream cont last : Bool) (ctx : Option (List Byte)), raw.length ≤ 65536 → hist.length ≤ 16384 →
    (stream = false → cont = false ∧ last = false) → (cont = false → hist = []) → (cont = true → ctx = some hist) →
      let flags := (if stream then 4 else 0) + (if cont then 8 else 0) + (if last then 16 else 0)
      decodeBlock (encodeBlock flags hist raw) raw.length ctx = .ok raw

/-- A ring job that a lane in service starts and that its input, its bounds and its result let complete: its output lies at its destination, DONE
with OK and the count of bytes at its descriptor, the stream context is taken on, and no other byte differs; HEAD is advanced by a tenant with
PACKER, and a faulty lane is mapped out (R481, R483 to R485, R489, R490, R493). (Readings and choices of the model: log entry 67.) -/
def Obligations.PackerRunsJobs : Prop :=
  ∀ (s : State) (t lane : Fin 8), s.Inv →
    (∀ (k : Fin 4096) (out : List Byte) (c : StreamCtx),
      let d := ringBase s t + 32 * k.val
      let src := jobSrc s t k
      let dst := jobDst s t k
      jobReady s t k = true → bitsOf (rf s Reg.PKR_STATUS Fld.PKR_STATUS_OUT) lane lane = 0 → s.sys.supplyLoss = false → jobBad s t k = false →
      jobSrcBank s t k = false → jobDstBank s t k = false → (jobOp s t k ≠ 2 → dramUE s src (jobLen s t k) = false) →
      jobResult s t k (if jobOp s t k = 2 then [] else dramBytes s src (jobLen s t k)) = (stOK, out, c) →
      dst + out.length ≤ dramCap s → d + 32 ≤ dramCap s → (dst + out.length ≤ d ∨ d + 32 ≤ dst) →
        let runs := fun (i : Instr) => ∃ u, exec i s = .next u ∧ mapGets zeroByte u.dram dst out.length = out
          ∧ leValue (mapGets zeroByte u.dram d 4) = jobWord s t k 0 % 512 + 512 + 65536 * stOK
          ∧ leValue (mapGets zeroByte u.dram (d + 28) 4) = out.length % 2 ^ 32
          ∧ (∀ x, (x < dst ∨ dst + out.length ≤ x) → (x < d ∨ d + 4 ≤ x) → (x < d + 28 ∨ d + 32 ≤ x) → dramByte u x = dramByte s x)
          ∧ (∀ x, sramByte u x = sramByte s x)
        (jobOp s t k = 0 → runs (.encode lane t k)) ∧ (jobOp s t k = 1 → runs (.decode lane t k)) ∧ (jobOp s t k = 2 → runs (.flush lane t k)))
    ∧ (∀ (a : Acc) (v : Word), reaches s a (Reg.PKR_HEAD t) true → (actsFor a = 0 ∨ actsFor a = t.val) → hasPriv s (actsFor a) 1 = true →
      ∃ u, exec (.pkrHeadWrite a t v) s = .next u ∧ ringHead u t = getF v Fld.PKR_HEAD_INDEX ∧ ∀ r, r ≠ Reg.PKR_HEAD t → rd u r = rd s r)
    ∧ (bitsOf (rf s Reg.PKR_STATUS Fld.PKR_STATUS_OUT) lane lane = 0 → exec (.packerFault lane) s
      = nextBy s (.fld Reg.PKR_STATUS Fld.PKR_STATUS_OUT (rf s Reg.PKR_STATUS Fld.PKR_STATUS_OUT + 2 ^ lane.val)
        :: eventLv s 12 2 4 allTenants (0xB10 + lane.val) (arg [(16, lane.val)])))

/-! ## The Caddy -/

/-- An operation of either port that passes its checks starts, a fresh load test being there, and one of the tenant port that fails a check ends
with its status; at its end a PROGRAM has written its bytes within their page and an ERASE its sector, and nothing else of the array (R501,
R514, R515, R518). The Caddy's energy and upkeep: a load test measures the hold-up store, the margin scan reads codeword after codeword and
queues pages for refresh, protection once locked stays, and reads wait for VDD_HOLD (R507, R509 to R511, R513, R517, R521).
(Readings and choices of the model: log entry 68.) -/
def Obligations.CaddyRunsAndIsKept : Prop :=
  (∀ (s : State) (code : Fin 4096), s.Inv →
    let starts := fun (i : Instr) (o : CadOp) => ∃ t, exec i s = .next t ∧ t.cad.run = some ⟨o, now s, false⟩
      ∧ rf t Reg.CAD_STATUS Fld.CAD_STATUS_BUSY = 1 ∧ rf t Reg.CAD_STATUS Fld.CAD_STATUS_BANK = cadBank o.addr % 2 ∧ sameMemory s t
    (testFresh s = true → s.cad.run = none →
      (∀ o : CadOp, s.cad.tenant = some o → (s.cad.house = [] ∨ rf s Reg.CAD_STATUS Fld.CAD_STATUS_HOUSE_WAIT = 1) →
        let ends := fun (i : Instr) (st : Nat) => ∃ t, exec i s = .next t ∧ t.cad.run = none ∧ t.cad.tenant = none
          ∧ rf t Reg.CAD_STATUS Fld.CAD_STATUS_STATUS = st ∧ sameMemory s t
        (o.op = 1 → o.house = false → opCheck s o none code = stOK → starts (.caddyProgram false none none code) o)
        ∧ (o.op = 2 → o.house = false → opCheck s o none code = stOK → starts (.caddyErase false none none code) o)
        ∧ (o.op = 1 → opCheck s o none code ≠ stOK → ends (.caddyProgram false none none code) (opCheck s o none code))
        ∧ (o.op = 2 → opCheck s o none code ≠ stOK → ends (.caddyErase false none none code) (opCheck s o none code)))
      ∧ (∀ (addr : Nat) (data : List Byte) (fetch : Option (Fin 2)), s.cad.house = [] →
        (opCheck s ⟨true, 1, addr, data, .plain, now s⟩ (fetch.map Fin.val) code = stOK →
          starts (.caddyProgram true (some (addr, data)) fetch code) ⟨true, 1, addr, data, .plain, now s⟩)
        ∧ (opCheck s ⟨true, 2, addr, [], .plain, now s⟩ (fetch.map Fin.val) code = stOK →
          starts (.caddyErase true (some addr) fetch code) ⟨true, 2, addr, [], .plain, now s⟩)))
    ∧ (∀ (o : CadOp) (rest : List CadOp), s.cad.house = o :: rest → s.cad.run = none → o.op ≠ 3 → rf s Reg.CAD_STATUS Fld.CAD_STATUS_HOUSE_WAIT = 1 →
      opCheck s o none code = stOK → ∃ t, exec (.caddyEnergyRecheck code) s = .next t ∧ now t = max (now s) (s.cad.checkAt + 1000000)
        ∧ (o.house = true → t.cad.run = some ⟨o, now t, false⟩ ∧ t.cad.house = rest ∧ rf t Reg.CAD_STATUS Fld.CAD_STATUS_HOUSE_WAIT = 0))
    ∧ (∀ o at_, s.cad.run = some ⟨o, at_, false⟩ → s.cad.bad = [] → ∃ t, exec .caddyOpComplete s = .next t ∧ t.cad.run = none
      ∧ rf t Reg.CAD_STATUS Fld.CAD_STATUS_BUSY = 0 ∧ now t = max (now s) (at_ + opTime o)
      ∧ (o.op ≠ 3 → o.house = false → t.cad.tenant = none ∧ rf t Reg.CAD_STATUS Fld.CAD_STATUS_STATUS = stOK)
      ∧ (∀ x, dramByte t x = dramByte s x) ∧ (∀ x, sramByte t x = sramByte s x)
      ∧ (o.op = 1 → o.data.length ≤ 256 →
        (∀ i, i < o.data.length → caddyByte t (o.addr / 256 * 256 + (o.addr + i) % 256) = o.data.getD i 0)
        ∧ (∀ x, (∀ i, i < o.data.length → x ≠ o.addr / 256 * 256 + (o.addr + i) % 256) → caddyByte t x = caddyByte s x))
      ∧ (o.op = 2 → ∀ x, caddyByte t x = if x / 4096 = o.addr / 4096 then 0xFF else caddyByte s x)
      ∧ (o.op = 3 → ∀ x, caddyByte t x = caddyByte s x))) ∧
  (∀ (s : State), s.Inv →
    (∀ dTest dTrend : Int, s.sys.vddAo = true → ∃ t, exec (.holdupLoadTest dTest dTrend) s = .next t
      ∧ t.cad.testAt = some (now s + 500000) ∧ now t = now s + 500000 ∧ rf t Reg.CAD_CMEAS Fld.CAD_CMEAS_C_UF
        = (if dTest - dTrend < 2 then 0xFFFF else min 0xFFFE (divRound 20000 (3 * (dTest - dTrend))).toNat)
      ∧ (∀ r, r ≠ Reg.CAD_CMEAS → rd t r = rd s r))
    ∧ (rf s Reg.CAD_MARGIN Fld.CAD_MARGIN_EN = 1 → s.cad.bad.contains s.cad.marginAt = false → ∀ (found : Fin 4) (near : Bool),
      ∃ t, exec (.caddyMarginRead found near) s = .next t ∧ t.cad.marginAt = (s.cad.marginAt + 1) % 262144
        ∧ t.cad.marginWhen = now t ∧ now t = max (now s) (s.cad.marginWhen + 1000 * rf s Reg.CAD_MARGIN Fld.CAD_MARGIN_INTERVAL)
        ∧ (found = 0 → near = false → t.cad.refresh = s.cad.refresh ∧ t.regs = s.regs)
        ∧ (found = 0 → near = true → s.cad.house = [] → s.cad.marginAt / 16 ∈ t.cad.refresh ∧ t.regs = s.regs)
        ∧ ((found = 1 ∨ found = 2) → s.cad.house = [] → s.cad.marginAt / 16 ∈ t.cad.refresh
          ∧ rf t Reg.CAD_CORR_CNT Fld.CAD_CORR_CNT_COUNT = (rf s Reg.CAD_CORR_CNT Fld.CAD_CORR_CNT_COUNT + 1) % 2 ^ 32)
        ∧ (found = 3 → s.cad.marginAt ∈ t.cad.bad ∧ t.cad.refresh = s.cad.refresh
          ∧ rf t Reg.CAD_UE_CNT Fld.CAD_UE_CNT_COUNT = (rf s Reg.CAD_UE_CNT Fld.CAD_UE_CNT_COUNT + 1) % 2 ^ 32))
    ∧ (∀ (code : Fin 4096) p rest, s.cad.refresh = p :: rest → s.cad.run = none → s.cad.house = [] → s.cad.tenant = none → testFresh s = true →
      (∀ w ∈ s.cad.bad, w / 16 ≠ p) → opCheck s ⟨true, 3, 256 * p, [], .plain, now s⟩ none code = stOK →
        ∃ t, exec (.pageRefresh code) s = .next t ∧ t.cad.run = some ⟨⟨true, 3, 256 * p, [], .plain, now s⟩, now s, false⟩
          ∧ t.cad.refresh = rest ∧ sameMemory s t)
    ∧ (∀ (a : Acc) (v : Word), reaches s a Reg.CAD_PROTECT true → actsFor a = 0 →
      (rf s Reg.CAD_PROTECT Fld.CAD_PROTECT_LOCK = 0 → ∃ t, exec (.cadProtectLock a v) s = .next t
        ∧ rf t Reg.CAD_PROTECT Fld.CAD_PROTECT_PROT = getF v Fld.CAD_PROTECT_PROT
        ∧ rf t Reg.CAD_PROTECT Fld.CAD_PROTECT_LOCK = getF v Fld.CAD_PROTECT_LOCK ∧ ∀ r, r ≠ Reg.CAD_PROTECT → rd t r = rd s r)
      ∧ (rf s Reg.CAD_PROTECT Fld.CAD_PROTECT_LOCK = 1 →
        exec (.cadProtectLock a v) s = nextBy s (tenantFault s 0 stPROTECTED Reg.CAD_PROTECT)))
    ∧ (s.sys.vddAo = true → s.sys.holdReady = false → s.cad.waits = [] → ∃ t, exec .vddHoldGood s = .next t ∧ t.sys.vddHold = true
      ∧ t.sys.holdReady = true ∧ now t = now s + 20000 ∧ t.regs = s.regs ∧ sameMemory s t)
    ∧ (∃ t, exec .vddHoldLoss s = .next t ∧ t.sys.vddHold = false ∧ t.sys.holdReady = false ∧ t.regs = s.regs ∧ sameMemory s t
      ∧ t.cad.run = s.cad.run.map (fun r => { r with spoiled := true })))

/-! ## The Pronex image and flash -/

/-- Image commands of T0, none running: one whose phase A fails ends FAILED with its status and section and leaves the running image and memory
as they were; VERIFY that passes ends OK; a LOAD that passes waits for the coming interval and edge under curtains; house firmware then
carries out phase B, and in BOOT tries the directory; LIVE writes its memory and takes its registers and its first round as one commit, and
further rounds follow (R540, R543, R544, R547 to R549, R552). A key slot is revoked for good; flash commands move data between DRAM and
flash, clear bits, or erase a sector or a block, and touch nothing else of either (R532, R538, R553, R555).
(Readings and choices of the model: log entries 36, 37, 69, 70, 71.) -/
def Obligations.ImagesFlashAndKeysAct : Prop :=
  (∀ (s : State) (a : Acc) (v : Word) (i : ImgIn), s.Inv →
    let entry := getF v Fld.PNX_CMD_ENTRY
    let given := getF v Fld.PNX_CMD_SRC = 1 ∨ entry ≠ 15
    let idle := pnxBusy s = false ∧ mode s ≠ mBOOT ∧ mode s ≠ mLOAD
    let fails := fun (c : Instr) (op st sec : Nat) => ∃ t, exec c s = .next t ∧ t.pnx = s.pnx ∧ sameMemory s t ∧ mode t = mode s
      ∧ rf t Reg.PNX_STATUS Fld.PNX_STATUS_STATE = 4 ∧ rf t Reg.PNX_STATUS Fld.PNX_STATUS_OP = op
      ∧ rf t Reg.PNX_STATUS Fld.PNX_STATUS_STATUS = st % 65536 ∧ rf t Reg.PNX_STATUS Fld.PNX_STATUS_SECTION = sec % 256
    (reaches s a Reg.PNX_CMD true → actsFor a = 0 → getF v Fld.PNX_CMD_GO = 1 → given → idle →
      imgIn s (getF v Fld.PNX_CMD_SRC == 1) entry = some i → (i.len.isNone = true → dramUE s i.range.1 i.range.2 = false) →
        (match phaseA s i false with
        | .error q => q.1 ≠ stOK →
          (getF v Fld.PNX_CMD_OP = 3 → fails (.verify a v) 3 q.1 q.2)
          ∧ (getF v Fld.PNX_CMD_OP = 1 → (mode s = mRECOVERY ∨ curtainMode (mode s) = true) → fails (.load (some a) v) 1 q.1 q.2)
        | .ok (m, _, _) =>
          (getF v Fld.PNX_CMD_OP = 3 → ∃ t, exec (.verify a v) s = .next t ∧ t.pnx = s.pnx ∧ mode t = mode s ∧ rf t Reg.PNX_STATUS Fld.PNX_STATUS_STATE = 0
            ∧ rf t Reg.PNX_STATUS Fld.PNX_STATUS_STATUS = stOK ∧ (∀ k, flashByte t k = flashByte s k) ∧ (∀ k, sramByte t k = sramByte s k))
          ∧ (getF v Fld.PNX_CMD_OP = 1 → (mode s = mRECOVERY ∨ curtainMode (mode s) = true) → s.cur.running = true → ∃ t, exec (.load (some a) v) s = .next t
            ∧ t.pnx.staged = some m ∧ t.pnx.running = s.pnx.running ∧ mode t = mode s ∧ t.cur = s.cur
            ∧ rf t Reg.PNX_STATUS Fld.PNX_STATUS_STATE = 2 ∧ rf t Reg.PNX_STATUS Fld.PNX_STATUS_STATUS = stBUSY))
        ∧ (match phaseA s i true with
        | .error q => q.1 ≠ stOK → getF v Fld.PNX_CMD_OP = 2 → fails (.live a v) 2 q.1 q.2
        | .ok (m, new, bs) => extFault s new = none → getF v Fld.PNX_CMD_OP = 2 →
          let prog := new.filter (fun x => x.ty == tyENG_PROG)
          let ps := if prog.isEmpty then [] else roundPairs s
          let fs := liveFields s new ++ roundFields ps
          exec (.live a v) s = nextBy s (seqE [
            fun s => stageBytes s bs ++ [pnxState 2 2 0 stBUSY, .pnx (fun p => { p with live := some m, fresh := [], rewrite := [] })],
            fun s => seqE (((imgRecs new).filter (fun | .mem .. => true | .ext .. => true | _ => false)).map applyRec) s,
            fun s => if prog.isEmpty then [] else roundLoad s prog ps,
            fun s => [.cur (fun c => { c with commits := c.commits
              ++ [⟨9, 0, fs, now s, s.cur.running && s.cur.closed, none, none, false⟩] })]] s)))
    ∧ (mode s = mBOOT → s.sys.spine = true →
      exec (.load none v) s = match bootImage s with
        | none => nextBy s (setMode s mRECOVERY)
        | some (m, bs) => nextBy s (loadPassed m bs s))
    ∧ (∀ m, mode s = mLOAD → s.pnx.staged = some m →
      let keep := unchangedTiles s.pnx.running m
      let reset := imgReg m.sects Reg.DDR_CFG != rd s Reg.DDR_CFG
      (∀ q, extFault s m.sects = some q → exec (.load none v) s = nextBy s (loadFails q.1 q.2 m.id s))
      ∧ (extFault s m.sects = none → (reset = true ∨ dramUE s (stageArea s).1 (stageArea s).2 = false ∨ (stageArea s).2 = 0) →
        exec (.load none v) s = nextBy s (seqE [
          fun _ => if reset then [.dramDrop 0 (2 ^ 36), .ddr (fun _ => ddrInit)] else [], resetUnits keep, writeImage m,
          fun s => [.fld Reg.DDR_CAP Fld.DDR_CAP_MIB (usableMiB (rd s Reg.DDR_CFG) (channels s).length)],
          fun s => seqE ((imgRecs m.sects).map applyRec) s, imageStarts m keep s.cur.refSrc, loadDone m reset] s)))
    ∧ (∀ p ps, s.pnx.live.isSome = true → s.pnx.roundOut = false → rf s Reg.PNX_STATUS Fld.PNX_STATUS_STATE = 3 →
      (liveNew s).filter (fun x => x.ty == tyENG_PROG) ≠ [] → roundPairs s = p :: ps → ∃ t c, exec .liveRound s = .next t
        ∧ t.pnx.roundOut = true ∧ t.pnx.rewrite = (p :: ps).map (·.2) ∧ t.cur.commits = s.cur.commits ++ [c] ∧ c.who = 9 ∧ c.fields = roundFields (p :: ps))) ∧
  (∀ (s : State) (a : Acc) (v : Word), s.Inv →
    (reaches s a Reg.PNX_REVOKE true → actsFor a = 0 → getF v Fld.PNX_REVOKE_GO = 1 → getF v Fld.PNX_REVOKE_CONFIRM = 0xA5 →
      (s.pnx.running.map (·.slot)) ≠ some (getF v Fld.PNX_REVOKE_SLOT) → ∃ t, exec (.pnxRevoke a v) s = .next t ∧ t.regs = s.regs
        ∧ (∀ n, n < 4 → bit t.fuses.keyRevoked n = (bit s.fuses.keyRevoked n || n == getF v Fld.PNX_REVOKE_SLOT)) ∧ sameMemory s t)
    ∧ (reaches s a Reg.PNX_FL_CMD true → actsFor a = 0 → getF v Fld.PNX_FL_CMD_GO = 1 → pnxBusy s = false → mode s ≠ mBOOT → mode s ≠ mLOAD →
      let x := rf s Reg.PNX_FL_ADDR Fld.PNX_FL_ADDR_ADDR
      let d := addr36 s Reg.PNX_FL_DRAM_LO Reg.PNX_FL_DRAM_HI
      let n := 256 * (getF v Fld.PNX_FL_CMD_LEN + 1)
      let ok := fun (t : State) => rf t Reg.PNX_FL_STAT Fld.PNX_FL_STAT_STATE = 2 ∧ rf t Reg.PNX_FL_STAT Fld.PNX_FL_STAT_STATUS = stOK
        ∧ (∀ k, sramByte t k = sramByte s k) ∧ (∀ k, caddyByte t k = caddyByte s k)
      let erased := fun (c : Instr) (size : Nat) => ∃ t, exec c s = .next t ∧ ok t ∧ (∀ k, dramByte t k = dramByte s k)
        ∧ ∀ k, flashByte t k = if x ≤ k ∧ k < x + size then 0xFF else flashByte s k
      (getF v Fld.PNX_FL_CMD_OP = 1 → x % 256 = 0 → x + n ≤ 2 ^ 31 → d + n ≤ dramCap s → ∃ t, exec (.flashRead a v) s = .next t ∧ ok t
        ∧ (∀ k, flashByte t k = flashByte s k) ∧ (∀ k, dramByte t k = if d ≤ k ∧ k < d + n then flashByte s (x + (k - d)) else dramByte s k))
      ∧ (getF v Fld.PNX_FL_CMD_OP = 2 → x % 256 = 0 → x + n ≤ 2 ^ 31 → dramUE s d n = false → ∃ t, exec (.flashProgram a v) s = .next t ∧ ok t
        ∧ (∀ k, dramByte t k = dramByte s k)
        ∧ (∀ k, flashByte t k = if x ≤ k ∧ k < x + n then flashByte s k &&& dramByte s (d + (k - x)) else flashByte s k))
      ∧ (getF v Fld.PNX_FL_CMD_OP = 3 → x % 4096 = 0 → x + 4096 ≤ 2 ^ 31 → erased (.flashErase4k a v) 4096)
      ∧ (getF v Fld.PNX_FL_CMD_OP = 4 → x % 65536 = 0 → x + 65536 ≤ 2 ^ 31 → erased (.flashErase64k a v) 65536)))

/-! ## Cues and completions -/

/-- The front cue of a tenant's queue leaves it and has its opcode's effect, then completes: registers written in order, a register read, a commit, a
handover with the new epoch, a driver transaction in its port's queue, the show clock loaded, a census asked for, a fence, a tenant reset, a
MARK record, a staging set discarded; a cue whose EPOCH is not the thing's completes STALE_ROLE with no effect (R571, R574, R576).
(Readings and choices of the model: log entries 12, 49.) -/
def Obligations.CuesAct : Prop :=
  ∀ (s : State) (t : Fin 8) (c : Cue) (rest : List Cue), s.Inv → (ten s t).ready = c :: rest → spineUp s = true → mode s ≠ mHOLD →
    let u := applyAct s (.ten t (fun q => { q with ready := q.ready.drop 1 }))
    let r := cueRefOf c (cueScheduled c)
    let ends := fun (v : State) (st res : Nat) => (.next (applyActs v (complete t r st res v)) : Host.Outcome State Fault Refusal)
    let fresh := cueChecks c = false ∨ (thingOk c.kind c.object = true ∧ epochOf u c.kind c.object = c.epoch)
    (fresh →
      (c.opcode = 0 → exec (.cueNop t) s = ends u stOK 0)
      ∧ (c.opcode = 1 → 1 ≤ cueArg c 0 1 → cueArg c 0 1 ≤ 5 →
        let q := writePairs t 0 (bodyWords ((c.args.drop 8).take (8 * cueArg c 0 1))) u
        exec (.write t) s = ends (applyActs u q.1) q.2.1 q.2.2)
      ∧ (c.opcode = 2 →
        let x := gives 0 :: readAt t (cueArg c 0 4) u
        let v := applyActs u (inCue t x)
        exec (.read t) s = ends v ((refusedWith t x).getD stOK) v.out.readData.toNat)
      ∧ (c.opcode = 3 → ∃ v m, exec (.commit t) s = .next v ∧ (ten v t).staged = [] ∧ v.cur.commits.getLast? = some m ∧ m.who = t.val
        ∧ m.tag = cueArg c 0 2 ∧ m.fields = (ten s t).staged ∧ m.cue = some r ∧ sameMemory s v)
      ∧ (c.opcode = 4 → absentAddr u (ownReg c.kind c.object) = false → (if c.kind = 4 then mayBank u t c.object = true else t = 0) →
        (if c.kind = 4 then bankAllows c.object (cueArg c 0 1) = true else ownerCode (cueArg c 0 1) = true) →
          let v := applyActs u (reassign u c.kind c.object (cueArg c 0 1) t)
          exec (.handover t) s = ends v stOK (epochOf v c.kind c.object))
      ∧ (c.opcode = 5 → hasPriv u t pvDRV_TXN = true → c.kind = 3 → portTile (rd u) (cueArg c 0 2) = some c.object → cueArg c 4 1 ≤ 1 →
        1 ≤ cueArg c 5 1 → cueArg c 5 1 ≤ (if cueArg c 4 1 = 1 then 2 else 4) → 0x100 ≤ cueArg c 6 3 → (port u (cueArg c 0 2)).txns.length < 8 →
          ∃ v pkt, exec (.drvTxn t) s = .next v
            ∧ (port v (cueArg c 0 2)).txns = (port s (cueArg c 0 2)).txns ++ [⟨pkt, cueArg c 4 1 == 1, 0, .txn t c.object c.epoch r, 0, 0⟩]
            ∧ pkt.typ = (if cueArg c 4 1 = 1 then pkREAD_REQ else pkREG_WRITE) ∧ pkt.chain = cueArg c 2 1 % 16 ∧ pkt.driver = cueArg c 3 1
            ∧ pkt.addr = cueArg c 6 3 ∧ (cueArg c 4 1 = 0 → pkt.payload = (c.args.drop 9).take (4 * cueArg c 5 1)))
      ∧ (c.opcode = 6 → t = 0 → rf u Reg.CUR_SYNC Fld.CUR_SYNC_SRC ≠ 1 → rf u Reg.CUR_SYNC Fld.CUR_SYNC_SRC ≠ 4 → cueArg c 6 4 ≤ 999999999 →
        showing (mode s) = false → ∃ v, exec (.setTime t) s = ends v stOK 0 ∧ now v = cueArg c 0 6 * 1000000000 + cueArg c 6 4
          ∧ v.cur.frac = 0 ∧ v.regs = s.regs ∧ sameMemory s v)
      ∧ (c.opcode = 7 → hasPriv u t pvCENSUS = true → exec (.census t) s = nextBy u
        [.book (fun b => if s.cur.running && s.cur.closed && decide (instC s < now s) then { b with censusNext := b.censusNext ++ [⟨t, some r⟩] }
          else { b with census := b.census ++ [⟨t, some r⟩] })])
      ∧ (c.opcode = 8 → exec (.cueFence t) s = nextBy u (seqE [fun _ => [.ten t (fun q => { q with fences := q.fences ++ [r] })],
        fun s => settleFences t (ten s t).fences.length s, takeCues t] u))
      ∧ (c.opcode = 9 → t = 0 → 1 ≤ c.object → c.object ≤ 7 → exec (.reset t) s = ends (applyActs u (tenantReset c.object u)) stOK 0)
      ∧ (c.opcode = 10 → hasPriv u t pvMARK = true → exec (.mark t) s
        = nextBy u (logSystem u (0xB50 + t.val) 4 [t.val] (arg [(16, cueArg c 0 2), (48, cueArg c 2 6)]) ++ complete t r stOK 0 u))
      ∧ (c.opcode = 11 → exec (.discard t) s = ends (applyAct u (.ten t (fun q => { q with staged := [] }))) stOK 0))
    ∧ (cueChecks c = true → thingOk c.kind c.object = true → epochOf u c.kind c.object ≠ c.epoch →
      (c.opcode = 1 → exec (.write t) s = ends u stSTALE_ROLE 0) ∧ (c.opcode = 4 → exec (.handover t) s = ends u stSTALE_ROLE 0)
      ∧ (c.opcode = 5 → exec (.drvTxn t) s = ends u stSTALE_ROLE 0))

/-- Queue indexes: CUQ_TAIL makes cues available, which are taken in order while completions can be held; CPQ_HEAD frees slots for held
completions; PBH_HEAD makes room for a LOST record; the scheduled store releases its due cue at its instant (R570 to R573, R575, R588). A
cue completes: 16 bytes at CPQ_TAIL, which advances, PHASE inverting at the wrap, and no other byte of host memory; while no slot is free
the completion is held, and a QUIET cue that is OK has none (R570, R572, R573, R577, R596). (Readings and choices of the model: log entries 44, 49.) -/
def Obligations.QueuesAndCompletionsMove : Prop :=
  (∀ (s : State), s.Inv →
    (∀ (a : Acc) (t : Fin 8) (v : Word), (actsFor a = 0 ∨ actsFor a = t.val) →
      (reaches s a (Reg.CUQ_TAIL t) true →
        let u := applyAct s (.fld (Reg.CUQ_TAIL t) Fld.CUQ_TAIL_INDEX (getF v Fld.CUQ_TAIL_INDEX))
        let n := rf s (Reg.CUQ_CTRL t) Fld.CUQ_CTRL_SIZE
        let i := rf s (Reg.CUQ_HEAD t) Fld.CUQ_HEAD_INDEX
        let c := cueOf (mapGets zeroByte s.host (addr64 s (Reg.CUQ_BASE_LO t) (Reg.CUQ_BASE_HI t) + 64 * i) 64) i (ten s t).serial
        (mayTake u t = false → exec (.cuqTailWrite a t v) s = .next u)
        ∧ (n ≤ 12 → i < 2 ^ n → mayTake u t = true → getF v Fld.CUQ_TAIL_INDEX % 2 ^ n = (i + 1) % 2 ^ n → cueMalformed c = false → cueScheduled c = false →
          ∃ w, exec (.cuqTailWrite a t v) s = .next w ∧ (ten w t).ready = (ten s t).ready ++ [c] ∧ (ten w t).serial = (ten s t).serial + 1
            ∧ (ten w t).open_ = (ten s t).open_ ++ [cueRefOf c false] ∧ rf w (Reg.CUQ_HEAD t) Fld.CUQ_HEAD_INDEX = (i + 1) % 2 ^ n ∧ sameMemory s w
            ∧ ∀ r, r ≠ Reg.CUQ_TAIL t → r ≠ Reg.CUQ_HEAD t → rd w r = rd s r))
      ∧ (reaches s a (Reg.CPQ_HEAD t) true → exec (.cpqHeadWrite a t v) s
          = .next (runEffs (applyAct s (.fld (Reg.CPQ_HEAD t) Fld.CPQ_HEAD_INDEX (getF v Fld.CPQ_HEAD_INDEX))) [flushHeld t, takeCues t]))
      ∧ (reaches s a (Reg.PBH_HEAD t) true →
        let u := applyAct s (.fld (Reg.PBH_HEAD t) Fld.PBH_HEAD_INDEX (getF v Fld.PBH_HEAD_INDEX))
        ((ten s t).lostCount = 0 → exec (.pbhHeadWrite a t v) s = .next u)
        ∧ (0 < (ten s t).lostCount → 0 < pbhFree u t → ∃ w, exec (.pbhHeadWrite a t v) s = .next w ∧ (ten w t).lostCount = 0
            ∧ bit (rd w (Reg.TEN_EVT_STATUS t)) 1 = true ∧ (∀ x, dramByte w x = dramByte s x))))
    ∧ (∀ q, s.cur.running = true → s.sys.supplyLoss = false → dueCues s = [q] → s.book.sched.contains q = true →
      ∃ v, exec .scheduledCueRelease s = .next (applyActs v (startCue q.tenant q.cue false v)) ∧ now v = max (now s) (releaseAt s q)
        ∧ v.book.sched = s.book.sched.erase q ∧ sameMemory s v)) ∧
  (∀ (s : State) (t : Fin 8) (c : Cue) (rest : List Cue), s.Inv → (ten s t).ready = c :: rest → spineUp s = true → mode s ≠ mHOLD → c.opcode = 0 →
    cueChecks c = false → cueOpen s t (cueRefOf c (cueScheduled c)) = true → (ten s t).fences = [] →
    ringUsed (rf s (Reg.CUQ_CTRL t) Fld.CUQ_CTRL_SIZE) (rf s (Reg.CUQ_TAIL t) Fld.CUQ_TAIL_INDEX) (rf s (Reg.CUQ_HEAD t) Fld.CUQ_HEAD_INDEX) = 0 →
      let r := cueRefOf c (cueScheduled c)
      let n := rf s (Reg.CPQ_CTRL t) Fld.CPQ_CTRL_SIZE
      let i := rf s (Reg.CPQ_TAIL t) Fld.CPQ_TAIL_INDEX % 2 ^ n
      let ph := rf s (Reg.CPQ_TAIL t) Fld.CPQ_TAIL_PHASE
      let base := addr64 s (Reg.CPQ_BASE_LO t) (Reg.CPQ_BASE_HI t)
      let done_ : Completion := ⟨c.tag, stOK, 0, c.index, c.opcode, cueScheduled c⟩
      (r.quiet = false → bindMode s t = 0 → (ten s t).held = [] → n ≤ 12 → 0 < cpqFree s t →
        ∃ v, exec (.cueNop t) s = .next v ∧ mapGets zeroByte v.host (base + 16 * i) 16 = completionBytes done_ ph
          ∧ (∀ x, x < base + 16 * i ∨ base + 16 * i + 16 ≤ x → hostByte v x = hostByte s x) ∧ (∀ x, dramByte v x = dramByte s x)
          ∧ rf v (Reg.CPQ_TAIL t) Fld.CPQ_TAIL_INDEX = (i + 1) % 2 ^ n ∧ rf v (Reg.CPQ_TAIL t) Fld.CPQ_TAIL_PHASE = (if i + 1 = 2 ^ n then 1 - ph else ph)
          ∧ (bit (ten s t).msixMask 0 = false → bit (ten s t).msixHold 0 = false → v.out.msix = s.out.msix ++ [(t.val, 0)])
          ∧ (ten v t).ready = rest ∧ (ten v t).held = [])
      ∧ (r.quiet = false → bindMode s t = 0 → cpqFree s t = 0 → ∃ v, exec (.cueNop t) s = .next v ∧ (ten v t).held = (ten s t).held ++ [done_]
          ∧ sameMemory s v ∧ v.regs = s.regs)
      ∧ (r.quiet = false → bindMode s t = 1 → ∃ v, exec (.cueNop t) s = .next v
          ∧ v.out.frames = s.out.frames ++ [mgmtFrame t 3 0 (completionBytes done_ 0)] ∧ v.regs = s.regs ∧ sameMemory s v)
      ∧ (r.quiet = true → ∃ v, exec (.cueNop t) s = .next v ∧ v.regs = s.regs ∧ (ten v t).held = (ten s t).held ∧ v.out = s.out ∧ sameMemory s v))

/-! ## Tenants, the management port and the prompt book -/

/-- T0 hands a thing to a tenant, which increments its epoch where the owner changes; a change of a tenant's binding, TEN_RESET, a function-level
reset and a hot reset or loss of the link each reset the tenants they name: their cues, completions, staging sets and scheduled cues are gone,
their queue registers at reset, and no other tenant's; TEN_DISCARD empties a staging set and TEN_CENSUS asks for a census (R559, R564 to
R566, R568, R581, R582, R590). (Readings and choices of the model: log entry 50.) -/
def Obligations.TenantsAreReset : Prop :=
  ∀ (s : State) (a : Acc) (v : Word), s.Inv →
    let clean := fun (w : State) (t : Nat) => (ten w t).staged = [] ∧ (ten w t).ready = [] ∧ (ten w t).open_ = [] ∧ (ten w t).fences = []
      ∧ (ten w t).held = [] ∧ (∀ q ∈ w.book.sched, q.tenant ≠ t) ∧ (∀ q ∈ w.book.census ++ w.book.censusNext, q.tenant ≠ t)
      ∧ (∀ r ∈ tenantRegs t, rd w r = regReset r) ∧ (mapWf ctxDflt s.pkr.ctx = true → ctxOf w t = ctxDflt 0)
    let only := fun (w : State) (hit : Nat → Bool) => (∀ t, hit t = true → t < 8 → clean w t)
      ∧ (∀ t, hit t = false → t < 8 → (ten w t).staged = (ten s t).staged ∧ (ten w t).ready = (ten s t).ready ∧ (ten w t).open_ = (ten s t).open_
        ∧ (ten w t).held = (ten s t).held ∧ ∀ r ∈ tenantRegs t, rd w r = rd s r) ∧ sameMemory s w
    let does := fun (c : Instr) (hit : Nat → Bool) => ∃ w, exec c s = .next w ∧ only w hit
    (∀ o, reaches s a (ownReg (ownKey o).1 (ownKey o).2) true → actsFor a = 0 → ownerCode (getF v Fld.TEN_OWN_TILE_OWNER) = true →
      let k := ownKey o
      ∃ w, exec (.tenOwnWrite a o v) s = .next w ∧ ownerOf w k.1 k.2 = getF v Fld.TEN_OWN_TILE_OWNER
        ∧ epochOf w k.1 k.2 = (epochOf s k.1 k.2 + (if getF v Fld.TEN_OWN_TILE_OWNER = ownerOf s k.1 k.2 then 0 else 1)) % 65536
        ∧ (∀ r, r ≠ ownReg k.1 k.2 → r ≠ Reg.PB_UNIT_LOST → rd w r = rd s r) ∧ sameMemory s w)
    ∧ (∀ t : Fin 8, reaches s a (Reg.TEN_RESET t) true → (actsFor a = 0 ∨ actsFor a = t.val) → getF v Fld.TEN_RESET_GO = 1 →
      does (.tenReset a t v) (fun x => x == t.val))
    ∧ (∀ (t : Fin 8) (ip : Bool), let r := if ip then Reg.TEN_BIND_SRC_IP t else Reg.TEN_BIND_CTRL t
      reaches s a r true → actsFor a = 0 → (ip = false → getF v Fld.TEN_BIND_CTRL_MODE = 2 → t = 0) →
        (rd s r = v &&& regImpl r → exec (.tenBindWrite a t ip v) s = .next s)
        ∧ (rd s r ≠ v &&& regImpl r → ∃ w, exec (.tenBindWrite a t ip v) s = .next w ∧ rd w r = v &&& regImpl r ∧ only w (fun x => x == t.val)))
    ∧ (spineUp s = true → (∀ t : Fin 8, does (.functionLevelReset t) (fun x => x == t.val))
      ∧ does .pcieHotReset (fun x => bindMode s x == 0) ∧ does .pcieLinkLoss (fun x => bindMode s x == 0))
    ∧ (∀ t : Fin 8, reaches s a (Reg.TEN_DISCARD t) true → (actsFor a = 0 ∨ actsFor a = t.val) → getF v Fld.TEN_DISCARD_GO = 1 →
      ∃ w, exec (.tenDiscard a t v) s = .next w ∧ (ten w t).staged = [] ∧ w.regs = s.regs ∧ w.cur = s.cur ∧ sameMemory s w)
    ∧ (reaches s a Reg.TEN_CENSUS true → hasPriv s (actsFor a) pvCENSUS = true → getF v Fld.TEN_CENSUS_GO = 1 →
      ∃ w, exec (.tenCensus a v) s = .next w ∧ w.regs = s.regs ∧ sameMemory s w
        ∧ (if s.cur.running = true ∧ s.cur.closed = true ∧ instC s < now s then w.book.censusNext = s.book.censusNext ++ [⟨actsFor a, none⟩]
          else w.book.census = s.book.census ++ [⟨actsFor a, none⟩]))

/-- The management port answers ARP and ICMP echo requests for its address; an accepted request frame reads or writes its registers in order, or takes
its cues, and is answered with its SEQ; one repeated is answered again without effect, and one not accepted is counted (R560, R570).
(Readings and choices of the model: log entries 20, 46, 47.) -/
def Obligations.ManagementPortAnswers : Prop :=
  ∀ (s : State), mgmtOn s = true →
    (∀ sha (spa tpa : BitVec 32), tpa = rd s Reg.TEN_MGMT_IP → exec (.arpRequest sha spa tpa) s
      = nextBy s [.out (fun o => { o with frames := o.frames ++ [arpReply s sha spa.toNat] })])
    ∧ (∀ (dst : BitVec 32) id seq data, dst = rd s Reg.TEN_MGMT_IP → exec (.icmpEchoRequest dst id seq data) s
      = nextBy s [.out (fun o => { o with frames := o.frames ++ [echoReply id seq data] })])
    ∧ (∀ f : MgmtFrame,
      let again := nextBy s [.out (fun o => { o with frames := o.frames ++ [(ten s f.tenant).lastAnswer] })]
      let drops := nextBy s [.inc Reg.TEN_MGMT_DROP Fld.TEN_MGMT_DROP_COUNT 1]
      let answers := fun (u : State) (typ : Nat) (items : List Nat) =>
        let bs := mgmtFrame f.tenant typ f.seq (Config.mgmtBody typ items)
        nextBy u [.ten f.tenant (fun q => { q with lastSeq := some f.seq, lastAnswer := bs }), .out (fun o => { o with frames := o.frames ++ [bs] })]
      let fresh := (ten s f.tenant).lastSeq ≠ some f.seq
      (mgmtAccepts s f 4 64 = true → fresh →
        let q := readAll f.tenant (bodyWords f.carried) s
        exec (.mgmtRead f) s = answers (applyActs s q.1) 0 q.2)
      ∧ (mgmtAccepts s f 8 64 = true → fresh →
        let q := writeAll f.tenant (bodyWords f.carried) s
        exec (.mgmtWrite f) s = answers (applyActs s q.1) 1 q.2)
      ∧ (mgmtAccepts s f 64 16 = true → fresh → (ten s f.tenant).ready.length + f.len / 64 ≤ 64 →
        exec (.mgmtCue f) s = answers (runEffs s ((bodyCues (f.len / 64) f.carried).map (fun bs => fun s =>
          takeCue f.tenant (cueOf bs ((ten s f.tenant).serial % 64) (ten s f.tenant).serial) s))) 2 [stOK])
      ∧ (mgmtAccepts s f 64 16 = true → fresh → 64 < (ten s f.tenant).ready.length + f.len / 64 → exec (.mgmtCue f) s = answers s 2 [stBUSY])
      ∧ (mgmtAccepts s f 4 64 = true → ¬fresh → exec (.mgmtRead f) s = again)
      ∧ (mgmtAccepts s f 8 64 = true → ¬fresh → exec (.mgmtWrite f) s = again)
      ∧ (mgmtAccepts s f 64 16 = true → ¬fresh → exec (.mgmtCue f) s = again)
      ∧ (mgmtAccepts s f 4 64 = false → exec (.mgmtRead f) s = drops) ∧ (mgmtAccepts s f 8 64 = false → exec (.mgmtWrite f) s = drops)
      ∧ (mgmtAccepts s f 64 16 = false → exec (.mgmtCue f) s = drops))

/-- The prompt book: the collector's first record leaves it 5 us after its stamp, merges into an open window of its like or enters the ring at
PB_WRITE_IDX, opening one; a window that closes releases one COALESCED record; each second 8 records go to the Caddy's copy; the hold-off of a
vector ends with one message for what is new (R585, R586, R588, R589, R596). (Readings and choices of the model: log entries 33, 51.) -/
def Obligations.PromptBookIsWritten : Prop :=
  ∀ (s : State), s.Inv →
    (∀ r : PbRec, firstRec s.book.waiting = some r → s.book.wins = [] →
      let u := applyActs s [.clockTo (r.stamp + 5000), .book (fun b => { b with waiting := b.waiting.erase r })]
      let us := rf s Reg.PB_CTRL Fld.PB_CTRL_COALESCE
      exec .pbRecordRelease s = nextBy u ((if r.kind = kSYSTEM ∨ us = 0 then []
        else [.book (fun b => { b with wins := b.wins ++ [⟨r, r.stamp + 1000 * us, 0, 0, 0, 0⟩] })]) ++ releaseRec r u))
    ∧ (∀ (r : PbRec) (w : CoalWin), firstRec s.book.waiting = some r → s.book.wins = [w] → sameRec w.first r = true → r.kind ≠ kSYSTEM → r.stamp < w.end_ →
      ∃ t x, exec .pbRecordRelease s = .next t ∧ t.book.waiting = s.book.waiting.erase r ∧ t.book.wins = [x] ∧ x.merged = w.merged + 1
        ∧ x.lastMerged = r.stamp ∧ x.tenants = w.tenants ||| r.tenants ∧ now t = max (now s) (r.stamp + 5000) ∧ t.regs = s.regs ∧ sameMemory s t)
    ∧ (∀ r : PbRec, (∀ t, t < 8 → rf s (Reg.PBH_CTRL t) Fld.PBH_CTRL_EN = 0) → rf s Reg.PB_CADDY Fld.PB_CADDY_KINDS = 0 → role s ≠ rlMEMBER →
      let seq := rf s Reg.PB_WRITE_IDX Fld.PB_WRITE_IDX_SEQ
      let a := addr36 s Reg.PB_BASE_LO Reg.PB_BASE_HI + 32 * (seq % 2 ^ rf s Reg.PB_CTRL Fld.PB_CTRL_SIZE)
      a + 32 ≤ dramCap s → let t := applyActs s (releaseRec r s)
        mapGets zeroByte t.dram a 32 = recBytes r (recCompany s) seq ∧ (∀ x, x < a ∨ a + 32 ≤ x → dramByte t x = dramByte s x)
          ∧ rf t Reg.PB_WRITE_IDX Fld.PB_WRITE_IDX_SEQ = (seq + 1) % 2 ^ 24)
    ∧ (∀ w : CoalWin, firstWin s.book.wins = some w → s.book.wins = [w] → s.book.waiting = [] →
      (w.merged = 0 → ∃ t, exec .pbCoalesceClose s = .next t ∧ t.book.wins = [] ∧ now t = max (now s) (w.end_ + 5000) ∧ t.regs = s.regs ∧ sameMemory s t)
      ∧ (0 < w.merged → exec .pbCoalesceClose s = .next (runEffs s [fun _ => [.clockTo (w.end_ + 5000)],
          fun _ => [.book (fun b => { b with wins := [] })], releaseRec (coalRec w)])))
    ∧ (spineUp s = true → s.cad.house = [] →
      (s.book.copyRing.length < 8 → ∃ t, exec .pbCaddyCopy s = .next t ∧ t.book.copyLast = now t ∧ now t = max (now s) (s.book.copyLast + 1000000000)
        ∧ t.cad.house = [] ∧ t.book.copyRing = s.book.copyRing)
      ∧ (8 ≤ s.book.copyRing.length → ∃ t at_, exec .pbCaddyCopy s = .next t ∧ t.book.copyRing = [] ∧ t.book.copyAt = (s.book.copyAt + 1) % 4096
        ∧ t.cad.house.getLast? = some ⟨true, 1, 0x100000 + 256 * s.book.copyAt, (s.book.copyRing.drop (s.book.copyRing.length - 8)).flatten, .book, at_⟩
        ∧ ((256 * s.book.copyAt) % 4096 = 0 → t.cad.house.head? = some ⟨true, 2, 0x100000 + 256 * s.book.copyAt, [], .plain, at_⟩)))
    ∧ (∀ (t : Fin 8) (v : Fin 4), bit (ten s t).msixHold v = true → ∃ w, exec (.msixHoldoff t v) s = .next w
        ∧ now w = max (now s) ((ten s t).msixAt.getD v 0 + 10000) ∧ w.regs = s.regs ∧ sameMemory s w
        ∧ (bit (ten s t).msixNew v = false → bit (ten w t).msixHold v = false ∧ w.out = s.out)
        ∧ (bit (ten s t).msixNew v = true → bindMode s t = 0 → bit (ten s t).msixMask v = false →
          w.out.msix = s.out.msix ++ [(t.val, v.val)] ∧ bit (ten w t).msixHold v = true))

/-! ## Modes, supplies, restarts and the test access port -/

/-- Requests of T0: REHEARSAL from a showing mode, SHOW from REHEARSAL and HOLD from a curtain mode wait for their edge; TEST is entered at once from
BOOT or RECOVERY with every tile in LOGIC_OFF; one the table does not allow is refused BAD_ARG and changes no mode; a wake takes 2 ms and
goes back to curtains (R599, R601, R603, R604). (Readings and choices of the model: log entries 39, 73.) -/
def Obligations.ModesAreRequested : Prop :=
  ∀ (s : State) (a : Acc), s.Inv →
    (reaches s a Reg.SYS_MODE_REQ true → actsFor a = 0 →
      let waits := fun (c : Instr) (m : Nat) => ∃ t, exec c s = .next t ∧ t.sys.pendTarget = some m ∧ t.sys.pendEdges = (if s.cur.closed = true then 3 else 2)
        ∧ rf t Reg.SYS_MODE Fld.SYS_MODE_PENDING = m ∧ mode t = mode s ∧ sameMemory s t
      let refused := nextBy s (tenantFault s 0 stBAD_ARG Reg.SYS_MODE_REQ)
      (showing (mode s) = true → waits (.sysModeReqRehearsal a) mREHEARSAL) ∧ (showing (mode s) = false → exec (.sysModeReqRehearsal a) s = refused)
      ∧ (mode s = mREHEARSAL → waits (.sysModeReqShow a) mSHOW) ∧ (mode s ≠ mREHEARSAL → exec (.sysModeReqShow a) s = refused)
      ∧ (curtainMode (mode s) = true → holdBarred s = false → imageRuns s = false → waits (.sysModeReqHold a) mHOLD)
      ∧ (curtainMode (mode s) = false → exec (.sysModeReqHold a) s = refused)
      ∧ (curtainMode (mode s) = true → (holdBarred s = true ∨ imageRuns s = true) →
        exec (.sysModeReqHold a) s = nextBy s (tenantFault s 0 stBUSY Reg.SYS_MODE_REQ))
      ∧ ((mode s = mBOOT ∨ mode s = mRECOVERY) → (∀ t ∈ tilesOn (rd s), tileState s t = tpLOGIC_OFF) → ∃ t, exec (.sysModeReqTest a) s = .next t
        ∧ mode t = mTEST ∧ rf t Reg.SYS_MODE Fld.SYS_MODE_PREV = mode s ∧ sameMemory s t)
      ∧ (mode s ≠ mBOOT → mode s ≠ mRECOVERY → exec (.sysModeReqTest a) s = refused))
    ∧ (mode s = mHOLD → s.sys.waking = true → exec .wakeResume s = .next (runEffs s [
        fun s => [.clockTo (now s + 2000000), .sys (fun y => { y with waking := false })], loadDelays,
        fun s => seqE ((List.range 512).map (fun n => seqE [fun s => bankMove s n, bankArrive n])) s, startEngines,
        fun s => setMode s (if showing s.sys.holdFrom && s.sys.holdFrom != mQUIET then showBack s
          else if s.sys.holdFrom = mQUIET ∧ showBack s = mDEGRADED then mDEGRADED else s.sys.holdFrom),
        fun s => seqE ((banksOn (rd s)).map startBank) s, fun s => [ticketAll] ++ resumeSeries (now s) s]))

/-- Supplies: VDD_AO in range leads from OFF to PILOT and its loss to OFF with every register at reset; POR_N in PILOT starts the device in BOOT, or
RECOVERY without a boot image; a spine supply lost ends in BOOT with DRAM and the banks empty; a port supply lost stops its bank;
PFAIL_N low saves the scheduled cues; without REFCLK no clock runs (R20, R265, R599, R605, R611, R612, R629).
(Readings and choices of the model: log entries 38, 74.) -/
def Obligations.SuppliesComeAndGo : Prop :=
  ∀ (s : State) (ball : Bool), s.Inv →
    (mode s = mOFF → ∃ t, exec (.vddAoGood ball) s = .next t ∧ mode t = mPILOT ∧ t.sys.vddAo = true ∧ t.sys.testEn = ball ∧ now t = now s + 20000
      ∧ t.sys.holdReady = s.sys.vddHold ∧ (∀ r, r ≠ Reg.SYS_MODE → rd t r = rd s r) ∧ sameMemory s t)
    ∧ (s.cad.run = none → ∃ t, exec .vddAoLoss s = .next t ∧ mode t = mOFF ∧ t.sys.vddAo = false ∧ (∀ r, r ≠ Reg.SYS_MODE → rd t r = regReset r)
      ∧ (∀ k, k < 2 ^ 36 → dramByte t k = 0) ∧ (∀ k, k < 2 ^ 27 → sramByte t k = 0)
      ∧ (∀ k, caddyByte t k = caddyByte s k) ∧ (∀ k, flashByte t k = flashByte s k))
    ∧ (mode s = mPILOT → s.sys.vddAo = true → s.sys.pfail = false → rf s Reg.SYS_STATUS Fld.SYS_STATUS_TRIPPED = 0 →
      ∃ t, exec (.porNRise false) s = .next t ∧ mode t = (if (bootPick s).isSome then mBOOT else mRECOVERY) ∧ t.cur.running = false
        ∧ t.sys.por = true ∧ t.sys.spine = true ∧ rf t Reg.SYS_STATUS Fld.SYS_STATUS_WARM = 0)
    ∧ (mode s = mPILOT → ∃ t, exec (.porNRise true) s = .next t ∧ mode t = mPILOT ∧ t.sys.testEn = true ∧ t.regs = s.regs ∧ sameMemory s t)
    ∧ (fromBoot (mode s) = true → s.sys.supplyLoss = false → exec .spineSupplyLoss s = .next (runEffs s [stopLines, stopSeries false, spineOff true,
        fun s => servoSelect s 0, fun s => setMode s mBOOT, fun _ => [.sys (fun y => { y with spine := false, por := false })]]))
    ∧ (fromBoot (mode s) = false → exec .spineSupplyLoss s = nextBy s [.sys (fun y => { y with spine := false, por := false })])
    ∧ (∀ u : State, u.Inv → let t := applyActs u (spineOff true u)
        (∀ k, k < 2 ^ 36 → dramByte t k = 0) ∧ (∀ k, k < 2 ^ 27 → sramByte t k = 0) ∧ t.cur.running = false ∧ mode t = mode u)
    ∧ (∀ b : Fin 16, exec (.portSupplyFault b) s = .next (runEffs s [stopBank b,
        fun s => [.bseq b (fun q => { q with supplyBad := true }), .fld (Reg.BS_STATUS b) Fld.BS_STATUS_FAULT 4]
          ++ eventNow s 6 4 [0] (0x080 + b.val) (arg [(16, b.val), (16, 64 * b.val), (16, 0), (16, 0)])]))
    ∧ (fromBoot (mode s) = true → s.sys.supplyLoss = false → exec .pfailNFall s = .next (runEffs s [
        fun _ => [.sys (fun y => { y with pfail := true }), .fld Reg.SYS_STATUS Fld.SYS_STATUS_PFAIL 1],
        fun s => .sys (fun y => { y with supplyLoss := true }) :: sysEvent s 4 0, dropRuns,
        fun _ => [.cur (fun c => { c with commits := [] }), .cad (fun c => { c with house := [], tenant := none }),
          .fld Reg.CAD_STATUS Fld.CAD_STATUS_HOUSE_WAIT 0], saveCues,
        fun s => if intervalNear s then [] else .clockTo (now s + 1000000) :: supplyEnds s]))
    ∧ (∀ u : State, u.Inv → let t := applyActs u (saveCues u)
        rf t Reg.SYS_SUPPLY Fld.SYS_SUPPLY_SAVED = min 16 u.book.sched.length
          ∧ (u.book.sched = [] → t.cad = u.cad) ∧ (u.book.sched ≠ [] → t.cad.house.length = u.cad.house.length + 1 + (min 16 u.book.sched.length + 3) / 4))
    ∧ ((fromBoot (mode s) = false ∨ s.sys.supplyLoss = true) → ∃ t, exec .pfailNFall s = .next t ∧ t.sys.pfail = true
        ∧ rf t Reg.SYS_STATUS Fld.SYS_STATUS_PFAIL = 1 ∧ mode t = mode s ∧ sameMemory s t)
    ∧ (mode s ≠ mPILOT → ∃ t, exec .pfailNRise s = .next t ∧ t.sys.pfail = false ∧ rf t Reg.SYS_STATUS Fld.SYS_STATUS_PFAIL = 0 ∧ sameMemory s t)
    ∧ (mode s = mPILOT → s.sys.vddAo = true → s.sys.por = true → s.sys.spine = true → s.sys.testEn = false →
        rf s Reg.SYS_STATUS Fld.SYS_STATUS_TRIPPED = 0 → ∃ t, exec .pfailNRise s = .next t ∧ mode t = (if (bootPick s).isSome then mBOOT else mRECOVERY))
    ∧ (s.cad.run = none → exec .refclkLoss s = nextBy s [.sys (fun y => { y with refclk := false })])
    ∧ (s.cad.run.isSome = true → exec .refclkLoss s = .next (runEffs s (cadComplete ++ [fun _ => [.sys (fun y => { y with refclk := false })]])))

/-- A restart, by the watchdog, a fault of a house core or T0: with a snapshot, in a curtain mode and 60 s after the last it is warm and takes 1
s, otherwise cold; temperature readings are kept with their peak, and two in a row of 125 degrees trip (R606 to R610). The test access port
answers IDCODE and BYPASS in every mode with a supply, and with TEST_EN in PILOT SAMPLE, PRELOAD and EXTEST; nothing else of the block
changes (R638). (Readings and choices of the model: log entries 40, 76, 77.) -/
def Obligations.RestartsTripsAndTestPort : Prop :=
  (∀ (s : State) (a : Acc) (v : Word) (ok : Bool),
    let warm := fun (c : Instr) => exec c s = .next (runEffs s [
        fun s => .inc Reg.SYS_RESTARTS Fld.SYS_RESTARTS_COUNT 1 :: .fld Reg.SYS_STATUS Fld.SYS_STATUS_WARM 1
          :: .sys (fun y => { y with warmAt := some (now s), ticketsThis := 0, quietRun := 0 }) :: sysEvent s 5 0,
        abandonLoad, stopLines, stopSeries false, dropRuns,
        fun s => pendDone ++ [.fld Reg.SYS_STATUS Fld.SYS_STATUS_GATED 0] ++ setMode s mBOOT,
        restoreSnap, restartTenants, restartUnits, fun s => [.clockTo (now s + 1000000000)], startEngines,
        fun s => seqE ((banksOn (rd s)).map startBank) s, fun t => setMode t (if showing (mode s) then showBack t else mode s),
        fun s => [ticketAll] ++ resumeSeries (now s) s])
    let cold := fun (c : Instr) => exec c s = .next (runEffs s [stopLines, stopSeries false,
        fun _ => if ok then [] else [.dramDrop 0 (2 ^ 36), .ddr (fun _ => ddrInit)], coldStart])
    let asked := reaches s a Reg.SYS_RESTART true ∧ actsFor a = 0 ∧ getF v Fld.SYS_RESTART_GO = 1 ∧ getF v Fld.SYS_RESTART_CONFIRM = 0xA5
    (curtainMode (mode s) = true → s.sys.snapOk = true → ok = true → (∀ t, s.sys.warmAt = some t → t + 60000000000 ≤ now s) →
      warm (.hcWatchdog ok) ∧ warm (.hcFault ok) ∧ (asked → warm (.sysRestart a v ok)))
    ∧ (fromBoot (mode s) = true → mode s ≠ mHOLD → (curtainMode (mode s) = false ∨ s.sys.snapOk = false ∨ ok = false
        ∨ ∃ t, s.sys.warmAt = some t ∧ now s < t + 60000000000) → cold (.hcWatchdog ok) ∧ cold (.hcFault ok) ∧ (asked → cold (.sysRestart a v ok)))
    ∧ (∀ u : State, u.Inv → let t := applyActs u (coldStart u)
        mode t = (if (bootPick u).isSome then mBOOT else mRECOVERY) ∧ t.cur.running = false)
    ∧ (∀ q0 q1 q2 q3 sp : BitVec 16, let l := [q0, q1, q2, q3, sp]
      s.Inv → s.sys.vddAo = true →
        exec (.thermalSample q0 q1 q2 q3 sp) s = .next (runEffs s [
          fun s => seqE (l.mapIdx thermalRead) s, fun s => if fromBoot (mode s) && mode s != mHOLD then tempTrims s else [],
          fun s => let hots := (List.range 5).filter (fun i => decide (2000 ≤ (l.getD i 0).toInt))
            .sys (fun y => { y with hot := (List.range 5).foldl (fun m i => setBit m i (hots.contains i)) 0 })
              :: (match hots.find? (fun i => bit s.sys.hot i) with
                  | some i => if rf s Reg.SYS_STATUS Fld.SYS_STATUS_TRIPPED = 1 then [] else thermalTrip i s
                  | none => [])])
        ∧ (∀ i x, i < 5 → let t := applyActs s (thermalRead i x s)
            rf t (Reg.SYS_TEMP i) Fld.SYS_TEMP_TEMP = x.toNat
              ∧ toSigned 16 (rf t (Reg.SYS_TEMP i) Fld.SYS_TEMP_PEAK) = max (toSigned 16 (rf s (Reg.SYS_TEMP i) Fld.SYS_TEMP_PEAK)) x.toInt))) ∧
  (∀ (s : State) (balls : List Bool),
    (mode s ≠ mOFF → exec .idcode s = .next { s with jtag := { s.jtag with ir := 0, idcode := idcodeOf s, driving := false } }
      ∧ exec .bypass s = .next { s with jtag := { s.jtag with ir := 1, bypass := false, driving := false } })
    ∧ (mode s = mPILOT → s.sys.testEn = true →
      exec (.sample balls) s = .next { s with jtag := { s.jtag with ir := 2, capture := balls, driving := false } }
      ∧ exec (.preload balls) s = .next { s with jtag := { s.jtag with ir := 3, update := balls, driving := false } }
      ∧ exec (.extest balls) s = .next { s with jtag := { s.jtag with ir := 4, capture := balls, driving := true } })
    ∧ ((mode s ≠ mPILOT ∨ s.sys.testEn = false) → exec (.sample balls) s = .next s ∧ exec (.preload balls) s = .next s ∧ exec (.extest balls) s = .next s)
    ∧ (idcodeOf s).toNat / 2 ^ 28 = 2 ∧ (idcodeOf s).toNat % 2 = 1
      ∧ (idcodeOf s).toNat / 2 ^ 12 % 65536 = (if s.fuses.is9440 then 0x9440 else 0x9432))
end

