-- ==== Sys2Proof/Machine/Reference.lean ====
section
/-! DEFINITION. The reference steep as one function of State: the packed pages, page CRCs and loads of a region that a conforming
program produces (R157, R158, R160, R175 to R202). No command's effect uses it: the pages Roura sends are those that the engines'
own programs push. It says what R157 compares them with. -/

namespace Sys2Proof.Machine

/-! ## What the steep reads for a region (R159, R175 to R180, R190) -/

/-- A region's coefficient block: its 24,576 raw bytes, or the status with which the region fails (R176 to R178). -/
def coefBlock (s : State) (t i : Nat) : Decoded :=
  let e := coefEntry s t i
  if dramUE s (addr36 s (Reg.TS_COEF_LO t) (Reg.TS_COEF_HI t) + 8 * i) 8 || dramUE s e.1 e.2 then .err stDATA_UE else
  match decodeBlock (dramBytes s e.1 e.2) 24576 none with
  | .ok o => if o.length = 24576 then .ok o else .err stLEN_OVERRUN
  | e => e

/-- A pixel's place in its region, by rows of 64 (R176, R190). -/
def regionPlace (r : Rd) (t i u v : Nat) : Nat :=
  let b := regionBox r t i
  64 * (v - b.2.2.1) + (u - b.1)

/-- The coefficient record of a pixel in a decoded block (R175, R176). -/
def coefRecord (r : Rd) (t i : Nat) (raw : List Byte) (u v : Nat) : Nat := leValue ((raw.drop (24 * regionPlace r t i u v)).take 24)

/-- The effective state of a lamp: 0 GOOD, 1 OPEN, 2 SHORT, 3 WEAK (R180). -/
def lampState (s : State) (t rec_ k u v : Nat) : Nat :=
  let x := lampIndex (rd s) t u v k
  effective (listCode (leValue (dramRead s (liveAddr s (tilePort0 (rd s) t + x.1) x.2) 2) / 8192)) (coefSt rec_ k)

/-- The held code of a lamp position, while the region's bit is set or cleared (R190). -/
def heldCode (s : State) (t i k u v : Nat) : Nat :=
  leValue (sramRead s (heldAddr (rd s) t i + 3 * regionPlace (rd s) t i u v + k) 1)

/-! ## Stages 5 to 8 of a lamp (R179 to R185) -/

/-- A region being steeped: its tile and index, its coefficient block, the layers left out (R70), and whether its background pages
are meant (R202). -/
structure Steeping where
  tile : Nat
  index : Nat
  raw : List Byte
  off : List (Nat × Nat)
  background : Bool
  deriving DecidableEq, Repr

/-- The stage-4 value of a pixel in a slot (R143, R171 to R174, R202). -/
def pixelLight (s : State) (q : Steeping) (j u v : Nat) : Int × Int × Int :=
  gamut s j (if q.background
    then ((rf s (Reg.BLK_BG_R j) Fld.BLK_BG_R_VALUE : Nat), (rf s (Reg.BLK_BG_G j) Fld.BLK_BG_G_VALUE : Nat), (rf s (Reg.BLK_BG_B j) Fld.BLK_BG_B_VALUE : Nat))
    else compose s j q.off (compPos s j q.tile u v))

/-- D5 of lamp `k` of a pixel (R179). -/
def demand5 (s : State) (q : Steeping) (j k u v : Nat) : Int :=
  stage5 (coefRecord (rd s) q.tile q.index q.raw u v) k (pixelLight s q j u v) (gainOf s q.tile k)
    (rf s (Reg.TC_GAIN_B q.tile) Fld.TC_GAIN_B_L_S)

/-- WEAK_GAIN of a tile. -/
def weakGain (s : State) (t : Nat) : Nat := rf s (Reg.TS_DRIVE t) Fld.TS_DRIVE_WEAK_GAIN

/-- The state of lamp `k` of a pixel of the region (R180). -/
def stateAt (s : State) (q : Steeping) (k u v : Nat) : Nat :=
  lampState s q.tile (coefRecord (rd s) q.tile q.index q.raw u v) k u v

/-- What the lamp of pixel (u, v) gives to a neighbour, by the field of its weight set that the direction names (R181 step 2). -/
def givenTo (s : State) (q : Steeping) (j k : Nat) (w : Field) (u v : Nat) : Int :=
  let b := regionBox (rd s) q.tile q.index
  if b.1 ≤ u ∧ u < b.2.1 ∧ b.2.2.1 ≤ v ∧ v < b.2.2.2 then
    defectShare (rf s (Reg.STP_WEIGHT (coefWsel (coefRecord (rd s) q.tile q.index q.raw u v))) w)
      (defectOwn (stateAt s q k u v) (weakGain s q.tile) (demand5 s q j k u v)).2
  else 0

/-- D6 of lamp `k` of a pixel: from the right neighbour the share it gives to its left, and so on around (R181). -/
def demand6 (s : State) (q : Steeping) (j k u v : Nat) : Int :=
  stage6 (rf s Reg.STP_CTRL Fld.STP_CTRL_DEFECT == 1) (stateAt s q k u v) (weakGain s q.tile) (demand5 s q j k u v)
    [givenTo s q j k Fld.STP_WEIGHT_W_L (u + 1) v, givenTo s q j k Fld.STP_WEIGHT_W_U u (v + 1),
     if u = 0 then 0 else givenTo s q j k Fld.STP_WEIGHT_W_R (u - 1) v, if v = 0 then 0 else givenTo s q j k Fld.STP_WEIGHT_W_D u (v - 1)]

/-- Is a pixel's line the first after a row switch: OD_MASK of its scan row, in a tile with overdrive (R183, R326)? Every driver's
first line is a multiple of ROWS, so that the scan row is the port line modulo ROWS. -/
def firstLine (s : State) (t u v : Nat) : Bool :=
  let r := rd s
  let sp := rrf r (Reg.TD_SCAN t) Fld.TD_SCAN_SCAN_PLAN
  let row := (pixelLine r t u v).1 % max 1 (tileLines r t) % (rrf r (Reg.SP_CTRL sp) Fld.SP_CTRL_ROWS_M1 + 1)
  rrf r (Reg.TS_OD t) Fld.TS_OD_EN == 1 && rrf r Reg.STP_CTRL Fld.STP_CTRL_OD == 1
    && bitsOf ((r (Reg.SP_OD_LO sp)).toNat + 2 ^ 32 * (r (Reg.SP_OD_HI sp)).toNat) row row == 1

/-- D8 of lamp `k` of a pixel in a composing slot (R183, R185). -/
def demand8 (s : State) (q : Steeping) (j k u v : Nat) : Int :=
  let d6 := demand6 s q j k u v
  let x := coefRecord (rd s) q.tile q.index q.raw u v
  stage8 (rf s Reg.STP_CTRL Fld.STP_CTRL_LGC == 1) (coefG x k) (coefB x k)
    (stage7 (firstLine s q.tile u v) (odEntry s (rf s (Reg.TS_OD q.tile) Fld.TS_OD_TABLE) k (d6.toNat / 16384)) d6)

/-! ## Stages 9 and 10 of a lamp (R160, R186 to R196, R359, R377) -/

/-- The demand of a lamp in a slot: the picture's in HOUSE and CAMERA slots, what calibration places in REHEARSAL slots, else 0. -/
def slotDemand (s : State) (q : Steeping) (j k u v : Nat) : Int :=
  let kind := slotKind (rd s) j
  if composing kind then demand8 s q j k u v
  else if kind = 2 ∧ mapGet zeroNat s.cal.placed q.tile = 2 + k ∧ stateAt s q k u v ≠ 1 ∧ stateAt s q k u v ≠ 2
    then (rf s Reg.CAL_REH Fld.CAL_REH_D_CAL : Nat)
  else 0

/-- C_FLOOR of a tile. -/
def codeFloor (s : State) (t : Nat) : Nat := rf s (Reg.TS_DRIVE t) Fld.TS_DRIVE_C_FLOOR

/-- The current code of a lamp for the curtain: the largest over the HOUSE, CAMERA and REHEARSAL slots (R187). -/
def lampCode (s : State) (q : Steeping) (k u v : Nat) : Nat :=
  curtainCode (codeFloor s q.tile) (((List.range (slotCount (rd s))).filter (fun j => slotKind (rd s) j != 1)).map
    (fun j => slotCode (codeFloor s q.tile) (slotDemand s q j k u v)))

/-- p_diag of a tile in a slot: ceil(T_DET / t_g) a segment (R328, R359). -/
def diagCode (s : State) (t j : Nat) : Nat :=
  let r := rd s
  let sp := rrf r (Reg.TD_SCAN t) Fld.TD_SCAN_SCAN_PLAN
  let p := period s.cur.rate
  let len := slotLen r s.cur.rate p j
  let segs := refreshes r s.cur.rate p t j * (rrf r (Reg.SP_CTRL sp) Fld.SP_CTRL_SUBS_M1 + 1)
  let rows := segs * (rrf r (Reg.SP_CTRL sp) Fld.SP_CTRL_ROWS_M1 + 1)
  let win := len - (rrf r (Reg.SP_TIMING sp) Fld.SP_TIMING_BLANK + rrf r (Reg.SP_TIMING sp) Fld.SP_TIMING_PC_TIME) * rows
  let g := (65535 + segs - 1) / max 1 segs
  min 65535 ((rrf r (Reg.TD_DIAG t) Fld.TD_DIAG_T_DET * g * rows + win - 1) / max 1 win * segs)

/-- The PWM code of a lamp in a slot against current code `ca` (R160, R188, R196, R359). -/
def lampPwm (s : State) (q : Steeping) (j k u v ca : Nat) : Nat :=
  let kind := slotKind (rd s) j
  if kind = 1 then 0
  else if kind = 2 ∧ mapGet zeroNat s.cal.placed q.tile = 5 then diagCode s q.tile j
  else if kind = 2 ∧ mapGet zeroNat s.cal.placed q.tile = 0 then 0
  else pwmCode (rf s Reg.STP_CTRL Fld.STP_CTRL_DITHER == 1)
    (ditherT (rf s Reg.STP_SEED Fld.STP_SEED_SEED_X) (rf s Reg.STP_SEED Fld.STP_SEED_SEED_Y) (rf s Reg.CUR_NUM Fld.CUR_NUM_NUM + 1) j k
      (wallX (rd s) q.tile + u) (wallY (rd s) q.tile + v))
    (pwmDemand (slotDemand s q j k u v) ca)

/-- The trimmed code of a lamp (R189). -/
def trimmed (s : State) (q : Steeping) (k u v c : Nat) : Nat := sentCode c (coefTrim (coefRecord (rd s) q.tile q.index q.raw u v) k)

/-- Does a lamp's code count as differing from the driver's (R191, R202)? -/
def codeDiffers (s : State) (q : Steeping) (k u v : Nat) : Bool :=
  q.background || !heldBit s (regionBase (rd s) q.tile + q.index) || lampCode s q k u v != heldCode s q.tile q.index k u v

/-- A lamp of the page of a slot (R188, R189, R197). -/
def refLamp (s : State) (q : Steeping) (j k u v : Nat) : LampCode :=
  let c := lampCode s q k u v
  ⟨lampPwm s q j k u v c, trimmed s q k u v c, codeDiffers s q k u v⟩

/-- The alternate of a lamp whose code differs, in a tile with DEFER: the held code, its trimmed value and a slot's PWM code against it
(R195). -/
def refAlternate (s : State) (q : Steeping) (j k u v : Nat) : Option (Nat × Nat × Nat) :=
  let held := heldCode s q.tile q.index k u v
  if rf s (Reg.TS_DRIVE q.tile) Fld.TS_DRIVE_DEFER = 1 && codeDiffers s q k u v
  then some (held, trimmed s q k u v held, lampPwm s q j k u v (max 1 held)) else none

/-! ## Stages 10 and 11 of a region (R197, R198, R200) -/

/-- The lamps of port part `p` of the region in a slot, in the order of the page (R197). -/
def refPart (s : State) (q : Steeping) (j p : Nat) : List LampCode :=
  (partLamps (rd s) q.tile q.index p).map (fun x =>
    let y := lampPixel (rd s) q.tile p x
    refLamp s q j y.2.2 y.1 y.2.1)

/-- The region's packed page for a slot (R197). -/
def refPage (s : State) (q : Steeping) (j : Nat) : List Byte := (regionPorts (rd s) q.tile q.index).flatMap (fun p => packPart (refPart s q j p))

/-- Its page CRC (R198). -/
def refCrc (s : State) (q : Steeping) (j : Nat) : Word := partCrc ((regionPorts (rd s) q.tile q.index).flatMap (refPart s q j))

/-- Its load (R200). -/
def refLoad (s : State) (q : Steeping) (j : Nat) : Nat := regionLoad ((regionPorts (rd s) q.tile q.index).flatMap (refPart s q j))

/-- The 9,728 bytes of a background page: the packed page, its CRC and zero fill (R202). -/
def refBackground (s : State) (q : Steeping) (j : Nat) : List Byte :=
  let page := refPage s { q with background := true } j
  let body := page ++ leBytes 4 (refCrc s { q with background := true } j).toNat
  body ++ List.replicate (9728 - body.length) 0

/-- The reference steep of a ticket: page, CRC and load of every slot, or the status with which the region fails (R157, R158, R178).
`remove`: the layer that a rescue ticket leaves out of every slot (R70). -/
def refSteep (s : State) (t i : Nat) (remove : Option Nat) : Option (List (List Byte × Word × Nat)) × Nat :=
  match coefBlock s t i with
  | .err e => (none, e)
  | .ok raw =>
    let q : Steeping := ⟨t, i, raw, (List.range 8).flatMap (fun j => remove.toList.map (fun l => (j, l))), false⟩
    (some ((List.range (slotCount (rd s))).map (fun j => (refPage s q j, refCrc s q j, refLoad s q j))), 0)

end Sys2Proof.Machine
end

