-- ==== Sys2Proof/Tests/Slice0.lean ====
section
/-! SUPPORT. Tests of single commands on small states, with values from the spec's tables and worked examples; one ill-formed command
for each check of WellFormed; and for every statement of the certificates that has hypotheses a witness that meets them, clause by
clause (`wit_` and the statement's name). -/

namespace Sys2Proof.Tests

open Sys2Proof.Machine

/-- The state after one command, looked at through `f`. -/
def after {β : Type} (i : Instr) (s : State) (f : State → β) : Option β :=
  match exec i s with
  | .next t => some (f t)
  | _ => none

/-- The state after reset with some fields changed by updates. -/
def with_ (xs : List Act) : State := applyActs State.reset xs

/-- An engine in RUN at bundle 0, its registers as given. -/
def engRun (e : Nat) (g : Engine → Engine) : State :=
  with_ [.fld (Reg.ENG_STATUS e) Fld.ENG_STATUS_STATE esRUN, .eng e g]

/-- The SPI target, which acts for T0 (R561). -/
def spi : Acc := ⟨0, .spi⟩

/-- The mode `m`. -/
def inMode (m : Nat) : Act := .fld Reg.SYS_MODE Fld.SYS_MODE_MODE m

/-- A curtain series that runs: an edge at 1 ms, the next at 9,333,333 ns. -/
def running (xs : List Act) : State :=
  with_ (.cur (fun c => { c with running := true, edge := 1000000, next := 9333333, clock := 1000000 }) :: xs)

/-- Tile 0 in service: 64 by 16 pixels, one region, on port 0. -/
def tile0 : List Act :=
  [.fld (Reg.TD_CTRL 0) Fld.TD_CTRL_EN 1, .fld (Reg.TD_GRID 0) Fld.TD_GRID_W 64, .fld (Reg.TD_GRID 0) Fld.TD_GRID_H 16,
   .fld Reg.BLK_REGIONS Fld.BLK_REGIONS_COUNT 1]

/-- The ticket of region 0 of tile 0, held by engine 0. -/
def ticket0 (st : TkState) (rescue : Bool) : Ticket :=
  { region := 0, tile := 0, serial := 0, state := st, engine := some 0, rescue := rescue, remove := none, retry := false, heldAt := 0,
    returned := 0, status := 0, parts := [] }

/-- An RGB frame of 640 by 480 pixels, 8 bits. -/
def vga : FrameFmt := ⟨0, 8, 0, false, false, 0, 0, 640, 480⟩

/-- Bank `n` is on and belongs to the master of a code (R439, R442). -/
def bankOf (n code : Nat) : List Act :=
  [.fld (Reg.BANK_PWR n) Fld.BANK_PWR_STATE 2, .fld (Reg.BANK_OWNER n) Fld.BANK_OWNER_OWNER code]

/-- The first local bank of clusters 0 and 15 is on and their own. -/
def banksOn : List Act := bankOf 0 0x10 ++ bankOf 360 0x1F

/-- One MiB of DRAM is usable. -/
def dramOn : Act := .fld Reg.DDR_CAP Fld.DDR_CAP_MIB 1

/-- The sequencer of bank 15 runs, with port 1023 up. -/
def seqRun (xs : List Act) : State :=
  running ([.fld (Reg.BS_STATUS 15) Fld.BS_STATUS_STATE bsRUN, .fld (Reg.PORT_CTRL 15 63) Fld.PORT_CTRL_EN 1, .port 1023 (fun p => { p with up := true })] ++ xs)

/-- The RAW block of the byte 7 (R469, R470). -/
def block7 : List Byte := leBytes 16 0xAFB0104E0000110000010001_4B505A4D ++ [7]

/-! ## Witnesses -/

theorem wit_StepRunsFrontCommand : ∃ (s : State) (c : Instr) (cs : List Instr), s.pending = c :: cs :=
  ⟨{ State.reset with pending := [.nop 0 0] }, .nop 0 0, [], rfl⟩

theorem wit_StepTicksOnEmptyQueue : ∃ s : State, s.pending = [] ∧ s.sys.refclk = true ∧ s.sys.vddAo = true ∧ -1000000 ≤ s.cur.slew :=
  ⟨State.reset, by decide⟩

theorem wit_StepKeepsInvariant : ∃ s t : State, s.Inv ∧ step s = .next t :=
  ⟨State.reset, _, by unfold State.Inv; decide, rfl⟩

theorem wit_MemoryReadsAsWritten :
    (∃ m n : SMap Byte, mapWf zeroByte m = true ∧ mapWf zeroByte n = true ∧ ∀ k, mapGet zeroByte m k = mapGet zeroByte n k)
    ∧ ∃ m : SMap Byte, mapWf zeroByte m = true :=
  ⟨⟨[(0, 1), (7, 2)], [(0, 1), (7, 2)], by decide, by decide, fun _ => rfl⟩, ⟨[(0, 1)], by decide⟩⟩

theorem wit_ReservedFieldsReadZero : ∃ s : State, s.Inv ∧ s.regs ≠ [] :=
  ⟨engRun 0 id, by unfold State.Inv; decide⟩

theorem wit_RegisterReadsAnswer :
    (∃ s a addr row ix, reaches s a addr false ∧ readsPlainly (actsFor a) addr row ix)
    ∧ (∃ s addr row ix, reaches s spi addr false ∧ readsPlainly 0 addr row ix)
    ∧ (∃ (s : State) (a : Acc) (addr : Nat) (row : RegRow) (ix : List Nat), mode s = mHOLD ∧ bindMode s a.t = 0 ∧ addr < 0x100000 ∧ absentAddr s addr = false
        ∧ readsPlainly a.t addr row ix)
    ∧ ∃ s a, reaches s a Reg.CUR_TIME_SEC_HI false :=
  ⟨⟨State.reset, spi, Reg.SYS_MODE, _, _, by unfold reaches; decide, by unfold readsPlainly isRegister; exact ⟨by decide, rfl, by decide, by decide⟩⟩,
   ⟨State.reset, Reg.SYS_MODE, _, _, by unfold reaches; decide, by unfold readsPlainly isRegister; exact ⟨by decide, rfl, by decide, by decide⟩⟩,
   ⟨with_ [inMode mHOLD], ⟨0, .pcie⟩, Reg.SYS_MODE, _, _, by decide, by decide, by decide, by decide,
    by unfold readsPlainly isRegister; exact ⟨by decide, rfl, by decide, by decide⟩⟩,
   ⟨State.reset, spi, by unfold reaches; decide⟩⟩

theorem wit_RegisterWritesAct :
    (∃ s a addr v row ix, reaches s a addr true ∧ writesPlainly s (actsFor a) addr v row ix)
    ∧ (∃ (s : State) (a : Acc) (addr : Nat) (v : Word) (row : RegRow) (ix : List Nat), s.Inv ∧ reaches s a addr true ∧ isRegister addr
        ∧ regRow? addr = some (row, ix) ∧ actingWrite (actsFor a) row.base (ix.headD 0) addr v = none ∧ mayWrite s (actsFor a) row ix = false)
    ∧ ∃ (s : State) (a : Acc) (x : Fin 6) (v : Word), s.Inv ∧ reaches s a (Reg.SRC_CTRL x) true ∧ actsFor a = 0
        ∧ getF v Fld.SRC_CTRL_MAX_LANES ≠ 3 ∧ getF v Fld.SRC_CTRL_MAX_RATE ≠ 3 ∧ getF v Fld.SRC_CTRL_FORCE = 1 :=
  ⟨⟨State.reset, spi, Reg.SRC_WAKE, 1, _, _, by unfold reaches; decide,
    by unfold writesPlainly isRegister; exact ⟨by decide, rfl, by decide, by decide, by decide, by decide, fun _ => rfl⟩⟩,
   ⟨with_ [.fld (Reg.TEN_BIND_CTRL 1) Fld.TEN_BIND_CTRL_MODE 1], ⟨1, .mgmt⟩, Reg.SRC_WAKE, 1, _, _, by unfold State.Inv; decide, by unfold reaches; decide,
    by unfold isRegister; decide, rfl, by decide, by decide⟩,
   ⟨State.reset, spi, 5, putF 0 Fld.SRC_CTRL_FORCE 1, by unfold State.Inv reaches; decide⟩⟩

theorem wit_AccessCodesAct : ∃ a1 a2 a3 a4 r1 r2 r3 r4 i1 i2 i3 i4,
    (regRow? a1 = some (r1, i1) ∧ (codeMask r1 0 .rw).getLsbD 0 = true ∧ (codeMask r1 0 .w1c).getLsbD 0 = false ∧ (codeMask r1 0 .w1s).getLsbD 0 = false)
    ∧ (regRow? a2 = some (r2, i2) ∧ (codeMask r2 0 .rwl).getLsbD 31 = true ∧ (codeMask r2 0 .rw).getLsbD 31 = false
        ∧ (codeMask r2 0 .w1c).getLsbD 31 = false ∧ (codeMask r2 0 .w1s).getLsbD 31 = false)
    ∧ (regRow? a3 = some (r3, i3) ∧ (codeMask r3 0 .w1c).getLsbD 0 = true ∧ (codeMask r3 0 .rw).getLsbD 0 = false
        ∧ (codeMask r3 0 .rwl).getLsbD 0 = false ∧ (codeMask r3 0 .w1s).getLsbD 0 = false)
    ∧ (regRow? a4 = some (r4, i4) ∧ (codeMask r4 0 .w1s).getLsbD 31 = true ∧ (codeMask r4 0 .rw).getLsbD 31 = false
        ∧ (codeMask r4 0 .rwl).getLsbD 31 = false ∧ (codeMask r4 0 .w1c).getLsbD 31 = false) :=
  ⟨Reg.SRC_WAKE, 0x3C, 0x00101000, Reg.CAD_PROTECT, _, _, _, _, _, _, _, _, ⟨rfl, by decide⟩, ⟨rfl, by decide⟩, ⟨rfl, by decide⟩,
    ⟨rfl, by decide⟩⟩

theorem wit_CommitTakesTheStagingSet : ∃ (s : State) (a : Acc) (w : Fin 8), s.Inv ∧ reaches s a (Reg.CUR_COMMIT w) true
    ∧ (actsFor a = 0 ∨ actsFor a = w.val) :=
  ⟨State.reset, spi, 7, by unfold State.Inv reaches; decide⟩

theorem wit_ReferenceIsFollowed :
    (∃ (s : State) (src : Fin 6) (phase : Int), s.Inv ∧ s.cur.refSrc ≠ 0 ∧ src.val = s.cur.refSrc ∧ (src.val = 1 ∨ src.val = 5)
        ∧ s.cur.missing = 0 ∧ phase.natAbs < 1000 ∧ lock s = lkLOCKED)
    ∧ (∃ s : State, s.Inv ∧ s.cur.refSrc = 1 ∧ s.cur.missing = 0 ∧ lock s = lkACQUIRE ∧ s.cur.good = 15)
    ∧ ∃ s : State, s.Inv ∧ s.cur.refSrc ≠ 0 ∧ s.cur.lastRef ≠ none ∧ lock s = lkLOCKED ∧ s.cur.missing = 2 :=
  ⟨⟨with_ [.cur (fun c => { c with refSrc := 5 }), .fld Reg.CUR_LOCK Fld.CUR_LOCK_STATE lkLOCKED], 5, -999, by unfold State.Inv; decide⟩,
   ⟨with_ [.cur (fun c => { c with refSrc := 1, good := 15 }), .fld Reg.CUR_LOCK Fld.CUR_LOCK_STATE lkACQUIRE], by unfold State.Inv; decide⟩,
   ⟨with_ [.cur (fun c => { c with refSrc := 1, lastRef := some 7, missing := 2 }), .fld Reg.CUR_LOCK Fld.CUR_LOCK_STATE lkLOCKED],
    by unfold State.Inv; decide⟩⟩

theorem wit_EdgesNeverDrift : ∃ s : State, s.cur.rateNext = none ∧ s.cur.moveNext = false ∧ s.cur.offset = 0
    ∧ (s.cur.next : Int) = edgeOf s.cur.anchor s.cur.rate (s.cur.n + 1) ∧ 0 ≤ edgeOf s.cur.anchor s.cur.rate (s.cur.n + 2) :=
  ⟨running [.cur (fun c => { c with anchor := 1000000, rate := 15, n := 0 })], by decide⟩

theorem wit_CurtainInstantsPass : ∃ s : State, s.cur.running = true ∧ s.Inv ∧ s.cur.closed = false ∧ s.cur.decided = false ∧ s.cur.interval = false
    ∧ (0 : Fin 8).val < slotCount (rdLamp s) :=
  ⟨running [], by unfold State.Inv; decide⟩

theorem wit_MarksAndOutputsFireAtTheirInstants :
    (∃ (s : State) (b : Fin 16) (j : Fin 8), s.cur.running = true ∧ j.val < slotCount (rdLamp s) ∧ now s ≤ markInstant s j
        ∧ ∃ p ∈ bankPorts b, portOn (rd s) p = true ∧ (port s p).up = true ∧ (port s p).startAt + 50000 ≤ markInstant s j - 1023)
    ∧ (∃ (s : State) (m j : Fin 8) (i : Nat), syncLive s = true ∧ getF (rdLamp s (Reg.CUR_CAMSYNC_CTRL m)) Fld.CUR_CAMSYNC_CTRL_EN = 1
        ∧ j.val < slotCount (rdLamp s) ∧ getF (rdLamp s (Reg.CUR_CAMSYNC_CTRL m)) Fld.CUR_CAMSYNC_CTRL_MODE = 1
        ∧ bitsOf (getF (rdLamp s (Reg.CUR_CAMSYNC_CTRL m)) Fld.CUR_CAMSYNC_CTRL_SLOT_MASK) j j = 1
        ∧ firstAt (now s) (slotInstants s j (sreg (rdLamp s (Reg.CUR_CAMSYNC_PHASE m)))) = some i)
    ∧ (∃ (s : State) (m : Fin 8), syncLive s = true ∧ bit s.cur.camsync m = true)
    ∧ (∃ (s : State) (o : Fin 4) (i : Nat), syncLive s = true ∧ getF (rdLamp s (Reg.CUR_SYNCOUT_CTRL o)) Fld.CUR_SYNCOUT_CTRL_EN = 1
        ∧ getF (rdLamp s (Reg.CUR_SYNCOUT_CTRL o)) Fld.CUR_SYNCOUT_CTRL_EVENT = 0
        ∧ firstAt (now s) (syncInstants s (rdLamp s) 0 0 (sreg (rdLamp s (Reg.CUR_SYNCOUT_PHASE o)))) = some i)
    ∧ ∃ (s : State) (o : Fin 4), syncLive s = true ∧ bit s.cur.syncOut o = true :=
  ⟨⟨running [.fld (Reg.PORT_CTRL 15 63) Fld.PORT_CTRL_EN 1, .port 1023 (fun p => { p with up := true })], 15, 0, by decide, by decide, by decide,
    1023, by decide⟩,
   ⟨running [.lamp (Reg.CUR_CAMSYNC_CTRL 7) (putF (putF (putF 0 Fld.CUR_CAMSYNC_CTRL_EN 1) Fld.CUR_CAMSYNC_CTRL_MODE 1)
      Fld.CUR_CAMSYNC_CTRL_SLOT_MASK 1)], 7, 0, 1000000, by decide⟩,
   ⟨running [.cur (fun c => { c with camsync := 0x80 })], 7, by decide⟩,
   ⟨running [.lamp (Reg.CUR_SYNCOUT_CTRL 3) (putF 0 Fld.CUR_SYNCOUT_CTRL_EN 1)], 3, 1000000, by decide⟩,
   ⟨running [.cur (fun c => { c with syncOut := 8 })], 3, by decide⟩⟩

theorem wit_SourcesFollowTheirLinks :
    (∃ (s : State) (x : Fin 4), s.Inv ∧ srcState s x ≠ ssOFF ∧ rf s (Reg.SRC_CTRL x) Fld.SRC_CTRL_HPD = 1)
    ∧ (∃ (s : State) (x : Fin 4), s.Inv ∧ (srcOf s x).linkUp = true ∧ srcState s x ≠ ssOFF)
    ∧ (∃ (s : State) (x : Fin 6) (l : Nat), s.Inv ∧ srcState s x = ssACTIVE ∧ (srcOf s x).lastArrival = some l)
    ∧ (∃ (s : State) (x : Fin 6), s.Inv ∧ mode s = mHOLD ∧ s.sys.waking = false ∧ bitsOf (rf s Reg.SRC_WAKE Fld.SRC_WAKE_EN) x x = 1
        ∧ bitsOf (rf s Reg.SYS_WAKE Fld.SYS_WAKE_EN) 0 0 = 1)
    ∧ (∃ (s : State) (x : Fin 6) (f : FrameFmt), s.Inv ∧ x.val < 4 ∧ srcState s x = ssACTIVE ∧ (srcOf s x).linkUp = true ∧ (srcOf s x).fmt = some f
        ∧ fmtOk x f 0 = true ∧ frameBytes f ≤ bufSize (rd s) x ∧ (srcOf s x).fmtRefused = false ∧ (srcOf s x).lastArrival ≠ none
        ∧ (srcOf s x).discardFirst = false)
    ∧ (∃ (s : State) (x : Fin 2) (p : NetPacket), s.Inv ∧ srcState s (4 + x) ≠ ssOFF ∧ packetOk s (4 + x) p = true ∧ packetNew s (4 + x) p = true)
    ∧ ∃ (s : State) (x : Fin 6), s.Inv ∧ 4 ≤ x.val ∧ (srcOf s x).netMarker ≠ none ∧ netComplete (srcOf s x) = false :=
  ⟨⟨with_ [.fld (Reg.SRC_FMT 3) Fld.SRC_FMT_STATE ssSEEKING, .fld (Reg.SRC_CTRL 3) Fld.SRC_CTRL_HPD 1], 3, by unfold State.Inv; decide⟩,
   ⟨with_ [.fld (Reg.SRC_FMT 3) Fld.SRC_FMT_STATE ssACTIVE, .src 3 (fun q => { q with linkUp := true })], 3, by unfold State.Inv; decide⟩,
   ⟨with_ [.fld (Reg.SRC_FMT 5) Fld.SRC_FMT_STATE ssACTIVE, .src 5 (fun q => { q with lastArrival := some 9 })], 5, 9, by unfold State.Inv; decide⟩,
   ⟨with_ [inMode mHOLD, .fld Reg.SRC_WAKE Fld.SRC_WAKE_EN 0x20, .fld Reg.SYS_WAKE Fld.SYS_WAKE_EN 1], 5, by unfold State.Inv; decide⟩,
   ⟨with_ [.fld (Reg.SRC_FMT 3) Fld.SRC_FMT_STATE ssACTIVE, .reg (Reg.SRC_MAXSIZE 3) 0x02000300,
      .src 3 (fun q => { q with linkUp := true, fmt := some vga, lastArrival := some 9 })], 3, vga, by unfold State.Inv; decide⟩,
   ⟨with_ [.fld (Reg.SRC_FMT 5) Fld.SRC_FMT_STATE ssSEEKING, .reg (Reg.SRC_FLOW_GRP_A 5) 0xEF010203, .fld (Reg.SRC_FLOW_PORT 5) Fld.SRC_FLOW_PORT_PORT_A 5004], 1,
      ⟨0, 0xEF010203, 5004, true, 0, false, true, 640, 480, []⟩, by unfold State.Inv; decide⟩,
   ⟨with_ [.src 4 (fun q => { q with netFirst := some 0, netMarker := some 1, netGot := [1] })], 4, by unfold State.Inv; decide⟩⟩

theorem wit_AdoptionTakesTheNewestFrame : (∃ s : State, s.cur.running = true) ∧ ∃ (s : State) (x : Nat) (a : Arrived), s.Inv ∧ srcState s x = ssACTIVE
    ∧ ((srcOf s x).arrived.filter (fun a => decide (a.stamp + 20000 ≤ now s))).getLast? = some a :=
  ⟨⟨running [], by decide⟩,
   ⟨running [.fld (Reg.SRC_FMT 2) Fld.SRC_FMT_STATE ssACTIVE, .src 2 (fun q => { q with arrived := [⟨1, 980000, vga⟩] })], 2, ⟨1, 980000, vga⟩,
    by unfold State.Inv; decide⟩⟩

theorem wit_PtpPortsAndPreviewsFollow :
    (∃ s : State, s.Inv ∧ rf s Reg.SRC_PTP Fld.SRC_PTP_EN = 1)
    ∧ ∃ (s : State) (p : Fin 2), s.Inv ∧ rf s (Reg.PVW_STATUS p) Fld.PVW_STATUS_HPD = 1 ∧ rf s (Reg.PVW_CTRL p) Fld.PVW_CTRL_EN = 1
        ∧ curtainMode (mode s) = true ∧ rf s (Reg.PVW_STATUS p) Fld.PVW_STATUS_TRAINED = 1 :=
  ⟨⟨with_ [.fld Reg.SRC_PTP Fld.SRC_PTP_EN 1], by unfold State.Inv; decide⟩,
   ⟨with_ [inMode mSHOW, .fld (Reg.PVW_STATUS 1) Fld.PVW_STATUS_HPD 1, .fld (Reg.PVW_CTRL 1) Fld.PVW_CTRL_EN 1,
      .fld (Reg.PVW_STATUS 1) Fld.PVW_STATUS_TRAINED 1], 1, by unfold State.Inv; decide⟩⟩

theorem wit_RegionsAreTicketed :
    (∃ (s : State) (a : Acc) (v : Word), actsFor a = 0 ∧ reaches s a Reg.STP_FORCE true ∧ getF v Fld.STP_FORCE_ALL = 1)
    ∧ (∃ (s : State) (a : Acc) (v : Word), actsFor a = 0 ∧ reaches s a Reg.STP_HELD_INV true ∧ getF v Fld.STP_HELD_INV_ALL = 1)
    ∧ ∃ (s : State) (g t i : Nat), s.cur.running = true ∧ s.stp.nextRegion ≤ g ∧ g < regionCount (rd s) ∧ tileOf (rd s) g = some (t, i)
        ∧ ticketsTile s t = true ∧ wantsTicket s g t i = true ∧ s.ddr.halted = false ∧ s.sys.supplyLoss = false
        ∧ rf s Reg.SYS_STATUS Fld.SYS_STATUS_GATED = 0 :=
  ⟨⟨State.reset, spi, putF 0 Fld.STP_FORCE_ALL 1, by unfold reaches; decide⟩,
   ⟨State.reset, spi, putF 0 Fld.STP_HELD_INV_ALL 1, by unfold reaches; decide⟩,
   ⟨running (.stp (fun q => { q with causes := { q.causes with all := true } }) :: tile0), 0, 0, 0, by decide +kernel⟩⟩

theorem wit_BundlesIssue :
    (∃ (s : State) (e : Fin 96) (co : Word), issues s e (sAlu (· + ·) 1 2 3) (decodeV co.toNat) ∧ co ≠ 0)
    ∧ (∃ (s : State) (e : Fin 96) (co : Word), issues s e (decodeS co.toNat 0) (vAlu (· + ·) 1 2 3 4))
    ∧ (∃ (s : State) (e : Fin 96), issues s e (sWaitev 1 3) (decodeV 0))
    ∧ (∃ (s : State) (e : Fin 96), engState s e = esRUN ∧ ((decodeS 0 0).illegal || (vMac 0 1 2 3 4).illegal) = true)
    ∧ (∃ (s : State) (e : Fin 96) (co : Word), engState s e = esRUN ∧ (sImm id 3 0).illegal = false ∧ (decodeV co.toNat).illegal = false
        ∧ (sImm id 3 0).writes.any (decodeV co.toNat).writes.contains = true)
    ∧ ∃ (s : State) (e : Fin 96), engState s e ≠ esRUN :=
  ⟨⟨engRun 95 id, 95, 0x18202000, by unfold issues; decide⟩, ⟨engRun 95 id, 95, 0, by unfold issues; decide⟩,
   ⟨engRun 95 id, 95, by unfold issues; decide⟩, ⟨engRun 95 id, 95, by decide⟩,
   ⟨engRun 95 id, 95, 0x88000003, by decide⟩, ⟨State.reset, 0, by decide⟩⟩

theorem wit_ScalarOperationsRetire : ∃ (s : State) (e : Fin 96), engState s e = esRUN ∧ (eng s e).sr 31 = 5 :=
  ⟨engRun 95 (fun g => g.putS 31 5), 95, by decide⟩

theorem wit_ScalarMemoryAccesses :
    (∃ (s : State) (e : Nat) (g : Engine) (sa : Nat) (imm : BitVec 16) (a : Nat), spaceAccess s (e / 6) (g.sr sa + sext imm).toNat 4 = .ok a
        ∧ bankUE s a 4 = false)
    ∧ (∃ (s : State) (e : Nat) (g : Engine) (sa a : Nat), spaceAccess s (e / 6) (g.sr sa).toNat 4 = .ok a ∧ bankUE s a 4 = false)
    ∧ (∃ (s : State) (e : Nat) (g : Engine) (sa : Nat) (imm : BitVec 16), spaceAccess s (e / 6) (g.sr sa + sext imm).toNat 4 = .bad flMISALIGNED)
    ∧ (∃ a size : Nat, a % size ≠ 0) ∧ (∃ a size : Nat, a % size = 0 ∧ 0x600000 ≤ a ∧ ¬ (0x01000000 ≤ a ∧ a < 0x01800000))
    ∧ ∃ (s : State) (c a f : Nat), spaceAccess s c a 4 = .ok f ∧ a < 0x600000 :=
  ⟨⟨with_ banksOn, 95, engDflt 95, 0, 0, 0x40000 * 24 * 15, by decide⟩, ⟨with_ banksOn, 95, engDflt 95, 0, 0x40000 * 24 * 15, by decide⟩,
   ⟨State.reset, 0, engDflt 0, 0, 2, by decide⟩, ⟨1, 2, by decide⟩, ⟨0x600000, 4, by decide⟩, ⟨with_ banksOn, 15, 0, 0x40000 * 24 * 15, by decide⟩⟩

theorem wit_BranchesGoOn : ∃ (s : State) (e : Fin 96) (sa : Fin 32), engState s e = esRUN ∧ (eng s e).loops.length < 2 ∧ (eng s e).sr sa ≠ 0
    ∧ (eng s e).sr 0 = 0 :=
  ⟨engRun 95 (fun g => { g.putS 31 5 with loops := [⟨0, 4, 1⟩] }), 95, 31, by decide⟩

theorem wit_WaitsAndTicketsAreKept :
    (∃ (s : State) (e : Nat), s.Inv ∧ e < 96 ∧ engState s e = esRUN ∧ issues s e sHalt nopSyl)
    ∧ (∃ (s : State) (e : Fin 96) (sd mask : Nat), s.Inv ∧ (eng s e).wait = some (.ev mask sd) ∧ (eng s e).evt &&& BitVec.ofNat 8 mask ≠ 0)
    ∧ (∃ (s : State) (e : Nat), nextTicket s e = none) ∧ ∃ (s : State) (e : Nat) (k : Ticket), nextTicket s e = some k :=
  ⟨⟨engRun 95 id, 95, by unfold State.Inv issues; decide⟩,
   ⟨engRun 95 (fun g => { g with wait := some (.ev 0xFF 31), evt := 0x80 }), 95, 31, 0xFF, by unfold State.Inv; decide⟩,
   ⟨State.reset, 0, by decide⟩,
   ⟨running (.stp (fun q => { q with tickets := [ticket0 .queued false] }) :: tile0), 0, ticket0 .queued false, by decide⟩⟩

theorem wit_VectorLanesTakeTheirResults :
    (∃ (s : State) (e : Fin 96) (md : Fin 32), engState s e = esRUN ∧ md.val ≤ 30) ∧ ∃ (h : Engine) (i : Nat), mapWf zeroWord h.v = true ∧ i < 32 :=
  ⟨⟨engRun 95 id, 95, 30, by decide⟩, ⟨engDflt 0, 31, by decide⟩⟩

theorem wit_VectorOperationsAct : ∃ vd : Nat, vd % 2 = 0 := ⟨62, by decide⟩

theorem wit_ScalarOperationsFrame : ∃ (s t : State) (e : Fin 96), s.Inv ∧ engState s e = esRUN ∧ waiting s = [] ∧ exec (.add e 1 2 3 0) s = .next t :=
  ⟨engRun 95 id, _, 95, by unfold State.Inv; decide, by decide, by decide, rfl⟩

theorem wit_ProgramFaultsHalt : ∃ (s : State) (e : Fin 96) (w : BitVec 64), s.Inv ∧ engState s e = esRUN ∧ heldTicket s e = none
    ∧ isIllegalOp s e w = true :=
  ⟨engRun 95 id, 95, 0xFFFFFFFFFFFFFFFF, by unfold State.Inv; decide⟩

/-- A call of engine 0 for lane 0 with its descriptor at address 0 of its first bank. -/
def call0 (lut : Bool) : UnitCall := { engine := 0, lut := lut, vd := 0, guard := 1, a := [0], b := [0], c := [0], desc := 0 }

/-- The call waits, and the window of its descriptor is `n` samples by `n` lines. -/
def calling (lut : Bool) (n : Nat) : State :=
  with_ (dramOn :: banksOn ++ [.stp (fun p => { p with calls := [call0 lut] }), .sram 28 (leBytes 2 n ++ leBytes 2 n)])

theorem wit_ClusterUnitsServe :
    (∃ (s : State) (c : Fin 16) (n : Fin 3) (k : UnitCall) (f : Nat), s.Inv ∧ smpOut s c n = false
      ∧ s.stp.calls.find? (fun q => !q.lut && q.engine / 6 == c.val) = some k ∧ k.desc.toNat % 32 = 0 ∧ k.desc.toNat < 0x600000
      ∧ unitAccess s (k.engine / 6) k.desc.toNat 32 = .ok f ∧ bankUE s f 32 = false
      ∧ ∃ i ∈ callLanes k, ∃ t ∈ tapsOf (smpDesc s f).crop (lanePos k i), inWindow (smpDesc s f) false t = false)
    ∧ (∃ (s : State) (c : Fin 16) (n : Fin 3) (k : UnitCall) (f : Nat), s.Inv ∧ smpOut s c n = false
      ∧ s.stp.calls.find? (fun q => !q.lut && q.engine / 6 == c.val) = some k ∧ k.desc.toNat % 32 = 0 ∧ k.desc.toNat < 0x600000
      ∧ unitAccess s (k.engine / 6) k.desc.toNat 32 = .ok f ∧ bankUE s f 32 = false
      ∧ ∀ i ∈ callLanes k, ((∀ t ∈ tapsOf (smpDesc s f).crop (lanePos k i), inWindow (smpDesc s f) false t = true)
          ∧ (∀ t ∈ tapsOf (chromaCrop (smpDesc s f).sampling (smpDesc s f).crop) (chromaPos (smpDesc s f).sampling (lanePos k i)),
              inWindow (smpDesc s f) true t = true))
        ∧ ∀ a ∈ laneReads (smpDesc s f) (lanePos k i), unitAccess s (k.engine / 6) a 1 = .ok a ∧ bankUE s a 1 = false)
    ∧ ∃ (s : State) (u : Fin 16) (k : UnitCall) (f : Nat), s.Inv ∧ lutOut s u = false ∧ lutCall s u = some k
      ∧ unitAccess s (k.engine / 6) k.desc.toNat 8 = .ok f ∧ bankUE s f 8 = false ∧ (∀ i ∈ callLanes k, isW20 (laneW k i) = true)
      ∧ ∀ i ∈ callLanes k, ∀ a ∈ lutReads s 0 (laneW k i), dramUE s a 2 = false :=
  ⟨⟨calling false 0, 0, 2, call0 false, 0, by unfold State.Inv; decide⟩, ⟨calling false 1, 0, 2, call0 false, 0, by unfold State.Inv; decide +kernel⟩,
   ⟨calling true 0, 0, call0 true, 0, by unfold State.Inv; decide⟩⟩

/-- Engine 0 holds the ticket of region 0 and has a descriptor of words `w` at address 0, its data at address 64. -/
def describing (w : List Nat) (xs : List Act) : State :=
  running (dramOn :: tile0 ++ banksOn ++ [.fld (Reg.ENG_STATUS 0) Fld.ENG_STATUS_STATE esRUN, .eng 0 (fun g => g.setSu 0 (fun q => { q with queue := [0] })),
    .stp (fun p => { p with tickets := [ticket0 .held false] }), .sram 0 (w.flatMap (leBytes 4))] ++ xs)

theorem wit_StreamUnitsWork :
    (∃ (s : State) (e : Fin 96) (u : Fin 2) (a : Nat), headDesc s e u = some a ∧ descWord s e a 0 % 16 = 0 ∧ rectBad s e a = true)
    ∧ (∃ (s : State) (e : Fin 96) (u : Fin 2) (a : Nat), headDesc s e u = some a ∧ descWord s e a 0 % 16 = 1 ∧ rectBad s e a = true)
    ∧ (∃ (s : State) (e : Fin 96) (u : Fin 2) (a : Nat), headDesc s e u = some a ∧ 4 ≤ descWord s e a 0 % 16)
    ∧ (∃ (s : State) (e : Fin 96) (u : Fin 2) (a : Nat), headDesc s e u = some a ∧ descWord s e a 0 % 16 = 0 ∧ rectBad s e a = false
        ∧ descLines s e a = [(64, 0)] ∧ unitAccess s (e / 6) 64 (lineBytes s e a) = .ok 64 ∧ dramUE s 0 (lineBytes s e a) = false)
    ∧ (∃ (s : State) (e : Fin 96) (u : Fin 2) (a : Nat), headDesc s e u = some a ∧ descWord s e a 0 % 16 = 1 ∧ rectBad s e a = false
        ∧ descLines s e a = [(64, 0)] ∧ unitAccess s (e / 6) 64 (lineBytes s e a) = .ok 64 ∧ bankUE s 64 (lineBytes s e a) = false
        ∧ dramRange s 0 (lineBytes s e a) = false)
    ∧ (∃ (s : State) (e : Fin 96) (u : Fin 2) (a lane x y : Nat) (out : List Byte), headDesc s e u = some a ∧ descWord s e a 0 % 16 = 2
        ∧ freeLane s = some lane ∧ descWord s e a 5 % 0x20000 ≠ 0 ∧ descWord s e a 4 % 65536 ≠ 0
        ∧ unitAccess s (e / 6) (descWord s e a 1) (descWord s e a 4 % 65536) = .ok y
        ∧ unitAccess s (e / 6) (descWord s e a 1) (max 1 out.length) = .ok x
        ∧ dramUE s (descWord s e a 2 + 2 ^ 32 * (descWord s e a 3 % 16)) (descWord s e a 5 % 0x20000) = false
        ∧ (match decodeBlock (dramBytes s (descWord s e a 2 + 2 ^ 32 * (descWord s e a 3 % 16)) (descWord s e a 5 % 0x20000)) (descWord s e a 4 % 65536) none with
           | .ok o => o == out | _ => false) = true ∧ out ≠ [])
    ∧ (∃ (s : State) (e : Fin 96) (u : Fin 2) (a : Nat), headDesc s e u = some a ∧ descWord s e a 0 % 16 = 3 ∧ postBad s e a = true)
    ∧ (∃ (s : State) (e : Fin 96) (u : Fin 2) (a : Nat), headDesc s e u = some a ∧ descWord s e a 0 % 16 = 3 ∧ postBad s e a = false
        ∧ postWithdrawn s e a = true)
    ∧ ∃ (s : State) (e : Fin 96) (u : Fin 2) (a x : Nat) (p : PostWork), headDesc s e u = some a ∧ descWord s e a 0 % 16 = 3 ∧ postBad s e a = false
        ∧ postWithdrawn s e a = false ∧ postOf s e a = some p ∧ unitAccess s (e / 6) (descWord s e a 1) (descWord s e a 2 % 0x40000) = .ok x
        ∧ bankUE s (0x40000 * 24 * (e / 6) + descWord s e a 1) (descWord s e a 2 % 0x40000) = false
        ∧ pushesPart s (crcKey p.ticket.region p.slot p.k) p.crc
            (unpackPart p.bytes (partLamps (rd s) p.ticket.tile (ticketIndex s p.ticket) p.k).length (fun _ => 0)) = true
        ∧ portClearing s p.port_ = false ∧ p.ticket.rescue = false
        ∧ pageRingUsed s (p.port_ / 64) + p.bytes.length + p.alt.length ≤ pageRingSize s (p.port_ / 64) :=
  ⟨⟨describing [0] [], 0, 0, 0, by decide⟩, ⟨describing [1] [], 0, 0, 0, by decide⟩, ⟨describing [4] [], 0, 0, 0, by decide⟩,
   ⟨describing [0, 64, 0, 0, 0x10004, 0, 0] [], 0, 0, 0, by decide⟩, ⟨describing [1, 64, 0, 0, 0x10004, 0, 0] [], 0, 0, 0, by decide⟩,
   ⟨describing [2, 64, 0, 0, 1, 17] [.dram 0 block7], 0, 0, 0, 0, 64, 64, [7], by decide +kernel⟩,
   ⟨describing [3, 0x600000, 4] [], 0, 0, 0, by decide⟩, ⟨describing [3, 64, 4, 0, 0x10000, 0x10000] [], 0, 0, 0, by decide⟩,
   ⟨describing [3, 64, 4, 0, 0x10000, 0] [.stp (fun p => { p with pushAll := true }), .fld (Reg.BS_RING 0) Fld.BS_RING_COUNT 1,
     .tile 0 (fun q => { q with met := true })], 0, 0, 0, 64,
     ⟨ticket0 .held false, 0, 0, 0, [0, 0, 0, 0], [], 1, 0⟩, by decide +kernel⟩⟩

theorem wit_ProgramStoreAndFaultsAct :
    (∃ (s : State) (a : Acc) (e : Fin 96), reaches s a (Reg.ENG_PDATA_LO e) true ∧ mayEngine s (actsFor a) e = true ∧ storeOpen s e = true
        ∧ reaches s a (Reg.ENG_PDATA_HI e) true ∧ reaches s a (Reg.ENG_PDATA_HI e) false)
    ∧ (∃ (s : State) (u : Fin 8), usFree s u = true)
    ∧ (∃ (s : State) (a : Acc) (e : Fin 96), mayEngine s (actsFor a) e = true ∧ storeOpen s e = false ∧ reaches s a (Reg.ENG_PDATA_HI e) true)
    ∧ (∃ (s : State) (e : Fin 96) (k : Ticket), heldTicket s e = some k ∧ rf s (Reg.ENG_WDOG e) Fld.ENG_WDOG_LIMIT ≠ 0 ∧ engState s e = esRUN)
    ∧ (∃ (s : State) (e : Fin 96), (allEngines s).contains e.val = true ∧ engState s e ≠ esMAPPED_OUT ∧ engState s e ≠ esOFF ∧ s.Inv) :=
  ⟨⟨State.reset, spi, 95, by unfold reaches; decide⟩,
   ⟨with_ [.fld (Reg.ENG_US 7) Fld.ENG_US_EN 1, .fld (Reg.ENG_US 7) Fld.ENG_US_ENGINE 95, .fld (Reg.ENG_STATUS 95) Fld.ENG_STATUS_STATE esSTANDBY,
     .fld (Reg.ENG_STATUS 95) Fld.ENG_STATUS_COVERS 0x7F], 7, by decide⟩,
   ⟨engRun 95 id, spi, 95, by unfold reaches; decide⟩,
   ⟨describing [] [.fld (Reg.ENG_WDOG 0) Fld.ENG_WDOG_LIMIT 1], 0, ticket0 .held false, by decide⟩,
   ⟨engRun 95 id, 95, by unfold State.Inv; decide⟩⟩

theorem wit_SequencerInstructionsAct :
    (∃ (s : State) (b : Fin 16) (k : Fin 16) (v : Bool), bsState s b = bsRUN ∧ bsCond (runEffs s ((bankPorts b).map windowMiss)) b k = some v
        ∧ (bseq (runEffs s ((bankPorts b).map windowMiss)) b).full = false)
    ∧ (∃ (s : State) (b : Fin 16), bsState s b = bsRUN ∧ (bseq (runEffs s ((bankPorts b).map windowMiss)) b).full = true)
    ∧ (∃ k : Fin 16, 8 ≤ k.val) ∧ (∃ k : Fin 8, k.val = 5 ∨ k.val = 6) ∧ (∃ k : Fin 8, k.val ≠ 5 ∧ k.val ≠ 6)
    ∧ (∃ imm : Fin 65536, imm.val / 256 ≠ kCUR ∧ imm.val / 256 ≠ kSTB) ∧ ∃ imm : Fin 65536, imm.val / 256 = kCUR ∨ imm.val / 256 = kSTB :=
  ⟨⟨seqRun [], 15, 7, false, by decide +kernel⟩, ⟨seqRun [.bseq 15 (fun q => { q with full := true })], 15, by decide +kernel⟩,
   ⟨15, by decide⟩, ⟨6, by decide⟩, ⟨7, by decide⟩, ⟨0, by decide⟩, ⟨⟨256 * kCUR, by decide⟩, by decide⟩⟩

/-- An ECHO to chain 0, driver 0, with its answer due. -/
def echo0 (tries : Nat) : Req := ⟨⟨pkECHO, 0, 0, 0, [0, 0]⟩, true, tries, .echo, 0, 0⟩

theorem wit_SequencersSendAndAreTold :
    (∃ (s : State) (b : Fin 16), bsState s b = bsRUN ∧ s.stp.bgReady.filter (·.2) = [])
    ∧ (∃ (u : State) (p : Nat) (x : LineBuf), (port u p).bufs = [x] ++ (port u p).bufs.drop 1)
    ∧ (∃ (s : State) (a : Acc) (b : Fin 16), reaches s a (Reg.BS_UDATA_HI b) true ∧ actsFor a = 0 ∧ (bsState s b = bsOFF ∨ bsState s b = bsHALT))
    ∧ (∃ (s : State) (a : Acc) (b : Fin 16), reaches s a (Reg.BS_UDATA_HI b) true ∧ actsFor a = 0 ∧ (bsState s b = bsRUN ∨ bsState s b = bsFAULT))
    ∧ (∃ (s : State) (a : Acc) (b : Fin 16), reaches s a (Reg.BS_STATUS b) false) ∧ ∃ (s : State) (p : Fin 1024), (port s p).up = true :=
  ⟨⟨seqRun [], 15, by decide⟩, ⟨seqRun [.port 1023 (fun p => { p with bufs := [⟨3, (echo0 0).pkt, some (echo0 0), none⟩] })], 1023,
      ⟨3, (echo0 0).pkt, some (echo0 0), none⟩, by decide⟩,
   ⟨State.reset, spi, 15, by unfold reaches; decide⟩, ⟨seqRun [], spi, 15, by unfold reaches; decide⟩,
   ⟨State.reset, spi, 15, by unfold reaches; decide⟩, ⟨seqRun [], 1023, by decide⟩⟩

/-- Port 1023 with a window open for driver 0 of chain 0 and a request sent. -/
def windowed (r : Req) : State := seqRun [.port 1023 (fun p => { p with window := some (0, 0), sent := [r] })]

/-- A return packet of that driver. -/
def ret (ok : Bool) (tag : Fin 256) : RetHead := ⟨1023, 0, 0, ok, tag⟩

theorem wit_ReturnPacketsAreTaken :
    (∃ (s : State) (h : RetHead), (port s h.port).window = some (h.chain.val, h.driver.val) ∧ h.ok = true ∧ portTile (rd s) h.port = none)
    ∧ (∃ (s : State) (h : RetHead) (t : Nat), (port s h.port).window = some (h.chain.val, h.driver.val) ∧ h.ok = true ∧ portTile (rd s) h.port = some t)
    ∧ (∃ (s : State) (h : RetHead) (r : Req), (port s h.port).window = some (h.chain.val, h.driver.val) ∧ h.ok = true ∧ asked s h = some r
        ∧ r.pkt.typ = pkECHO)
    ∧ (∃ (s : State) (h : RetHead) (r : Req), (port s h.port).window = some (h.chain.val, h.driver.val) ∧ h.ok = true ∧ asked s h = some r
        ∧ r.pkt.typ = pkREAD_REQ ∧ h.tag.val = (r.pkt.payload.getD 1 0).toNat ∧ r.why = .regs ∧ r.pkt.payload.getD 0 0 ≠ 1)
    ∧ (∃ (s : State) (h : RetHead) (r : Req) (first : Nat), (port s h.port).window = some (h.chain.val, h.driver.val) ∧ h.ok = true ∧ asked s h = some r
        ∧ r.pkt.typ = pkSERVICE ∧ r.why = .diag first)
    ∧ (∃ (s : State) (h : RetHead) (r : Req), (port s h.port).window = some (h.chain.val, h.driver.val) ∧ h.ok = false ∧ asked s h = some r ∧ r.tries < 2)
    ∧ ∃ (s : State) (h : RetHead) (r : Req), (port s h.port).window = some (h.chain.val, h.driver.val) ∧ h.ok = false ∧ asked s h = some r ∧ 2 ≤ r.tries :=
  ⟨⟨windowed (echo0 0), ret true 0, by decide +kernel⟩,
   ⟨running (tile0 ++ [.port 0 (fun p => { p with window := some (0, 0) })]), ⟨0, 0, 0, true, 0⟩, 0, by decide +kernel⟩,
   ⟨windowed (echo0 0), ret true 0, echo0 0, by decide +kernel⟩,
   ⟨windowed ⟨⟨pkREAD_REQ, 0, 0, 0, [0, 9]⟩, true, 0, .regs, 0, 0⟩, ret true 9, ⟨⟨pkREAD_REQ, 0, 0, 0, [0, 9]⟩, true, 0, .regs, 0, 0⟩, by decide +kernel⟩,
   ⟨windowed ⟨⟨pkSERVICE, 0, 0, 0, [1, 0]⟩, true, 0, .diag 4, 0, 0⟩, ret true 0, ⟨⟨pkSERVICE, 0, 0, 0, [1, 0]⟩, true, 0, .diag 4, 0, 0⟩, 4, by decide +kernel⟩,
   ⟨windowed (echo0 1), ret false 0, echo0 1, by decide +kernel⟩, ⟨windowed (echo0 2), ret false 0, echo0 2, by decide +kernel⟩⟩

/-- The driver numbered 0 of chain 0 of port 0, a packet addressed to it, and one for another. -/
def drv0 : DrvAt := ⟨0, 0, 0⟩
def fwd0 : FwdHead := ⟨true, 15, 255⟩

theorem wit_DriversTakePackets :
    (∃ (s : State) (w : DrvAt) (h : FwdHead) (bs : List Byte), chainOff s (drvKey w) = false ∧ (drv s (drvKey w)).locked = true ∧ h.ok = false
        ∧ bs.length = 16)
    ∧ (∃ (s : State) (w : DrvAt) (h : FwdHead) (bs : List Byte), chainOff s (drvKey w) = false ∧ (drv s (drvKey w)).locked = true ∧ h.ok = true
        ∧ addressed w h = false ∧ bs.length = 16)
    ∧ (∃ (s : State) (w : DrvAt) (h : FwdHead), chainOff s (drvKey w) = false ∧ (drv s (drvKey w)).locked = true ∧ h.ok = true ∧ addressed w h = true)
    ∧ (∃ bs : List Byte, bs.length % 2 = 1) ∧ (∃ bs : List Byte, bs.length % 2 = 0 ∧ bs.length = 512) ∧ (∃ bs : List Byte, sparseLen bs = true)
    ∧ (∃ bs : List Byte, bs.length = 10) ∧ (∃ bs : List Byte, 4 ≤ bs.length ∧ bs.length = 64 ∧ bs.length % 4 = 0)
    ∧ (∃ bs : List Byte, bs.length = 4) ∧ ∃ bs : List Byte, bs.length = 2 + 7 * (bs.getD 0 0).toNat :=
  ⟨⟨State.reset, drv0, { fwd0 with ok := false }, List.replicate 16 0, by decide⟩, ⟨State.reset, drv0, { fwd0 with driver := 1 }, List.replicate 16 0, by decide⟩,
   ⟨State.reset, drv0, fwd0, by decide⟩, ⟨[0], by decide⟩, ⟨List.replicate 512 0, by rw [List.length_replicate]; decide⟩, ⟨[1, 0, 0], by decide⟩, ⟨List.replicate 10 0, by decide⟩,
   ⟨List.replicate 64 0, by decide⟩, ⟨[0, 0, 0, 0], by decide⟩, ⟨[0, 0], by decide⟩⟩

/-- Driver 0 with some of its data changed. -/
def driving (f : Driver → Driver) : State := with_ [.drv 0 f]

theorem wit_DriverMarksAct :
    (∃ (s : State) (w : DrvAt) (sym : Byte), s.Inv ∧ chainOff s (drvKey w) = false ∧ (drv s (drvKey w)).locked = true
        ∧ (drv s (drvKey w)).curs.find? (fun q => q.1 % 256 == sym.toNat) = none ∧ (drv s (drvKey w)).reqs = [])
    ∧ (∃ (s : State) (w : DrvAt) (sym : Byte) (c : Nat × List Byte), s.Inv ∧ chainOff s (drvKey w) = false ∧ (drv s (drvKey w)).locked = true
        ∧ (drv s (drvKey w)).curs.find? (fun q => q.1 % 256 == sym.toNat) = some c ∧ (drv s (drvKey w)).power = [])
    ∧ (∃ (s : State) (w : DrvAt) (a : Nat) (v : Word), s.Inv ∧ chainOff s (drvKey w) = false ∧ (drv s (drvKey w)).locked = true
        ∧ (drv s (drvKey w)).writes = [(a, v)] ∧ 0x10C ≤ a ∧ a < 0x134 ∧ mapWf drvWord (drv s (drvKey w)).regs = true)
    ∧ ∃ (s : State) (w : DrvAt) (chain : Fin 16) (driver : Fin 256) (q : DrvReq) (rest : List DrvReq), s.Inv ∧ chainOff s (drvKey w) = false
        ∧ (drv s (drvKey w)).locked = true ∧ chain.val = w.chain.val ∧ driver.val = w.driver.val ∧ (drv s (drvKey w)).reqs = q :: rest :=
  ⟨⟨State.reset, drv0, 7, by unfold State.Inv; decide⟩,
   ⟨driving (fun d => { d with curs := [(0x107, [])] }), drv0, 7, (0x107, []), by unfold State.Inv; decide⟩,
   ⟨driving (fun d => { d with writes := [(0x133, 9)] }), drv0, 0x133, 9, by unfold State.Inv; decide⟩,
   ⟨driving (fun d => { d with reqs := [⟨pkECHO_REPLY, 3, []⟩] }), drv0, 0, 0, ⟨pkECHO_REPLY, 3, []⟩, [], by unfold State.Inv; decide⟩⟩

theorem wit_DriverLinesAndServicesAct :
    (∃ (s : State) (w : DrvAt) (h : FwdHead), chainOff s (drvKey w) = false ∧ (drv s (drvKey w)).locked = true ∧ h.ok = true ∧ addressed w h = true
        ∧ (drv s (drvKey w)).taken.find? (fun q => q.1 == (0 : Fin 4).val) = none)
    ∧ (∃ (s : State) (cur8 : Byte), s.cur.running = true ∧ (rf s Reg.CUR_NUM Fld.CUR_NUM_NUM + 1) % 256 = cur8.toNat ∧ now s + 600000 ≤ s.cur.next)
    ∧ (∃ (s : State) (w : DrvAt) (sensor : Fin 4) (q : Nat × Nat), (drv s (drvKey w)).taken.find? (fun q => q.1 == sensor.val) = some q)
    ∧ (∃ (s : State) (w : DrvAt), (drv s (drvKey w)).locked = true)
    ∧ (∃ (s : State) (w : DrvAt) (t : Nat), (drv s (drvKey w)).lostAt = some t ∧ (drv s (drvKey w)).lit = true ∧ (drv s (drvKey w)).holds = false
        ∧ chainOff s (drvKey w) = false)
    ∧ ∃ (s : State) (w : DrvAt) (t : Nat), chainOff s (drvKey w) = true ∧ (drv s (drvKey w)).lostAt = some t :=
  ⟨⟨State.reset, drv0, fwd0, by decide⟩, ⟨running [], 1, by decide⟩,
   ⟨driving (fun d => { d with taken := [(3, 1)] }), drv0, 3, (3, 1), by decide⟩, ⟨State.reset, drv0, by decide⟩,
   ⟨driving (fun d => { d with lostAt := some 5, lit := true, locked := false }), drv0, 5, by decide⟩,
   ⟨with_ [.drive (fun q => { q with logics := [(0, true)] }), .drv 0 (fun d => { d with lostAt := some 5, locked := false })], drv0, 5, by decide⟩⟩

/-- Tile 0 in service with its power state, TARGET and sequence set. -/
def tileAt (st target : Nat) (f : TilePwr → TilePwr) (xs : List Act) : State :=
  with_ (tile0 ++ [.fld (Reg.TD_POWER 0) Fld.TD_POWER_STATE st, .fld (Reg.TD_POWER 0) Fld.TD_POWER_TARGET target, .tile 0 f] ++ xs)

/-- Port 0 is ALIVE or in another state. -/
def port0 (st : Nat) : Act := .fld (Reg.PORT_STATE 0 0) Fld.PORT_STATE_STATE st

theorem wit_TilesAndLinesAreBroughtUp :
    (∃ (s : State) (t : Fin 1024), tileOn (rd s) t = true ∧ s.Inv ∧ (tilePwr s t).phase = 9 ∧ (tilePwr s t).railAt ≠ none)
    ∧ (∃ (s : State) (t : Fin 1024), tileOn (rd s) t = true ∧ (tilePwr s t).phase ≠ 9 ∧ tileState s t = tpLOGIC_OFF ∧ tileTarget s t ≠ 0
        ∧ ∀ p ∈ tilePortList (rd s) t, portState s p = psALIVE)
    ∧ (∃ (s : State) (t : Fin 1024), tileOn (rd s) t = true ∧ (tilePwr s t).phase ≠ 9 ∧ tileState s t = tpINIT ∧ (tilePwr s t).phase ≠ 0
        ∧ awaits s (tilePortList (rd s) t) isInitWrite = false ∧ tileTarget s t ≠ 0)
    ∧ (∃ (s : State) (t : Fin 1024), tileOn (rd s) t = true ∧ tileState s t = tpCLEAR ∧ (tilePwr s t).phase = 0
        ∧ clearWrites s (tilePortList (rd s) t) = false)
    ∧ (∃ (s : State) (t : Fin 1024), tileOn (rd s) t = true ∧ tileState s t = tpCLEAR ∧ (tilePwr s t).phase = 1
        ∧ awaits s (tilePortList (rd s) t) isClear = false)
    ∧ (∃ (s : State) (t : Fin 1024), tileOn (rd s) t = true ∧ tileState s t = tpCLEAR ∧ (tilePwr s t).phase = 2 ∧ tileTarget s t ≠ 0)
    ∧ (∃ (s : State) (t : Fin 1024), tileOn (rd s) t = true ∧ tileState s t = tpCLEAR ∧ (tilePwr s t).phase = 3 ∧ reports s t 2 = true)
    ∧ (∃ (s : State) (t : Fin 1024), tileOn (rd s) t = true ∧ tileState s t = tpRAIL_ON ∧ (tilePwr s t).phase = 3 ∧ tileTarget s t = 2
        ∧ (tilePwr s t).met = true ∧ (tilePwr s t).light = none ∧ (tilePwr s t).lightSent = none)
    ∧ (∃ (s : State) (t : Fin 1024), tileOn (rd s) t = true ∧ (tilePwr s t).phase ≠ 9 ∧ tileState s t = tpLIGHT_ON ∧ tileTarget s t < 2
        ∧ (tilePwr s t).light = none ∧ (tilePwr s t).lightSent = none)
    ∧ (∃ (s : State) (t : Fin 1024), tileOn (rd s) t = true ∧ tileState s t = tpLIGHT_OFF ∧ (tilePwr s t).phase = 3 ∧ tileTarget s t = 0)
    ∧ (∃ (s : State) (t : Fin 1024), tileOn (rd s) t = true ∧ tileState s t = tpRAIL_ON ∧ (tilePwr s t).phase = 5 ∧ reports s t 1 = true)
    ∧ (∃ (s : State) (t : Fin 1024), tileOn (rd s) t = true ∧ (tilePwr s t).phase ≠ 9 ∧ tileState s t = tpRAIL_OFF)
    ∧ (∃ (s : State) (t : Fin 1024), tileOn (rd s) t = true ∧ (tilePwr s t).phase ≠ 9 ∧ tileState s t = tpFAULT ∧ tileTarget s t = 0)
    ∧ (∃ (s : State) (t : Fin 1024), tileOn (rd s) t = true ∧ (tilePwr s t).phase ≠ 9 ∧ tileState s t = tpFAULT ∧ tileTarget s t ≠ 0)
    ∧ (∃ (s : State) (t : Fin 1024) (a : Nat), tileOn (rd s) t = true ∧ (tilePwr s t).railAt = some a ∧ (tilePwr s t).railDone = false
        ∧ (tilePwr s t).phase = 3)
    ∧ (∃ (s : State) (t : Fin 1024) (a : Nat), tileOn (rd s) t = true ∧ (tilePwr s t).railAt = some a ∧ (tilePwr s t).railDone = false
        ∧ (tilePwr s t).phase = 5)
    ∧ (∃ (s : State) (t : Fin 1024), tileOn (rd s) t = true ∧ waitsReport s t = true)
    ∧ ∃ (s : State) (p : Fin 1024) (t : Nat), s.Inv ∧ portTile (rd s) p = some t ∧ tileState s t = tpLOGIC_OFF ∧ 0 < tileTarget s t
        ∧ portState s p = psSILENT ∧ bsState s (p / 64) ≠ bsOFF :=
  ⟨⟨tileAt tpFAULT 1 (fun q => { q with phase := 9, railAt := some 3 }) [], 0, by unfold State.Inv; decide⟩,
   ⟨tileAt tpLOGIC_OFF 2 id [port0 psALIVE], 0, by decide⟩, ⟨tileAt tpINIT 1 (fun q => { q with phase := 1 }) [], 0, by decide⟩,
   ⟨tileAt tpCLEAR 1 (fun q => { q with phase := 0 }) [], 0, by decide⟩, ⟨tileAt tpCLEAR 1 (fun q => { q with phase := 1 }) [], 0, by decide⟩,
   ⟨tileAt tpCLEAR 1 (fun q => { q with phase := 2 }) [], 0, by decide⟩,
   ⟨tileAt tpCLEAR 1 (fun q => { q with phase := 3, railDone := true, chains := [(0, 1)], waitFrom := 4 })
      [.far 0 (fun f => { f with state := some 2, stateAt := 4 })], 0, by decide⟩,
   ⟨tileAt tpRAIL_ON 2 (fun q => { q with phase := 3, met := true }) [], 0, by decide⟩, ⟨tileAt tpLIGHT_ON 1 id [], 0, by decide⟩,
   ⟨tileAt tpLIGHT_OFF 0 (fun q => { q with phase := 3 }) [], 0, by decide⟩,
   ⟨tileAt tpRAIL_ON 0 (fun q => { q with phase := 5, railDone := true, chains := [(0, 1)], waitFrom := 4 })
      [.far 0 (fun f => { f with state := some 1, stateAt := 4 })], 0, by decide⟩,
   ⟨tileAt tpRAIL_OFF 0 id [], 0, by decide⟩, ⟨tileAt tpFAULT 0 id [], 0, by decide⟩, ⟨tileAt tpFAULT 1 id [], 0, by decide⟩,
   ⟨tileAt tpCLEAR 1 (fun q => { q with phase := 3, railAt := some 6 }) [], 0, 6, by decide⟩,
   ⟨tileAt tpRAIL_ON 0 (fun q => { q with phase := 5, railAt := some 6 }) [], 0, 6, by decide⟩,
   ⟨tileAt tpINIT 1 id [], 0, by decide⟩,
   ⟨tileAt tpLOGIC_OFF 1 id [port0 psSILENT, .fld (Reg.BS_STATUS 0) Fld.BS_STATUS_STATE bsRUN], 0, 0, by unfold State.Inv; decide +kernel⟩⟩

theorem wit_LampStatesAreKept :
    (∃ (s : State) (p : Fin 1024) (t i g j : Nat), portTile (rd s) p = some t ∧ rf s Reg.DRV_CTRL Fld.DRV_CTRL_SCRUB ≠ 0 ∧ awaits s [p] isRead = false
        ∧ portClearing s p = false ∧ scrubParts s t p ≠ []
        ∧ (scrubParts s t p)[(port s p).scrub % (scrubParts s t p).length]? = some (i, g, j))
    ∧ (∃ s : State, s.drive.winOn = false)
    ∧ (∃ s : State, s.drive.winOn = true ∧ s.drive.winLate = false ∧ awaits s ((tilesOn (rd s)).flatMap (tilePortList (rd s))) isDiag = true)
    ∧ (∃ (s : State) (a : Acc) (v : Word) (t : Nat), reaches s a Reg.DRV_LAMP_SET_A true ∧ portTile (rd s) (getF v Fld.DRV_LAMP_SET_A_PORT) = some t
        ∧ actsFor a = 0 ∧ getF v Fld.DRV_LAMP_SET_A_LAMP < lampsOfPort (rd s) (getF v Fld.DRV_LAMP_SET_A_PORT))
    ∧ (∃ (s : State) (a : Acc) (v : Word) (t : Nat), reaches s a Reg.DRV_LAMP_SET_A true ∧ portTile (rd s) (getF v Fld.DRV_LAMP_SET_A_PORT) = some t
        ∧ actsFor a ≠ 0 ∧ ownerOf s 3 t ≠ actsFor a)
    ∧ (∃ (s : State) (a : Acc) (v : Word) (p lamp t ep : Nat), reaches s a Reg.DRV_LAMP_SET_B true
        ∧ mapGet noLatch s.drive.latch (actsFor a) = some (p, lamp, t, ep) ∧ getF v Fld.DRV_LAMP_SET_B_STATE = 4 ∧ epochOf s 3 t ≠ ep)
    ∧ ∃ (s : State) (a : Acc) (v : Word) (p lamp t ep : Nat), reaches s a Reg.DRV_LAMP_SET_B true
        ∧ mapGet noLatch s.drive.latch (actsFor a) = some (p, lamp, t, ep) ∧ getF v Fld.DRV_LAMP_SET_B_STATE = 1 ∧ epochOf s 3 t = ep ∧ actsFor a = 0 :=
  ⟨⟨tileAt tpLIGHT_ON 2 (fun q => { q with met := true })
      [.fld Reg.DRV_CTRL Fld.DRV_CTRL_SCRUB 1, .stp (fun p => { p with crc := mapPut crcDflt p.crc (crcKey 0 0 0) (some 5) })], 0, 0, 0, 0, 0, by decide +kernel⟩,
   ⟨State.reset, by decide⟩,
   ⟨tileAt tpLIGHT_ON 2 id [.drive (fun d => { d with winOn := true }),
      .port 0 (fun p => { p with house := [⟨⟨pkSERVICE, 0, 0, 0, []⟩, true, 0, .diag 0, 0, 0⟩] })], by decide +kernel⟩,
   ⟨tileAt tpLIGHT_ON 2 id [], spi, 0, 0, by unfold reaches; decide +kernel⟩,
   ⟨tileAt tpLIGHT_ON 2 id [.fld (Reg.TEN_BIND_CTRL 1) Fld.TEN_BIND_CTRL_MODE 1], ⟨1, .mgmt⟩, 0, 0, by unfold reaches; decide +kernel⟩,
   ⟨with_ [.drive (fun d => { d with latch := mapPut noLatch d.latch 0 (some (0, 0, 0, 9)) })], spi, putF 0 Fld.DRV_LAMP_SET_B_STATE 4, 0, 0, 0, 9,
      by unfold reaches; decide⟩,
   ⟨with_ [.drive (fun d => { d with latch := mapPut noLatch d.latch 0 (some (0, 0, 0, 0)) })], spi, putF 0 Fld.DRV_LAMP_SET_B_STATE 1, 0, 0, 0, 0,
      by unfold reaches; decide⟩⟩

/-- A run of tile 0 that has its readings. -/
def run0 : CalRun :=
  { tile := 0, start := 0, reh := false, got := 1, step := 0, phase := 4, expect := 0, flats := [], loads := [], left := [], kept := [], data := [],
    badNow := [], bad := [0, 0, 0, 0], stamp := 0, temp := none, hot := none }

/-- The run stands, with gain `g` of every colour and MAX_STEP 512. -/
def gaining (g : Nat) : State :=
  with_ (tile0 ++ [.cal (fun c => { c with runs := [run0] }), .fld (Reg.TC_GAIN_RG 0) Fld.TC_GAIN_RG_G_R g, .fld (Reg.TC_GAIN_RG 0) Fld.TC_GAIN_RG_G_G g,
    .fld (Reg.TC_GAIN_B 0) Fld.TC_GAIN_B_G_B g, .fld Reg.CAL_CTRL Fld.CAL_CTRL_MAX_STEP 16])

/-- Does a run of tile 0 move a gain beyond MAX_STEP? -/
def stepsFar (s : State) (e : List (Int × Nat)) : Bool :=
  (List.range 3).any (fun k => decide (gainOf s 0 k * rf s Reg.CAL_CTRL Fld.CAL_CTRL_MAX_STEP
    < 256 * (max (gainOf s 0 k) (targetGain (rec2 s (rd s) 0 (6 + 2 * k)) (e.getD k (1, 1)))
      - min (gainOf s 0 k) (targetGain (rec2 s (rd s) 0 (6 + 2 * k)) (e.getD k (1, 1))))))

theorem wit_CalibrationAndMonitorsRun :
    (∃ (s : State) (a : Acc) (v : Word), reaches s a Reg.CAL_RUN true ∧ actsFor a = 0 ∧ getF v Fld.CAL_RUN_GO = 1 ∧ tileOn (rd s) (getF v Fld.CAL_RUN_TILE) = true
        ∧ rf s (Reg.TC_CTRL (getF v Fld.CAL_RUN_TILE)) Fld.TC_CTRL_AUTO = 1 ∧ sensors (rd s) (getF v Fld.CAL_RUN_TILE) ≠ 0
        ∧ s.cal.queue.any (fun q => q.1 == getF v Fld.CAL_RUN_TILE) = false)
    ∧ (∃ (s : State) (q : CalRun) (e : List (Int × Nat)), s.cal.runs.find? (fun q => q.tile == 0) = some q ∧ q.phase = 4 ∧ e.length = 3
        ∧ (∀ x ∈ e, 0 < x.1 ∧ 0 < x.2) ∧ stepsFar s e = true)
    ∧ (∃ (s : State) (q : CalRun) (e : List (Int × Nat)), s.cal.runs.find? (fun q => q.tile == 0) = some q ∧ q.phase = 4 ∧ e.length = 3
        ∧ (∀ x ∈ e, 0 < x.1 ∧ 0 < x.2) ∧ stepsFar s e = false)
    ∧ (∃ (s : State) (a : Acc) (v : Word), reaches s a Reg.CAL_TRIM true ∧ actsFor a = 0 ∧ getF v Fld.CAL_TRIM_GO = 1)
    ∧ (∃ (s : State) (b : Fin 16) (swing dly : List Int), bit s.cal.trimWant b = true ∧ bsState s b = bsRUN ∧ awaits s (bankPorts b) isInitRead = false
        ∧ ∀ x ∈ swing ++ dly, -8 ≤ x ∧ x ≤ 7)
    ∧ (∃ swing dly : List Int, ∃ x ∈ swing ++ dly, x < -8 ∨ 7 < x)
    ∧ (∃ (s : State) (a : Fin 8), s.Inv ∧ s.sys.vddAo = true ∧ rf s (Reg.AMON_CTRL a) Fld.AMON_CTRL_EN = 1 ∧ rf s (Reg.AMON_VALUE a) Fld.AMON_VALUE_STATE ≠ 2)
    ∧ (∃ sa sb : Fin 4096, sa.val + 1024 ≤ sb.val) ∧ ∃ sa sb : Fin 4096, sb.val < sa.val + 1024 :=
  ⟨⟨with_ (tile0 ++ [.fld (Reg.TC_CTRL 0) Fld.TC_CTRL_AUTO 1, .fld (Reg.TC_CTRL 0) Fld.TC_CTRL_SENSORS 1]), spi, putF 0 Fld.CAL_RUN_GO 1,
      by unfold reaches; decide +kernel⟩,
   ⟨gaining 65535, run0, [(1, 1), (1, 1), (1, 1)], by decide +kernel⟩, ⟨gaining 16384, run0, [(1, 1), (1, 1), (1, 1)], by decide +kernel⟩,
   ⟨State.reset, spi, putF 0 Fld.CAL_TRIM_GO 1, by unfold reaches; decide⟩,
   ⟨seqRun [.cal (fun c => { c with trimWant := 0x8000 })], 15, [-8], [7], by decide⟩, ⟨[8], [], 8, by decide⟩,
   ⟨with_ [.fld (Reg.AMON_CTRL 7) Fld.AMON_CTRL_EN 1], 7, by unfold State.Inv; decide⟩, ⟨0, 1024, by decide⟩, ⟨0, 1023, by decide⟩⟩

/-- Device 1 of a company, its CE link up, with device 0 to the east and device 2 to the west. -/
def inCompany (rl : Nat) (xs : List Act) : State :=
  with_ ([.fld Reg.CMP_CTRL Fld.CMP_CTRL_EN 1, .fld Reg.CMP_CTRL Fld.CMP_CTRL_INDEX 1, .fld (Reg.CMP_LINK_STATE 0) Fld.CMP_LINK_STATE_STATE 2,
    .fld (Reg.CMP_LINK_STATE 0) Fld.CMP_LINK_STATE_LANES 8, .fld Reg.CMP_STATUS Fld.CMP_STATUS_ROLE rl,
    .cmp (fun c => { c with east := [0], west := [2] })] ++ xs)

/-- A cell of device `d` to every device, on link CE. -/
def cellFrom (d : Fin 16) : CellHead := ⟨0, true, d, none, 3, 7⟩

theorem wit_CompanyTimeAndLinks :
    (∃ s : State, (linkUp s 0 || linkUp s 1) = true)
    ∧ (∃ (s : State) (e : Fin 2), linkUp s e = true ∧ role s = rlLEAD)
    ∧ (∃ (s : State) (h : CellHead), h.ok = true ∧ linkUp s h.e = true)
    ∧ (∃ (s : State) (h : CellHead) (lead : Fin 16), cellMine s h = true ∧ h.from_.val ≠ ownIndex s ∧ s.cmp.conflict = false ∧ role s = rlMEMBER
        ∧ lead.val = leadIndex s ∧ timeLink s lead = some h.e.val)
    ∧ (∃ (s : State) (e : Fin 2) (lane : Fin 4), s.Inv ∧ cmpOn s = true ∧ bitsOf (rf s (Reg.CMP_LINK_STATE e) Fld.CMP_LINK_STATE_LANES) lane lane = 1
        ∧ rf s (Reg.CMP_LINK_STATE e) Fld.CMP_LINK_STATE_STATE = 2 ∧ rf s (Reg.CMP_LINK_STATE e) Fld.CMP_LINK_STATE_LANES = 2 ^ lane.val)
    ∧ ∃ (s : State) (e : Fin 2) (lane : Fin 4), s.Inv ∧ cmpOn s = true ∧ bitsOf (rf s (Reg.CMP_LINK_STATE e) Fld.CMP_LINK_STATE_LANES) lane lane = 0 :=
  ⟨⟨inCompany rlMEMBER [], by decide⟩, ⟨inCompany rlLEAD [], 0, by decide⟩, ⟨inCompany rlLEAD [], cellFrom 0, by decide⟩,
   ⟨inCompany rlMEMBER [], cellFrom 0, 0, by decide⟩, ⟨inCompany rlMEMBER [], 0, 3, by unfold State.Inv; decide⟩,
   ⟨inCompany rlMEMBER [], 0, 2, by unfold State.Inv; decide⟩⟩

theorem wit_CompanyRolesAndRequests :
    (∃ (s : State) (h : CellHead) (e : Nat), cellMine s h = true ∧ h.from_.val ≠ ownIndex s ∧ s.cmp.conflict = false ∧ role s = rlLEAD
        ∧ e ≠ rf s Reg.CMP_EPOCH Fld.CMP_EPOCH_EPOCH ∧ bitsOf (rf s Reg.CMP_CENSUS_STAT Fld.CMP_CENSUS_STAT_MASK) h.from_ h.from_ = 0)
    ∧ (∃ (s : State) (h : CellHead), cellMine s h = true ∧ h.from_.val ≠ ownIndex s ∧ s.cmp.conflict = false ∧ s.cmp.electing = true
        ∧ formable s = false)
    ∧ (∃ (s : State) (h : CellHead) (num : Nat), cellMine s h = true ∧ h.from_.val ≠ ownIndex s ∧ s.cmp.conflict = false ∧ role s = rlMEMBER
        ∧ h.from_.val = leadIndex s ∧ s.cmp.decision = none ∧ 2 ≤ (num + 2 ^ 32 - rf s Reg.CUR_NUM Fld.CUR_NUM_NUM) % 2 ^ 32
        ∧ (num + 2 ^ 32 - rf s Reg.CUR_NUM Fld.CUR_NUM_NUM) % 2 ^ 32 < 2 ^ 31)
    ∧ (∃ (s : State) (a : Acc) (v : Word), actsFor a = 0 ∧ reaches s a Reg.CMP_ROLE_REQ true ∧ getF v Fld.CMP_ROLE_REQ_KIND = 3)
    ∧ (∃ (s : State) (a : Acc) (v : Word), actsFor a = 0 ∧ reaches s a Reg.CMP_ROLE_REQ true ∧ getF v Fld.CMP_ROLE_REQ_KIND = 1 ∧ role s = rlMEMBER)
    ∧ (∃ (s : State) (a : Acc) (v : Word), actsFor a = 0 ∧ reaches s a Reg.CMP_ROLE_REQ true ∧ getF v Fld.CMP_ROLE_REQ_KIND = 2 ∧ role s = rlLEAD)
    ∧ (∃ (s : State) (a : Acc) (v : Word), actsFor a = 0 ∧ reaches s a Reg.CMP_ROLE_REQ true ∧ getF v Fld.CMP_ROLE_REQ_KIND = 2 ∧ role s = rlPENDING)
    ∧ (∃ (s : State) (a : Acc) (v : Word), actsFor a = 0 ∧ reaches s a Reg.CMP_CENSUS true ∧ getF v Fld.CMP_CENSUS_GO = 1 ∧ role s = rlLEAD)
    ∧ (∃ (s : State) (a : Acc) (v : Word), actsFor a = 0 ∧ reaches s a Reg.CMP_CENSUS true ∧ getF v Fld.CMP_CENSUS_GO = 1 ∧ role s ≠ rlLEAD)
    ∧ ∃ s : State, role s = rlMEMBER ∧ leadLossCurtains s ≤ s.cmp.quiet ∧ s.cmp.electing = false :=
  ⟨⟨inCompany rlLEAD [], cellFrom 0, 5, by decide⟩, ⟨inCompany rlMEMBER [.cmp (fun c => { c with electing := true })], cellFrom 0, by decide⟩,
   ⟨inCompany rlMEMBER [], cellFrom 0, 2, by decide⟩, ⟨inCompany rlMEMBER [], spi, putF 0 Fld.CMP_ROLE_REQ_KIND 3, by unfold reaches; decide⟩,
   ⟨inCompany rlMEMBER [], spi, putF 0 Fld.CMP_ROLE_REQ_KIND 1, by unfold reaches; decide⟩,
   ⟨inCompany rlLEAD [], spi, putF 0 Fld.CMP_ROLE_REQ_KIND 2, by unfold reaches; decide⟩,
   ⟨inCompany rlPENDING [], spi, putF 0 Fld.CMP_ROLE_REQ_KIND 2, by unfold reaches; decide⟩,
   ⟨inCompany rlLEAD [], spi, putF 0 Fld.CMP_CENSUS_GO 1, by unfold reaches; decide⟩,
   ⟨inCompany rlMEMBER [], spi, putF 0 Fld.CMP_CENSUS_GO 1, by unfold reaches; decide⟩,
   ⟨inCompany rlMEMBER [.cmp (fun c => { c with quiet := 300 })], by decide⟩⟩

/-- Share 0 carries the blocks of source 0, whose adopted frame lies in buffer 0. -/
def sharing (xs : List Act) : State :=
  inCompany rlMEMBER ([.fld (Reg.CMP_SHARE_CTRL 0) Fld.CMP_SHARE_CTRL_EN 1, .fld (Reg.SRC_FMT 0) Fld.SRC_FMT_STATE ssACTIVE,
    .fld (Reg.CMP_SHARE_WIN 0) Fld.CMP_SHARE_WIN_BW 2, .fld (Reg.CMP_SHARE_WIN 0) Fld.CMP_SHARE_WIN_BH 1,
    .src 0 (fun q => { q with adopted := some 0, bufFmt := [some vga, none, none] })] ++ xs)

/-- A bulk transfer of 64 bytes to device 0 is under way, with one cell in flight. -/
def moving (x : Xfer) : State := inCompany rlMEMBER [.fld Reg.XFER_LEN Fld.XFER_LEN_LEN 1, .cmp (fun c => { c with xfer := some x })]

theorem wit_CellsCarryData :
    (∃ (s : State) (k : Fin 6) (bx by_ : Nat), blockShared s k bx by_ = true ∧ firstBlock s k bx by_ = false ∧ (freeLane s).isSome = true)
    ∧ (∃ (s : State) (k : Fin 6) (bx by_ : Nat), blockShared s k bx by_ = true ∧ firstBlock s k bx by_ = false ∧ freeLane s = none)
    ∧ (∃ (s : State) (w : ShareWait) (ws : List ShareWait), s.cmp.shareWait = w :: ws)
    ∧ (∃ (s : State) (h : CellHead), cellMine s h = true ∧ role s = rlLEAD)
    ∧ (∃ (s : State) (h : CellHead) (dst len off : Nat) (bs : List Byte), cellMine s h = true ∧ bs.length ≤ 256 ∧ (rxOf s h.from_ dst len off).bad = false
        ∧ (rxOf s h.from_ dst len off).done_ = off ∧ off + bs.length ≤ len ∧ bs ≠ [])
    ∧ (∃ (s : State) (h : CellHead) (x : Xfer) (c : Nat × Nat × Nat), cellMine s h = true ∧ s.cmp.xfer = some x ∧ x.dest = h.from_.val ∧ x.flight = [c]
        ∧ xferLen s ≤ x.sent)
    ∧ (∃ (s : State) (x : Xfer) (t : Nat), s.cmp.xfer = some x ∧ x.deadAt = some t)
    ∧ (∃ (s : State) (a : Acc) (v : Word), reaches s a Reg.XFER_CTRL true ∧ actsFor a = 0 ∧ getF v Fld.XFER_CTRL_GO = 1
        ∧ rf s Reg.XFER_STAT Fld.XFER_STAT_STATE = 1)
    ∧ ∃ (s : State) (a : Acc) (v : Word), reaches s a Reg.XFER_CTRL true ∧ actsFor a = 0 ∧ getF v Fld.XFER_CTRL_GO = 1
        ∧ rf s Reg.XFER_STAT Fld.XFER_STAT_STATE ≠ 1 ∧ 0 < xferLen s :=
  ⟨⟨sharing [], 0, 1, 0, by decide⟩, ⟨sharing [.fld Reg.PKR_STATUS Fld.PKR_STATUS_OUT 255], 0, 1, 0, by decide⟩,
   ⟨inCompany rlMEMBER [.cmp (fun c => { c with shareWait := [⟨0, 0, 0, 5⟩] })], ⟨0, 0, 0, 5⟩, [], by decide⟩,
   ⟨inCompany rlLEAD [], cellFrom 0, by decide⟩,
   ⟨inCompany rlMEMBER [.cmp (fun c => { c with rxBulk := [⟨0, 0, 64, 60, false⟩] })], cellFrom 0, 0, 64, 60, [1, 2, 3, 4], by decide⟩,
   ⟨moving ⟨0, 64, [(9, 0, 64)], none⟩, cellFrom 0, ⟨0, 64, [(9, 0, 64)], none⟩, (9, 0, 64), by decide⟩,
   ⟨moving ⟨0, 64, [], some 5⟩, ⟨0, 64, [], some 5⟩, 5, by decide⟩,
   ⟨with_ [.fld Reg.XFER_STAT Fld.XFER_STAT_STATE 1], spi, putF 0 Fld.XFER_CTRL_GO 1, by unfold reaches; decide⟩,
   ⟨with_ [.fld Reg.XFER_LEN Fld.XFER_LEN_LEN 1], spi, putF 0 Fld.XFER_CTRL_GO 1, by unfold reaches; decide⟩⟩

theorem wit_BanksAndAtomicsAct :
    (∃ (s : State) (a : Acc) (n : Fin 512) (v : Word), s.Inv ∧ reaches s a (Reg.BANK_OWNER n) true ∧ mayBank s (actsFor a) n = true
        ∧ bankAllows n (getF v Fld.BANK_OWNER_OWNER) = true)
    ∧ (∃ (s : State) (a : Acc) (n : Fin 512) (v : Word), s.Inv ∧ reaches s a (Reg.BANK_OWNER n) true ∧ mayBank s (actsFor a) n = true
        ∧ bankAllows n (getF v Fld.BANK_OWNER_OWNER) = false)
    ∧ (∃ (s : State) (a : Acc) (n : Fin 512) (v : Word), s.Inv ∧ reaches s a (Reg.BANK_PWR n) true ∧ mayBank s (actsFor a) n = true
        ∧ getF v Fld.BANK_PWR_PWR = 2)
    ∧ (∃ (s : State) (n : Fin 512), s.Inv ∧ bankState s n = 3)
    ∧ (∃ (s : State) (n : Fin 512) (word : Fin 32768), s.Inv ∧ rf s Reg.MEM_CTRL Fld.MEM_CTRL_SCRUB = 1 ∧ bankState s n = 2
        ∧ mapWf zeroNat s.mem.errs = true ∧ wordErr s (0x40000 * n.val + 8 * word.val) = 0)
    ∧ (∃ (s : State) (a : Acc) (off : Nat), s.Inv ∧ off < 0x8000000 ∧ reaches s a (0x08000000 + off) true ∧ hasPriv s (actsFor a) pvSRAM_WIN = true
        ∧ off % 4 = 0 ∧ windowCause s (actsFor a) off = none ∧ wordErr s off = 1)
    ∧ ∃ (s : State) (a : Acc) (off : Nat), s.Inv ∧ off < 0x8000000 ∧ reaches s a (0x08000000 + off) true ∧ hasPriv s (actsFor a) pvSRAM_WIN = true
        ∧ off % 4 ≠ 0 :=
  ⟨⟨State.reset, spi, 511, 0x20, by unfold State.Inv reaches; decide⟩, ⟨State.reset, spi, 0, 0, by unfold State.Inv reaches; decide⟩,
   ⟨State.reset, spi, 511, 2, by unfold State.Inv reaches; decide⟩, ⟨with_ [.fld (Reg.BANK_PWR 511) Fld.BANK_PWR_STATE 3], 511, by unfold State.Inv; decide⟩,
   ⟨with_ [.fld Reg.MEM_CTRL Fld.MEM_CTRL_SCRUB 1, .fld (Reg.BANK_PWR 511) Fld.BANK_PWR_STATE 2], 511, 32767, by unfold State.Inv; decide⟩,
   ⟨with_ (bankOf 511 0 ++ [.mem (fun m => { m with errs := [(0x7FFFFFC / 8, 1)] })]), spi, 0x7FFFFFC, by unfold State.Inv reaches; decide⟩,
   ⟨State.reset, spi, 0x7FFFFFF, by unfold State.Inv reaches; decide⟩⟩

theorem wit_DramIsTrainedAndRelaid :
    (∃ s : State, s.Inv ∧ trainOk s = true) ∧ (∃ (s : State) (c : Fin 8) (mr b : Byte), s.Inv ∧ trainOk s = true
        ∧ mapGet noByte s.ddr.modeRegs (256 * c.val + mr.toNat) = some b)
    ∧ (∃ (s : State) (c : Fin 8) (a : Acc) (v : Word), s.Inv ∧ reaches s a (Reg.CH_APPLY c) true ∧ actsFor a = 0 ∧ getF v Fld.CH_APPLY_GO = 1)
    ∧ (∃ (s : State) (c : Fin 8), s.Inv ∧ rf s (Reg.CH_STAT c) Fld.CH_STAT_PENDING = 1)
    ∧ (∃ (s : State) (c : Fin 8), s.Inv ∧ rf s (Reg.CH_STAT c) Fld.CH_STAT_STATE = 1)
    ∧ (∃ (s : State) (c : Fin 8) (i r : Nat), s.Inv ∧ (delayRegs c)[i]? = some r)
    ∧ (∃ (s : State) (c : Fin 8), s.Inv ∧ (channels s).contains c.val = true)
    ∧ ∃ s : State, s.Inv ∧ s.ddr.lost = true ∧ s.pnx.running = none :=
  ⟨⟨State.reset, by unfold State.Inv; decide⟩,
   ⟨with_ [.ddr (fun d => { d with modeRegs := mapPut noByte d.modeRegs 0x7FF (some 9) })], 7, 0xFF, 9, by unfold State.Inv; decide⟩,
   ⟨State.reset, 7, spi, putF 0 Fld.CH_APPLY_GO 1, by unfold State.Inv reaches; decide⟩,
   ⟨with_ [.fld (Reg.CH_STAT 7) Fld.CH_STAT_PENDING 1], 7, by unfold State.Inv; decide⟩,
   ⟨with_ [.fld (Reg.CH_STAT 7) Fld.CH_STAT_STATE 1], 7, by unfold State.Inv; decide⟩,
   ⟨State.reset, 7, 80, _, by unfold State.Inv; decide, rfl⟩,
   ⟨with_ [.fld Reg.DDR_CFG Fld.DDR_CFG_CHANNELS 0x80], 7, by unfold State.Inv; decide⟩,
   ⟨with_ [.ddr (fun d => { d with lost := true })], by unfold State.Inv; decide⟩⟩

/-- Tenant 1's packer ring at address 0 with one job of word `w` at its front; input at 256, output at 512. -/
def jobbing (w : List Nat) (xs : List Act) : State :=
  with_ ([dramOn, .fld (Reg.PKR_HEAD 1) Fld.PKR_HEAD_INDEX 1, .fld (Reg.PKR_RING_SIZE 1) Fld.PKR_RING_SIZE_N 4, .dram 0 (w.flatMap (leBytes 4)),
    .dram 256 [7]] ++ xs)

theorem wit_EveryBlockDecodesToItsInput :
    (∃ (raw hist : List Byte) (ctx : Option (List Byte)), raw.length ≤ 65536 ∧ hist.length ≤ 16384 ∧ ctx = some hist ∧ raw ≠ [] ∧ hist ≠ [])
    ∧ (∃ (counts : List Nat) (l : Nat), l ∈ packLens counts) :=
  ⟨⟨[1], [2], some [2], by decide⟩, [], List.exists_mem_of_ne_nil _ (by
    unfold packLens
    split
    · next h => intro e; simp [lensOk, e] at h
    · decide)⟩

theorem wit_PackerRunsJobs :
    (∃ (s : State) (t lane : Fin 8) (k : Fin 4096), s.Inv ∧ jobReady s t k = true
        ∧ bitsOf (rf s Reg.PKR_STATUS Fld.PKR_STATUS_OUT) lane lane = 0 ∧ s.sys.supplyLoss = false ∧ jobBad s t k = false ∧ jobSrcBank s t k = false
        ∧ jobDstBank s t k = false ∧ jobOp s t k = 0 ∧ dramUE s (jobSrc s t k) (jobLen s t k) = false
        ∧ (jobResult s t k (dramBytes s (jobSrc s t k) (jobLen s t k))).1 = stOK
        ∧ (jobResult s t k (dramBytes s (jobSrc s t k) (jobLen s t k))).2.1 = [] ∧ jobDst s t k ≤ dramCap s
        ∧ ringBase s t + 32 * k.val + 32 ≤ jobDst s t k)
    ∧ (∃ (s : State) (t lane : Fin 8) (k : Fin 4096), s.Inv ∧ jobReady s t k = true
        ∧ bitsOf (rf s Reg.PKR_STATUS Fld.PKR_STATUS_OUT) lane lane = 0 ∧ s.sys.supplyLoss = false ∧ jobBad s t k = false ∧ jobSrcBank s t k = false
        ∧ jobDstBank s t k = false ∧ jobOp s t k = 1 ∧ dramUE s (jobSrc s t k) (jobLen s t k) = false
        ∧ (jobResult s t k (dramBytes s (jobSrc s t k) (jobLen s t k))).1 = stOK
        ∧ (jobResult s t k (dramBytes s (jobSrc s t k) (jobLen s t k))).2.1 = [7] ∧ jobDst s t k + 1 ≤ dramCap s
        ∧ ringBase s t + 32 * k.val + 32 ≤ jobDst s t k)
    ∧ (∃ (s : State) (t lane : Fin 8) (k : Fin 4096), s.Inv ∧ jobReady s t k = true ∧ bitsOf (rf s Reg.PKR_STATUS Fld.PKR_STATUS_OUT) lane lane = 0
        ∧ s.sys.supplyLoss = false ∧ jobBad s t k = false ∧ jobSrcBank s t k = false ∧ jobDstBank s t k = false ∧ jobOp s t k = 2
        ∧ (jobResult s t k []).1 = stOK ∧ (jobResult s t k []).2.1 = [] ∧ jobDst s t k ≤ dramCap s ∧ ringBase s t + 32 * k.val + 32 ≤ jobDst s t k)
    ∧ (∃ (s : State) (a : Acc) (t : Fin 8), s.Inv ∧ reaches s a (Reg.PKR_HEAD t) true ∧ actsFor a = 0 ∧ hasPriv s (actsFor a) 1 = true)
    ∧ ∃ (s : State) (lane : Fin 8), s.Inv ∧ bitsOf (rf s Reg.PKR_STATUS Fld.PKR_STATUS_OUT) lane lane = 0 :=
  ⟨⟨jobbing [0x10, 256, 0, 512, 0, 1, 64] [], 1, 7, 0, by unfold State.Inv; decide +kernel⟩,
   ⟨jobbing [1, 256, 0, 512, 0, 17, 64] [.dram 256 block7], 1, 7, 0, by unfold State.Inv; decide +kernel⟩,
   ⟨jobbing [0x12, 0, 0, 512, 0, 0, 64] [], 1, 7, 0, by unfold State.Inv; decide⟩,
   ⟨State.reset, spi, 7, by unfold State.Inv reaches; decide⟩, ⟨State.reset, 7, by unfold State.Inv; decide⟩⟩

/-- The hold-up store is measured at 60,000 uF, its load test fresh. -/
def charged (xs : List Act) : State :=
  with_ ([.fld Reg.CAD_CMEAS Fld.CAD_CMEAS_C_UF 60000, .cad (fun c => { c with testAt := some 0 })] ++ xs)

/-- A PROGRAM of 16 bytes of the tenant port, and one of the house port. -/
def prog16 (house : Bool) : CadOp := ⟨house, 1, 0x21000, List.replicate 16 5, .plain, 0⟩

theorem wit_CaddyRunsAndIsKept :
    (∃ (s : State) (code : Fin 4096) (o : CadOp), s.Inv ∧ testFresh s = true ∧ s.cad.run = none ∧ s.cad.tenant = some o ∧ s.cad.house = [] ∧ o.op = 1
        ∧ o.house = false ∧ opCheck s o none code = stOK)
    ∧ (∃ (s : State) (code : Fin 4096) (o : CadOp), s.Inv ∧ testFresh s = true ∧ s.cad.run = none ∧ s.cad.tenant = some o ∧ s.cad.house = [] ∧ o.op = 2
        ∧ o.house = false ∧ opCheck s o none code = stOK)
    ∧ (∃ (s : State) (code : Fin 4096) (o : CadOp), s.Inv ∧ testFresh s = true ∧ s.cad.run = none ∧ s.cad.tenant = some o ∧ s.cad.house = [] ∧ o.op = 1
        ∧ opCheck s o none code ≠ stOK)
    ∧ (∃ (s : State) (code : Fin 4096) (o : CadOp), s.Inv ∧ testFresh s = true ∧ s.cad.run = none ∧ s.cad.tenant = some o ∧ s.cad.house = [] ∧ o.op = 2
        ∧ opCheck s o none code ≠ stOK)
    ∧ (∃ (s : State) (code : Fin 4096), s.Inv ∧ testFresh s = true ∧ s.cad.run = none ∧ s.cad.house = []
        ∧ opCheck s ⟨true, 1, 0x21000, List.replicate 16 5, .plain, now s⟩ none code = stOK ∧ opCheck s ⟨true, 2, 0x21000, [], .plain, now s⟩ none code = stOK)
    ∧ (∃ (s : State) (code : Fin 4096) (o : CadOp), s.Inv ∧ s.cad.house = [o] ∧ s.cad.run = none ∧ o.op ≠ 3
        ∧ rf s Reg.CAD_STATUS Fld.CAD_STATUS_HOUSE_WAIT = 1 ∧ opCheck s o none code = stOK ∧ o.house = true)
    ∧ (∃ (s : State) (o : CadOp) (at_ : Nat), s.Inv ∧ s.cad.run = some ⟨o, at_, false⟩ ∧ s.cad.bad = [] ∧ o.op = 1 ∧ o.data.length ≤ 256)
    ∧ (∃ s : State, s.Inv ∧ s.sys.vddAo = true) ∧ (∃ s : State, s.Inv ∧ rf s Reg.CAD_MARGIN Fld.CAD_MARGIN_EN = 1
        ∧ s.cad.bad.contains s.cad.marginAt = false ∧ s.cad.house = [])
    ∧ (∃ (s : State) (code : Fin 4096) (p : Nat) (rest : List Nat), s.Inv ∧ s.cad.refresh = p :: rest ∧ s.cad.run = none ∧ s.cad.house = []
        ∧ s.cad.tenant = none ∧ testFresh s = true ∧ (∀ w ∈ s.cad.bad, w / 16 ≠ p) ∧ opCheck s ⟨true, 3, 256 * p, [], .plain, now s⟩ none code = stOK)
    ∧ (∃ (s : State) (a : Acc), s.Inv ∧ reaches s a Reg.CAD_PROTECT true ∧ actsFor a = 0 ∧ rf s Reg.CAD_PROTECT Fld.CAD_PROTECT_LOCK = 0)
    ∧ (∃ (s : State) (a : Acc), s.Inv ∧ reaches s a Reg.CAD_PROTECT true ∧ actsFor a = 0 ∧ rf s Reg.CAD_PROTECT Fld.CAD_PROTECT_LOCK = 1)
    ∧ ∃ s : State, s.Inv ∧ s.sys.vddAo = true ∧ s.sys.holdReady = false ∧ s.cad.waits = [] :=
  ⟨⟨charged [.cad (fun c => { c with tenant := some (prog16 false) })], 3000, prog16 false, by unfold State.Inv; decide⟩,
   ⟨charged [.cad (fun c => { c with tenant := some ⟨false, 2, 0x21000, [], .plain, 0⟩ })], 3000, ⟨false, 2, 0x21000, [], .plain, 0⟩,
      by unfold State.Inv; decide⟩,
   ⟨charged [.cad (fun c => { c with tenant := some (prog16 false) })], 0, prog16 false, by unfold State.Inv; decide⟩,
   ⟨charged [.cad (fun c => { c with tenant := some ⟨false, 2, 0x20000, [], .plain, 0⟩ })], 3000, ⟨false, 2, 0x20000, [], .plain, 0⟩,
      by unfold State.Inv; decide⟩,
   ⟨charged [], 3000, by unfold State.Inv; decide⟩,
   ⟨charged [.cad (fun c => { c with house := [prog16 true] }), .fld Reg.CAD_STATUS Fld.CAD_STATUS_HOUSE_WAIT 1], 3000, prog16 true,
      by unfold State.Inv; decide⟩,
   ⟨charged [.cad (fun c => { c with run := some ⟨prog16 false, 9, false⟩ })], prog16 false, 9, by unfold State.Inv; decide⟩,
   ⟨State.reset, by unfold State.Inv; decide⟩, ⟨with_ [.fld Reg.CAD_MARGIN Fld.CAD_MARGIN_EN 1], by unfold State.Inv; decide⟩,
   ⟨charged [.cad (fun c => { c with refresh := [16383], bad := [0] })], 3000, 16383, [], by unfold State.Inv; decide⟩,
   ⟨State.reset, spi, by unfold State.Inv reaches; decide⟩,
   ⟨with_ [.fld Reg.CAD_PROTECT Fld.CAD_PROTECT_LOCK 1], spi, by unfold State.Inv reaches; decide⟩,
   ⟨with_ [.sys (fun y => { y with vddHold := false, holdReady := false })], by unfold State.Inv; decide⟩⟩

/-- An image of no section but one of engine programs. -/
def image0 : Image := ⟨9, 0, 0, 15, [⟨tyENG_PROG, 0, [], [.pstore 0 0 0 []]⟩]⟩

/-- RECOVERY with an image command of T0 on a DRAM image. -/
def imaging (xs : List Act) : State := with_ ([inMode mRECOVERY, dramOn] ++ xs)

theorem wit_ImagesFlashAndKeysAct :
    (∃ (s : State) (a : Acc) (v : Word) (i : ImgIn), s.Inv ∧ reaches s a Reg.PNX_CMD true ∧ actsFor a = 0 ∧ getF v Fld.PNX_CMD_GO = 1
        ∧ getF v Fld.PNX_CMD_SRC = 1 ∧ pnxBusy s = false ∧ mode s ≠ mBOOT ∧ mode s ≠ mLOAD
        ∧ imgIn s (getF v Fld.PNX_CMD_SRC == 1) (getF v Fld.PNX_CMD_ENTRY) = some i ∧ dramUE s i.range.1 i.range.2 = false ∧ getF v Fld.PNX_CMD_OP = 3)
    ∧ (∃ s : State, s.Inv ∧ mode s = mBOOT ∧ s.sys.spine = true)
    ∧ (∃ (s : State) (m : Image), s.Inv ∧ mode s = mLOAD ∧ s.pnx.staged = some m ∧ extFault s m.sects = none
        ∧ imgReg m.sects Reg.DDR_CFG = rd s Reg.DDR_CFG ∧ (stageArea s).2 = 0)
    ∧ (∃ (s : State) (m : Image) (q : Nat × Nat), s.Inv ∧ mode s = mLOAD ∧ s.pnx.staged = some m ∧ extFault s m.sects = some q)
    ∧ (∃ (s : State) (p : Nat × Nat) (ps : List (Nat × Nat)), s.Inv ∧ s.pnx.live.isSome = true ∧ s.pnx.roundOut = false
        ∧ rf s Reg.PNX_STATUS Fld.PNX_STATUS_STATE = 3 ∧ (liveNew s).filter (fun x => x.ty == tyENG_PROG) ≠ [] ∧ roundPairs s = p :: ps)
    ∧ (∃ (s : State) (a : Acc) (v : Word), s.Inv ∧ reaches s a Reg.PNX_REVOKE true ∧ actsFor a = 0 ∧ getF v Fld.PNX_REVOKE_GO = 1
        ∧ getF v Fld.PNX_REVOKE_CONFIRM = 0xA5 ∧ (s.pnx.running.map (·.slot)) ≠ some (getF v Fld.PNX_REVOKE_SLOT))
    ∧ ∃ (s : State) (a : Acc) (v : Word), s.Inv ∧ reaches s a Reg.PNX_FL_CMD true ∧ actsFor a = 0 ∧ getF v Fld.PNX_FL_CMD_GO = 1 ∧ pnxBusy s = false
        ∧ mode s ≠ mBOOT ∧ mode s ≠ mLOAD ∧ rf s Reg.PNX_FL_ADDR Fld.PNX_FL_ADDR_ADDR = 0x7FFF0000
        ∧ addr36 s Reg.PNX_FL_DRAM_LO Reg.PNX_FL_DRAM_HI + 65536 ≤ dramCap s
        ∧ dramUE s (addr36 s Reg.PNX_FL_DRAM_LO Reg.PNX_FL_DRAM_HI) 65536 = false :=
  ⟨⟨imaging [], spi, putF (putF (putF 0 Fld.PNX_CMD_GO 1) Fld.PNX_CMD_SRC 1) Fld.PNX_CMD_OP 3, _, by unfold State.Inv; decide, by unfold reaches; decide,
      by decide, by decide, by decide, by decide, by decide, by decide, rfl, by decide, by decide⟩,
   ⟨State.reset, by unfold State.Inv; decide⟩,
   ⟨with_ [inMode mLOAD, .pnx (fun p => { p with staged := some image0 })], image0, by unfold State.Inv; decide +kernel⟩,
   ⟨with_ [inMode mLOAD, .pnx (fun p => { p with staged := some ⟨9, 0, 0, 15, [⟨1, 4, [], [.ext 0 16 0 16 0 []]⟩]⟩ })], _, (stSIG_FAIL, 4),
      by unfold State.Inv; decide, by decide, rfl, by decide +kernel⟩,
   ⟨with_ [.pnx (fun p => { p with live := some image0 }), .fld Reg.PNX_STATUS Fld.PNX_STATUS_STATE 3, .fld (Reg.ENG_US 0) Fld.ENG_US_EN 1,
      .fld (Reg.ENG_US 0) Fld.ENG_US_ENGINE 1, .fld (Reg.ENG_US 0) Fld.ENG_US_SCOPE 2, .fld (Reg.ENG_STATUS 1) Fld.ENG_STATUS_STATE esSTANDBY,
      .fld (Reg.ENG_STATUS 1) Fld.ENG_STATUS_COVERS 0x7F, .fld (Reg.ENG_STATUS 0) Fld.ENG_STATUS_STATE esRUN], (0, 0), [], by unfold State.Inv; decide +kernel,
      by decide, by decide, by decide, by decide +kernel, by decide +kernel⟩,
   ⟨State.reset, spi, putF (putF (putF 0 Fld.PNX_REVOKE_GO 1) Fld.PNX_REVOKE_CONFIRM 0xA5) Fld.PNX_REVOKE_SLOT 3, by unfold State.Inv reaches; decide⟩,
   ⟨imaging [.fld Reg.PNX_FL_ADDR Fld.PNX_FL_ADDR_ADDR 0x7FFF0000], spi, putF 0 Fld.PNX_FL_CMD_GO 1, by unfold State.Inv reaches; decide⟩⟩

/-- A cue of the test: its serial, tag and index are 0. -/
def cue (op kind obj ep : Nat) (args : List Byte) (at_ : Nat) : Cue := ⟨0, op, 0, 0, kind, 0, obj, ep, at_, args, 0⟩

/-- The cue at the front of the queue of T0, started from RECOVERY. -/
def cued (c : Cue) (xs : List Act) : State :=
  with_ ([inMode mRECOVERY, .ten 0 (fun q => { q with ready := [c], open_ := [cueRefOf c false] })] ++ xs)

theorem wit_CuesAct :
    let front := fun (s : State) (t : Fin 8) (c : Cue) (rest : List Cue) =>
      s.Inv ∧ (ten s t).ready = c :: rest ∧ spineUp s = true ∧ mode s ≠ mHOLD ∧ (cueChecks c = false ∨ (thingOk c.kind c.object = true
        ∧ epochOf (applyAct s (.ten t (fun q => { q with ready := q.ready.drop 1 }))) c.kind c.object = c.epoch))
    (∃ s t c rest, front s t c rest ∧ c.opcode = 0)
    ∧ (∃ s t c rest, front s t c rest ∧ c.opcode = 1 ∧ 1 ≤ cueArg c 0 1 ∧ cueArg c 0 1 ≤ 5)
    ∧ (∃ s t c rest, front s t c rest ∧ c.opcode = 2) ∧ (∃ s t c rest, front s t c rest ∧ c.opcode = 3)
    ∧ (∃ s t c rest, front s t c rest ∧ c.opcode = 4 ∧ c.kind = 4 ∧ absentAddr s (ownReg c.kind c.object) = false ∧ mayBank s t c.object = true
        ∧ bankAllows c.object (cueArg c 0 1) = true)
    ∧ (∃ (s : State) (t : Fin 8) (c : Cue) (rest : List Cue), front s t c rest ∧ c.opcode = 4 ∧ c.kind ≠ 4 ∧ absentAddr s (ownReg c.kind c.object) = false
        ∧ t = 0 ∧ ownerCode (cueArg c 0 1) = true)
    ∧ (∃ (s : State) (t : Fin 8) (c : Cue) (rest : List Cue), front s t c rest ∧ c.opcode = 5 ∧ hasPriv s t pvDRV_TXN = true ∧ c.kind = 3
        ∧ portTile (rd s) (cueArg c 0 2) = some c.object ∧ cueArg c 4 1 ≤ 1 ∧ 1 ≤ cueArg c 5 1
        ∧ cueArg c 5 1 ≤ (if cueArg c 4 1 = 1 then 2 else 4) ∧ 0x100 ≤ cueArg c 6 3 ∧ (port s (cueArg c 0 2)).txns.length < 8)
    ∧ (∃ s t c rest, front s t c rest ∧ c.opcode = 6 ∧ t = 0 ∧ rf s Reg.CUR_SYNC Fld.CUR_SYNC_SRC ≠ 1 ∧ rf s Reg.CUR_SYNC Fld.CUR_SYNC_SRC ≠ 4
        ∧ cueArg c 6 4 ≤ 999999999 ∧ showing (mode s) = false)
    ∧ (∃ s t c rest, front s t c rest ∧ c.opcode = 7 ∧ hasPriv s t pvCENSUS = true) ∧ (∃ s t c rest, front s t c rest ∧ c.opcode = 8)
    ∧ (∃ s t c rest, front s t c rest ∧ c.opcode = 9 ∧ t = 0 ∧ 1 ≤ c.object ∧ c.object ≤ 7)
    ∧ (∃ s t c rest, front s t c rest ∧ c.opcode = 10 ∧ hasPriv s t pvMARK = true) ∧ (∃ s t c rest, front s t c rest ∧ c.opcode = 11)
    ∧ (∃ (s : State) (t : Fin 8) (c : Cue) (rest : List Cue), s.Inv ∧ (ten s t).ready = c :: rest ∧ spineUp s = true ∧ mode s ≠ mHOLD ∧ cueChecks c = true
        ∧ thingOk c.kind c.object = true ∧ epochOf s c.kind c.object ≠ c.epoch ∧ c.opcode = 1)
    ∧ (∃ (s : State) (t : Fin 8) (c : Cue) (rest : List Cue), s.Inv ∧ (ten s t).ready = c :: rest ∧ spineUp s = true ∧ mode s ≠ mHOLD ∧ cueChecks c = true
        ∧ thingOk c.kind c.object = true ∧ epochOf s c.kind c.object ≠ c.epoch ∧ c.opcode = 4)
    ∧ ∃ (s : State) (t : Fin 8) (c : Cue) (rest : List Cue), s.Inv ∧ (ten s t).ready = c :: rest ∧ spineUp s = true ∧ mode s ≠ mHOLD ∧ cueChecks c = true
        ∧ thingOk c.kind c.object = true ∧ epochOf s c.kind c.object ≠ c.epoch ∧ c.opcode = 5 :=
  ⟨⟨cued (cue 0 0 0 0 [] 0) [], 0, cue 0 0 0 0 [] 0, [], by unfold State.Inv; decide⟩,
   ⟨cued (cue 1 0 0 0 (leBytes 1 5) 0) [], 0, cue 1 0 0 0 (leBytes 1 5) 0, [], by unfold State.Inv; decide⟩,
   ⟨cued (cue 2 0 0 0 [] 0) [], 0, cue 2 0 0 0 [] 0, [], by unfold State.Inv; decide⟩,
   ⟨cued (cue 3 0 0 0 [] 0) [], 0, cue 3 0 0 0 [] 0, [], by unfold State.Inv; decide⟩,
   ⟨cued (cue 4 4 511 0 [0xFF] 0) [], 0, cue 4 4 511 0 [0xFF] 0, [], by unfold State.Inv; decide⟩,
   ⟨cued (cue 4 3 1023 0 [7] 0) [], 0, cue 4 3 1023 0 [7] 0, [], by unfold State.Inv; decide⟩,
   ⟨cued (cue 5 3 0 0 [0, 0, 0, 0, 1, 2, 0, 1, 0] 0) tile0, 0, cue 5 3 0 0 [0, 0, 0, 0, 1, 2, 0, 1, 0] 0, [], by unfold State.Inv; decide +kernel⟩,
   ⟨cued (cue 6 0 0 0 (leBytes 6 9 ++ leBytes 4 999999999) 0) [], 0, cue 6 0 0 0 (leBytes 6 9 ++ leBytes 4 999999999) 0, [], by unfold State.Inv; decide⟩,
   ⟨cued (cue 7 0 0 0 [] 0) [], 0, cue 7 0 0 0 [] 0, [], by unfold State.Inv; decide⟩,
   ⟨cued (cue 8 0 0 0 [] 0) [], 0, cue 8 0 0 0 [] 0, [], by unfold State.Inv; decide⟩,
   ⟨cued (cue 9 0 7 0 [] 0) [], 0, cue 9 0 7 0 [] 0, [], by unfold State.Inv; decide⟩,
   ⟨cued (cue 10 0 0 0 [] 0) [], 0, cue 10 0 0 0 [] 0, [], by unfold State.Inv; decide⟩,
   ⟨cued (cue 11 0 0 0 [] 0) [], 0, cue 11 0 0 0 [] 0, [], by unfold State.Inv; decide⟩,
   ⟨cued { cue 1 3 0 1 [] 0 with flags := 2 } [], 0, { cue 1 3 0 1 [] 0 with flags := 2 }, [], by unfold State.Inv; decide⟩,
   ⟨cued (cue 4 3 0 1 [] 0) [], 0, cue 4 3 0 1 [] 0, [], by unfold State.Inv; decide⟩,
   ⟨cued (cue 5 3 0 1 [] 0) [], 0, cue 5 3 0 1 [] 0, [], by unfold State.Inv; decide⟩⟩

/-- Rings of two slots for tenant 1, both on. -/
def rings : List Act :=
  [.fld (Reg.CUQ_CTRL 1) Fld.CUQ_CTRL_EN 1, .fld (Reg.CUQ_CTRL 1) Fld.CUQ_CTRL_SIZE 1, .fld (Reg.CPQ_CTRL 1) Fld.CPQ_CTRL_EN 1,
   .fld (Reg.CPQ_CTRL 1) Fld.CPQ_CTRL_SIZE 1]

/-- A cue of tenant 1 at the front of its queue. -/
def cuedOne (c : Cue) (xs : List Act) : State :=
  with_ ([.ten 1 (fun q => { q with ready := [c], open_ := [cueRefOf c false] })] ++ xs)

theorem wit_QueuesAndCompletionsMove :
    (∃ (s : State) (a : Acc) (t : Fin 8) (v : Word), s.Inv ∧ (actsFor a = 0 ∨ actsFor a = t.val) ∧ reaches s a (Reg.CUQ_TAIL t) true
        ∧ mayTake (applyAct s (.fld (Reg.CUQ_TAIL t) Fld.CUQ_TAIL_INDEX (getF v Fld.CUQ_TAIL_INDEX))) t = false)
    ∧ (∃ (s : State) (a : Acc) (t : Fin 8) (v : Word), let n := rf s (Reg.CUQ_CTRL t) Fld.CUQ_CTRL_SIZE
        let i := rf s (Reg.CUQ_HEAD t) Fld.CUQ_HEAD_INDEX
        let c := cueOf (mapGets zeroByte s.host (addr64 s (Reg.CUQ_BASE_LO t) (Reg.CUQ_BASE_HI t) + 64 * i) 64) i (ten s t).serial
        s.Inv ∧ (actsFor a = 0 ∨ actsFor a = t.val) ∧ reaches s a (Reg.CUQ_TAIL t) true ∧ n ≤ 12 ∧ i < 2 ^ n
        ∧ mayTake (applyAct s (.fld (Reg.CUQ_TAIL t) Fld.CUQ_TAIL_INDEX (getF v Fld.CUQ_TAIL_INDEX))) t = true
        ∧ getF v Fld.CUQ_TAIL_INDEX % 2 ^ n = (i + 1) % 2 ^ n ∧ cueMalformed c = false ∧ cueScheduled c = false)
    ∧ (∃ (s : State) (a : Acc) (t : Fin 8), s.Inv ∧ (actsFor a = 0 ∨ actsFor a = t.val) ∧ reaches s a (Reg.CPQ_HEAD t) true)
    ∧ (∃ (s : State) (a : Acc) (t : Fin 8), s.Inv ∧ (actsFor a = 0 ∨ actsFor a = t.val) ∧ reaches s a (Reg.PBH_HEAD t) true ∧ (ten s t).lostCount = 0)
    ∧ (∃ (s : State) (a : Acc) (t : Fin 8) (v : Word), s.Inv ∧ (actsFor a = 0 ∨ actsFor a = t.val) ∧ reaches s a (Reg.PBH_HEAD t) true
        ∧ 0 < (ten s t).lostCount ∧ 0 < pbhFree (applyAct s (.fld (Reg.PBH_HEAD t) Fld.PBH_HEAD_INDEX (getF v Fld.PBH_HEAD_INDEX))) t)
    ∧ (∃ (s : State) (q : SchedCue), s.Inv ∧ s.cur.running = true ∧ s.sys.supplyLoss = false ∧ dueCues s = [q] ∧ s.book.sched.contains q = true)
    ∧ (let nop := fun (s : State) (t : Fin 8) (c : Cue) (rest : List Cue) =>
        s.Inv ∧ (ten s t).ready = c :: rest ∧ spineUp s = true ∧ mode s ≠ mHOLD ∧ c.opcode = 0 ∧ cueChecks c = false
        ∧ cueOpen s t (cueRefOf c (cueScheduled c)) = true ∧ (ten s t).fences = []
        ∧ ringUsed (rf s (Reg.CUQ_CTRL t) Fld.CUQ_CTRL_SIZE) (rf s (Reg.CUQ_TAIL t) Fld.CUQ_TAIL_INDEX) (rf s (Reg.CUQ_HEAD t) Fld.CUQ_HEAD_INDEX) = 0
      (∃ s t c rest, nop s t c rest ∧ (cueRefOf c (cueScheduled c)).quiet = false ∧ bindMode s t = 0 ∧ (ten s t).held = []
          ∧ rf s (Reg.CPQ_CTRL t) Fld.CPQ_CTRL_SIZE ≤ 12 ∧ 0 < cpqFree s t ∧ bit (ten s t).msixMask 0 = false ∧ bit (ten s t).msixHold 0 = false)
      ∧ (∃ s t c rest, nop s t c rest ∧ (cueRefOf c (cueScheduled c)).quiet = false ∧ bindMode s t = 0 ∧ cpqFree s t = 0)
      ∧ (∃ s t c rest, nop s t c rest ∧ (cueRefOf c (cueScheduled c)).quiet = false ∧ bindMode s t = 1)
      ∧ ∃ s t c rest, nop s t c rest ∧ (cueRefOf c (cueScheduled c)).quiet = true) :=
  ⟨⟨with_ [], spi, 1, 1, by unfold State.Inv reaches; decide⟩, ⟨with_ rings, ⟨1, .pcie⟩, 1, 1, by unfold State.Inv reaches; decide⟩,
   ⟨with_ rings, ⟨1, .pcie⟩, 1, by unfold State.Inv reaches; decide⟩, ⟨with_ rings, ⟨1, .pcie⟩, 1, by unfold State.Inv reaches; decide⟩,
   ⟨with_ [.fld (Reg.PBH_CTRL 1) Fld.PBH_CTRL_SIZE 1, .ten 1 (fun q => { q with lostCount := 1 })], ⟨1, .pcie⟩, 1, 0, by unfold State.Inv reaches; decide⟩,
   ⟨running [.book (fun b => { b with sched := [⟨1, cue 0 0 0 0 [] 2, none⟩] })], ⟨1, cue 0 0 0 0 [] 2, none⟩, by unfold State.Inv; decide⟩,
   ⟨cuedOne (cue 0 0 0 0 [] 0) rings, 1, cue 0 0 0 0 [] 0, [], by unfold State.Inv; decide⟩,
   ⟨cuedOne (cue 0 0 0 0 [] 0) [], 1, cue 0 0 0 0 [] 0, [], by unfold State.Inv; decide⟩,
   ⟨cuedOne (cue 0 0 0 0 [] 0) [.fld (Reg.TEN_BIND_CTRL 1) Fld.TEN_BIND_CTRL_MODE 1], 1, cue 0 0 0 0 [] 0, [], by unfold State.Inv; decide⟩,
   ⟨cuedOne { cue 0 0 0 0 [] 0 with flags := 4 } [], 1, { cue 0 0 0 0 [] 0 with flags := 4 }, [], by unfold State.Inv; decide⟩⟩

theorem wit_TenantsAreReset :
    (∃ (s : State) (a : Acc) (v : Word) (o : OwnThing), s.Inv ∧ reaches s a (ownReg (ownKey o).1 (ownKey o).2) true ∧ actsFor a = 0
        ∧ ownerCode (getF v Fld.TEN_OWN_TILE_OWNER) = true)
    ∧ (∃ (s : State) (a : Acc) (v : Word) (t : Fin 8), s.Inv ∧ reaches s a (Reg.TEN_RESET t) true ∧ (actsFor a = 0 ∨ actsFor a = t.val)
        ∧ getF v Fld.TEN_RESET_GO = 1)
    ∧ (∃ (s : State) (a : Acc) (v : Word) (t : Fin 8), s.Inv ∧ reaches s a (Reg.TEN_BIND_CTRL t) true ∧ actsFor a = 0
        ∧ (getF v Fld.TEN_BIND_CTRL_MODE = 2 → t = 0) ∧ rd s (Reg.TEN_BIND_CTRL t) = v &&& regImpl (Reg.TEN_BIND_CTRL t))
    ∧ (∃ (s : State) (a : Acc) (v : Word) (t : Fin 8), s.Inv ∧ reaches s a (Reg.TEN_BIND_CTRL t) true ∧ actsFor a = 0
        ∧ (getF v Fld.TEN_BIND_CTRL_MODE = 2 → t = 0) ∧ rd s (Reg.TEN_BIND_CTRL t) ≠ v &&& regImpl (Reg.TEN_BIND_CTRL t))
    ∧ (∃ (s : State) (a : Acc) (v : Word) (t : Fin 8), s.Inv ∧ reaches s a (Reg.TEN_BIND_SRC_IP t) true ∧ actsFor a = 0
        ∧ rd s (Reg.TEN_BIND_SRC_IP t) ≠ v &&& regImpl (Reg.TEN_BIND_SRC_IP t))
    ∧ (∃ s : State, s.Inv ∧ spineUp s = true ∧ bindMode s 0 = 0)
    ∧ (∃ (s : State) (a : Acc) (v : Word) (t : Fin 8), s.Inv ∧ reaches s a (Reg.TEN_DISCARD t) true ∧ (actsFor a = 0 ∨ actsFor a = t.val)
        ∧ getF v Fld.TEN_DISCARD_GO = 1)
    ∧ ∃ (s : State) (a : Acc) (v : Word), s.Inv ∧ reaches s a Reg.TEN_CENSUS true ∧ hasPriv s (actsFor a) pvCENSUS = true ∧ getF v Fld.TEN_CENSUS_GO = 1 :=
  ⟨⟨State.reset, spi, 0xFF, .tile 1023, by unfold State.Inv reaches; decide⟩,
   ⟨State.reset, ⟨7, .pcie⟩, putF 0 Fld.TEN_RESET_GO 1, 7, by unfold State.Inv reaches; decide⟩,
   ⟨State.reset, spi, 0, 7, by unfold State.Inv reaches; decide⟩,
   ⟨State.reset, spi, putF 0 Fld.TEN_BIND_CTRL_MODE 2, 0, by unfold State.Inv reaches; decide⟩,
   ⟨State.reset, spi, 0x0A000001, 3, by unfold State.Inv reaches; decide⟩,
   ⟨State.reset, by unfold State.Inv; decide⟩,
   ⟨State.reset, ⟨7, .pcie⟩, putF 0 Fld.TEN_DISCARD_GO 1, 7, by unfold State.Inv reaches; decide⟩,
   ⟨State.reset, spi, putF 0 Fld.TEN_CENSUS_GO 1, by unfold State.Inv reaches; decide⟩⟩

/-- The management port at 10.0.0.1, tenant 1 bound to it from 10.0.0.2. -/
def managed (xs : List Act) : State :=
  with_ ([.reg Reg.TEN_MGMT_IP 0x0A000001, .fld (Reg.TEN_BIND_CTRL 1) Fld.TEN_BIND_CTRL_MODE 1, .reg (Reg.TEN_BIND_SRC_IP 1) 0x0A000002] ++ xs)

/-- A frame of tenant 1 with a body. -/
def frame1 (bs : List Byte) : MgmtFrame := ⟨0x0A000002, 0, true, 1, 5, bs.length, bs⟩

theorem wit_ManagementPortAnswers :
    (∃ (s : State) (tpa : BitVec 32), mgmtOn s = true ∧ tpa = rd s Reg.TEN_MGMT_IP)
    ∧ (∃ (s : State) (f : MgmtFrame), mgmtOn s = true ∧ mgmtAccepts s f 4 64 = true ∧ (ten s f.tenant).lastSeq ≠ some f.seq)
    ∧ (∃ (s : State) (f : MgmtFrame), mgmtOn s = true ∧ mgmtAccepts s f 8 64 = true ∧ (ten s f.tenant).lastSeq ≠ some f.seq)
    ∧ (∃ (s : State) (f : MgmtFrame), mgmtOn s = true ∧ mgmtAccepts s f 64 16 = true ∧ (ten s f.tenant).lastSeq ≠ some f.seq
        ∧ (ten s f.tenant).ready.length + f.len / 64 ≤ 64)
    ∧ (∃ (s : State) (f : MgmtFrame), mgmtOn s = true ∧ mgmtAccepts s f 64 16 = true ∧ (ten s f.tenant).lastSeq ≠ some f.seq
        ∧ 64 < (ten s f.tenant).ready.length + f.len / 64)
    ∧ (∃ (s : State) (f : MgmtFrame), mgmtOn s = true ∧ mgmtAccepts s f 4 64 = true ∧ mgmtAccepts s f 8 64 = true ∧ mgmtAccepts s f 64 16 = true
        ∧ ¬(ten s f.tenant).lastSeq ≠ some f.seq)
    ∧ ∃ (s : State) (f : MgmtFrame), mgmtOn s = true ∧ mgmtAccepts s f 4 64 = false ∧ mgmtAccepts s f 8 64 = false ∧ mgmtAccepts s f 64 16 = false :=
  ⟨⟨managed [], 0x0A000001, by decide⟩, ⟨managed [], frame1 (leBytes 4 Reg.SYS_MODE), by decide⟩,
   ⟨managed [], frame1 (leBytes 4 (Reg.PBH_BASE_LO 1) ++ leBytes 4 0), by decide⟩, ⟨managed [], frame1 (List.replicate 64 0), by decide⟩,
   ⟨managed [.ten 1 (fun q => { q with ready := List.replicate 64 (cue 0 0 0 0 [] 0) })], frame1 (List.replicate 64 0), by decide⟩,
   ⟨managed [.ten 1 (fun q => { q with lastSeq := some 5 })], frame1 (List.replicate 64 0), by decide⟩,
   ⟨managed [], frame1 [0], by decide⟩⟩

/-- A record of KIND 0 raised at an instant. -/
def rec0 (t : Nat) : PbRec := ⟨t, 0x100, 1, 0, 3, false, 1, 0, 1, 0⟩

theorem wit_PromptBookIsWritten :
    (∃ (s : State) (r : PbRec), s.Inv ∧ firstRec s.book.waiting = some r ∧ s.book.wins = [])
    ∧ (∃ (s : State) (r : PbRec) (w : CoalWin), s.Inv ∧ firstRec s.book.waiting = some r ∧ s.book.wins = [w] ∧ sameRec w.first r = true
        ∧ r.kind ≠ kSYSTEM ∧ r.stamp < w.end_)
    ∧ (∃ s : State, s.Inv ∧ (∀ t, t < 8 → rf s (Reg.PBH_CTRL t) Fld.PBH_CTRL_EN = 0) ∧ rf s Reg.PB_CADDY Fld.PB_CADDY_KINDS = 0 ∧ role s ≠ rlMEMBER
        ∧ addr36 s Reg.PB_BASE_LO Reg.PB_BASE_HI
          + 32 * (rf s Reg.PB_WRITE_IDX Fld.PB_WRITE_IDX_SEQ % 2 ^ rf s Reg.PB_CTRL Fld.PB_CTRL_SIZE) + 32 ≤ dramCap s)
    ∧ (∃ (s : State) (w : CoalWin), s.Inv ∧ firstWin s.book.wins = some w ∧ s.book.wins = [w] ∧ s.book.waiting = [] ∧ w.merged = 0)
    ∧ (∃ (s : State) (w : CoalWin), s.Inv ∧ firstWin s.book.wins = some w ∧ s.book.wins = [w] ∧ s.book.waiting = [] ∧ 0 < w.merged)
    ∧ (∃ s : State, s.Inv ∧ spineUp s = true ∧ s.cad.house = [] ∧ s.book.copyRing.length < 8)
    ∧ (∃ s : State, s.Inv ∧ spineUp s = true ∧ s.cad.house = [] ∧ 8 ≤ s.book.copyRing.length ∧ (256 * s.book.copyAt) % 4096 = 0)
    ∧ (∃ (s : State) (t : Fin 8) (v : Fin 4), s.Inv ∧ bit (ten s t).msixHold v = true ∧ bit (ten s t).msixNew v = false)
    ∧ ∃ (s : State) (t : Fin 8) (v : Fin 4), s.Inv ∧ bit (ten s t).msixHold v = true ∧ bit (ten s t).msixNew v = true ∧ bindMode s t = 0
        ∧ bit (ten s t).msixMask v = false :=
  ⟨⟨with_ [.book (fun b => { b with waiting := [rec0 0] })], rec0 0, by unfold State.Inv; decide⟩,
   ⟨with_ [.book (fun b => { b with waiting := [rec0 5], wins := [⟨rec0 0, 10, 0, 0, 0, 0⟩] })], rec0 5, ⟨rec0 0, 10, 0, 0, 0, 0⟩, by unfold State.Inv; decide⟩,
   ⟨with_ [dramOn, .fld Reg.PB_CADDY Fld.PB_CADDY_KINDS 0], by unfold State.Inv; decide⟩,
   ⟨with_ [.book (fun b => { b with wins := [⟨rec0 0, 10, 0, 0, 0, 0⟩] })], ⟨rec0 0, 10, 0, 0, 0, 0⟩, by unfold State.Inv; decide⟩,
   ⟨with_ [.book (fun b => { b with wins := [⟨rec0 0, 10, 1, 5, 5, 0⟩] })], ⟨rec0 0, 10, 1, 5, 5, 0⟩, by unfold State.Inv; decide⟩,
   ⟨State.reset, by unfold State.Inv; decide⟩,
   ⟨with_ [.book (fun b => { b with copyRing := List.replicate 8 (List.replicate 32 0) })], by unfold State.Inv; decide⟩,
   ⟨with_ [.ten 7 (fun q => { q with msixHold := 8 })], 7, 3, by unfold State.Inv; decide⟩,
   ⟨with_ [.ten 7 (fun q => { q with msixHold := 8, msixNew := 8 })], 7, 3, by unfold State.Inv; decide⟩⟩

theorem wit_ModesAreRequested :
    (∃ (s : State) (a : Acc), s.Inv ∧ reaches s a Reg.SYS_MODE_REQ true ∧ actsFor a = 0 ∧ showing (mode s) = true
        ∧ holdBarred s = false ∧ imageRuns s = false)
    ∧ (∃ (s : State) (a : Acc), s.Inv ∧ reaches s a Reg.SYS_MODE_REQ true ∧ actsFor a = 0 ∧ curtainMode (mode s) = false)
    ∧ (∃ (s : State) (a : Acc), s.Inv ∧ reaches s a Reg.SYS_MODE_REQ true ∧ actsFor a = 0 ∧ mode s = mREHEARSAL)
    ∧ (∃ (s : State) (a : Acc), s.Inv ∧ reaches s a Reg.SYS_MODE_REQ true ∧ actsFor a = 0 ∧ curtainMode (mode s) = true ∧ imageRuns s = true)
    ∧ (∃ (s : State) (a : Acc), s.Inv ∧ reaches s a Reg.SYS_MODE_REQ true ∧ actsFor a = 0 ∧ (mode s = mBOOT ∨ mode s = mRECOVERY)
        ∧ ∀ t ∈ tilesOn (rd s), tileState s t = tpLOGIC_OFF)
    ∧ ∃ s : State, s.Inv ∧ mode s = mHOLD ∧ s.sys.waking = true :=
  ⟨⟨with_ [inMode mSHOW], ⟨0, .pcie⟩, by unfold State.Inv reaches; decide +kernel⟩, ⟨with_ [inMode mRECOVERY], spi, by unfold State.Inv reaches; decide⟩,
   ⟨with_ [inMode mREHEARSAL], ⟨0, .pcie⟩, by unfold State.Inv reaches; decide⟩,
   ⟨with_ [inMode mSHOW, .pnx (fun p => { p with live := some image0 })], ⟨0, .pcie⟩, by unfold State.Inv reaches; decide +kernel⟩,
   ⟨with_ (inMode mRECOVERY :: tile0), spi, by unfold State.Inv reaches; decide +kernel⟩,
   ⟨with_ [inMode mHOLD, .sys (fun y => { y with waking := true })], by unfold State.Inv; decide⟩⟩

theorem wit_SuppliesComeAndGo :
    (∃ s : State, s.Inv ∧ mode s = mOFF) ∧ (∃ s : State, s.Inv ∧ s.cad.run = none)
    ∧ (∃ s : State, s.Inv ∧ mode s = mPILOT ∧ s.sys.vddAo = true ∧ s.sys.pfail = false ∧ rf s Reg.SYS_STATUS Fld.SYS_STATUS_TRIPPED = 0)
    ∧ (∃ s : State, s.Inv ∧ fromBoot (mode s) = true ∧ s.sys.supplyLoss = false) ∧ (∃ s : State, s.Inv ∧ fromBoot (mode s) = false)
    ∧ (∃ u : State, u.Inv ∧ u.book.sched = []) ∧ (∃ u : State, u.Inv ∧ u.book.sched ≠ [])
    ∧ (∃ s : State, s.Inv ∧ mode s ≠ mPILOT)
    ∧ (∃ s : State, s.Inv ∧ mode s = mPILOT ∧ s.sys.vddAo = true ∧ s.sys.por = true ∧ s.sys.spine = true ∧ s.sys.testEn = false
        ∧ rf s Reg.SYS_STATUS Fld.SYS_STATUS_TRIPPED = 0)
    ∧ ∃ s : State, s.Inv ∧ s.cad.run.isSome = true :=
  ⟨⟨with_ [inMode mOFF], by unfold State.Inv; decide⟩, ⟨State.reset, by unfold State.Inv; decide⟩,
   ⟨with_ [inMode mPILOT], by unfold State.Inv; decide⟩, ⟨State.reset, by unfold State.Inv; decide⟩, ⟨with_ [inMode mPILOT], by unfold State.Inv; decide⟩,
   ⟨State.reset, by unfold State.Inv; decide⟩, ⟨with_ [.book (fun b => { b with sched := [⟨1, cue 0 0 0 0 [] 2, none⟩] })], by unfold State.Inv; decide⟩,
   ⟨State.reset, by unfold State.Inv; decide⟩, ⟨with_ [inMode mPILOT], by unfold State.Inv; decide⟩,
   ⟨with_ [.cad (fun c => { c with run := some ⟨⟨true, 1, 0, [], .plain, 0⟩, 0, false⟩ })], by unfold State.Inv; decide⟩⟩

theorem wit_RestartsTripsAndTestPort :
    (∃ (s : State) (a : Acc) (v : Word), curtainMode (mode s) = true ∧ s.sys.snapOk = true ∧ (∀ t, s.sys.warmAt = some t → t + 60000000000 ≤ now s)
        ∧ reaches s a Reg.SYS_RESTART true ∧ actsFor a = 0 ∧ getF v Fld.SYS_RESTART_GO = 1 ∧ getF v Fld.SYS_RESTART_CONFIRM = 0xA5)
    ∧ (∃ (s : State) (a : Acc) (v : Word), fromBoot (mode s) = true ∧ mode s ≠ mHOLD ∧ curtainMode (mode s) = false
        ∧ reaches s a Reg.SYS_RESTART true ∧ actsFor a = 0 ∧ getF v Fld.SYS_RESTART_GO = 1 ∧ getF v Fld.SYS_RESTART_CONFIRM = 0xA5)
    ∧ (∃ (s : State) (a : Acc) (v : Word), fromBoot (mode s) = true ∧ mode s ≠ mHOLD ∧ (∃ t, s.sys.warmAt = some t ∧ now s < t + 60000000000)
        ∧ reaches s a Reg.SYS_RESTART true ∧ actsFor a = 0 ∧ getF v Fld.SYS_RESTART_GO = 1 ∧ getF v Fld.SYS_RESTART_CONFIRM = 0xA5)
    ∧ (∃ s : State, s.Inv ∧ s.sys.vddAo = true) ∧ (∃ s : State, mode s ≠ mOFF) ∧ (∃ s : State, mode s = mPILOT ∧ s.sys.testEn = true)
    ∧ ∃ s : State, mode s ≠ mPILOT ∨ s.sys.testEn = false :=
  ⟨⟨with_ [inMode mSHOW, .sys (fun y => { y with snapOk := true })], ⟨0, .pcie⟩, putF (putF 0 Fld.SYS_RESTART_GO 1) Fld.SYS_RESTART_CONFIRM 0xA5,
      by decide, by decide, fun t h => absurd h (by decide +revert), by unfold reaches; decide⟩,
   ⟨with_ [inMode mRECOVERY], spi, putF (putF 0 Fld.SYS_RESTART_GO 1) Fld.SYS_RESTART_CONFIRM 0xA5, by unfold reaches; decide⟩,
   ⟨with_ [inMode mSHOW, .sys (fun y => { y with warmAt := some 0 })], ⟨0, .pcie⟩, putF (putF 0 Fld.SYS_RESTART_GO 1) Fld.SYS_RESTART_CONFIRM 0xA5,
      by decide, by decide, ⟨0, rfl, by decide⟩, by unfold reaches; decide⟩,
   ⟨State.reset, by unfold State.Inv; decide⟩, ⟨State.reset, by decide⟩,
   ⟨with_ [inMode mPILOT, .sys (fun y => { y with testEn := true })], by decide⟩, ⟨State.reset, by decide⟩⟩

/-! ## Ill-formed commands -/

/-- A cell header whose HOPS does not fit its byte. -/
def badHead : CellHead := ⟨0, true, 0, none, 256, 0⟩
/-- A format whose line is too long. -/
def badFmt : FrameFmt := { vga with width := 65536 }
/-- A datagram whose SEQ does not fit its two bytes. -/
def badFrame : MgmtFrame := ⟨0, 0, true, 0, 65536, 0, []⟩
/-- A packet header for driver 0 of port 0. -/
def head0 : FwdHead := ⟨true, 0, 0⟩
def ret0 : RetHead := ⟨0, 0, 0, true, 0⟩

theorem test_ill_formed_accesses : (Instr.registerWrite spi (2 ^ 32) 0).wellFormed = false ∧ (Instr.registerRead spi (2 ^ 32)).wellFormed = false
    ∧ (Instr.spiRead (2 ^ 32)).wellFormed = false ∧ (Instr.spiWrite (2 ^ 32) 0).wellFormed = false
    ∧ (Instr.l1KeeperAccess spi (2 ^ 32) true).wellFormed = false ∧ (Instr.atomicFetchadd spi (2 ^ 32) 4 0).wellFormed = false
    ∧ (Instr.atomicFetchadd spi 0 4096 0).wellFormed = false ∧ (Instr.atomicSwap spi (2 ^ 32) 4 0).wellFormed = false
    ∧ (Instr.atomicSwap spi 0 4096 0).wellFormed = false := by decide

theorem test_ill_formed_times : (Instr.referenceEvent 0 (2 ^ 48 * 1000000000) 0).wellFormed = false
    ∧ (Instr.ptpMessage 0 (2 ^ 48 * 1000000000) (.sync 0 0)).wellFormed = false ∧ (Instr.ptpDelayReq 0 (2 ^ 48 * 1000000000) 0).wellFormed = false
    ∧ (Instr.ptpDelayReq 0 0 65536).wellFormed = false := by decide

theorem test_ill_formed_sources : (Instr.dprxLinkTrained 0 true 0 3 vga 0 0).wellFormed = false ∧ (Instr.dprxLinkTrained 0 true 0 4 badFmt 0 0).wellFormed = false
    ∧ (Instr.dprxLinkTrained 0 true 0 4 { vga with sampling := 4 } 0 0).wellFormed = false ∧ (Instr.dprxLinkTrained 0 true 0 4 { vga with depth := 9 } 0 0).wellFormed = false
    ∧ (Instr.dprxLinkTrained 0 true 0 4 { vga with range := 2 } 0 0).wellFormed = false ∧ (Instr.dprxLinkTrained 0 true 0 4 { vga with tf := 4 } 0 0).wellFormed = false
    ∧ (Instr.dprxLinkTrained 0 true 0 4 { vga with color := 4 } 0 0).wellFormed = false
    ∧ (Instr.dprxLinkTrained 0 true 0 4 { vga with height := 65536 } 0 0).wellFormed = false
    ∧ (Instr.sourceFrameArrival 0 0 badFmt [] []).wellFormed = false ∧ (Instr.sourceFrameArrival 0 0 { vga with width := 1, height := 1 } [[]] [[0, 0]]).wellFormed = false
    ∧ (Instr.sourceFrameArrival 0 0 { vga with width := 1, height := 1 } [[256]] [[0, 0]]).wellFormed = false
    ∧ (Instr.sourceFrameArrival 0 0 { vga with width := 1, height := 1 } [[255]] [[0]]).wellFormed = false
    ∧ (Instr.netPacket 0 0 ⟨0, 0, 65536, true, 0, false, false, 0, 0, []⟩).wellFormed = false
    ∧ (Instr.netPacket 0 0 ⟨0, 0, 0, true, 0, false, false, 0, 0, List.replicate 4 ⟨0, 0, [], []⟩⟩).wellFormed = false
    ∧ (Instr.previewLinkTrained 0 3 0).wellFormed = false := by decide +kernel

theorem test_ill_formed_packets : (Instr.readData ret0 (List.replicate 17 0)).wellFormed = false ∧ (Instr.serviceData ret0 (List.replicate 17 0)).wellFormed = false
    ∧ (Instr.pageWrite drv0 head0 0 (List.replicate 513 0)).wellFormed = false ∧ (Instr.codeDense drv0 head0 0 (List.replicate 513 0)).wellFormed = false
    ∧ (Instr.codeSparse drv0 head0 0 (List.replicate 513 0)).wellFormed = false ∧ (Instr.pageCopy drv0 head0 0 (List.replicate 513 0)).wellFormed = false
    ∧ (Instr.regWrite drv0 head0 0 (List.replicate 513 0)).wellFormed = false ∧ (Instr.readReq drv0 head0 0 (List.replicate 513 0)).wellFormed = false
    ∧ (Instr.curtain drv0 head0 (List.replicate 513 0)).wellFormed = false ∧ (Instr.slotSched drv0 head0 (List.replicate 513 0)).wellFormed = false
    ∧ (Instr.diagRead drv0 head0 0 []).wellFormed = false ∧ (Instr.vfRead drv0 head0 0 []).wellFormed = false
    ∧ (Instr.flRead drv0 head0 0 false false [0]).wellFormed = false
    ∧ (Instr.flRead drv0 head0 0 false false [0, 0, 0, 0, 0, 65536]).wellFormed = false := by decide +kernel

theorem test_ill_formed_measurements : (Instr.tilePowerAdvance 0 [(16384, 0)]).wellFormed = false ∧ (Instr.tilePowerAdvance 0 [(0, 256)]).wellFormed = false
    ∧ (Instr.calRunResult 0 [] true).wellFormed = false ∧ (Instr.calRunResult 0 [none, none, some (1, 0)] true).wellFormed = false
    ∧ (Instr.bankTrimMeasured 0 [] (List.replicate 64 0)).wellFormed = false ∧ (Instr.bankTrimMeasured 0 (List.replicate 64 0) []).wellFormed = false
    ∧ (Instr.wffRff (2 ^ 36)).wellFormed = false ∧ (Instr.rdc (2 ^ 36)).wellFormed = false ∧ (Instr.loopback (2 ^ 36)).wellFormed = false
    ∧ (Instr.delayCheck 0 [(81, 0)]).wellFormed = false ∧ (Instr.delayCheck 0 [(0, 3)]).wellFormed = false
    ∧ (Instr.caddyProgram true (some (2 ^ 22, [])) none 0).wellFormed = false ∧ (Instr.caddyProgram true (some (0, List.replicate 257 0)) none 0).wellFormed = false
    ∧ (Instr.caddyErase true (some (2 ^ 22)) none 0).wellFormed = false := by decide +kernel

theorem test_ill_formed_cells : (Instr.timeCell badHead 0 0 0 0 0 0 none 0 0).wellFormed = false
    ∧ (Instr.timeCell { badHead with hops := 1 } (2 ^ 48 * 1000000000) 0 0 0 0 0 none 0 0).wellFormed = false
    ∧ (Instr.delayRequest { badHead with hops := 1, seq := 65536 } 0).wellFormed = false ∧ (Instr.delayRequest { badHead with hops := 1 } (2 ^ 48 * 1000000000)).wellFormed = false
    ∧ (Instr.delayResponse badHead 0 0 0 0).wellFormed = false ∧ (Instr.controlCandidacy badHead 0 0 0 0 0).wellFormed = false
    ∧ (Instr.controlLeadDecision badHead 0 0 0 []).wellFormed = false ∧ (Instr.controlFieldsAnnounce badHead []).wellFormed = false
    ∧ (Instr.controlFieldsAnnounce { badHead with hops := 1 } [(2 ^ 32, 0)]).wellFormed = false ∧ (Instr.controlCensusRequest badHead 0 0 none).wellFormed = false
    ∧ (Instr.sourceCell badHead 0 0 0 0 vga ⟨0, 0, 0, 0, 0⟩ false false []).wellFormed = false
    ∧ (Instr.sourceCell { badHead with hops := 1 } 0 0 0 0 badFmt ⟨0, 0, 0, 0, 0⟩ false false []).wellFormed = false
    ∧ (Instr.sourceCell { badHead with hops := 1 } 0 0 0 0 vga ⟨0, 0, 0, 0, 0⟩ false false (List.replicate 257 0)).wellFormed = false
    ∧ (Instr.promptCell badHead 0 0 0 0 0 false 0 0 0 0).wellFormed = false ∧ (Instr.bulkCell badHead 0 0 0 []).wellFormed = false
    ∧ (Instr.bulkCell { badHead with hops := 1 } 0 0 0 (List.replicate 257 0)).wellFormed = false ∧ (Instr.bulkAck badHead 0 0).wellFormed = false
    ∧ (Instr.linkDown none [0] [0]).wellFormed = false ∧ (Instr.linkUp none 0 0 [0, 0] []).wellFormed = false := by decide +kernel

theorem test_ill_formed_frames : (Instr.mgmtRead badFrame).wellFormed = false ∧ (Instr.mgmtWrite badFrame).wellFormed = false
    ∧ (Instr.mgmtCue { badFrame with seq := 0, srcPort := 65536 }).wellFormed = false ∧ (Instr.mgmtCue { badFrame with seq := 0, len := 65536 }).wellFormed = false
    ∧ (Instr.arpRequest (2 ^ 48) 0 0).wellFormed = false ∧ (Instr.icmpEchoRequest 0 65536 0 []).wellFormed = false
    ∧ (Instr.icmpEchoRequest 0 0 65536 []).wellFormed = false := by decide

/-! ## The spec's worked examples -/

/-- The slot plan of example wall A: HOUSE for 4 ms, then CAMERA 0; the scan plan's f_ref is 3,840 Hz; two slots at 120 Hz. -/
def wallA : State :=
  with_ [.fld (Reg.SP_FREF 0) Fld.SP_FREF_HZ 3840, .fld Reg.CUR_RATE Fld.CUR_RATE_RATE 15, .fld Reg.CUR_SLOT_PLAN Fld.CUR_SLOT_PLAN_COUNT 1,
    .fld Reg.CUR_SLOT_PLAN Fld.CUR_SLOT_PLAN_EQUAL 0,
    .fld (Reg.CUR_SLOT 0) Fld.CUR_SLOT_LEN 4000000, .fld Reg.CUR_TIMING Fld.CUR_TIMING_T_QUIET 100, .fld (Reg.BS_CTRL 2) Fld.BS_CTRL_RATE_M 16,
    .fld (Reg.BS_FRAME 2) Fld.BS_FRAME_RET_WIN 256, .fld (Reg.BS_FRAME 2) Fld.BS_FRAME_RET_EVERY 16]

/-- Edges from an anchor at 120 Hz (02_curtain.md). -/
theorem test_edges_at_120_hz : (periods 15 1, periods 15 2, periods 15 3) = (8333333, 16666667, 25000000) := by decide +kernel

/-- S0 shows 16 refresh periods and S1 17 (R49, 02_curtain.md). -/
theorem test_refresh_counts : (refreshes (rd wallA) 15 8333333 0 0, refreshes (rd wallA) 15 8333333 0 1) = (16, 17) := by decide +kernel

/-- BS_EFF of PB2 reads 61,424 (R287, 07_lamp_ports.md). -/
theorem test_bs_eff : effReg (rd wallA) 2 = 61424 := by decide +kernel

/-- The CRC-16 over "123456789" is 0x29B1 (R275). -/
theorem test_crc16 : crc16 [0x31, 0x32, 0x33, 0x34, 0x35, 0x36, 0x37, 0x38, 0x39] = 0x29B1 := by decide +kernel

/-- Bundle A: ADDI s5, s5, 128 beside VMAC v8, v20, v21 (06_steep_engines.md). -/
theorem test_bundle_a :
    let b := decodeBundle 0x3410A2A040A50080
    let g := (eng State.reset 0).putS 5 7
    b.1.illegal = false ∧ b.2.illegal = false ∧ ((b.1.run State.reset 0 g).put g).sr 5 = 135 ∧ b.2.vregs = [8, 9, 20, 21] := by decide +kernel

/-- Bundle B: the same ADDI beside SMP v12, v4, v5 with its descriptor in s20 (06_steep_engines.md). -/
theorem test_bundle_b :
    let b := decodeBundle 0xB81820B440A50080
    b.1.writes = [5] ∧ b.2.illegal = false ∧ b.2.vregs = [12, 13, 14, 4, 5] ∧ b.2.calls = some false := by decide +kernel

/-- The mesh set of wall A in DRAM without inline ECC (11_memory.md). -/
theorem test_dram_address :
    let cfg := putF (putF 0 Fld.DDR_CFG_CHANNELS 0xFF) Fld.DDR_CFG_DENSITY 2
    let s := with_ [.reg Reg.DDR_CFG cfg]
    dramChannel s 0x200280000 = (0, 4195584) ∧ channelAddr s 0x200280000 = 0x40050000 ∧ rowBank cfg 0x40050000 = (0x4005, 1, 1, 0) := by
  decide +kernel

/-- The same with inline ECC: 28 GiB are usable, and the check bytes lie in the same row (11_memory.md). -/
theorem test_dram_address_with_ecc :
    let cfg := putF (putF (putF 0 Fld.DDR_CFG_CHANNELS 0xFF) Fld.DDR_CFG_DENSITY 2) Fld.DDR_CFG_ECC 1
    let s := with_ [.reg Reg.DDR_CFG cfg]
    channelAddr s 0x200280000 = 0x492A4800 ∧ rowBank cfg 0x492A4800 = (0x492A, 3, 2, 0) ∧ checkAddr s 0x200280000 = 0x492A4F00
      ∧ usableMiB cfg 8 = 28672 := by decide +kernel

/-- PROGRAM needs 3.142 V and ERASE 3.344 V on a store of 220 uF (13_caddy.md); a code is 1.5 mV. -/
theorem test_caddy_energy :
    let s := with_ [.fld Reg.CAD_HOLD Fld.CAD_HOLD_C_UF 220, .fld Reg.CAD_HOLD Fld.CAD_HOLD_V_MIN 3000, .fld Reg.CAD_CMEAS Fld.CAD_CMEAS_C_UF 65535]
    (energyOk s ⟨true, 1, 0, [], .plain, 0⟩ 2094, energyOk s ⟨true, 1, 0, [], .plain, 0⟩ 2096, energyOk s ⟨true, 2, 0, [], .plain, 0⟩ 2228,
      energyOk s ⟨true, 2, 0, [], .plain, 0⟩ 2230) = (false, true, false, true) := by decide +kernel

/-- The first 18 bytes of the COMMIT cue of T2 (15_tenants.md). -/
theorem test_commit_cue :
    let c := cueOf ([3, 2, 0x11, 0, 1, 0, 1, 0, 5, 0, 0, 0, 0, 0, 0, 0, 0x42, 0] ++ List.replicate 46 0) 0 0
    (c.opcode, c.flags, c.tag, c.kind, c.object, c.epoch) = (3, 2, 0x11, 1, 1, 5) ∧ cueArg c 0 2 = 0x42 ∧ cueChecks c = true
      ∧ cueMalformed c = false := by decide +kernel

/-- T3 is refused nothing, T2's checked COMMIT at epoch 6 completes STALE_ROLE and takes no commit (15_tenants.md). -/
theorem test_commit_cue_stale :
    let c : Cue := { cue 3 1 1 5 [0x42, 0] 0 with flags := 2 }
    after (.commit 2) (with_ [.ten 2 (fun q => { q with ready := [c], open_ := [cueRefOf c false] }), .fld (Reg.TEN_OWN_SLOT 1) Fld.TEN_OWN_TILE_EPOCH 6])
      (fun t => ((ten t 2).held.map (·.status), t.cur.commits)) = some ([stSTALE_ROLE], []) := by decide +kernel

/-! ## Single commands -/

theorem test_reset_mode : mode State.reset = mBOOT := by decide

/-- A field that is staged does not change before a commit (R8, R62). -/
theorem test_staged_write_waits :
    after (.registerWrite spi Reg.CUR_RATE 15) State.reset (fun t => (rd t Reg.CUR_RATE == rd State.reset Reg.CUR_RATE, (ten t 0).staged.length))
      = some (true, 1) := by decide +kernel

/-- A write by another tenant to a global CUR register is NOT_OWNER and changes nothing (R82). -/
theorem test_foreign_write_is_refused :
    after (.registerWrite ⟨3, .pcie⟩ Reg.CUR_SERVO 0) State.reset
      (fun t => (rd t Reg.CUR_SERVO == rd State.reset Reg.CUR_SERVO, rf t (Reg.TEN_FAULT_LAST 3) Fld.TEN_FAULT_LAST_STATUS)) = some (true, 0x0101) := by
  decide +kernel

theorem test_add_wraps :
    after (.add 0 3 1 2 0) (engRun 0 (fun g => (g.putS 1 0xFFFFFFFF).putS 2 2)) (fun t => (eng t 0).sr 3) = some 1 := by decide

/-- SLT compares as signed (R214). -/
theorem test_slt_is_signed :
    after (.slt 0 3 1 2 0) (engRun 0 (fun g => (g.putS 1 0xFFFFFFFF).putS 2 1)) (fun t => (eng t 0).sr 3) = some 1 := by decide

/-- s0 reads 0 whatever is written (R208). -/
theorem test_s0_is_zero : after (.ldi 5 0 0xFFFFFFFF) (engRun 5 id) (fun t => (eng t 5).sr 0) = some 0 := by decide

/-- A sequencer's JMP goes on at its target (R299). -/
theorem test_bs_jmp : after (.bsJmp 15 0xABC) (seqRun []) (fun t => rf t (Reg.BS_STATUS 15) Fld.BS_STATUS_PC) = some 0xABC := by decide +kernel

/-- Zero bytes are not listed in host memory. -/
theorem test_memory_is_canonical : (applyAct State.reset (.host 7 [1, 0, 2, 0, 0])).host = [(7, 1), (9, 2)] := by decide

/-- Stages 1 and 2 of the same lamp: the cubic at phase 128, E', the decode table and the linear values (R164 to R169, 05_steep.md). -/
theorem test_reference_decode :
    cubicWeights 128 = (-1024, 9216, 9216, -1024) ∧ [2048, 1024, 512].map (eLuma true) = [32776, 16388, 8194]
    ∧ [256, 257, 512, 513, 128, 129].map (decodeT 0 1000) = [37641, 37994, 198668, 199600, 7132, 7266]
    ∧ [16388, 32776, 8194].map (decodeLin 0 1000) = [37663, 198785, 7136] := by decide +kernel

/-- The green lamp of example screen B, its decoded light given as the background of S0 (05_steep.md). -/
def screenB : State :=
  with_ [.fld (Reg.TD_CTRL 21) Fld.TD_CTRL_EN 1, .fld (Reg.TD_CTRL 21) Fld.TD_CTRL_FIRST_PORT 134, .fld (Reg.TD_CTRL 21) Fld.TD_CTRL_PORTS_M1 5,
    .fld (Reg.TD_GRID 21) Fld.TD_GRID_W 256, .fld (Reg.TD_GRID 21) Fld.TD_GRID_H 240, .fld (Reg.TD_SPLIT 21) Fld.TD_SPLIT_LINES 40,
    .fld (Reg.TD_WALL 21) Fld.TD_WALL_WALL_X 1280, .fld (Reg.TD_WALL 21) Fld.TD_WALL_WALL_Y 240,
    .fld (Reg.BLK_BG_R 0) Fld.BLK_BG_R_VALUE 37663, .fld (Reg.BLK_BG_G 0) Fld.BLK_BG_G_VALUE 198785, .fld (Reg.BLK_BG_B 0) Fld.BLK_BG_B_VALUE 7136,
    .reg (Reg.STP_GMAT_00 0) 0xFB4D442A, .reg (Reg.STP_GMAT_04 0) 0xFE660089, .reg (Reg.STP_GMAT_08 0) 0xFF464254,
    .reg (Reg.STP_GMAT_0C 0) 0xFEC80015, .reg (Reg.STP_GMAT_10 0) 0x4123,
    .fld (Reg.TC_GAIN_RG 21) Fld.TC_GAIN_RG_G_G 32440, .fld (Reg.TS_DRIVE 21) Fld.TS_DRIVE_C_FLOOR 48,
    .fld (Reg.TS_OD 21) Fld.TS_OD_EN 1, .fld (Reg.SP_OD_LO 0) Fld.SP_OD_LO_MASK 32, .dram 156 [37],
    .fld Reg.STP_SEED Fld.STP_SEED_SEED_X 13, .fld Reg.STP_SEED Fld.STP_SEED_SEED_Y 50, .fld Reg.CUR_NUM Fld.CUR_NUM_NUM 100001,
    .fld (Reg.STP_HELD_VALID 0) (⟨9, 9⟩ : Field) 1, .sram (heldAddr (rd State.reset) 21 9 + 3 * (64 * 13 + 6) + 1) [61]]

/-- Region 9 of tile 21, with the records of pixels (69, 45), whose green lamp is OPEN, and (70, 45). -/
def region9 : Steeping :=
  ⟨21, 9, List.replicate (24 * (64 * 13 + 5)) 0 ++ leBytes 24 0x144000000000000000000000000000fcb3e5fc7000000000
    ++ leBytes 24 0xf9000000092800000000000000033dbffa000000000, [], true⟩

/-- Stages 4 to 10 of the lamp: D8, PWM code and code sent (R171 to R196, 05_steep.md). -/
theorem test_reference_lamp :
    demand5 screenB region9 0 1 69 45 = 196000 ∧ demand8 screenB region9 0 1 70 45 = 245062
    ∧ refLamp screenB region9 0 1 70 45 = ⟨65093, 58, true⟩ ∧ heldCode screenB 21 9 1 70 45 = 61
    ∧ lampIndex (rd screenB) 21 70 45 1 = (1, 4051) := by decide +kernel

end Sys2Proof.Tests
end

section
/-! PROOFS of the statements on the machine as a whole and on access codes (00_scope.md). First the facts about sparse maps, the register
map and written words that they rest on, then one theorem for each statement. -/

namespace Sys2Proof.Machine

/-! ## Sparse maps -/

theorem mapGet_cons_same {α : Type} (d : Nat → α) (k : Nat) (v : α) (m : SMap α) : mapGet d ((k, v) :: m) k = v := if_pos rfl

theorem mapGet_cons_other {α : Type} (d : Nat → α) {j k : Nat} (h : j ≠ k) (v : α) (m : SMap α) :
    mapGet d ((k, v) :: m) j = mapGet d m j := if_neg h

section CanonicalMaps

variable {α : Type} [DecidableEq α] (d : Nat → α)

theorem mapWfFrom_cons {lo k : Nat} {v : α} {m : SMap α} :
    mapWfFrom d lo ((k, v) :: m) = true ↔ lo ≤ k ∧ v ≠ d k ∧ mapWfFrom d (k + 1) m = true := by
  simp only [mapWfFrom, Bool.and_eq_true, decide_eq_true_eq, and_assoc]

/-- A map listed at `k` reads like no canonical map whose keys all lie above `k`. -/
theorem le_key_of_reads_alike {lo k : Nat} {v : α} {m n : SMap α} (hv : v ≠ d k) (hn : mapWfFrom d lo n = true)
    (h : ∀ j, mapGet d ((k, v) :: m) j = mapGet d n j) : lo ≤ k :=
  Nat.le_of_not_lt fun hlt => hv (by rw [← mapGet_cons_same d k v m, h k, mapGet_below d hlt hn])

/-- A canonical map is the only one of its readings: the smaller first key would read as listed in one and as unlisted in the other. -/
theorem eq_of_reads_alike_from {lo lo' : Nat} : ∀ {m n : SMap α}, mapWfFrom d lo m = true → mapWfFrom d lo' n = true →
    (∀ j, mapGet d m j = mapGet d n j) → m = n
  | [], [], _, _, _ => rfl
  | [], (k, v) :: n, _, hn, h => by
    obtain ⟨-, hv, -⟩ := (mapWfFrom_cons d).1 hn
    exact absurd ((mapGet_cons_same d k v n).symm.trans (h k).symm) hv
  | (k, v) :: m, [], hm, _, h => by
    obtain ⟨-, hv, -⟩ := (mapWfFrom_cons d).1 hm
    exact absurd ((mapGet_cons_same d k v m).symm.trans (h k)) hv
  | (k, v) :: m, (k', v') :: n, hm, hn, h => by
    obtain ⟨-, hv, hmt⟩ := (mapWfFrom_cons d).1 hm
    obtain ⟨-, hv', hnt⟩ := (mapWfFrom_cons d).1 hn
    have hle : k' ≤ k := le_key_of_reads_alike d hv ((mapWfFrom_cons d).2 ⟨Nat.le_refl k', hv', hnt⟩) h
    have hge : k ≤ k' := le_key_of_reads_alike d hv' ((mapWfFrom_cons d).2 ⟨Nat.le_refl k, hv, hmt⟩) (fun j => (h j).symm)
    obtain rfl : k = k' := Nat.le_antisymm hge hle
    obtain rfl : v = v' := by simpa only [mapGet_cons_same] using h k
    have htail : ∀ j, mapGet d m j = mapGet d n j := fun j => by
      by_cases hj : j = k
      · subst hj
        rw [mapGet_below d (Nat.lt_succ_self j) hmt, mapGet_below d (Nat.lt_succ_self j) hnt]
      · simpa only [mapGet_cons_other d hj] using h j
    rw [eq_of_reads_alike_from hmt hnt htail]

/-- Consecutive writes are what their keys read afterwards. -/
theorem mapGets_mapPuts : ∀ (vs : List α) {m : SMap α} (k : Nat), mapWf d m = true → mapGets d (mapPuts d m k vs) k vs.length = vs
  | [], _, _, _ => rfl
  | v :: vs, m, k, h => by
    have hput : mapWf d (mapPut d m k v) = true := mapPut_wf d h k v
    have hhead : mapGet d (mapPuts d (mapPut d m k v) (k + 1) vs) k = v := by
      rw [mapGet_mapPuts_other d vs _ (k + 1) (by omega), mapGet_mapPut_same d h]
    rw [List.length_cons, mapPuts, mapGets, hhead, mapGets_mapPuts vs (k + 1) hput]

end CanonicalMaps

/-! ## The register map -/

/-- A row's reset value sets no reserved bit (R7). -/
def resetImplemented (r : RegRow) : Bool := rowReset r &&& ~~~(rowImpl r) == 0

/-- A check of the register tables, block by block. -/
theorem blockRows_resetImplemented (a : Nat) : (blockRows a).all resetImplemented = true := by
  unfold blockRows
  split <;> decide +kernel

theorem mem_of_findRow {a : Nat} {r : RegRow} {ix : List Nat} : ∀ {rs : List RegRow}, findRow rs a = some (r, ix) → r ∈ rs
  | q :: rs, h => by
    unfold findRow at h
    split at h
    · split at h
      · obtain ⟨rfl, -⟩ := Prod.mk.inj (Option.some.inj h)
        exact List.mem_cons_self
      · exact List.mem_cons_of_mem q (mem_of_findRow h)
    · exact List.mem_cons_of_mem q (mem_of_findRow h)

/-- A register is a row of its block's table. -/
theorem mem_blockRows_of_regRow {a : Nat} {r : RegRow} {ix : List Nat} (h : regRow? a = some (r, ix)) : r ∈ blockRows a := by
  unfold regRow? at h
  split at h
  · exact mem_of_findRow h
  · cases h

/-- The reset value of a control address sets no reserved bit (R7). -/
theorem regReset_reserved_zero (a : Nat) : regReset a &&& ~~~(regImpl a) = 0 := by
  unfold regReset regImpl
  match h : regRow? a with
  | none => rfl
  | some (r, ix) =>
    exact beq_iff_eq.1 (List.all_eq_true.1 (blockRows_resetImplemented a) r (mem_blockRows_of_regRow h))

/-- In a register file without reserved bits, listed or not, a register reads its reserved bits as 0. -/
theorem mapGet_reserved_zero (a : Nat) : ∀ {m : SMap Word}, reservedZero m = true → mapGet regReset m a &&& ~~~(regImpl a) = 0
  | [], _ => regReset_reserved_zero a
  | (k, w) :: m, h => by
    simp only [reservedZero, List.all_cons, Bool.and_eq_true, beq_iff_eq] at h
    obtain ⟨hw, hm⟩ := h
    by_cases hak : a = k
    · subst hak
      rw [mapGet_cons_same, ← hw, BitVec.and_assoc, BitVec.and_not_self]
      exact BitVec.and_zero
    · rw [mapGet_cons_other _ hak]
      exact mapGet_reserved_zero a hm

theorem reservedZero_of_inv {s : State} (h : s.Inv) : reservedZero s.regs = true ∧ reservedZero s.lampRegs = true := by
  have hr := h.2.1
  simp only [regsWf, Bool.and_eq_true, and_assoc] at hr
  exact ⟨hr.2.2.1, hr.2.2.2⟩

/-! ## Written words -/

/-- A bit after a write: the new bit under RW and, before sealing, under RWL; then a 1 written clears under W1C and sets under W1S (R9). -/
theorem writtenWord_getLsbD (s : State) (row : RegRow) (i b : Nat) (old v : Word) :
    (writtenWord s row i old v).getLsbD b =
      (((if (codeMask row i .rw).getLsbD b || (!sealed s && (codeMask row i .rwl).getLsbD b) then v.getLsbD b else old.getLsbD b)
        && !(v.getLsbD b && (codeMask row i .w1c).getLsbD b)) || (v.getLsbD b && (codeMask row i .w1s).getLsbD b)) := by
  by_cases hb : b < 32
  · have hsealed : (if sealed s then (0 : Word) else codeMask row i .rwl).getLsbD b = (!sealed s && (codeMask row i .rwl).getLsbD b) := by
      cases sealed s <;> simp
    simp only [writtenWord, BitVec.getLsbD_or, BitVec.getLsbD_and, BitVec.getLsbD_not, hb, decide_true, hsealed]
    cases (codeMask row i .rw).getLsbD b || (!sealed s && (codeMask row i .rwl).getLsbD b) <;> simp
  · simp [BitVec.getLsbD_of_ge _ _ (Nat.le_of_not_lt hb)]

/-! ## The step -/

theorem step_cons {s : State} {c : Instr} {cs : List Instr} (h : s.pending = c :: cs) : step s = exec c { s with pending := cs } := by
  simp only [step, h]

theorem step_nil {s : State} (h : s.pending = []) : step s = .next (idle s) := by
  simp only [step, h]

/-- A tick of the reference clock touches no memory, no register and no per-unit data. -/
theorem idle_inv {s : State} (h : s.Inv) : (idle s).Inv := by
  unfold idle
  split <;> exact h

/-- Every command keeps the invariant, for it is a list of primitive updates. -/
theorem exec_inv {c : Instr} {s t : State} (h : s.Inv) (he : exec c s = .next t) : t.Inv := by
  obtain ⟨es, hes⟩ := exec_runs c s
  obtain rfl : runEffs s es = t := Host.Outcome.next.inj (hes.symm.trans he)
  exact runEffs_inv s es h

/-! ## The statements -/

/-- Settles O5: a step is a command, that is a list of primitive updates, or a tick of the clock; each keeps the invariant. -/
theorem stepKeepsInvariant : Obligations.StepKeepsInvariant := by
  unfold Obligations.StepKeepsInvariant
  intro s t hs hstep
  match hp : s.pending with
  | [] =>
    obtain rfl : idle s = t := Host.Outcome.next.inj ((step_nil hp).symm.trans hstep)
    exact idle_inv hs
  | c :: cs =>
    have hrest : State.Inv { s with pending := cs } := hs
    exact exec_inv hrest ((step_cons hp).symm.trans hstep)

/-- Settles O7: a canonical map is determined by its readings, and consecutive writes are read back with the rest unchanged. -/
theorem memoryReadsAsWritten : Obligations.MemoryReadsAsWritten := by
  unfold Obligations.MemoryReadsAsWritten
  refine ⟨fun d m n hm hn h => eq_of_reads_alike_from d hm hn h, fun m a bs hm => ⟨?_, ?_, ?_⟩⟩
  · exact mapGets_mapPuts zeroByte bs a hm
  · exact fun k hk => mapGet_mapPuts_other zeroByte bs m a hk
  · exact mapPuts_wf zeroByte bs a hm

/-- Settles O1, by the definition of a step. -/
theorem stepRunsFrontCommand : Obligations.StepRunsFrontCommand := by
  unfold Obligations.StepRunsFrontCommand
  exact fun s c cs h => step_cons h

/-- Settles O4: after reset every memory, register file and table of per-unit data lists nothing. -/
theorem resetMeetsInvariant : Obligations.ResetMeetsInvariant := ⟨rfl, rfl, rfl⟩

/-- Settles O8: a listed register has no reserved bit by the invariant, an unlisted one reads its reset value, which has none. -/
theorem reservedFieldsReadZero : Obligations.ReservedFieldsReadZero := by
  unfold Obligations.ReservedFieldsReadZero
  intro s a hs
  obtain ⟨hregs, hlamp⟩ := reservedZero_of_inv hs
  exact ⟨mapGet_reserved_zero a hregs, mapGet_reserved_zero a hlamp⟩

/-- Settles O11: the bit of a written word, under each access code in turn. -/
theorem accessCodesAct : Obligations.AccessCodesAct := by
  unfold Obligations.AccessCodesAct
  intro s row i b old v
  simp only [writtenWord_getLsbD]
  refine ⟨?rw, ?rwl, ?w1c, ?w1s, ?other⟩
  case rw => intro hrw hw1c hw1s; simp [hrw, hw1c, hw1s]
  case rwl => intro hrwl hrw hw1c hw1s; cases hs : sealed s <;> simp [hrwl, hrw, hw1c, hw1s]
  case w1c => intro hw1c hrw hrwl hw1s; simp [hw1c, hrw, hrwl, hw1s]
  case w1s => intro hw1s hrw hrwl hw1c; simp [hw1s, hrw, hrwl, hw1c]
  case other => intro hrw hrwl hw1c hw1s; simp [hrw, hrwl, hw1c, hw1s]

end Sys2Proof.Machine
end

section
/-! PROOFS of the statement on supplies (01_outline.md, 16_modes_power.md). First what lists of updates keep, then what the stages of a
start and of a supply loss keep and establish, then the statement. -/

namespace Sys2Proof.Machine

/-! ## What lists of updates keep -/

theorem regsWf_of_inv {s : State} (h : s.Inv) : regsWf s = true := h.2.1

/-- What each update of a list keeps, the list keeps. -/
theorem applyActs_keeps {β : Type} (p : State → β) {xs : List Act} (h : ∀ x ∈ xs, ∀ u : State, u.Inv → p (applyAct u x) = p u) {s : State}
    (hs : s.Inv) : p (applyActs s xs) = p s := by
  induction xs generalizing s with
  | nil => rfl
  | cons x xs ih =>
    rw [applyActs_cons, ih (fun y hy => h y (List.mem_cons_of_mem x hy)) (applyAct_inv s x hs), h x List.mem_cons_self s hs]

/-- The updates of stages in order are updates of the stages. -/
theorem forall_mem_seqE {P : Act → Prop} {es : List Eff} (h : ∀ e ∈ es, ∀ u, ∀ x ∈ e u, P x) (s : State) : ∀ x ∈ seqE es s, P x := by
  induction es generalizing s with
  | nil => exact fun x hx => absurd hx List.not_mem_nil
  | cons e es ih =>
    exact List.forall_mem_append.2 ⟨h e List.mem_cons_self s, ih (fun f hf => h f (List.mem_cons_of_mem e hf)) _⟩

/-- Does an update leave field `g` of the register at `a`: it leaves the register, or sets a field that shares no bit with `g`? -/
def Act.spares (x : Act) (a : Nat) (g : Field) : Bool :=
  !x.mayReg a || (match x with
    | .fld _ f _ => decide (f.lo + f.width ≤ g.lo ∨ g.lo + g.width ≤ f.lo)
    | _ => false)

theorem spares_of_not_mayReg {x : Act} {a : Nat} (h : x.mayReg a = false) (g : Field) : x.spares a g = true := by
  unfold Act.spares
  rw [h]
  rfl

/-- A field that the register implements keeps its value under updates that spare it. -/
theorem rf_applyActs_spares {s : State} (hs : s.Inv) {xs : List Act} (a : Nat) (g : Field) (k : g.lo + g.width ≤ 32)
    (m : regImpl a &&& g.mask = g.mask) (h : ∀ x ∈ xs, x.spares a g = true) : rf (applyActs s xs) a g = rf s a g := by
  refine applyActs_keeps (fun u => rf u a g) (fun x hx u hu => ?_) hs
  have hx := h x hx
  by_cases hr : x.mayReg a = false
  · exact congrArg (getF · g) (rd_applyAct_other u x a hr)
  · cases x with
    | fld b f v =>
      obtain rfl : b = a := by simpa [Act.mayReg] using hr
      exact rf_fld_other (regsWf_of_inv hu) b f g v k m (by simpa [Act.spares, hr] using hx)
    | _ => simp [Act.spares, hr] at hx

/-- What a dropped range reads as. -/
theorem mapGet_mapDrop {α : Type} (d : Nat → α) (m : SMap α) {a n k : Nat} (h : a ≤ k ∧ k < a + n) : mapGet d (mapDrop m a n) k = d k := by
  unfold mapDrop
  induction m with
  | nil => rfl
  | cons e m ih =>
    rw [List.filter_cons]
    split
    · next he =>
      have hk : k ≠ e.1 := by
        rintro rfl
        simp [h] at he
      rw [show e = (e.1, e.2) from rfl, mapGet_cons_other d hk, ih]
    · exact ih

/-! ## Registers at reset -/

theorem regReset_and_regImpl (a : Nat) : regReset a &&& regImpl a = regReset a := by
  refine BitVec.eq_of_getLsbD_eq fun i hi => ?_
  have hb : (regReset a &&& ~~~regImpl a).getLsbD i = false := by
    rw [regReset_reserved_zero]
    exact BitVec.getLsbD_zero
  simp only [BitVec.getLsbD_and, BitVec.getLsbD_not, hi, decide_true, Bool.true_and] at hb ⊢
  revert hb
  cases (regReset a).getLsbD i <;> cases (regImpl a).getLsbD i <;> decide

/-- The registers of a list put to reset, the others as they were. -/
theorem rd_resets (l : SMap Word) {s : State} (hs : s.Inv) (r : Nat) :
    rd (applyActs s (l.map (fun e => Act.reg e.1 (regReset e.1)))) r = if r ∈ l.map Prod.fst then regReset r else rd s r := by
  induction l generalizing s with
  | nil => simp
  | cons e l ih =>
    simp only [List.map_cons, applyActs_cons, List.mem_cons, ih (applyAct_inv s _ hs)]
    by_cases hl : r ∈ l.map Prod.fst
    · simp [hl]
    · by_cases hr : r = e.1
      · subst hr
        rw [if_neg hl, if_pos (.inl rfl)]
        exact (rd_putReg_same (regs_of_inv hs).1 e.1 _).trans (regReset_and_regImpl e.1)
      · simp only [hl, hr, or_self, if_false]
        exact rd_putReg_other s e.1 r _ hr

theorem mapGet_unlisted {α : Type} (d : Nat → α) (k : Nat) {m : SMap α} (h : k ∉ m.map Prod.fst) : mapGet d m k = d k := by
  induction m with
  | nil => rfl
  | cons e m ih =>
    simp only [List.map_cons, List.mem_cons, not_or] at h
    exact (mapGet_cons_other d h.1 e.2 m).trans (ih h.2)

/-- Every listed register put to reset: every register reads its reset value. -/
theorem rd_allReset {s : State} (hs : s.Inv) (r : Nat) : rd (applyActs s (s.regs.map (fun e => Act.reg e.1 (regReset e.1)))) r = regReset r := by
  rw [rd_resets s.regs hs]
  split
  · rfl
  · next h => exact mapGet_unlisted regReset r h

/-! ## The mode and the status -/

theorem mode_implemented : regImpl Reg.SYS_MODE &&& Fld.SYS_MODE_MODE.mask = Fld.SYS_MODE_MODE.mask := by decide
theorem warm_implemented : regImpl Reg.SYS_STATUS &&& Fld.SYS_STATUS_WARM.mask = Fld.SYS_STATUS_WARM.mask := by decide
theorem pfail_implemented : regImpl Reg.SYS_STATUS &&& Fld.SYS_STATUS_PFAIL.mask = Fld.SYS_STATUS_PFAIL.mask := by decide
theorem tripped_implemented : regImpl Reg.SYS_STATUS &&& Fld.SYS_STATUS_TRIPPED.mask = Fld.SYS_STATUS_TRIPPED.mask := by decide
theorem saved_implemented : regImpl Reg.SYS_SUPPLY &&& Fld.SYS_SUPPLY_SAVED.mask = Fld.SYS_SUPPLY_SAVED.mask := by decide

/-- The mode keeps under updates that spare MODE. -/
theorem mode_applyActs_spares {s : State} (hs : s.Inv) {xs : List Act} (h : ∀ x ∈ xs, x.spares Reg.SYS_MODE Fld.SYS_MODE_MODE = true) :
    mode (applyActs s xs) = mode s := rf_applyActs_spares hs _ _ (by decide) mode_implemented h

/-- So does WARM. -/
theorem warm_applyActs_spares {s : State} (hs : s.Inv) {xs : List Act} (h : ∀ x ∈ xs, x.spares Reg.SYS_STATUS Fld.SYS_STATUS_WARM = true) :
    rf (applyActs s xs) Reg.SYS_STATUS Fld.SYS_STATUS_WARM = rf s Reg.SYS_STATUS Fld.SYS_STATUS_WARM :=
  rf_applyActs_spares hs _ _ (by decide) warm_implemented h

theorem mem_setMode {s : State} {m : Nat} {x : Act} (h : x ∈ setMode s m) :
    (∃ f v, x = .fld Reg.SYS_MODE f v) ∨ ∃ r, x = .log r := by
  unfold setMode at h
  split at h
  · cases h
  · simp only [sysEvent, List.cons_append, List.nil_append, List.mem_cons, List.not_mem_nil, or_false] at h
    rcases h with rfl | rfl | rfl
    · exact .inl ⟨_, _, rfl⟩
    · exact .inl ⟨_, _, rfl⟩
    · exact .inr ⟨_, rfl⟩

/-- A change of mode ends in the mode. -/
theorem mode_setMode {s : State} (hs : s.Inv) {m : Nat} (hm : m < 16) : mode (applyActs s (setMode s m)) = m := by
  unfold setMode
  split
  · assumption
  · simp only [sysEvent, List.cons_append, List.nil_append, applyActs_cons, applyActs_nil]
    have hp := applyAct_regs_wf s (.fld Reg.SYS_MODE Fld.SYS_MODE_PREV (mode s)) (regsWf_of_inv hs)
    refine (congrArg (getF · Fld.SYS_MODE_MODE) (rd_applyAct_other _ (.log _) Reg.SYS_MODE rfl)).trans ?_
    exact (rf_fld hp _ _ m (by decide) mode_implemented).trans (Nat.mod_eq_of_lt hm)

theorem mem_lockTo {s : State} {n : Nat} {x : Act} (h : x ∈ lockTo s n) :
    (∃ f v, x = .fld Reg.CUR_LOCK f v) ∨ (∃ t, x = .evt 1 t 6) ∨ ∃ r, x = .log r := by
  unfold lockTo at h
  split at h
  · cases h
  · simp only [eventNow, event, List.mem_cons, List.mem_append, List.mem_map, List.not_mem_nil, or_false] at h
    rcases h with rfl | ⟨t, -, rfl⟩ | rfl
    · exact .inl ⟨_, _, rfl⟩
    · exact .inr (.inl ⟨_, rfl⟩)
    · exact .inr (.inr ⟨_, rfl⟩)

theorem mem_servoSelect {s : State} {n : Nat} {x : Act} (h : x ∈ servoSelect s n) :
    (∃ f : Cur → Cur, x = .cur f ∧ ∀ c, (f c).running = c.running)
      ∨ (∃ f v, x = .fld Reg.CUR_LOCK f v) ∨ (∃ t, x = .evt 1 t 6) ∨ ∃ r, x = .log r := by
  unfold servoSelect at h
  split at h
  · cases h
  · simp only [List.mem_append, List.mem_cons, List.not_mem_nil, or_false] at h
    rcases h with (rfl | rfl) | h
    · exact .inl ⟨_, rfl, fun _ => rfl⟩
    · exact .inr (.inl ⟨_, _, rfl⟩)
    · exact .inr (mem_lockTo h)

theorem servoSelect_noMem (s : State) (n : Nat) : ∀ x ∈ servoSelect s n, x.mayMem = false := by
  intro x hx
  rcases mem_servoSelect hx with ⟨f, rfl, -⟩ | ⟨f, v, rfl⟩ | ⟨t, rfl⟩ | ⟨r, rfl⟩ <;> rfl

theorem sameMemory_of_noMem {s : State} {xs : List Act} (h : ∀ x ∈ xs, x.mayMem = false) : sameMemory s (applyActs s xs) :=
  sameMemory_applyActs s xs (List.all_eq_true.2 fun x hx => by rw [h x hx]; rfl)

/-! ## The spine's loss of state -/

/-- What the spine's loss of state leaves: the Caddy, flash, the fuses, and what the supervisor inputs say. -/
structure BootView where
  caddy : SMap Byte
  flash : SMap Byte
  fuses : Fuses
  por : Bool
  spine : Bool

def bootView (s : State) : BootView := ⟨s.caddy, s.flash, s.fuses, s.sys.por, s.sys.spine⟩

theorem le_ownReg (k o : Nat) : 0x100000 ≤ ownReg k o := by
  unfold ownReg
  split <;> simp only [Reg.TEN_OWN_SLOT, Reg.TEN_OWN_LAYER, Reg.TEN_OWN_TILE, Reg.BANK_OWNER, Reg.TEN_OWN_CLUSTER] <;> omega

/-- Every update of it leaves MODE and what `bootView` shows. -/
theorem spineOff_keeps (b : Bool) (s : State) :
    ∀ x ∈ spineOff b s, x.spares Reg.SYS_MODE Fld.SYS_MODE_MODE = true ∧ ∀ u, bootView (applyAct u x) = bootView u := by
  have hreg : ∀ e ∈ s.regs.filter (fun e => !alwaysOn e.1 && (ownThing e.1).isNone),
      (Act.reg e.1 (regReset e.1)).spares Reg.SYS_MODE Fld.SYS_MODE_MODE = true := fun e he => by
    have hoff : alwaysOn e.1 = false := by simpa using (Bool.and_eq_true_iff.1 (List.mem_filter.1 he).2).1
    refine spares_of_not_mayReg (beq_eq_false_iff_ne.2 fun h => ?_) _
    rw [h] at hoff
    exact absurd hoff (by decide)
  have hown : ∀ k ∈ allThings, (Act.fld (ownReg k.1 k.2) Fld.TEN_OWN_TILE_OWNER 0xFF).spares Reg.SYS_MODE Fld.SYS_MODE_MODE = true :=
    fun k _ => spares_of_not_mayReg (beq_eq_false_iff_ne.2 fun h => absurd (h ▸ le_ownReg k.1 k.2) (by decide)) _
  simp only [spineOff, clearOwners, List.forall_mem_append, List.forall_mem_map]
  refine ⟨⟨⟨⟨⟨⟨⟨⟨⟨⟨⟨⟨⟨fun e he => ⟨hreg e he, fun _ => rfl⟩, fun k hk => ⟨hown k hk, fun _ => rfl⟩⟩,
    ?_⟩, ?_⟩, ?_⟩, ?_⟩, ?_⟩, ?_⟩, ?_⟩, ?_⟩, ?_⟩, ?_⟩, ?inits⟩, ?dram⟩
  case inits =>
    simp only [List.forall_mem_cons]
    refine ⟨?_, ?_, ?_, ?_, ?_, ?_, ?_, ?_, ?_, ?_, ?_, ?_, ?_, ?_, ?_, fun _ h => absurd h List.not_mem_nil⟩ <;> exact ⟨rfl, fun _ => rfl⟩
  case dram =>
    cases b
    · exact fun _ h => absurd h List.not_mem_nil
    · exact List.forall_mem_singleton.2 ⟨rfl, fun _ => rfl⟩
  all_goals exact fun _ _ => ⟨rfl, fun _ => rfl⟩

theorem mode_spineOff {s : State} (hs : s.Inv) (b : Bool) : mode (applyActs s (spineOff b s)) = mode s :=
  mode_applyActs_spares hs fun x hx => (spineOff_keeps b s x hx).1

theorem bootView_spineOff {s : State} (hs : s.Inv) (b : Bool) : bootView (applyActs s (spineOff b s)) = bootView s :=
  applyActs_keeps bootView (fun x hx u _ => (spineOff_keeps b s x hx).2 u) hs

theorem running_spineOff (s : State) (b : Bool) : (applyActs s (spineOff b s)).cur.running = false := by
  simp only [spineOff, applyActs_append]
  cases b <;> rfl

/-- Where DRAM is lost too, DRAM and the banks read as never written (log entry 6). -/
theorem dramByte_spineOff (s : State) {k : Nat} (hk : k < 2 ^ 36) : dramByte (applyActs s (spineOff true s)) k = 0 := by
  have hdrop : ∃ m, (applyActs s (spineOff true s)).dram = mapDrop m 0 (2 ^ 36) := by
    simp only [spineOff, applyActs_append, if_true]
    exact ⟨_, rfl⟩
  obtain ⟨m, hm⟩ := hdrop
  exact (congrArg (mapGet zeroByte · k) hm).trans (mapGet_mapDrop zeroByte m ⟨Nat.zero_le k, by omega⟩)

theorem sramByte_spineOff (s : State) {k : Nat} (hk : k < 2 ^ 27) : sramByte (applyActs s (spineOff true s)) k = 0 := by
  have hdrop : ∃ m, (applyActs s (spineOff true s)).sram = mapDrop m 0 (2 ^ 27) := by
    simp only [spineOff, applyActs_append, if_true]
    exact ⟨_, rfl⟩
  obtain ⟨m, hm⟩ := hdrop
  exact (congrArg (mapGet zeroByte · k) hm).trans (mapGet_mapDrop zeroByte m ⟨Nat.zero_le k, by omega⟩)

/-! ## The start (R535, R605) -/

/-- The Caddy and the fuses pick the boot image. -/
theorem bootPick_congr {s t : State} (hcaddy : s.caddy = t.caddy) (hfuses : s.fuses = t.fuses) : bootPick s = bootPick t := by
  have hread : caddyRead s = caddyRead t := by
    funext a n
    unfold caddyRead
    rw [hcaddy]
  have hroll : rollbackCount s = rollbackCount t := by
    funext n
    unfold rollbackCount
    rw [hread]
  have hseal : sealOk s = sealOk t := by
    funext r b
    unfold sealOk
    rw [hfuses]
  have hvalid : bootValid s = bootValid t := by
    funext n
    unfold bootValid
    rw [hread, hroll, hseal]
  unfold bootPick
  rw [hvalid]

/-- What a start shows beside mode and status: `bootView` and whether curtains run. -/
def startView (s : State) : BootView × Bool := (bootView s, s.cur.running)

theorem startView_spineOff {s : State} (hs : s.Inv) (b : Bool) : startView (applyActs s (spineOff b s)) = (bootView s, false) :=
  Prod.ext (bootView_spineOff hs b) (running_spineOff s b)

theorem startView_servoSelect {s : State} (hs : s.Inv) (n : Nat) : startView (applyActs s (servoSelect s n)) = startView s := by
  refine applyActs_keeps startView (fun x hx u _ => ?_) hs
  rcases mem_servoSelect hx with ⟨f, rfl, hf⟩ | ⟨f, v, rfl⟩ | ⟨t, rfl⟩ | ⟨r, rfl⟩
  · exact Prod.ext rfl (hf u.cur)
  · rfl
  · simp [startView, bootView]
  · rfl

theorem startView_setMode {s : State} (hs : s.Inv) (m : Nat) : startView (applyActs s (setMode s m)) = startView s := by
  refine applyActs_keeps startView (fun x hx u _ => ?_) hs
  rcases mem_setMode hx with ⟨f, v, rfl⟩ | ⟨r, rfl⟩ <;> rfl

theorem warm_setMode {s : State} (hs : s.Inv) (m : Nat) :
    rf (applyActs s (setMode s m)) Reg.SYS_STATUS Fld.SYS_STATUS_WARM = rf s Reg.SYS_STATUS Fld.SYS_STATUS_WARM := by
  refine warm_applyActs_spares hs fun x hx => ?_
  rcases mem_setMode hx with ⟨f, v, rfl⟩ | ⟨r, rfl⟩ <;> rfl

/-- An update of the Caddy's ports, of the DRAM controller, or of a register outside block SYS. -/
def Act.quiet : Act → Bool
  | .fld a _ _ => decide (0x100000 ≤ a)
  | .draw => true
  | .ddr _ => true
  | .cad _ => true
  | _ => false

theorem quiet_cases {x : Act} (h : x.quiet = true) :
    (∃ a f v, 0x100000 ≤ a ∧ x = .fld a f v) ∨ x = .draw ∨ (∃ f, x = .ddr f) ∨ ∃ f, x = .cad f := by
  cases x with
  | fld a f v => exact .inl ⟨a, f, v, of_decide_eq_true h, rfl⟩
  | draw => exact .inr (.inl rfl)
  | ddr f => exact .inr (.inr (.inl ⟨f, rfl⟩))
  | cad f => exact .inr (.inr (.inr ⟨f, rfl⟩))
  | _ => cases h

theorem startView_quiet {s : State} (hs : s.Inv) {xs : List Act} (h : ∀ x ∈ xs, x.quiet = true) : startView (applyActs s xs) = startView s := by
  refine applyActs_keeps startView (fun x hx u _ => ?_) hs
  rcases quiet_cases (h x hx) with ⟨a, f, v, -, rfl⟩ | rfl | ⟨f, rfl⟩ | ⟨f, rfl⟩ <;> rfl

theorem rd_quiet {xs : List Act} (h : ∀ x ∈ xs, x.quiet = true) (s : State) {r : Nat} (hr : r < 0x100000) : rd (applyActs s xs) r = rd s r := by
  refine rd_applyActs_other s xs r (List.all_eq_true.2 fun x hx => ?_)
  rcases quiet_cases (h x hx) with ⟨a, f, v, ha, rfl⟩ | rfl | ⟨f, rfl⟩ | ⟨f, rfl⟩
  · simp only [Act.mayReg, Bool.not_eq_true', beq_eq_false_iff_ne]
    omega
  all_goals rfl

theorem le_of_mem_delayRegs {c a : Nat} (h : a ∈ delayRegs c) : 0x100000 ≤ a := by
  simp only [delayRegs, List.mem_append, List.mem_map, List.mem_singleton, Reg.DLY_CA, Reg.DLY_WCK, Reg.DLY_WR, Reg.DLY_RD] at h
  rcases h with ((⟨j, -, rfl⟩ | rfl) | ⟨j, -, rfl⟩) | ⟨j, -, rfl⟩ <;> omega

theorem loadDelays_quiet (s : State) : ∀ x ∈ loadDelays s, x.quiet = true := by
  simp only [loadDelays, List.forall_mem_append, List.forall_mem_map, List.forall_mem_cons]
  refine ⟨fun a ha => ?_, rfl, rfl, fun _ h => absurd h List.not_mem_nil⟩
  obtain ⟨c, -, ha⟩ := List.mem_flatMap.1 ha
  exact decide_eq_true (le_of_mem_delayRegs ha)

theorem raiseCounter_quiet (n target : Nat) (s : State) : ∀ x ∈ raiseCounter n target s, x.quiet = true := by
  refine forall_mem_seqE (fun e he u x hx => ?_) s
  obtain ⟨k, -, rfl⟩ := List.mem_map.1 he
  obtain rfl := List.mem_singleton.1 hx
  rfl

/-- A stage that clears WARM, changes system state other than the supervisor inputs, and logs. -/
theorem warm_cleared {u : State} (hu : u.Inv) {f : Sys → Sys} (hf : ∀ y, (f y).por = y.por ∧ (f y).spine = y.spine) {ys : List Act}
    (hys : ∀ x ∈ ys, ∃ r, x = Act.log r) {t : State} (ht : applyActs u ([.fld Reg.SYS_STATUS Fld.SYS_STATUS_WARM 0, .sys f] ++ ys) = t) :
    mode t = mode u ∧ startView t = startView u ∧ rf t Reg.SYS_STATUS Fld.SYS_STATUS_WARM = 0 := by
  subst ht
  have hlog : ∀ {P : Act → Prop}, (∀ r, P (.log r)) → ∀ x ∈ ys, P x := fun h x hx => by
    obtain ⟨r, rfl⟩ := hys x hx
    exact h r
  refine ⟨mode_applyActs_spares hu ?mode, applyActs_keeps startView ?view hu, ?warm⟩
  case mode => exact List.forall_mem_append.2 ⟨List.forall_mem_cons.2 ⟨rfl, List.forall_mem_singleton.2 rfl⟩, hlog fun _ => rfl⟩
  case view =>
    have hsys : ∀ v : State, startView (applyAct v (.sys f)) = startView v := fun v => by
      obtain ⟨hpor, hspine⟩ := hf v.sys
      simp [startView, bootView, hpor, hspine]
    exact List.forall_mem_append.2 ⟨List.forall_mem_cons.2 ⟨fun _ _ => rfl, List.forall_mem_singleton.2 fun v _ => hsys v⟩,
      hlog fun _ _ _ => rfl⟩
  case warm =>
    rw [List.cons_append, List.singleton_append, applyActs_cons,
      warm_applyActs_spares (applyAct_inv u _ hu) (List.forall_mem_cons.2 ⟨rfl, hlog fun _ => rfl⟩)]
    exact rf_fld (regsWf_of_inv hu) _ _ 0 (by decide) warm_implemented

/-- A stage of quiet updates leaves what a start shows. -/
theorem start_quiet {u : State} (hu : u.Inv) {xs : List Act} (h : ∀ x ∈ xs, x.quiet = true) :
    mode (applyActs u xs) = mode u ∧ startView (applyActs u xs) = startView u
      ∧ rf (applyActs u xs) Reg.SYS_STATUS Fld.SYS_STATUS_WARM = rf u Reg.SYS_STATUS Fld.SYS_STATUS_WARM :=
  ⟨congrArg (getF · Fld.SYS_MODE_MODE) (rd_quiet h u (by decide)), startView_quiet hu h,
    congrArg (getF · Fld.SYS_STATUS_WARM) (rd_quiet h u (by decide))⟩

/-- The first stages of a start: the spine loses its state, the clock runs free, and the mode is BOOT. -/
theorem boot_afterSpineOff {s : State} (hs : s.Inv) :
    let boot := runEffs s [spineOff false, fun s => servoSelect s 0, fun s => setMode s mBOOT]
    boot.Inv ∧ mode boot = mBOOT ∧ startView boot = (bootView s, false) := by
  have iOff := applyActs_inv s (spineOff false s) hs
  have vOff := startView_spineOff hs false
  simp only [runEffs_cons, runEffs_nil]
  generalize applyActs s (spineOff false s) = off at *
  have iFree := applyActs_inv off (servoSelect off 0) iOff
  have vFree := startView_servoSelect iOff 0
  generalize applyActs off (servoSelect off 0) = free at *
  exact ⟨applyActs_inv free _ iFree, mode_setMode iFree (by decide), by rw [startView_setMode iFree, vFree, vOff]⟩

/-- A start ends in BOOT, or RECOVERY without a boot image, with no curtains and WARM 0; the supervisor inputs stand. -/
theorem coldStart_starts {s : State} (hs : s.Inv) :
    mode (applyActs s (coldStart s)) = (if (bootPick s).isSome then mBOOT else mRECOVERY)
      ∧ startView (applyActs s (coldStart s)) = (bootView s, false)
      ∧ rf (applyActs s (coldStart s)) Reg.SYS_STATUS Fld.SYS_STATUS_WARM = 0 := by
  have hbegin := boot_afterSpineOff hs
  simp only [coldStart, applyActs_seqE, runEffs_cons, runEffs_nil] at hbegin ⊢
  generalize applyActs _ (setMode _ mBOOT) = boot at *
  obtain ⟨iBoot, mBoot, vBoot⟩ := hbegin
  generalize hclear : applyActs boot _ = clear
  have iClear : clear.Inv := hclear ▸ applyActs_inv boot _ iBoot
  have hwarm : mode clear = mode boot ∧ startView clear = startView boot ∧ rf clear Reg.SYS_STATUS Fld.SYS_STATUS_WARM = 0 := by
    refine warm_cleared iBoot ?sys ?log hclear
    case sys => exact fun _ => ⟨rfl, rfl⟩
    case log =>
      intro x hx
      split at hx
      · exact ⟨_, List.mem_singleton.1 hx⟩
      · cases hx
  obtain ⟨mClear, vClear, wClear⟩ := hwarm
  have iDelays := applyActs_inv clear (loadDelays clear) iClear
  obtain ⟨mDelays, vDelays, wDelays⟩ := start_quiet iClear (loadDelays_quiet clear)
  generalize applyActs clear (loadDelays clear) = delays at *
  have hview : startView delays = (bootView s, false) := by rw [vDelays, vClear, vBoot]
  have hpick : bootPick delays = bootPick s := bootPick_congr (congrArg (·.1.caddy) hview) (congrArg (·.1.fuses) hview)
  have mode_eq : mode delays = mBOOT := by rw [mDelays, mClear, mBoot]
  have warm_eq : rf delays Reg.SYS_STATUS Fld.SYS_STATUS_WARM = 0 := by rw [wDelays, wClear]
  have hlast : ∀ v : Nat, ∀ x ∈ [Act.fld Reg.PNX_RUN_INFO Fld.PNX_RUN_INFO_COUNTER v], x.quiet = true :=
    fun _ => List.forall_mem_singleton.2 rfl
  rw [hpick]
  cases hb : bootPick s with
  | some n =>
    have iPick := applyActs_inv delays (raiseCounter 1 n delays) iDelays
    obtain ⟨mPick, vPick, wPick⟩ := start_quiet iDelays (raiseCounter_quiet 1 n delays)
    obtain ⟨mLast, vLast, wLast⟩ := start_quiet iPick (hlast _)
    exact ⟨mLast.trans (mPick.trans mode_eq), vLast.trans (vPick.trans hview), wLast.trans (wPick.trans warm_eq)⟩
  | none =>
    have iPick := applyActs_inv delays (setMode delays mRECOVERY) iDelays
    obtain ⟨mLast, vLast, wLast⟩ := start_quiet iPick (hlast _)
    exact ⟨mLast.trans (mode_setMode iDelays (by decide)), vLast.trans ((startView_setMode iDelays _).trans hview),
      wLast.trans ((warm_setMode iDelays _).trans warm_eq)⟩

/-- What a start from PILOT needs, one by one. -/
theorem mayStart_iff {s : State} : mayStart s = true ↔ mode s = mPILOT ∧ s.sys.vddAo = true ∧ s.sys.por = true ∧ s.sys.spine = true
    ∧ s.sys.pfail = false ∧ s.sys.testEn = false ∧ rf s Reg.SYS_STATUS Fld.SYS_STATUS_TRIPPED = 0 := by
  simp only [mayStart, Bool.and_eq_true, beq_iff_eq, Bool.not_eq_true', and_assoc]

/-! ## POR_N -/

/-- The state right after POR_N rose in PILOT, TEST_EN at level `b`. -/
def porHigh (b : Bool) (s : State) : State := { s with sys := { s.sys with por := true, spine := true, testEn := b } }

/-- From there Roura starts where nothing keeps it from starting. -/
theorem runEffs_porRise {s : State} (h : mode s = mPILOT) (b : Bool) :
    runEffs s (porRise b) = if mayStart (porHigh b s) then applyActs (porHigh b s) (coldStart (porHigh b s)) else porHigh b s := by
  have hagain : (mode s == mBOOT && !s.sys.spine) = false := by rw [h]; rfl
  have hfirst : applyAct s (.sys (fun y => { y with por := true, spine := true, testEn := b })) = porHigh b s := rfl
  simp only [porRise, runEffs_cons, runEffs_nil, hagain, Bool.false_eq_true, if_false, applyActs_cons, applyActs_nil, hfirst]
  split <;> rfl

theorem exec_porNRise_low {s : State} (hs : s.Inv) (hmode : mode s = mPILOT) (hao : s.sys.vddAo = true) (hpf : s.sys.pfail = false)
    (htrip : rf s Reg.SYS_STATUS Fld.SYS_STATUS_TRIPPED = 0) :
    ∃ t, exec (.porNRise false) s = .next t ∧ mode t = (if (bootPick s).isSome then mBOOT else mRECOVERY) ∧ t.cur.running = false
      ∧ t.sys.por = true ∧ t.sys.spine = true ∧ rf t Reg.SYS_STATUS Fld.SYS_STATUS_WARM = 0 := by
  have hmay : mayStart (porHigh false s) = true := mayStart_iff.2 ⟨hmode, hao, rfl, rfl, hpf, rfl, htrip⟩
  have hrun := (runEffs_porRise hmode false).trans (if_pos hmay)
  have hpick : bootPick (porHigh false s) = bootPick s := bootPick_congr rfl rfl
  obtain ⟨hm, hv, hw⟩ := coldStart_starts (s := porHigh false s) hs
  generalize applyActs (porHigh false s) (coldStart (porHigh false s)) = t at *
  exact ⟨t, congrArg Host.Outcome.next hrun, by rw [hm, hpick], congrArg (·.2) hv, congrArg (·.1.por) hv, congrArg (·.1.spine) hv, hw⟩

theorem exec_porNRise_high {s : State} (hmode : mode s = mPILOT) :
    ∃ t, exec (.porNRise true) s = .next t ∧ mode t = mPILOT ∧ t.sys.testEn = true ∧ t.regs = s.regs ∧ sameMemory s t := by
  have hmay : ¬ mayStart (porHigh true s) = true := fun h => by
    obtain ⟨-, -, -, -, -, htest, -⟩ := mayStart_iff.1 h
    cases htest
  exact ⟨_, congrArg Host.Outcome.next ((runEffs_porRise hmode true).trans (if_neg hmay)), hmode, rfl, rfl, sameMemory_refl s⟩

/-! ## VDD_AO -/

theorem exec_vddAoGood {s : State} (hs : s.Inv) (ball : Bool) (hmode : mode s = mOFF) :
    ∃ t, exec (.vddAoGood ball) s = .next t ∧ mode t = mPILOT ∧ t.sys.vddAo = true ∧ t.sys.testEn = ball ∧ now t = now s + 20000
      ∧ t.sys.holdReady = s.sys.vddHold ∧ (∀ r, r ≠ Reg.SYS_MODE → rd t r = rd s r) ∧ sameMemory s t := by
  refine ⟨_, rfl, ?_⟩
  simp only [aoGood, runEffs_cons, runEffs_nil, hmode, if_true]
  refine ⟨?mode, rfl, rfl, Nat.max_eq_right (Nat.le_add_right _ _), rfl, fun r hr => rd_applyActs_other s _ r ?reg, sameMemory_applyActs s _ rfl⟩
  case reg => simp [Act.mayReg, Ne.symm hr]
  case mode =>
    have hw : ∀ w, getF (putF (putF w Fld.SYS_MODE_PREV mOFF) Fld.SYS_MODE_MODE mPILOT) Fld.SYS_MODE_MODE = mPILOT := fun w =>
      getF_putF _ _ _ (by decide)
    exact (rf_reg (s := applyActs s [.sys _, .clockTo _]) (regsWf_of_inv (applyActs_inv s _ hs)) _ _ _ (by decide) mode_implemented).trans (hw _)

theorem exec_vddAoLoss {s : State} (hs : s.Inv) (hrun : s.cad.run = none) :
    ∃ t, exec .vddAoLoss s = .next t ∧ mode t = mOFF ∧ t.sys.vddAo = false ∧ (∀ r, r ≠ Reg.SYS_MODE → rd t r = regReset r)
      ∧ (∀ k, k < 2 ^ 36 → dramByte t k = 0) ∧ (∀ k, k < 2 ^ 27 → sramByte t k = 0)
      ∧ (∀ k, caddyByte t k = caddyByte s k) ∧ (∀ k, flashByte t k = flashByte s k) := by
  refine ⟨_, rfl, ?_⟩
  simp only [aoLoss, runEffs_cons, runEffs_nil, hrun, Option.isSome_none, Bool.false_eq_true, if_false, applyActs_nil]
  have iOff := applyActs_inv s (spineOff true s) hs
  have vOff := bootView_spineOff hs true
  have dOff : ∀ k, k < 2 ^ 36 → dramByte (applyActs s (spineOff true s)) k = 0 := fun k hk => dramByte_spineOff s hk
  have bOff : ∀ k, k < 2 ^ 27 → sramByte (applyActs s (spineOff true s)) k = 0 := fun k hk => sramByte_spineOff s hk
  generalize applyActs s (spineOff true s) = off at *
  have iFree := applyActs_inv off (servoSelect off 0) iOff
  have sFree : sameMemory off (applyActs off (servoSelect off 0)) := sameMemory_of_noMem (servoSelect_noMem off 0)
  generalize applyActs off (servoSelect off 0) = free at *
  rw [applyActs_append]
  have iReset := applyActs_inv free (free.regs.map (fun e => Act.reg e.1 (regReset e.1))) iFree
  have rReset := rd_allReset iFree
  have sReset : sameMemory free (applyActs free (free.regs.map (fun e => Act.reg e.1 (regReset e.1)))) :=
    sameMemory_of_noMem (List.forall_mem_map.2 fun _ _ => rfl)
  generalize hreset : applyActs free (free.regs.map (fun e => Act.reg e.1 (regReset e.1))) = reset at *
  refine ⟨?mode, rfl, fun r hr => (rd_applyActs_other reset _ r ?reg).trans (rReset r), ?mem⟩
  case reg => simp [Act.mayReg, Ne.symm hr]
  case mode =>
    exact (rf_reg (regsWf_of_inv iReset) _ _ _ (by decide) mode_implemented).trans (getF_putF _ _ _ (by decide))
  case mem =>
    generalize hlast : applyActs reset _ = last
    have sLast : sameMemory reset last := by
      rw [← hlast]
      exact sameMemory_applyActs reset _ rfl
    obtain ⟨hd, hb, -, hc, hf⟩ := sameMemory_trans sFree (sameMemory_trans sReset sLast)
    refine ⟨fun k hk => (hd k).trans (dOff k hk), fun k hk => (hb k).trans (bOff k hk), fun k => (hc k).trans ?_, fun k => (hf k).trans ?_⟩
    · exact congrArg (fun v => mapGet erasedByte v.caddy k) vOff
    · exact congrArg (fun v => mapGet erasedByte v.flash k) vOff

/-! ## The spine and port supplies -/

theorem exec_spineSupplyLoss {s : State} (hmode : fromBoot (mode s) = true) (hloss : s.sys.supplyLoss = false) :
    exec .spineSupplyLoss s = .next (runEffs s [stopLines, stopSeries false, spineOff true, fun s => servoSelect s 0,
      fun s => setMode s mBOOT, fun _ => [.sys (fun y => { y with spine := false, por := false })]]) := by
  have hcond : (fromBoot (mode s) && !s.sys.supplyLoss) = true := by rw [hmode, hloss]; rfl
  show Host.Outcome.next (runEffs s spineLoss) = _
  rw [spineLoss, runEffs_cons, if_pos hcond, applyActs_seqE, ← runEffs_append]
  rfl

theorem exec_spineSupplyLoss_off {s : State} (hmode : fromBoot (mode s) = false) :
    exec .spineSupplyLoss s = nextBy s [.sys (fun y => { y with spine := false, por := false })] := by
  have hcond : ¬ (fromBoot (mode s) && !s.sys.supplyLoss) = true := by rw [hmode]; exact Bool.false_ne_true
  show Host.Outcome.next (runEffs s spineLoss) = _
  rw [spineLoss, runEffs_cons, if_neg hcond]
  rfl

/-! ## PFAIL_N -/

/-- The state right after PFAIL_N fell, or rose. -/
def pfailAt (low : Bool) (s : State) : State :=
  applyActs s [.sys (fun y => { y with pfail := low }), .fld Reg.SYS_STATUS Fld.SYS_STATUS_PFAIL (if low then 1 else 0)]

theorem pfailAt_inv {s : State} (hs : s.Inv) (low : Bool) : (pfailAt low s).Inv := applyActs_inv s _ hs

@[simp] theorem mode_pfailAt (low : Bool) (s : State) : mode (pfailAt low s) = mode s :=
  congrArg (getF · Fld.SYS_MODE_MODE) (rd_applyActs_other s _ Reg.SYS_MODE rfl)

@[simp] theorem sys_pfailAt (low : Bool) (s : State) : (pfailAt low s).sys = { s.sys with pfail := low } := rfl

theorem tripped_pfailAt {s : State} (hs : s.Inv) (low : Bool) :
    rf (pfailAt low s) Reg.SYS_STATUS Fld.SYS_STATUS_TRIPPED = rf s Reg.SYS_STATUS Fld.SYS_STATUS_TRIPPED :=
  rf_applyActs_spares hs _ _ (by decide) tripped_implemented
    (List.forall_mem_cons.2 ⟨rfl, List.forall_mem_singleton.2 rfl⟩)

theorem pfail_pfailAt {s : State} (hs : s.Inv) (low : Bool) :
    rf (pfailAt low s) Reg.SYS_STATUS Fld.SYS_STATUS_PFAIL = if low then 1 else 0 :=
  (rf_fld (regsWf_of_inv (applyAct_inv s (.sys _) hs)) _ _ _ (by decide) pfail_implemented).trans (by cases low <;> rfl)

theorem sameMemory_pfailAt (low : Bool) (s : State) : sameMemory s (pfailAt low s) := sameMemory_applyActs s _ rfl

theorem exec_pfailNFall {s : State} (hmode : fromBoot (mode s) = true) (hloss : s.sys.supplyLoss = false) :
    exec .pfailNFall s = .next (runEffs s [
      fun _ => [.sys (fun y => { y with pfail := true }), .fld Reg.SYS_STATUS Fld.SYS_STATUS_PFAIL 1],
      fun s => .sys (fun y => { y with supplyLoss := true }) :: sysEvent s 4 0, dropRuns,
      fun _ => [.cur (fun c => { c with commits := [] }), .cad (fun c => { c with house := [], tenant := none }),
        .fld Reg.CAD_STATUS Fld.CAD_STATUS_HOUSE_WAIT 0], saveCues,
      fun s => if intervalNear s then [] else .clockTo (now s + 1000000) :: supplyEnds s]) := by
  have hcond : ¬ (!fromBoot (mode (pfailAt true s)) || (pfailAt true s).sys.supplyLoss) = true := by
    rw [mode_pfailAt, hmode, sys_pfailAt, hloss]
    exact Bool.false_ne_true
  have hfirst : applyActs s [.sys (fun y => { y with pfail := true }), .fld Reg.SYS_STATUS Fld.SYS_STATUS_PFAIL 1] = pfailAt true s := rfl
  show Host.Outcome.next (applyActs s (pfailFall s)) = _
  rw [pfailFall, applyActs_seqE, runEffs_cons, runEffs_cons, runEffs_cons, hfirst, if_neg hcond, applyActs_seqE, runEffs_nil]

/-- Before BOOT, and while supply-loss handling runs, a fall of PFAIL_N is only seen. -/
theorem exec_pfailNFall_seen {s : State} (h : fromBoot (mode s) = false ∨ s.sys.supplyLoss = true) :
    exec .pfailNFall s = .next (pfailAt true s) := by
  have hcond : (!fromBoot (mode (pfailAt true s)) || (pfailAt true s).sys.supplyLoss) = true := by
    rw [mode_pfailAt, sys_pfailAt]
    rcases h with h | h
    · rw [h]; rfl
    · exact Bool.or_eq_true_iff.2 (.inr h)
  have hfirst : applyActs s [.sys (fun y => { y with pfail := true }), .fld Reg.SYS_STATUS Fld.SYS_STATUS_PFAIL 1] = pfailAt true s := rfl
  show Host.Outcome.next (applyActs s (pfailFall s)) = _
  rw [pfailFall, applyActs_seqE, runEffs_cons, runEffs_cons, hfirst, if_pos hcond, runEffs_nil, applyActs_nil]

theorem exec_pfailNRise (s : State) :
    exec .pfailNRise s = .next (if mayStart (pfailAt false s) then applyActs (pfailAt false s) (coldStart (pfailAt false s))
      else pfailAt false s) := by
  have hfirst : applyActs s [.sys (fun y => { y with pfail := false }), .fld Reg.SYS_STATUS Fld.SYS_STATUS_PFAIL 0] = pfailAt false s := rfl
  show Host.Outcome.next (applyActs s (pfailRise s)) = _
  rw [pfailRise, applyActs_seqE, runEffs_cons, runEffs_cons, hfirst, runEffs_nil]
  split <;> rfl

theorem exec_pfailNRise_stays {s : State} (hmode : mode s ≠ mPILOT) : exec .pfailNRise s = .next (pfailAt false s) := by
  rw [exec_pfailNRise, if_neg fun h => hmode ((mode_pfailAt false s).symm.trans (mayStart_iff.1 h).1)]

theorem exec_pfailNRise_starts {s : State} (hs : s.Inv) (hmode : mode s = mPILOT) (hao : s.sys.vddAo = true) (hpor : s.sys.por = true)
    (hspine : s.sys.spine = true) (htest : s.sys.testEn = false) (htrip : rf s Reg.SYS_STATUS Fld.SYS_STATUS_TRIPPED = 0) :
    ∃ t, exec .pfailNRise s = .next t ∧ mode t = (if (bootPick s).isSome then mBOOT else mRECOVERY) := by
  have hmay : mayStart (pfailAt false s) = true :=
    mayStart_iff.2 ⟨(mode_pfailAt false s).trans hmode, hao, hpor, hspine, rfl, htest, (tripped_pfailAt hs false).trans htrip⟩
  have hpick : bootPick (pfailAt false s) = bootPick s := bootPick_congr rfl rfl
  obtain ⟨hm, -, -⟩ := coldStart_starts (pfailAt_inv hs false)
  exact ⟨_, (exec_pfailNRise s).trans (by rw [if_pos hmay]), by rw [hm, hpick]⟩

/-! ## The saved cues (R612) -/

theorem length_byRelease (s : State) (l : List SchedCue) : (byRelease s l).length = l.length := by
  have hinsert : ∀ (l acc : List SchedCue), (l.foldl (fun acc q => acc.takeWhile (fun p => decide (releaseAt s p ≤ releaseAt s q)) ++ [q]
      ++ acc.dropWhile (fun p => decide (releaseAt s p ≤ releaseAt s q))) acc).length = acc.length + l.length := fun l => by
    induction l with
    | nil => exact fun acc => rfl
    | cons q l ih =>
      intro acc
      have hsplit := congrArg List.length (List.takeWhile_append_dropWhile (p := fun p => decide (releaseAt s p ≤ releaseAt s q)) (l := acc))
      rw [List.length_append] at hsplit
      rw [List.foldl_cons, ih]
      simp only [List.length_append, List.length_cons, List.length_nil]
      omega
  exact (hinsert l []).trans (Nat.zero_add _)

theorem house_queueCads (op : Nat) (addr : Nat → Nat) (data : Nat → List Byte) (why : CadWhy) (v : State) (l : List Nat) (u : State) :
    (applyActs u (l.flatMap (fun p => queueCad op (addr p) (data p) why v))).cad.house.length = u.cad.house.length + l.length := by
  induction l generalizing u with
  | nil => rfl
  | cons p l ih =>
    rw [List.flatMap_cons, applyActs_append, ih]
    simp only [queueCad, applyActs_cons, applyActs_nil, applyAct_cad, List.length_append, List.length_cons, List.length_nil]
    omega

/-- SAVED after the last updates of `saveCues`, whatever came before. -/
theorem saved_saveCues {u : State} (hu : u.Inv) {n : Nat} (hn : n < 256) (d : Nat) (f : Sys → Sys) :
    rf (applyActs u [.fld Reg.SYS_SUPPLY Fld.SYS_SUPPLY_SAVED n, .fld Reg.SYS_SUPPLY Fld.SYS_SUPPLY_DROPPED d, .sys f])
      Reg.SYS_SUPPLY Fld.SYS_SUPPLY_SAVED = n := by
  rw [applyActs_cons, rf_applyActs_spares (applyAct_inv u _ hu) _ _ (by decide) saved_implemented
    (List.forall_mem_cons.2 ⟨rfl, List.forall_mem_singleton.2 rfl⟩)]
  exact (rf_fld (regsWf_of_inv hu) _ _ n (by decide) saved_implemented).trans (Nat.mod_eq_of_lt hn)

/-- The first 16 scheduled cues are counted, and queued for the Caddy as one erase and a page for each four. -/
theorem saveCues_saves {u : State} (hu : u.Inv) :
    rf (applyActs u (saveCues u)) Reg.SYS_SUPPLY Fld.SYS_SUPPLY_SAVED = min 16 u.book.sched.length
      ∧ (u.book.sched = [] → (applyActs u (saveCues u)).cad = u.cad)
      ∧ (u.book.sched ≠ [] → (applyActs u (saveCues u)).cad.house.length = u.cad.house.length + 1 + (min 16 u.book.sched.length + 3) / 4) := by
  have hkeep : ((byRelease u u.book.sched).take 16).length = min 16 u.book.sched.length := by rw [List.length_take, length_byRelease]
  have hempty : ((byRelease u u.book.sched).take 16).isEmpty = true ↔ u.book.sched = [] := by
    rw [List.isEmpty_iff_length_eq_zero, hkeep, ← List.length_eq_zero_iff]
    omega
  unfold saveCues
  dsimp only
  rw [applyActs_append, hkeep]
  refine ⟨saved_saveCues (applyActs_inv u _ hu) (by omega) _ _, fun h => ?none, fun h => ?some⟩
  case none =>
    rw [if_pos (hempty.2 h)]
    rfl
  case some =>
    rw [if_neg (mt hempty.1 h), applyActs_append]
    refine (house_queueCads 1 _ _ _ u _ _).trans ?_
    rw [List.length_range]
    exact congrArg (· + _) List.length_append

/-! ## REFCLK -/

theorem exec_refclkLoss_idle {s : State} (h : s.cad.run = none) : exec .refclkLoss s = nextBy s [.sys (fun y => { y with refclk := false })] := by
  have hcond : ¬ s.cad.run.isSome = true := by rw [h]; exact Bool.false_ne_true
  show Host.Outcome.next (runEffs s [_, _]) = _
  rw [runEffs_cons, if_neg hcond]
  rfl

theorem exec_refclkLoss_busy {s : State} (h : s.cad.run.isSome = true) :
    exec .refclkLoss s = .next (runEffs s (cadComplete ++ [fun _ => [.sys (fun y => { y with refclk := false })]])) := by
  show Host.Outcome.next (runEffs s [_, _]) = _
  rw [runEffs_cons, if_pos h, applyActs_seqE, runEffs_append]

/-! ## The statement -/

/-- Settles O59: each supply's coming and going by the stages it runs; the start by what its stages keep and establish. -/
theorem suppliesComeAndGo : Obligations.SuppliesComeAndGo := by
  unfold Obligations.SuppliesComeAndGo
  intro s ball hs
  refine ⟨exec_vddAoGood hs ball, exec_vddAoLoss hs, exec_porNRise_low hs, exec_porNRise_high, exec_spineSupplyLoss, exec_spineSupplyLoss_off,
    ?spineOff, fun _ => rfl, exec_pfailNFall, fun _ hu => saveCues_saves hu, ?pfailSeen, ?pfailStays, exec_pfailNRise_starts hs,
    exec_refclkLoss_idle, exec_refclkLoss_busy⟩
  case spineOff =>
    exact fun u hu => ⟨fun _ => dramByte_spineOff u, fun _ => sramByte_spineOff u, running_spineOff u true, mode_spineOff hu true⟩
  case pfailSeen =>
    exact fun h => ⟨_, exec_pfailNFall_seen h, rfl, pfail_pfailAt hs true, mode_pfailAt true s, sameMemory_pfailAt true s⟩
  case pfailStays =>
    exact fun h => ⟨_, exec_pfailNRise_stays h, rfl, pfail_pfailAt hs false, sameMemory_pfailAt false s⟩

end Sys2Proof.Machine
end

section
/-! PROOFS of the statements on curtains (02_curtain.md): the tick of the show clock, commits, the exact periods of a series and the
instants of a curtain. First what an event leaves of a staging set and what the rounding of periods and an edge's turn give, then one
theorem for each statement. -/

namespace Sys2Proof.Machine

/-! ## The show clock (R34) -/

/-- A tick splits the advanced accumulator into whole nanoseconds and a rest. -/
theorem tick_advances {c : Cur} (h : -1000000 ≤ c.slew) :
    (6000000 * (tick c).clock + (tick c).frac : Int) = 6000000 * c.clock + c.frac + 5 * (1000000 + c.slew) := by
  simp only [tick]
  omega

theorem tick_frac_lt (c : Cur) : (tick c).frac < 6000000 := Nat.mod_lt _ (by decide)

theorem idle_of_clocked {s : State} (hclk : s.sys.refclk = true) (hao : s.sys.vddAo = true) : idle s = { s with cur := tick s.cur } := by
  simp only [idle, hclk, hao, Bool.and_self, if_true]

/-- Settles O2: an idle step with the clock and its supply there is a tick, which changes the clock and its fraction alone. -/
theorem stepTicksOnEmptyQueue : Obligations.StepTicksOnEmptyQueue := by
  unfold Obligations.StepTicksOnEmptyQueue
  intro s hq hclk hao hslew
  exact ⟨(tick s.cur).clock, (tick s.cur).frac, (step_nil hq).trans (congrArg Host.Outcome.next (idle_of_clocked hclk hao)),
    tick_frac_lt s.cur, tick_advances hslew⟩

/-! ## Staging sets under events -/

/-- A tenant replaced by one with the same staging set: every tenant keeps its staging set. -/
theorem staged_mapPut {s : State} (hs : s.Inv) {u : Nat} {q : Tenant} (hq : q.staged = (ten s u).staged) (t : Nat) :
    (mapGet tenantDflt (mapPut tenantDflt s.tenants u q) t).staged = (ten s t).staged := by
  obtain ⟨-, -, -, -, -, -, -, -, -, hten⟩ := units_of_inv hs
  by_cases htu : t = u
  · rw [htu, mapGet_mapPut_same tenantDflt hten, hq]
  · rw [mapGet_mapPut_other tenantDflt htu, ten]

theorem staged_signalTenant {s : State} (hs : s.Inv) (u vec t : Nat) : (ten (signalTenant s u vec) t).staged = (ten s t).staged := by
  unfold signalTenant
  dsimp only
  split
  · split <;> split <;> exact staged_mapPut (u := u) hs (by rfl) t
  · rfl

theorem staged_raiseEvt {s : State} (hs : s.Inv) (blk u b t : Nat) : (ten (raiseEvt s blk u b) t).staged = (ten s t).staged := by
  have hset : State.Inv { s with regs := putReg s.regs (evtStatus blk u) (rd s (evtStatus blk u) ||| BitVec.ofNat 32 (2 ^ b)) } :=
    applyAct_inv s (.reg _ _) hs
  unfold raiseEvt
  dsimp only
  split
  · exact staged_signalTenant hset u _ t
  · rfl

/-- Does an update report only: it touches no memory, no state of the sync keeper and no staging set? -/
def Act.reports (x : Act) : Bool :=
  !x.mayMem && !x.mayCur && (match x with
    | .ten _ _ => false
    | _ => true)

theorem reports_leaves {x : Act} (h : x.reports = true) : x.mayMem = false ∧ x.mayCur = false := by
  simp only [Act.reports, Bool.and_eq_true, Bool.not_eq_true'] at h
  exact h.1

theorem staged_applyAct_reports {s : State} (hs : s.Inv) {x : Act} (h : x.reports = true) (t : Nat) :
    (ten (applyAct s x) t).staged = (ten s t).staged := by
  cases x with
  | ten i f => exact absurd h Bool.false_ne_true
  | evt blk u b => exact staged_raiseEvt hs blk u b t
  | signal u vec => exact staged_signalTenant hs u vec t
  | _ => rfl

/-- An event is reported: status bits, signals and a record. -/
theorem eventNow_reports (s : State) (blk b : Nat) (ts : List Nat) (unit : Nat) (a : BitVec 64) :
    ∀ x ∈ eventNow s blk b ts unit a, x.reports = true := by
  intro x hx
  rcases List.mem_append.1 hx with hx | hx
  · obtain ⟨t, -, rfl⟩ := List.mem_map.1 hx
    rfl
  · rw [List.mem_singleton.1 hx]
    rfl

/-! ## Commits (R62, R63) -/

/-- The commit that a tenant's write of CUR_COMMIT makes: its whole staging set, late when the commit close has passed. -/
def commitTaken (s : State) (t tag : Nat) (cue : Option CueRef) : Commit :=
  ⟨t, tag, (ten s t).staged, now s, s.cur.running && s.cur.closed, cue, none, false⟩

/-- The commit is queued behind the others, those of its tenant now being older. -/
def queueCommit (cm : Commit) (c : Cur) : Cur :=
  let old := fun (x : Commit) => if x.who = cm.who then { x with older := true } else x
  { c with commits := c.commits.map old ++ [cm], entered := c.entered.map old }

/-- A commit empties the staging set and queues the commit; the rest of it reports. -/
theorem takeCommit_eq (s : State) (t tag : Nat) (cue : Option CueRef) :
    ∃ xs, takeCommit t tag cue s = .ten t (fun q => { q with staged := [] }) :: .cur (queueCommit (commitTaken s t tag cue)) :: xs
      ∧ ∀ x ∈ xs, x.reports = true := by
  refine ⟨_, rfl, List.forall_mem_cons.2 ⟨rfl, List.forall_mem_cons.2 ⟨rfl, ?_⟩⟩⟩
  split
  · exact List.forall_mem_cons.2 ⟨rfl, eventNow_reports s 1 4 [t] 0 _⟩
  · exact fun x hx => absurd hx List.not_mem_nil

/-- What taking a commit leaves behind. -/
theorem takeCommit_takes {s : State} (hs : s.Inv) (t tag : Nat) (cue : Option CueRef) :
    (ten (applyActs s (takeCommit t tag cue s)) t).staged = []
      ∧ (applyActs s (takeCommit t tag cue s)).cur = queueCommit (commitTaken s t tag cue) s.cur
      ∧ sameMemory s (applyActs s (takeCommit t tag cue s)) := by
  obtain ⟨xs, htake, hxs⟩ := takeCommit_eq s t tag cue
  have hinv := applyActs_inv s [.ten t (fun q => { q with staged := [] }), .cur (queueCommit (commitTaken s t tag cue))] hs
  have hcur : xs.all (fun x => !x.mayCur) = true :=
    List.all_eq_true.2 fun x hx => congrArg (!·) (reports_leaves (hxs x hx)).2
  have hmem : ∀ x ∈ xs, x.mayMem = false := fun x hx => (reports_leaves (hxs x hx)).1
  rw [htake]
  refine ⟨?staged, cur_applyActs _ xs hcur, sameMemory_of_noMem (List.forall_mem_cons.2 ⟨rfl, List.forall_mem_cons.2 ⟨rfl, hmem⟩⟩)⟩
  case staged =>
    refine (applyActs_keeps (fun u => (ten u t).staged) (fun x hx u hu => staged_applyAct_reports hu (hxs x hx) t) hinv).trans ?_
    exact congrArg Tenant.staged (get_ten_same hs t (fun q => { q with staged := [] }))

/-- A write of CUR_COMMIT by its window's tenant or by T0 takes the commit. -/
theorem exec_curCommit {s : State} {a : Acc} {w : Fin 8} (hr : reaches s a (Reg.CUR_COMMIT w) true) (ha : actsFor a = 0 ∨ actsFor a = w.val)
    (v : Word) : exec (.curCommit a w v) s = nextBy s (takeCommit w (getF v Fld.CUR_COMMIT_TAG) none s) := by
  show Host.Outcome.next (applyActs s (gate _ _ _ _ _ s)) = _
  rw [gate_reaches hr, byWindow, if_pos ha]

/-- Settles O13: the write is let through to `takeCommit`, which queues the commit last. -/
theorem commitTakesTheStagingSet : Obligations.CommitTakesTheStagingSet := by
  unfold Obligations.CommitTakesTheStagingSet
  intro s a w v hs hr ha
  obtain ⟨hstaged, hcur, hmem⟩ := takeCommit_takes hs w (getF v Fld.CUR_COMMIT_TAG) none
  refine ⟨_, commitTaken s w (getF v Fld.CUR_COMMIT_TAG) none, exec_curCommit hr ha v, hstaged, ?last, rfl, rfl, rfl, rfl, hmem⟩
  case last => rw [hcur]; exact List.getLast?_concat

/-! ## Exact periods (R42) -/

theorem rateHz_pos (i : Nat) : 0 < (rateHz i).1 := by
  unfold rateHz
  split <;> decide

/-- The rounding of exact periods is off by at most half a nanosecond, a half going up. -/
theorem periods_rounds (i n : Nat) :
    2 * ((rateHz i).1 * periods i n) ≤ 2 * (n * 1000000000 * (rateHz i).2) + (rateHz i).1
      ∧ 2 * (n * 1000000000 * (rateHz i).2) < 2 * ((rateHz i).1 * periods i n) + (rateHz i).1 := by
  have hpos := rateHz_pos i
  have hdiv := Nat.div_add_mod (2 * (n * 1000000000 * (rateHz i).2) + (rateHz i).1) (2 * (rateHz i).1)
  have hmod := Nat.mod_lt (2 * (n * 1000000000 * (rateHz i).2) + (rateHz i).1) (Nat.mul_pos Nat.two_pos hpos)
  rw [Nat.mul_assoc] at hdiv
  simp only [periods]
  omega

/-- Successive rounded periods enclose the exact one: they lie less than a nanosecond from it. -/
theorem periods_succ_near (i n : Nat) :
    (rateHz i).1 * periods i (n + 1) < (rateHz i).1 * periods i n + 1000000000 * (rateHz i).2 + (rateHz i).1
      ∧ (rateHz i).1 * periods i n + 1000000000 * (rateHz i).2 < (rateHz i).1 * periods i (n + 1) + (rateHz i).1 := by
  obtain ⟨hle, hlt⟩ := periods_rounds i n
  obtain ⟨hle', hlt'⟩ := periods_rounds i (n + 1)
  have hsucc : (n + 1) * 1000000000 * (rateHz i).2 = n * 1000000000 * (rateHz i).2 + 1000000000 * (rateHz i).2 := by
    rw [Nat.add_mul, Nat.add_mul, Nat.one_mul]
  omega

/-- Two lengths that lie less than a nanosecond from one exact length differ by at most 1. -/
theorem natAbs_sub_le_one {h p a b : Int} (ha : h * a < p + h) (ha' : p < h * a + h) (hb : h * b < p + h) (hb' : p < h * b + h) :
    (a - b).natAbs ≤ 1 := by
  have hpos : 0 ≤ h := by omega
  have hab : a - b < 2 := Int.lt_of_mul_lt_mul_left (a := h) (by rw [Int.mul_sub]; omega) hpos
  have hba : b - a < 2 := Int.lt_of_mul_lt_mul_left (a := h) (by rw [Int.mul_sub]; omega) hpos
  omega

/-- A period of a series lies less than a nanosecond from the exact one. -/
theorem edgeOf_succ_near (anchor : Int) (i n : Nat) :
    ((rateHz i).1 : Int) * (edgeOf anchor i (n + 1) - edgeOf anchor i n) < (1000000000 * (rateHz i).2 : Nat) + (rateHz i).1
      ∧ ((1000000000 * (rateHz i).2 : Nat) : Int) < (rateHz i).1 * (edgeOf anchor i (n + 1) - edgeOf anchor i n) + (rateHz i).1 := by
  obtain ⟨hhi, hlo⟩ := periods_succ_near i n
  have hlen : edgeOf anchor i (n + 1) - edgeOf anchor i n = (periods i (n + 1) : Int) - periods i n := by
    simp only [edgeOf]
    omega
  rw [hlen, Int.mul_sub, ← Int.natCast_mul, ← Int.natCast_mul]
  omega

/-- Successive periods of a series differ by at most 1 ns. -/
theorem edgeOf_periods_differ (anchor : Int) (i n : Nat) :
    ((edgeOf anchor i (n + 2) - edgeOf anchor i (n + 1)) - (edgeOf anchor i (n + 1) - edgeOf anchor i n)).natAbs ≤ 1 := by
  obtain ⟨hhi, hlo⟩ := edgeOf_succ_near anchor i n
  obtain ⟨hhi', hlo'⟩ := edgeOf_succ_near anchor i (n + 1)
  exact natAbs_sub_le_one hhi' hlo' hhi hlo

/-- Edge `n` lies at `n` exact periods from the anchor, rounded half away from zero. -/
theorem edgeOf_rounds (anchor : Int) (i n : Nat) :
    2 * ((rateHz i).1 * (edgeOf anchor i n - anchor) - (n * 1000000000 * (rateHz i).2 : Nat)) ≤ (rateHz i).1
      ∧ -((rateHz i).1 : Int) < 2 * ((rateHz i).1 * (edgeOf anchor i n - anchor) - (n * 1000000000 * (rateHz i).2 : Nat)) := by
  obtain ⟨hle, hlt⟩ := periods_rounds i n
  have hoff : edgeOf anchor i n - anchor = (periods i n : Int) := by
    simp only [edgeOf]
    omega
  rw [hoff, ← Int.natCast_mul]
  omega

/-! ## The series at an edge (R42) -/

/-- However the series goes on, the edge is the one that was due, and the clock is not moved. -/
theorem nextEdge_edge_clock (s : State) (c : Cur) : (nextEdge s c).edge = c.next ∧ (nextEdge s c).clock = c.clock := by
  unfold nextEdge
  split
  · exact ⟨rfl, rfl⟩
  · split
    · dsimp only
      split <;> exact ⟨rfl, rfl⟩
    · exact ⟨rfl, rfl⟩

/-- A series that keeps its rate and its anchors, and lies on them, goes on from its anchor. -/
theorem nextEdge_steady {s : State} {c : Cur} (hrate : c.rateNext = none) (hmove : c.moveNext = false) (hoff : c.offset = 0) :
    nextEdge s c = { c with n := c.n + 1, edge := c.next, next := (edgeOf c.anchor c.rate (c.n + 2)).toNat, stretch := 0 } := by
  have hstill : min 0 (0 + ((period c.rate * slewLimit s / 1000000 : Nat) : Int)) = 0 := by omega
  unfold nextEdge
  simp only [hrate, hmove, hoff, hstill, Bool.false_eq_true, Int.lt_irrefl, if_false, Int.add_zero]

/-- Settles O15: the rounding of exact periods, and a steady series' next edge. -/
theorem edgesNeverDrift : Obligations.EdgesNeverDrift := by
  unfold Obligations.EdgesNeverDrift
  refine ⟨fun anchor rate n => ?periods, fun s hrate hmove hoff hnext hpos => ?edge⟩
  case periods =>
    obtain ⟨hle, hlt⟩ := edgeOf_rounds anchor rate n
    exact ⟨hle, hlt, edgeOf_periods_differ anchor rate n⟩
  case edge =>
    rw [nextEdge_steady hrate hmove hoff]
    exact ⟨hnext, Int.toNat_of_nonneg hpos, rfl, rfl, rfl⟩

/-! ## The instants of a curtain (R44, R46, R58) -/

theorem curNum_implemented : regImpl Reg.CUR_NUM &&& Fld.CUR_NUM_NUM.mask = Fld.CUR_NUM_NUM.mask := by decide

/-- The sync keeper after the edge has turned: the new period, its instants still to come, the clock at the edge. -/
theorem cur_edgeTurns (s : State) : (applyActs s (edgeTurns s)).cur
    = { nextEdge s s.cur with slot := 0, closed := false, decided := false, interval := false, clock := max (nextEdge s s.cur).clock s.cur.next } := by
  unfold edgeTurns
  generalize nextEdge s s.cur = c
  split <;> rfl

/-- What the edge does to CUR_NUM: 1 more, or 0 after a cold start. -/
theorem curNum_counted {u : State} (hu : u.Inv) (cold : Bool) :
    rf (applyActs u (if cold then [.reg Reg.CUR_NUM 0, .sys (fun y => { y with coldCount := false })] else [.inc Reg.CUR_NUM Fld.CUR_NUM_NUM 1]))
      Reg.CUR_NUM Fld.CUR_NUM_NUM = if cold then 0 else (rf u Reg.CUR_NUM Fld.CUR_NUM_NUM + 1) % 2 ^ 32 := by
  cases cold with
  | true => exact rf_reg (regsWf_of_inv hu) Reg.CUR_NUM 0 Fld.CUR_NUM_NUM (by decide) curNum_implemented
  | false => exact rf_inc (regsWf_of_inv hu) Reg.CUR_NUM Fld.CUR_NUM_NUM 1 (by decide) curNum_implemented

/-- CUR_NUM at an edge (R44). -/
theorem curNum_edgeTurns {s : State} (hs : s.Inv) : rf (applyActs s (edgeTurns s)) Reg.CUR_NUM Fld.CUR_NUM_NUM
    = if s.sys.coldCount then 0 else (rf s Reg.CUR_NUM Fld.CUR_NUM_NUM + 1) % 2 ^ 32 := by
  unfold edgeTurns
  generalize nextEdge s s.cur = c
  rw [applyActs_append]
  exact curNum_counted (applyActs_inv s [_, _] hs) s.sys.coldCount

/-- At an edge of a running series the series turns before the edge's other stages. -/
theorem exec_curtainEdge {s : State} (h : s.cur.running = true) (b : Bool) :
    exec (.curtainEdge b) s = .next (runEffs (applyActs s (edgeTurns s))
      ([ticketCounts, curtainDone, commitsShow, edgeEnters b, armRows, edgeModes, queueRegs] ++ wakeAll)) := by
  show Host.Outcome.next (runEffs s (curtainEdge b)) = _
  rw [curtainEdge, runEffs_whenE s _ _ _ h, List.cons_append, runEffs_cons]

theorem exec_slotStart {s : State} (h : s.cur.running = true) {j : Fin 8} (hj : j.val < slotCount (rdLamp s)) :
    exec (.slotStart j) s
      = nextBy s [.clockTo (s.cur.edge + slotStart (rdLamp s) s.cur.rate j), .cur (fun c => { c with slot := j })] := by
  show Host.Outcome.next (applyActs s (slotBegins j s)) = _
  rw [slotBegins, if_pos (by simp [h, hj])]

/-- Settles O16: each instant's command is its guarded stages, the guard holding where the instant is still to come. -/
theorem curtainInstantsPass : Obligations.CurtainInstantsPass := by
  unfold Obligations.CurtainInstantsPass
  intro s hrun
  refine ⟨fun b => ⟨applyActs s (edgeTurns s), exec_curtainEdge hrun b, ?turned⟩, fun hclosed => ?close, fun hdecided => ?rescue,
    fun hinterval => ?deadline, fun j hj => exec_slotStart hrun hj⟩
  case turned =>
    obtain ⟨hedge, hclock⟩ := nextEdge_edge_clock s s.cur
    rw [cur_edgeTurns]
    exact ⟨hedge, rfl, rfl, rfl, rfl, congrArg (max · s.cur.next) hclock, curNum_edgeTurns⟩
  case close =>
    show Host.Outcome.next (runEffs s commitClose) = _
    rw [commitClose, runEffs_whenE s _ _ _ (by simp [hrun, hclosed]), List.cons_append, runEffs_cons]
  case rescue =>
    show Host.Outcome.next (runEffs s rescueInstant) = _
    rw [rescueInstant, runEffs_whenE s _ _ _ (by simp [hrun, hdecided]), List.cons_append, runEffs_cons]
  case deadline =>
    show Host.Outcome.next (runEffs s intervalStart) = _
    rw [intervalStart, runEffs_whenE s _ _ _ (by simp [hrun, hinterval]), List.cons_append, runEffs_cons]

end Sys2Proof.Machine
end

section
/-! PROOFS of the statement on links, frames and packets of the sources (03_sources.md). First what the updates of a source and of its
frame store leave as it was, then what a change of state, a format, a link, a frame and a packet do, then the statement. -/

namespace Sys2Proof.Machine

/-! ## Lists of updates -/

/-- The updates of a guarded stage are those it guards. -/
theorem forall_mem_guarded {P : Act → Prop} {c : Prop} [Decidable c] {xs : List Act} (h : ∀ a ∈ xs, P a) :
    ∀ a ∈ (if c then xs else []), P a := by
  split
  · exact h
  · exact fun _ ha => absurd ha List.not_mem_nil

theorem rd_applyActs_of_forall {xs : List Act} {r : Nat} (h : ∀ a ∈ xs, a.mayReg r = false) (s : State) :
    rd (applyActs s xs) r = rd s r :=
  rd_applyActs_other s xs r (List.all_eq_true.2 fun a ha => congrArg (!·) (h a ha))

/-- Does an update leave `p` of every source? -/
def Act.keepsSrc {β : Type} (p : Source → β) : Act → Prop
  | .src _ f => ∀ q, p (f q) = p q
  | _ => True

theorem srcOf_applyAct_keeps {β : Type} {p : Source → β} {s : State} (hs : s.Inv) {a : Act} (h : a.keepsSrc p) (x : Nat) :
    p (srcOf (applyAct s a) x) = p (srcOf s x) := by
  cases a with
  | src i f =>
    by_cases hx : x = i
    · subst hx
      exact (congrArg p (get_src_same hs x f)).trans (h _)
    · exact congrArg p (get_src_other s i x f hx)
  | evt blk t b => simp [srcOf]
  | signal t v => simp [srcOf]
  | _ => rfl

theorem srcOf_applyActs_keeps {β : Type} {p : Source → β} {s : State} (hs : s.Inv) {xs : List Act} (h : ∀ a ∈ xs, a.keepsSrc p) (x : Nat) :
    p (srcOf (applyActs s xs) x) = p (srcOf s x) :=
  applyActs_keeps (fun u => p (srcOf u x)) (fun a ha _ hu => srcOf_applyAct_keeps hu (h a ha) x) hs

theorem srcOf_src_same {s : State} (hs : s.Inv) (x : Nat) (f : Source → Source) : srcOf (applyAct s (.src x f)) x = f (srcOf s x) :=
  get_src_same hs x f

/-- What a source holds after a list that ends in an update of it. -/
theorem srcOf_applyActs_concat {s : State} (hs : s.Inv) (xs : List Act) (x : Nat) (f : Source → Source) :
    srcOf (applyActs s (xs ++ [.src x f])) x = f (srcOf (applyActs s xs) x) := by
  rw [applyActs_append]
  exact srcOf_src_same (applyActs_inv s xs hs) x f

/-! ## Updates of one source -/

/-- Is the update one by which source `x` changes its state or format: of its state, format and status registers, of its own data, an
event of block SRC or a record? -/
def Act.ofSource (x : Nat) : Act → Bool
  | .fld a _ _ => a == Reg.SRC_FMT x || a == Reg.SRC_SIZE x || a == Reg.SRC_STATUS x
  | .src i _ => i == x
  | .evt blk _ _ => blk == 2
  | .log _ => true
  | _ => false

/-- A register below the event windows that is none of a source's state, format and status registers. -/
def besideState (x r : Nat) : Prop := r < 0x0020F000 ∧ r ≠ Reg.SRC_FMT x ∧ r ≠ Reg.SRC_SIZE x ∧ r ≠ Reg.SRC_STATUS x

theorem besideState_ctrl {x : Nat} (hx : x < 6) : besideState x (Reg.SRC_CTRL x) := by
  simp only [besideState, Reg.SRC_CTRL, Reg.SRC_FMT, Reg.SRC_SIZE, Reg.SRC_STATUS]
  omega

theorem besideState_flow {x : Nat} (hx : x < 6) : besideState x (Reg.SRC_FLOW_GRP_A x) ∧ besideState x (Reg.SRC_FLOW_GRP_B x)
    ∧ besideState x (Reg.SRC_FLOW_PORT x) ∧ besideState x (Reg.SRC_FLOW_CFG x) := by
  simp only [besideState, Reg.SRC_FLOW_GRP_A, Reg.SRC_FLOW_GRP_B, Reg.SRC_FLOW_PORT, Reg.SRC_FLOW_CFG, Reg.SRC_FMT, Reg.SRC_SIZE,
    Reg.SRC_STATUS]
  omega

theorem besideState_gapCount {x : Nat} (hx : x < 6) : besideState x (Reg.SRC_GAP_CNT x) := by
  simp only [besideState, Reg.SRC_GAP_CNT, Reg.SRC_FMT, Reg.SRC_SIZE, Reg.SRC_STATUS]
  omega

theorem mayReg_of_ofSource {x r : Nat} {a : Act} (h : a.ofSource x = true) (hr : besideState x r) : a.mayReg r = false := by
  obtain ⟨hlow, hfmt, hsize, hstat⟩ := hr
  cases a with
  | fld b f v =>
    simp only [Act.ofSource, Bool.or_eq_true, beq_iff_eq] at h
    refine beq_eq_false_iff_ne.2 fun hb => ?_
    rcases h with (rfl | rfl) | rfl
    · exact hfmt hb.symm
    · exact hsize hb.symm
    · exact hstat hb.symm
  | evt blk t b =>
    obtain rfl : blk = 2 := beq_iff_eq.1 h
    refine beq_eq_false_iff_ne.2 fun hb => ?_
    simp only [evtStatus, Reg.SRC_EVT_STATUS] at hb
    omega
  | log q =>
    refine beq_eq_false_iff_ne.2 fun hb => ?_
    simp only [Reg.PB_UNIT_LOST] at hb
    omega
  | src i f => rfl
  | _ => cases h

theorem rd_ofSource {x r : Nat} {xs : List Act} (h : ∀ a ∈ xs, a.ofSource x = true) (hr : besideState x r) (s : State) :
    rd (applyActs s xs) r = rd s r := rd_applyActs_of_forall (fun a ha => mayReg_of_ofSource (h a ha) hr) s

/-- An update of a source touches no memory, neither the sync keeper nor the PTP ports. -/
theorem ofSource_leaves {x : Nat} {a : Act} (h : a.ofSource x = true) :
    a.mayMem = false ∧ a.mayCur = false ∧ ∀ s, (applyAct s a).ptp = s.ptp := by
  cases a with
  | fld b f v => exact ⟨rfl, rfl, fun _ => rfl⟩
  | src i f => exact ⟨rfl, rfl, fun _ => rfl⟩
  | evt blk t b => exact ⟨rfl, rfl, fun _ => by simp⟩
  | log q => exact ⟨rfl, rfl, fun _ => rfl⟩
  | _ => cases h

theorem cur_ofSource {x : Nat} {xs : List Act} (h : ∀ a ∈ xs, a.ofSource x = true) (s : State) : (applyActs s xs).cur = s.cur :=
  cur_applyActs s xs (List.all_eq_true.2 fun a ha => congrArg (!·) (ofSource_leaves (h a ha)).2.1)

theorem sameMemory_ofSource {x : Nat} {xs : List Act} (h : ∀ a ∈ xs, a.ofSource x = true) (s : State) : sameMemory s (applyActs s xs) :=
  sameMemory_of_noMem fun a ha => (ofSource_leaves (h a ha)).1

/-! ## Writes to DRAM -/

/-- Is the update one of a write to DRAM? -/
def Act.storesDram : Act → Bool
  | .dram _ _ => true
  | .ddr _ => true
  | .fld a _ _ => a == Reg.DDR_ERR
  | _ => false

theorem dramStore_storesDram (s : State) (k : Nat) (bs : List Byte) : ∀ a ∈ dramStore s k bs, a.storesDram = true :=
  List.forall_mem_append.2 ⟨List.forall_mem_cons.2 ⟨rfl, List.forall_mem_singleton.2 rfl⟩,
    forall_mem_guarded (List.forall_mem_singleton.2 rfl)⟩

theorem rd_storesDram {r : Nat} {xs : List Act} (h : ∀ a ∈ xs, a.storesDram = true) (hr : r < 0x00B00000) (s : State) :
    rd (applyActs s xs) r = rd s r := by
  refine rd_applyActs_of_forall (fun a ha => ?_) s
  have ha := h a ha
  cases a with
  | fld b f v =>
    obtain rfl : b = Reg.DDR_ERR := beq_iff_eq.1 ha
    refine beq_eq_false_iff_ne.2 fun hb => ?_
    simp only [Reg.DDR_ERR] at hb
    omega
  | dram k bs => rfl
  | ddr f => rfl
  | _ => cases ha

theorem srcOf_storesDram {xs : List Act} (h : ∀ a ∈ xs, a.storesDram = true) {s : State} (hs : s.Inv) (x : Nat) :
    srcOf (applyActs s xs) x = srcOf s x := by
  refine srcOf_applyActs_keeps (p := id) hs (fun a ha => ?_) x
  have ha := h a ha
  cases a with
  | src i f => cases ha
  | _ => trivial

theorem srcState_storesDram {xs : List Act} (h : ∀ a ∈ xs, a.storesDram = true) (s : State) {x : Nat} (hx : x < 6) :
    srcState (applyActs s xs) x = srcState s x :=
  congrArg (getF · Fld.SRC_FMT_STATE) (rd_storesDram h (by simp only [Reg.SRC_FMT]; omega) s)

/-- The lines of a frame are writes to DRAM (R97). -/
theorem writeFrame_storesDram (s : State) (x b : Nat) (f : FrameFmt) (pl0 pl1 : List (List Nat)) :
    ∀ a ∈ writeFrame s x b f pl0 pl1, a.storesDram = true := by
  intro a ha
  simp only [writeFrame, List.mem_append, List.mem_flatten, List.mem_mapIdx] at ha
  rcases ha with ⟨l, ⟨i, hi, rfl⟩, ha⟩ | ⟨l, ⟨i, hi, rfl⟩, ha⟩ <;> exact dramStore_storesDram _ _ _ a ha

/-- So are its block CRCs (R110). -/
theorem writeCrcs_storesDram (s : State) (x b : Nat) (f : FrameFmt) : ∀ a ∈ writeCrcs x b f s, a.storesDram = true := by
  intro a ha
  simp only [writeCrcs, List.mem_flatMap] at ha
  obtain ⟨by_, -, bx, -, ha⟩ := ha
  exact dramStore_storesDram _ _ _ a ha

/-- So are the samples of a packet's segment (R94). -/
theorem segmentEffs_storesDram (x : Nat) (f : FrameFmt) (g : NetSegment) :
    ∀ e ∈ segmentEffs x f g, ∀ u, ∀ a ∈ e u, a.storesDram = true := by
  intro e he u a ha
  simp only [segmentEffs, List.mem_append, List.mem_mapIdx] at he
  rcases he with ⟨i, hi, rfl⟩ | ⟨i, hi, rfl⟩ <;> exact dramStore_storesDram _ _ _ a ha

/-! ## Changes of state (R106, R107) -/

theorem srcState_implemented {x : Nat} (hx : x < 6) : regImpl (Reg.SRC_FMT x) &&& Fld.SRC_FMT_STATE.mask = Fld.SRC_FMT_STATE.mask :=
  (by decide : ∀ x < 6, regImpl (Reg.SRC_FMT x) &&& Fld.SRC_FMT_STATE.mask = Fld.SRC_FMT_STATE.mask) x hx

/-- A field of its status register does not tell a source's state. -/
theorem srcState_status (s : State) (x : Nat) (g : Field) (v : Nat) : srcState (applyAct s (.fld (Reg.SRC_STATUS x) g v)) x = srcState s x := by
  refine congrArg (getF · Fld.SRC_FMT_STATE) (rd_applyAct_other s _ _ ?_)
  simp [Act.mayReg, Reg.SRC_STATUS, Reg.SRC_FMT]

/-- An event of a source is bits of block SRC and a record. -/
theorem forall_mem_srcEvent {P : Act → Prop} {s : State} {x b : Nat} (hevt : ∀ t, P (.evt 2 t b)) (hlog : ∀ r, P (.log r)) :
    ∀ a ∈ srcEvent s x b, P a := by
  simp only [srcEvent, eventNow, event, List.forall_mem_append, List.forall_mem_map, List.forall_mem_singleton]
  exact ⟨fun t _ => hevt t, hlog _⟩

theorem srcEvent_ofSource (s : State) (x b y : Nat) : ∀ a ∈ srcEvent s x b, a.ofSource y = true :=
  forall_mem_srcEvent (fun _ => rfl) fun _ => rfl

/-- A change of state sets the state, changes `stayed` and `force` of the source, and reports. -/
theorem forall_mem_srcEnter {P : Act → Prop} {s : State} {x st : Nat} (hstate : P (.fld (Reg.SRC_FMT x) Fld.SRC_FMT_STATE st))
    (hsrc : ∀ g : Source → Source, (∀ q, ∃ b c, g q = { q with stayed := b, force := c }) → P (.src x g))
    (hevt : ∀ t b, P (.evt 2 t b)) (hlog : ∀ r, P (.log r)) : ∀ a ∈ srcEnter s x st, P a := by
  unfold srcEnter
  split
  · exact fun _ ha => absurd ha List.not_mem_nil
  · simp only [List.forall_mem_append, List.forall_mem_cons]
    have hreport : ∀ b, ∀ a ∈ srcEvent s x b, P a := fun b => forall_mem_srcEvent (fun t => hevt t b) hlog
    exact ⟨⟨⟨hstate, hsrc _ fun q => ⟨_, _, rfl⟩, fun _ ha => absurd ha List.not_mem_nil⟩, forall_mem_guarded (hreport 0)⟩,
      forall_mem_guarded (hreport 1)⟩

theorem srcEnter_ofSource (s : State) (x st : Nat) : ∀ a ∈ srcEnter s x st, a.ofSource x = true :=
  forall_mem_srcEnter (by simp [Act.ofSource]) (fun _ _ => beq_self_eq_true x) (fun _ _ => rfl) fun _ => rfl

/-- What `stayed` and `force` do not tell, a change of state keeps. -/
theorem srcEnter_keepsSrc {β : Type} {p : Source → β} (hp : ∀ q b c, p { q with stayed := b, force := c } = p q) (s : State) (x st : Nat) :
    ∀ a ∈ srcEnter s x st, a.keepsSrc p := by
  refine forall_mem_srcEnter trivial (fun g hg q => ?_) (fun _ _ => trivial) fun _ => trivial
  obtain ⟨b, c, hq⟩ := hg q
  rw [hq, hp]

/-- After a change of state the source is in the state. -/
theorem srcState_srcEnter {s u : State} (hu : u.Inv) {x : Nat} (hx : x < 6) (hsame : srcState u x = srcState s x) {st : Nat} (hst : st < 16) :
    srcState (applyActs u (srcEnter s x st)) x = st := by
  unfold srcEnter
  split
  · next h => exact hsame.trans h
  · have hreport : ∀ b, ∀ a ∈ srcEvent s x b, a.mayReg (Reg.SRC_FMT x) = false := fun b => by
      refine forall_mem_srcEvent (fun t => beq_eq_false_iff_ne.2 ?_) fun r => beq_eq_false_iff_ne.2 ?_
      · simp only [evtStatus, Reg.SRC_EVT_STATUS, Reg.SRC_FMT]
        omega
      · simp only [Reg.PB_UNIT_LOST, Reg.SRC_FMT]
        omega
    rw [applyActs_append, applyActs_append]
    refine (congrArg (getF · Fld.SRC_FMT_STATE) (rd_applyActs_of_forall (forall_mem_guarded (hreport 1)) _)).trans ?_
    refine (congrArg (getF · Fld.SRC_FMT_STATE) (rd_applyActs_of_forall (forall_mem_guarded (hreport 0)) _)).trans ?_
    exact (rf_fld (regsWf_of_inv hu) _ _ st (by decide) (srcState_implemented hx)).trans (Nat.mod_eq_of_lt hst)

theorem srcLose_ofSource (s : State) (x : Nat) : ∀ a ∈ srcLose x s, a.ofSource x = true := by
  unfold srcLose
  split
  · exact fun _ ha => absurd ha List.not_mem_nil
  · exact List.forall_mem_cons.2 ⟨beq_self_eq_true x, srcEnter_ofSource s x ssLOST⟩

/-- A source that is not OFF is LOST once it is lost (R107). -/
theorem srcState_srcLose {s : State} (hs : s.Inv) {x : Nat} (hx : x < 6) (hon : srcState s x ≠ ssOFF) :
    srcState (applyActs s (srcLose x s)) x = ssLOST := by
  unfold srcLose
  split
  · next h => exact h.resolve_left hon
  · rw [applyActs_cons]
    exact srcState_srcEnter (applyAct_inv s _ hs) hx rfl (by decide)

/-! ## Formats (R100, R106, R109) -/

theorem srcReseek_leaves (x : Nat) (f : FrameFmt) (s : State) :
    ∀ a ∈ srcReseek x f s, a.ofSource x = true ∧ a.keepsSrc Source.linkUp := by
  unfold srcReseek
  split
  · exact fun _ ha => absurd ha List.not_mem_nil
  · refine List.forall_mem_cons.2 ⟨⟨beq_self_eq_true x, fun _ => rfl⟩,
      forall_mem_guarded (List.forall_mem_cons.2 ⟨⟨?_, trivial⟩, fun a ha => ?_⟩)⟩
    · simp [Act.ofSource]
    · exact ⟨srcEnter_ofSource s x ssSEEKING a ha, srcEnter_keepsSrc (fun _ _ _ => rfl) s x ssSEEKING a ha⟩

/-- A change of format turns no source OFF. -/
theorem srcState_srcReseek {s : State} (hs : s.Inv) {x : Nat} (hx : x < 6) (f : FrameFmt) (hon : srcState s x ≠ ssOFF) :
    srcState (applyActs s (srcReseek x f s)) x ≠ ssOFF := by
  unfold srcReseek
  split
  · exact hon
  · rw [applyActs_cons]
    split
    · have hsame : ∀ g : Source → Source,
          srcState (applyAct (applyAct s (.src x g)) (.fld (Reg.SRC_STATUS x) Fld.SRC_STATUS_OVER_BUDGET 0)) x = srcState s x := fun g =>
        srcState_status (applyAct s (.src x g)) x _ 0
      rw [applyActs_cons, srcState_srcEnter (applyAct_inv _ _ (applyAct_inv s _ hs)) hx (hsame _) (by decide)]
      decide
    · exact hon

theorem srcReseek_same {s : State} {x : Nat} {f : FrameFmt} (h : (srcOf s x).fmt = some f) : srcReseek x f s = [] := if_pos (.inl h)

/-- Whether a source's link is up, and the format that its input carries. -/
def Source.link (q : Source) : Bool × Option FrameFmt := (q.linkUp, q.fmt)

/-- A detected format is the source's format; the link stays as it was. -/
theorem srcFormat_detects {s : State} (hs : s.Inv) (x : Nat) (f : FrameFmt) (ns : Nat) :
    (srcOf (runEffs s (srcFormat x f ns)) x).link = ((srcOf s x).linkUp, some f) := by
  have hrecord : srcOf (applyActs s (recordFmt x f)) x = srcOf s x :=
    srcOf_applyActs_keeps (p := id) hs (by simp [recordFmt, Act.keepsSrc]) x
  have henter : ∀ (u : State) (st : Nat), ∀ a ∈ srcEnter u x st, a.keepsSrc Source.link := fun u st =>
    srcEnter_keepsSrc (fun _ _ _ => rfl) u x st
  simp only [srcFormat, runEffs_cons, runEffs_nil]
  generalize hu : applyActs s _ = u
  have iu : u.Inv := hu ▸ applyActs_inv s _ hs
  have hchange : (srcOf u x).link = ((srcOf s x).linkUp, some f) := by
    rw [← hu]
    split
    · next h => exact Prod.ext rfl h
    · rw [applyActs_append]
      refine (srcOf_applyActs_keeps (p := Source.link) (applyActs_inv s _ hs)
        (forall_mem_guarded (forall_mem_srcEvent (fun _ => trivial) fun _ => trivial)) x).trans ?_
      rw [srcOf_applyActs_concat hs, hrecord]
      rfl
  refine (srcOf_applyActs_keeps (p := Source.link) iu ?verdict x).trans hchange
  case verdict =>
    split
    · simp only [List.forall_mem_cons]
      exact ⟨trivial, trivial, fun _ => rfl, henter _ _⟩
    · refine forall_mem_guarded ?_
      simp only [List.forall_mem_cons]
      exact ⟨fun _ => rfl, forall_mem_guarded (henter _ _)⟩

/-- A frame of the format that an ACTIVE source carries, valid and with frames before it, makes no update of the format. -/
theorem srcFormat_same {s : State} {x : Nat} {f : FrameFmt} (hfmt : (srcOf s x).fmt = some f) (hok : fmtOk x f 0 = true)
    (hfits : frameBytes f ≤ bufSize (rd s) x) (hstate : srcState s x = ssACTIVE) (href : (srcOf s x).fmtRefused = false)
    (hlast : (srcOf s x).lastArrival ≠ none) : seqE (srcFormat x f 0) s = [] := by
  have hgood : (!fmtOk x f 0 || decide (bufSize (rd s) x < frameBytes f)) = false := by
    simp [hok, hfits]
  have hopen : ¬ (srcState s x = ssLOST ∨ (srcOf s x).fmtRefused = true ∨ (srcOf s x).arrived = [] ∧ (srcOf s x).lastArrival = none) := by
    simp [hstate, href, hlast, ssACTIVE, ssLOST]
  simp only [srcFormat, seqE, hfmt, if_true, applyActs_nil, List.append_nil, hgood, Bool.false_eq_true, if_false, hopen]

/-! ## Links and loss (R92, R106, R107, R114) -/

/-- Link training takes effect: the source is not OFF and HPD is asserted. -/
theorem training_takes_effect {s : State} {x : Nat} (hon : srcState s x ≠ ssOFF) (hhpd : rf s (Reg.SRC_CTRL x) Fld.SRC_CTRL_HPD = 1) :
    (decide (srcState s x ≠ ssOFF) && rf s (Reg.SRC_CTRL x) Fld.SRC_CTRL_HPD == 1) = true := by simp [hon, hhpd]

/-- A source that is on and trains is up in its format. -/
theorem dprxTrained_link {s : State} (hs : s.Inv) {x : Nat} (hx : x < 6) (hon : srcState s x ≠ ssOFF)
    (hhpd : rf s (Reg.SRC_CTRL x) Fld.SRC_CTRL_HPD = 1) (rate lanes : Nat) (f : FrameFmt) (khz ns : Nat) :
    (srcOf (runEffs s (dprxTrained x true rate lanes f khz ns)) x).link = (true, some f) := by
  simp only [dprxTrained, runEffs_cons, runEffs_nil, training_takes_effect hon hhpd, Bool.not_true, Bool.false_eq_true, if_false]
  generalize htrain : applyActs s [_, _, _, _] = u
  have hu : u.Inv := htrain ▸ applyActs_inv s _ hs
  have hlink : (srcOf u x).linkUp = true := by
    subst htrain
    exact congrArg Source.linkUp (srcOf_applyActs_concat hs [_, _, _] x _)
  have hregs : rd u (Reg.SRC_FMT x) = rd s (Reg.SRC_FMT x) ∧ rd u (Reg.SRC_CTRL x) = rd s (Reg.SRC_CTRL x) := by
    subst htrain
    constructor <;> refine rd_applyActs_other s _ _ ?_ <;>
      simp [Act.mayReg, Reg.SRC_STATUS, Reg.SRC_PERIOD, Reg.SRC_FMT, Reg.SRC_CTRL]
  have honU : srcState u x ≠ ssOFF := by unfold srcState rf; rwa [hregs.1]
  have hhpdU : rf u (Reg.SRC_CTRL x) Fld.SRC_CTRL_HPD = 1 := by unfold rf; rwa [hregs.2]
  simp only [training_takes_effect honU hhpdU, Bool.and_true, if_true]
  have hreseek := srcReseek_leaves x f u
  have hv := applyActs_inv u (srcReseek x f u) hu
  have honV := srcState_srcReseek hu hx f honU
  have hhpdV : rf (applyActs u (srcReseek x f u)) (Reg.SRC_CTRL x) Fld.SRC_CTRL_HPD = 1 := by
    unfold rf
    rwa [rd_ofSource (fun a ha => (hreseek a ha).1) (besideState_ctrl hx)]
  have hlinkV := (srcOf_applyActs_keeps hu (fun a ha => (hreseek a ha).2) x).trans hlink
  generalize applyActs u (srcReseek x f u) = v at *
  simp only [training_takes_effect honV hhpdV, if_true, applyActs_seqE]
  rw [srcFormat_detects hv, hlinkV]

/-- A lost link is down, and the source LOST if it was up and on. -/
theorem dprxLost_loses {s : State} (hs : s.Inv) {x : Nat} (hx : x < 6) :
    (srcOf (runEffs s (dprxLost x)) x).linkUp = false
      ∧ ((srcOf s x).linkUp = true → srcState s x ≠ ssOFF → srcState (runEffs s (dprxLost x)) x = ssLOST) := by
  simp only [dprxLost, runEffs_cons, runEffs_nil]
  refine ⟨congrArg Source.linkUp (srcOf_src_same (applyActs_inv s _ hs) x _), fun hlink hon => ?_⟩
  rw [if_pos hlink]
  exact srcState_srcLose hs hx hon

/-- An ACTIVE source is LOST when its timeout has run from its last frame. -/
theorem srcLossTimeout_loses {s : State} (hs : s.Inv) {x l : Nat} (hx : x < 6) (hstate : srcState s x = ssACTIVE)
    (hlast : (srcOf s x).lastArrival = some l) :
    srcState (runEffs s (srcLossTimeout x)) x = ssLOST ∧ (runEffs s (srcLossTimeout x)).cur.clock
      = max s.cur.clock (l + max 1 (rf s (Reg.SRC_CTRL x) Fld.SRC_CTRL_LOSS_FRAMES) * (rd s (Reg.SRC_PERIOD x)).toNat) := by
  simp only [srcLossTimeout, runEffs_cons, runEffs_nil, hlast, Option.map_some, hstate, true_or, if_true]
  generalize l + _ = due
  have hstateU : srcState (applyActs s [.clockTo due]) x = ssACTIVE := hstate
  have hlastU : (srcOf (applyActs s [.clockTo due]) x).lastArrival = some l := hlast
  simp only [hlastU, Option.map_some, hstateU, Option.isSome_some, true_or, and_self, if_true]
  exact ⟨srcState_srcLose (applyActs_inv s _ hs) hx (hstateU ▸ by decide), congrArg Cur.clock (cur_ofSource (srcLose_ofSource _ x) _)⟩

/-- Activity on a wake-enabled source wakes from HOLD (R114). -/
theorem exec_sourceWakeActivity {s : State} {x : Fin 6} (hmode : mode s = mHOLD) (hwake : s.sys.waking = false)
    (hen : bitsOf (rf s Reg.SRC_WAKE Fld.SRC_WAKE_EN) x x = 1) (hcause : bitsOf (rf s Reg.SYS_WAKE Fld.SYS_WAKE_EN) 0 0 = 1) :
    exec (.sourceWakeActivity x) s = nextBy s [.fld Reg.SYS_WAKE Fld.SYS_WAKE_CAUSE 1, .sys (fun y => { y with waking := true })] := by
  have hexec : exec (.sourceWakeActivity x) s = nextBy s (srcActivity x (s.sys.pendTarget == some mHOLD) s
    ++ (if bitsOf (rf s Reg.SRC_WAKE Fld.SRC_WAKE_EN) x x = 1 then wakeFrom 1 s else [])) := rfl
  rw [hexec]
  simp [srcActivity, wakeFrom, hmode, hwake, hen, hcause]

/-! ## Frames (R102, R103) -/

theorem framePeriod_times {s : State} (hs : s.Inv) (x : Nat) :
    srcOf (applyActs s (framePeriod x s)) x = { srcOf s x with lastArrival := some (now s) }
      ∧ srcState (applyActs s (framePeriod x s)) x = srcState s x ∧ now (applyActs s (framePeriod x s)) = now s := by
  unfold framePeriod
  cases hl : (srcOf s x).lastArrival with
  | none => exact ⟨srcOf_src_same hs x _, rfl, rfl⟩
  | some l =>
    refine ⟨srcOf_src_same (applyAct_inv s _ hs) x _, congrArg (getF · Fld.SRC_FMT_STATE) (rd_applyActs_other s _ _ ?_), rfl⟩
    simp [Act.mayReg, Reg.SRC_PERIOD, Reg.SRC_FMT]

/-- A frame that has arrived is the newest that waits for adoption. -/
theorem arrive_waits {s u : State} (hs : s.Inv) (x b : Nat) (f : FrameFmt) :
    (srcOf (applyActs s (arrive x b f u)) x).arrived.getLast? = some ⟨b, now u, f⟩
      ∧ (srcOf (applyActs s (arrive x b f u)) x).adopted = (srcOf s x).adopted := by
  have hsrc : srcOf (applyActs s (arrive x b f u)) x = { srcOf s x with
      arrived := (srcOf s x).arrived.filter (fun a => a.buf != b) ++ [⟨b, now u, f⟩]
      bufFmt := (srcOf s x).bufFmt.set b (some f), bufAge := (srcOf s x).bufAge.set b (now u) } := by
    simp only [arrive, applyActs_cons, applyActs_nil]
    exact (srcOf_applyAct_keeps (p := id) (applyAct_inv s _ hs) (a := .inc ..) trivial x).trans (srcOf_src_same hs x _)
  rw [hsrc]
  exact ⟨List.getLast?_concat, rfl⟩

/-- The complete frame of an ACTIVE DisplayPort source on an unchanged, valid format waits in the writer's buffer. In the proof `u` is the
state with the clock at the arrival, `v` with the period measured, `w` with the lines written, `y` with the frame waiting. -/
theorem frameArrival_waits {s : State} (hs : s.Inv) {x : Nat} (hx : x < 4) {f : FrameFmt} (hstate : srcState s x = ssACTIVE)
    (hlink : (srcOf s x).linkUp = true) (hfmt : (srcOf s x).fmt = some f) (hok : fmtOk x f 0 = true)
    (hfits : frameBytes f ≤ bufSize (rd s) x) (href : (srcOf s x).fmtRefused = false) (hlast : (srcOf s x).lastArrival ≠ none)
    (hkeep : (srcOf s x).discardFirst = false) (at_ : Nat) (p0 p1 : List (List Nat)) :
    (srcOf (runEffs s (frameArrival x at_ f p0 p1)) x).arrived.getLast? = some ⟨writeBuf (srcOf s x), max s.cur.clock at_, f⟩
      ∧ (srcOf (runEffs s (frameArrival x at_ f p0 p1)) x).adopted = (srcOf s x).adopted := by
  have hon : ∀ {u : State}, srcState u x = ssACTIVE → (srcOf u x).linkUp = true →
      (decide (srcState u x ≠ ssOFF) && (srcOf u x).linkUp) = true := fun hst hl => by
    rw [hst, hl]
    rfl
  generalize ht : runEffs s (frameArrival x at_ f p0 p1) = t
  simp only [frameArrival, hx, if_true, decide_eq_false (Nat.not_le.2 hx), Bool.and_false, Bool.false_eq_true, if_false] at ht
  rw [runEffs_cons, if_pos (hon hstate hlink)] at ht
  have hu : State.Inv (applyActs s [.clockTo at_]) := applyActs_inv s _ hs
  have hstateU : srcState (applyActs s [.clockTo at_]) x = ssACTIVE := hstate
  have hsrcU : srcOf (applyActs s [.clockTo at_]) x = srcOf s x := rfl
  have hnowU : now (applyActs s [.clockTo at_]) = max s.cur.clock at_ := rfl
  have hfitsU : frameBytes f ≤ bufSize (rd (applyActs s [.clockTo at_])) x := hfits
  generalize applyActs s [.clockTo at_] = u at *
  rw [← hsrcU] at hlink hfmt href hlast hkeep ⊢
  rw [← hnowU]
  rw [runEffs_cons, if_pos (hon hstateU hlink), srcReseek_same hfmt, applyActs_nil, runEffs_cons, if_pos (hon hstateU hlink),
    srcFormat_same hfmt hok hfitsU hstateU href hlast, applyActs_nil, runEffs_cons, if_pos (hon hstateU hlink)] at ht
  have hv := applyActs_inv u (framePeriod x u) hu
  obtain ⟨hsrcV, hstateV, hnowV⟩ := framePeriod_times hu x
  generalize applyActs u (framePeriod x u) = v at *
  have honV := hon (hstateV.trans hstateU) (by rw [hsrcV]; exact hlink)
  have hkeepV : ¬ (srcOf v x).discardFirst = true := by rw [hsrcV]; exact Bool.eq_false_iff.1 hkeep
  have hbuf : writeBuf (srcOf v x) = writeBuf (srcOf u x) := by rw [hsrcV]; rfl
  rw [runEffs_cons, if_neg (by rw [honV]; exact Bool.false_ne_true), if_neg hkeepV, if_neg (fun h => h (hstateV.trans hstateU)),
    applyActs_append, hbuf] at ht
  have hw := applyActs_inv v (writeFrame v x (writeBuf (srcOf u x)) f p0 p1) hv
  have hsrcW := srcOf_storesDram (writeFrame_storesDram v x (writeBuf (srcOf u x)) f p0 p1) hv x
  generalize applyActs v (writeFrame v x (writeBuf (srcOf u x)) f p0 p1) = w at *
  obtain ⟨harrived, hadopted⟩ := arrive_waits (u := v) hw x (writeBuf (srcOf u x)) f
  have hy := applyActs_inv w (arrive x (writeBuf (srcOf u x)) f v) hw
  generalize applyActs w (arrive x (writeBuf (srcOf u x)) f v) = y at *
  rw [hnowV] at harrived
  rw [hsrcW, hsrcV] at hadopted
  have hcrcs : srcOf t x = srcOf y x := by
    rw [← ht, runEffs_cons, runEffs_cons, runEffs_nil, applyActs_nil]
    refine srcOf_storesDram (forall_mem_guarded ?_) hy x
    split
    · exact forall_mem_guarded (writeCrcs_storesDram y x _ _)
    · exact fun _ ha => absurd ha List.not_mem_nil
  rw [hcrcs]
  exact ⟨harrived, hadopted⟩

/-! ## Network packets (R93 to R95) -/

/-- What tells whether a packet is new. -/
def Source.window (q : Source) : List Nat × Bool × Nat := (q.netGot, q.netStarted, q.netLast)

/-- The registers that tell whether a packet matches its flow. -/
def flowRegs (s : State) (x : Nat) : List Word :=
  [rd s (Reg.SRC_FLOW_GRP_A x), rd s (Reg.SRC_FLOW_GRP_B x), rd s (Reg.SRC_FLOW_PORT x), rd s (Reg.SRC_FLOW_CFG x)]

theorem flowRegs_congr {s t : State} {x : Nat} (h : ∀ r, besideState x r → rd t r = rd s r) (hx : x < 6) : flowRegs t x = flowRegs s x := by
  obtain ⟨ha, hb, hp, hc⟩ := besideState_flow hx
  simp only [flowRegs, h _ ha, h _ hb, h _ hp, h _ hc]

/-- Source `x` takes the packet: it is on, and the packet matches its flow and is new. -/
def takesPacket (s : State) (x : Nat) (p : NetPacket) : Prop :=
  (decide (srcState s x ≠ ssOFF) && packetOk s x p && packetNew s x p) = true

theorem takesPacket_iff {s : State} {x : Nat} {p : NetPacket} :
    takesPacket s x p ↔ srcState s x ≠ ssOFF ∧ packetOk s x p = true ∧ packetNew s x p = true := by
  simp only [takesPacket, Bool.and_eq_true, decide_eq_true_eq, and_assoc]

/-- A source that stays on, with its flow registers and window, takes what it took. -/
theorem takesPacket_keeps {s t : State} {x : Nat} {p : NetPacket} (h : takesPacket s x p) (hon : srcState t x ≠ ssOFF)
    (hflow : flowRegs t x = flowRegs s x) (hwin : (srcOf t x).window = (srcOf s x).window) : takesPacket t x p := by
  obtain ⟨-, hok, hnew⟩ := takesPacket_iff.1 h
  simp only [flowRegs, List.cons.injEq, and_true] at hflow
  obtain ⟨ha, hb, hp, hc⟩ := hflow
  simp only [Source.window, Prod.mk.injEq] at hwin
  obtain ⟨hgot, hstarted, hlast⟩ := hwin
  refine takesPacket_iff.2 ⟨hon, ?_, ?_⟩
  · simpa only [packetOk, pathOn, rf, ha, hb, hp, hc] using hok
  · simpa only [packetNew, hgot, hstarted, hlast] using hnew

theorem takesPacket_not {s : State} {x : Nat} {p : NetPacket} (h : takesPacket s x p) :
    ¬ (!(decide (srcState s x ≠ ssOFF) && packetOk s x p && packetNew s x p)) = true := by
  rw [h]
  exact Bool.false_ne_true

/-- What a packet that is taken shows first: its path, and a LOST source seeks again. -/
def packetShown (s : State) (x : Nat) (g : Field) : List Act :=
  .fld (Reg.SRC_STATUS x) g 1 :: (if srcState s x = ssLOST then srcEnter s x ssSEEKING else [])

theorem packetShown_leaves (s : State) (x : Nat) (g : Field) :
    ∀ a ∈ packetShown s x g, a.ofSource x = true ∧ a.keepsSrc Source.window := by
  refine List.forall_mem_cons.2 ⟨⟨by simp [Act.ofSource], trivial⟩, forall_mem_guarded fun a ha => ?_⟩
  exact ⟨srcEnter_ofSource s x ssSEEKING a ha, srcEnter_keepsSrc (fun _ _ _ => rfl) s x ssSEEKING a ha⟩

theorem packetShown_on {s : State} (hs : s.Inv) {x : Nat} (hx : x < 6) (g : Field) (hon : srcState s x ≠ ssOFF) :
    srcState (applyActs s (packetShown s x g)) x ≠ ssOFF := by
  rw [packetShown, applyActs_cons]
  split
  · rw [srcState_srcEnter (applyAct_inv s _ hs) hx (srcState_status s x g 1) (by decide)]
    decide
  · rw [applyActs_nil, srcState_status]
    exact hon

/-- What a packet shows keeps its source taking it. -/
theorem packetShown_takes {s : State} (hs : s.Inv) {x : Nat} (hx : x < 6) (g : Field) {p : NetPacket} (h : takesPacket s x p) :
    takesPacket (applyActs s (packetShown s x g)) x p := by
  have hleaves := packetShown_leaves s x g
  exact takesPacket_keeps h (packetShown_on hs hx g (takesPacket_iff.1 h).1)
    (flowRegs_congr (fun r hr => rd_ofSource (fun a ha => (hleaves a ha).1) hr s) hx)
    (srcOf_applyActs_keeps hs (fun a ha => (hleaves a ha).2) x)

/-- So do the samples that it writes. -/
theorem storesDram_takes {s : State} (hs : s.Inv) {x : Nat} (hx : x < 6) {xs : List Act} (hxs : ∀ a ∈ xs, a.storesDram = true) {p : NetPacket}
    (h : takesPacket s x p) : takesPacket (applyActs s xs) x p := by
  refine takesPacket_keeps h ?_ (flowRegs_congr (fun r hr => rd_storesDram hxs (Nat.lt_trans hr.1 (by decide)) s) hx)
    (congrArg Source.window (srcOf_storesDram hxs hs x))
  rw [srcState_storesDram hxs s hx]
  exact (takesPacket_iff.1 h).1

/-- So does an update of the source that leaves its window. -/
theorem srcUpdate_takes {s : State} (hs : s.Inv) {x : Nat} {f : Source → Source} (hf : ∀ q, (f q).window = q.window) {p : NetPacket}
    (h : takesPacket s x p) : takesPacket (applyActs s [.src x f]) x p ∧ (srcOf (applyActs s [.src x f]) x).window = (srcOf s x).window := by
  have hwin := srcOf_applyActs_keeps (p := Source.window) hs (xs := [.src x f]) (List.forall_mem_singleton.2 hf) x
  exact ⟨takesPacket_keeps h (takesPacket_iff.1 h).1 rfl hwin, hwin⟩

/-- A packet that its source takes is counted as received. In the proof `u` is the state with the clock at the packet, `v` with its path
shown, `w` with a buffer to fill, `y` with its samples written. -/
theorem netPacket_received {s : State} (hs : s.Inv) {x : Nat} (hx : x < 6) {p : NetPacket} (h : takesPacket s x p) (at_ : Nat) :
    (srcOf (runEffs s (netPacket x at_ p)) x).netGot = (srcOf s x).netGot ++ [p.seq] := by
  generalize ht : runEffs s (netPacket x at_ p) = t
  simp only [netPacket, List.cons_append, List.nil_append] at ht
  rw [runEffs_cons] at ht
  have hu : State.Inv (applyActs s [.clockTo at_]) := applyActs_inv s _ hs
  have htakesU : takesPacket (applyActs s [.clockTo at_]) x p := h
  have hwinU : (srcOf (applyActs s [.clockTo at_]) x).window = (srcOf s x).window := rfl
  generalize applyActs s [.clockTo at_] = u at *
  obtain ⟨honU, hokU, -⟩ := takesPacket_iff.1 htakesU
  rw [runEffs_cons, if_neg honU, if_neg (by rw [hokU]; exact Bool.false_ne_true), ← packetShown] at ht
  generalize (if p.path.val = 0 then Fld.SRC_STATUS_PATH_A else Fld.SRC_STATUS_PATH_B) = g at ht
  have hv := applyActs_inv u (packetShown u x g) hu
  have hwinV := (srcOf_applyActs_keeps hu (fun a ha => (packetShown_leaves u x g a ha).2) x).trans hwinU
  have htakesV := packetShown_takes hu hx g htakesU
  generalize applyActs u (packetShown u x g) = v at *
  rw [runEffs_cons, if_neg (takesPacket_not htakesV)] at ht
  generalize hw : applyActs v _ = w at ht
  have hbuf : w.Inv ∧ takesPacket w x p ∧ (srcOf w x).window = (srcOf v x).window := by
    subst hw
    refine ⟨applyActs_inv v _ hv, srcUpdate_takes hv ?_ htakesV⟩
    exact fun _ => rfl
  obtain ⟨iw, htakesW, hwinW⟩ := hbuf
  have hstores : ∀ f, ∀ a ∈ seqE (p.segments.flatMap (segmentEffs x f)) w, a.storesDram = true := fun f =>
    forall_mem_seqE (fun e he => by
      obtain ⟨g, -, hg⟩ := List.mem_flatMap.1 he
      exact segmentEffs_storesDram x f g e hg) w
  rw [runEffs_cons] at ht
  generalize hy : applyActs w _ = y at ht
  have hsamples : y.Inv ∧ takesPacket y x p ∧ srcOf y x = srcOf w x :=
    hy ▸ ⟨applyActs_inv w _ iw, storesDram_takes iw hx (forall_mem_guarded (hstores _)) htakesW,
      srcOf_storesDram (forall_mem_guarded (hstores _)) iw x⟩
  obtain ⟨iy, htakesY, hsrcY⟩ := hsamples
  rw [runEffs_cons, if_neg (takesPacket_not htakesY), runEffs_nil] at ht
  subst ht
  have hgot : (srcOf y x).netGot = (srcOf s x).netGot := by
    rw [hsrcY]
    exact congrArg Prod.fst (hwinW.trans hwinV)
  exact (congrArg Source.netGot (srcOf_applyActs_concat iy [] x _)).trans (congrArg (· ++ [p.seq]) hgot)

theorem gapCount_implemented {x : Nat} (hx : x < 6) :
    regImpl (Reg.SRC_GAP_CNT x) &&& Fld.SRC_GAP_CNT_COUNT.mask = Fld.SRC_GAP_CNT_COUNT.mask :=
  (by decide : ∀ x < 6, regImpl (Reg.SRC_GAP_CNT x) &&& Fld.SRC_GAP_CNT_COUNT.mask = Fld.SRC_GAP_CNT_COUNT.mask) x hx

/-- A frame still incomplete SKEW_MAX after its marker is discarded and counted. -/
theorem netSkewTimeout_discards {s : State} (hs : s.Inv) {x : Nat} (hx : x < 6) (hmark : (srcOf s x).netMarker ≠ none)
    (hmiss : netComplete (srcOf s x) = false) {t : State} (ht : runEffs s (netSkewTimeout x) = t) :
    (srcOf t x).netGot = [] ∧ (srcOf t x).netMarker = none ∧ t.cur.clock = max s.cur.clock ((srcOf s x).netMarkerAt + skewMax s x)
      ∧ rf t (Reg.SRC_GAP_CNT x) Fld.SRC_GAP_CNT_COUNT = (rf s (Reg.SRC_GAP_CNT x) Fld.SRC_GAP_CNT_COUNT + 1) % 2 ^ 32
      ∧ sameMemory s t := by
  have hgo : ((srcOf s x).netMarker.isSome && !netComplete (srcOf s x)) = true := by
    rw [hmiss, Option.isSome_iff_ne_none.2 hmark]
    rfl
  simp only [netSkewTimeout] at ht
  rw [runEffs_cons, if_pos hgo] at ht
  generalize hu : applyActs s [.clockTo ((srcOf s x).netMarkerAt + skewMax s x)] = u at ht
  have hclock : u.Inv ∧ srcOf u x = srcOf s x ∧ rd u = rd s ∧ u.cur.clock = max s.cur.clock ((srcOf s x).netMarkerAt + skewMax s x)
      ∧ sameMemory s u := hu ▸ ⟨applyActs_inv s _ hs, rfl, rfl, rfl, sameMemory_applyActs s _ rfl⟩
  obtain ⟨iu, hsrcU, hrdU, hclockU, hmemU⟩ := hclock
  rw [runEffs_cons, if_pos (by rw [hsrcU]; exact hgo), runEffs_nil, List.append_assoc, applyActs_append] at ht
  generalize hv : applyActs u [.inc (Reg.SRC_GAP_CNT x) Fld.SRC_GAP_CNT_COUNT 1] = v at ht
  have hcounted : v.Inv ∧ v.cur = u.cur ∧ sameMemory u v
      ∧ rf v (Reg.SRC_GAP_CNT x) Fld.SRC_GAP_CNT_COUNT = (rf u (Reg.SRC_GAP_CNT x) Fld.SRC_GAP_CNT_COUNT + 1) % 2 ^ 32 :=
    hv ▸ ⟨applyActs_inv u _ iu, rfl, sameMemory_applyActs u _ rfl,
      rf_inc (regsWf_of_inv iu) _ Fld.SRC_GAP_CNT_COUNT 1 (by decide) (gapCount_implemented hx)⟩
  obtain ⟨iv, hcurV, hmemV, hcountV⟩ := hcounted
  have hdrop := srcOf_applyActs_concat iv (srcEvent u x 4) x
  have hrest : ∀ f, ∀ a ∈ srcEvent u x 4 ++ [Act.src x f], a.ofSource x = true := fun f =>
    List.forall_mem_append.2 ⟨srcEvent_ofSource u x 4 x, List.forall_mem_singleton.2 (beq_self_eq_true x)⟩
  subst ht
  refine ⟨congrArg Source.netGot (hdrop _), congrArg Source.netMarker (hdrop _), ?clock, ?count,
    sameMemory_trans hmemU (sameMemory_trans hmemV (sameMemory_ofSource (hrest _) v))⟩
  case clock => rw [cur_ofSource (hrest _), hcurV, hclockU]
  case count =>
    refine (congrArg (getF · Fld.SRC_GAP_CNT_COUNT) (rd_ofSource (hrest _) (besideState_gapCount hx) v)).trans (hcountV.trans ?_)
    unfold rf
    rw [hrdU]

/-! ## The statement on sources -/

/-- Settles O18: each command runs its stages; what a stage leaves as it was is read off its updates. -/
theorem sourcesFollowTheirLinks : Obligations.SourcesFollowTheirLinks := by
  unfold Obligations.SourcesFollowTheirLinks
  refine ⟨fun s hs => ⟨?trained, ?lost, ?timeout, ?wake⟩, fun s hs => ⟨?frame, ?packet, ?skew⟩⟩
  case trained =>
    intro x rate lanes f khz ns hon hhpd
    have hlink := dprxTrained_link hs (x := x) (by omega) hon hhpd rate lanes f khz ns
    exact ⟨_, rfl, congrArg Prod.fst hlink, congrArg Prod.snd hlink⟩
  case lost => exact fun x => ⟨_, rfl, dprxLost_loses hs (by omega)⟩
  case timeout => exact fun x l hstate hlast => ⟨_, rfl, srcLossTimeout_loses hs x.isLt hstate hlast⟩
  case wake => exact fun x hmode hwake hen hcause => exec_sourceWakeActivity hmode hwake hen hcause
  case frame =>
    intro x at_ f p0 p1 hx hstate hlink hfmt hok hfits href hlast hkeep
    exact ⟨_, rfl, frameArrival_waits hs hx hstate hlink hfmt hok hfits href hlast hkeep at_ p0 p1⟩
  case packet =>
    intro x at_ p hon hok hnew
    exact ⟨_, rfl, netPacket_received hs (by omega) (takesPacket_iff.2 ⟨hon, hok, hnew⟩) at_⟩
  case skew =>
    intro x hx hmark hmiss
    have hexec : exec (.netFrameSkewTimeout x false) s = .next (runEffs s (netSkewTimeout x)) := by
      show Host.Outcome.next (runEffs s (if x.val < 4 then [] else netSkewTimeout x)) = _
      rw [if_neg (Nat.not_lt.2 hx)]
    exact ⟨_, hexec, netSkewTimeout_discards hs x.isLt hmark hmiss rfl⟩

end Sys2Proof.Machine
end

section
/-! PROOFS of the statement on PTP ports and previews (03_sources.md): what each message, link and frame leaves in the port or preview. -/

namespace Sys2Proof.Machine

/-! ## PTP ports (R96, R106) -/

theorem get_ptp_put {s : State} (hs : s.Inv) (p : Nat) (q : PtpPort) : mapGet ptpDflt (mapPut ptpDflt s.ptp p q) p = q := by
  obtain ⟨-, hptp, -⟩ := units_of_inv hs
  exact mapGet_mapPut_same ptpDflt hptp p q

/-- What a port holds after a message that PTP hears. -/
def PtpPort.hears (at_ : Nat) (m : PtpMsg) (q : PtpPort) : PtpPort :=
  match m with
  | .announce d => { q with dataset := some d, announceAt := at_ }
  | .sync t1 iv => { q with syncT1 := t1, syncT2 := at_, syncInterval := iv, offset := (at_ : Int) - t1 - q.delay }
  | .delayResp seq t4 =>
    if seq ≠ q.reqSeq then q else
    let d := (((q.syncT2 : Int) - q.syncT1) + ((t4 : Int) - q.reqT3)) / 2
    { q with delay := d, offset := (q.syncT2 : Int) - q.syncT1 - d }

/-- With EN a port hears the message. -/
theorem ptpMessage_heard {s : State} (hs : s.Inv) (hen : rf s Reg.SRC_PTP Fld.SRC_PTP_EN = 1) (p at_ : Nat) (m : PtpMsg) :
    mapGet ptpDflt (runEffs s (ptpMessage p at_ m)).ptp p = (mapGet ptpDflt s.ptp p).hears at_ m := by
  have henU : ¬ rf (applyActs s [.clockTo at_]) Reg.SRC_PTP Fld.SRC_PTP_EN = 0 := fun h => by
    have h0 : rf s Reg.SRC_PTP Fld.SRC_PTP_EN = 0 := h
    omega
  have hu : State.Inv (applyActs s [.clockTo at_]) := applyActs_inv s _ hs
  have hptp : (applyActs s [.clockTo at_]).ptp = s.ptp := rfl
  have hselect : ∀ u : State, (runEffs u [ptpSelect]).ptp = u.ptp := fun _ => rfl
  rw [ptpMessage, runEffs_cons, runEffs_cons, if_neg henU, hselect]
  generalize applyActs s [.clockTo at_] = u at *
  rw [← hptp]
  cases m with
  | announce d => exact get_ptp_same hu p _
  | sync t1 iv => exact get_ptp_same hu p _
  | delayResp seq t4 =>
    by_cases hseq : seq ≠ (mapGet ptpDflt u.ptp p).reqSeq
    · simp only [PtpPort.hears, if_pos hseq]
      rfl
    · simp only [PtpPort.hears, if_neg hseq]
      exact get_ptp_same hu p _

/-- With EN a Delay_Req leaves: its instant and sequence number are noted, and one frame is put out. -/
theorem ptpDelayReq_leaves {s : State} (hs : s.Inv) (hen : rf s Reg.SRC_PTP Fld.SRC_PTP_EN = 1) (p at_ seq : Nat) {t : State}
    (ht : runEffs s (ptpDelayReq p at_ seq) = t) :
    (mapGet ptpDflt t.ptp p).reqT3 = at_ ∧ (mapGet ptpDflt t.ptp p).reqSeq = seq ∧ t.out.frames.length = s.out.frames.length + 1
      ∧ t.regs = s.regs := by
  rw [ptpDelayReq, runEffs_cons, if_neg (by omega), runEffs_nil] at ht
  have hport : mapGet ptpDflt t.ptp p = { mapGet ptpDflt s.ptp p with reqT3 := at_, reqSeq := seq } := by
    subst ht
    exact get_ptp_put hs p _
  refine ⟨congrArg PtpPort.reqT3 hport, congrArg PtpPort.reqSeq hport, ?frame, ht ▸ rfl⟩
  case frame =>
    subst ht
    exact List.length_append

/-- A lost port reaches the network sources by updates of those sources. -/
theorem netLinkDown_eq (p : Nat) : ∃ es, netLinkDown p = (fun _ => [.ptp p (fun q => { q with linkUp := false })]) :: es
    ∧ ∀ e ∈ es, ∀ u, ∀ a ∈ e u, ∃ x, a.ofSource x = true := by
  refine ⟨_, rfl, fun e he u a ha => ?_⟩
  obtain ⟨x, -, he⟩ := List.mem_flatMap.1 he
  refine ⟨x, ?_⟩
  simp only [List.mem_cons, List.not_mem_nil, or_false] at he
  rcases he with rfl | rfl
  · obtain ⟨k, -, ha⟩ := List.mem_flatMap.1 ha
    refine forall_mem_guarded (P := fun a => a.ofSource x = true) (List.forall_mem_singleton.2 ?_) a ha
    simp [Act.ofSource]
  · exact forall_mem_guarded (srcLose_ofSource u x) a ha

/-- A NET port whose link went down is down. -/
theorem netLinkDown_down {s : State} (hs : s.Inv) (p : Nat) :
    (mapGet ptpDflt (runEffs s (netLinkDown p)).ptp p).linkUp = false ∧ sameMemory s (runEffs s (netLinkDown p)) := by
  obtain ⟨es, hes, hsources⟩ := netLinkDown_eq p
  rw [hes, runEffs_cons, ← applyActs_seqE]
  generalize hu : applyActs s [.ptp p (fun q => { q with linkUp := false })] = u
  have iu : u.Inv := hu ▸ applyActs_inv s _ hs
  have hdown : (mapGet ptpDflt u.ptp p).linkUp = false := hu ▸ congrArg PtpPort.linkUp (get_ptp_same hs p _)
  have hmem : sameMemory s u := hu ▸ sameMemory_applyActs s _ rfl
  have hxs := forall_mem_seqE hsources u
  have hptp : (applyActs u (seqE es u)).ptp = u.ptp := applyActs_keeps State.ptp (fun a ha v _ => by
    obtain ⟨x, hx⟩ := hxs a ha
    exact (ofSource_leaves hx).2.2 v) iu
  refine ⟨by rw [hptp, hdown], sameMemory_trans hmem (sameMemory_of_noMem fun a ha => ?_)⟩
  obtain ⟨x, hx⟩ := hxs a ha
  exact (ofSource_leaves hx).1

/-- A NET port whose link came up is up; it sends its joins and changes no register. -/
theorem netLinkUp_up {s : State} (hs : s.Inv) (p : Nat) :
    (mapGet ptpDflt (runEffs s (netLinkUp p)).ptp p).linkUp = true ∧ (runEffs s (netLinkUp p)).regs = s.regs
      ∧ sameMemory s (runEffs s (netLinkUp p)) := by
  rw [netLinkUp, runEffs_cons, runEffs_cons, runEffs_nil]
  generalize hu : applyActs s [.ptp p (fun q => { q with linkUp := true })] = u
  have hup : u.Inv ∧ (mapGet ptpDflt u.ptp p).linkUp = true ∧ u.regs = s.regs ∧ sameMemory s u :=
    hu ▸ ⟨applyActs_inv s _ hs, congrArg PtpPort.linkUp (get_ptp_same hs p _), rfl, sameMemory_applyActs s _ rfl⟩
  obtain ⟨iu, hlink, hregs, hmem⟩ := hup
  generalize hv : applyActs u _ = v
  have hjoins : (v.ptp, v.regs) = (u.ptp, u.regs) ∧ sameMemory u v := by
    subst hv
    exact ⟨applyActs_keeps (fun w => (w.ptp, w.regs)) (List.forall_mem_map.2 fun _ _ _ _ => rfl) iu,
      sameMemory_of_noMem (List.forall_mem_map.2 fun _ _ => rfl)⟩
  obtain ⟨hsame, hmemV⟩ := hjoins
  obtain ⟨hptp, hregsV⟩ := Prod.mk.inj hsame
  exact ⟨by rw [hptp, hlink], hregsV.trans hregs, sameMemory_trans hmem hmemV⟩

/-! ## Previews (R117, R118, R122) -/

theorem preview_implemented {p : Nat} (hp : p < 2) :
    regImpl (Reg.PVW_STATUS p) &&& Fld.PVW_STATUS_HPD.mask = Fld.PVW_STATUS_HPD.mask
      ∧ regImpl (Reg.PVW_STATUS p) &&& Fld.PVW_STATUS_TRAINED.mask = Fld.PVW_STATUS_TRAINED.mask :=
  (by decide : ∀ p < 2, regImpl (Reg.PVW_STATUS p) &&& Fld.PVW_STATUS_HPD.mask = Fld.PVW_STATUS_HPD.mask
    ∧ regImpl (Reg.PVW_STATUS p) &&& Fld.PVW_STATUS_TRAINED.mask = Fld.PVW_STATUS_TRAINED.mask) p hp

/-- The size of a preview sets DIV and the size register. -/
theorem forall_mem_previewSize {P : Act → Prop} {p : Nat} (hdiv : ∀ k, P (.fld (Reg.PVW_STATUS p) Fld.PVW_STATUS_DIV k))
    (hsize : ∀ f v, P (.fld (Reg.PVW_SIZE p) f v)) (hzero : P (.reg (Reg.PVW_SIZE p) 0)) (s : State) : ∀ a ∈ previewSize p s, P a := by
  unfold previewSize
  split
  · exact List.forall_mem_cons.2 ⟨hdiv _, List.forall_mem_cons.2 ⟨hsize _ _, List.forall_mem_singleton.2 (hsize _ _)⟩⟩
  · exact List.forall_mem_cons.2 ⟨hdiv _, List.forall_mem_singleton.2 hzero⟩

/-- It leaves what the preview shows, whether it is trained, and memory. -/
theorem previewSize_keeps {s : State} (hs : s.Inv) {p : Nat} (hp : p < 2) (u : State) :
    (applyActs s (previewSize p u)).pvw = s.pvw ∧ sameMemory s (applyActs s (previewSize p u))
      ∧ rf (applyActs s (previewSize p u)) (Reg.PVW_STATUS p) Fld.PVW_STATUS_TRAINED = rf s (Reg.PVW_STATUS p) Fld.PVW_STATUS_TRAINED := by
  have hne : Reg.PVW_SIZE p ≠ Reg.PVW_STATUS p := by
    simp only [Reg.PVW_SIZE, Reg.PVW_STATUS]
    omega
  have hspare : ∀ x : Act, x.mayReg (Reg.PVW_STATUS p) = (Reg.PVW_SIZE p == Reg.PVW_STATUS p) →
      x.spares (Reg.PVW_STATUS p) Fld.PVW_STATUS_TRAINED = true := fun x hx =>
    spares_of_not_mayReg (hx.trans (beq_eq_false_iff_ne.2 hne)) _
  refine ⟨applyActs_keeps State.pvw (forall_mem_previewSize (fun _ _ _ => rfl) (fun _ _ _ _ => rfl) (fun _ _ => rfl) u) hs,
    sameMemory_of_noMem (forall_mem_previewSize (P := fun a => a.mayMem = false) (fun _ => rfl) (fun _ _ => rfl) rfl u),
    rf_applyActs_spares hs _ _ (by decide) (preview_implemented hp).2
      (forall_mem_previewSize (fun k => ?_) (fun f v => hspare _ rfl) (hspare _ rfl) u)⟩
  simp [Act.spares, Act.mayReg, Fld.PVW_STATUS_DIV, Fld.PVW_STATUS_TRAINED, Field.width]

/-- A preview link that trains with HPD and EN reads as trained, at the capacity it carries. -/
theorem previewTrained_trains {s : State} (hs : s.Inv) {p : Nat} (hp : p < 2) (hhpd : rf s (Reg.PVW_STATUS p) Fld.PVW_STATUS_HPD = 1)
    (hen : rf s (Reg.PVW_CTRL p) Fld.PVW_CTRL_EN = 1) (lanes cap : Nat) {t : State} (ht : runEffs s (previewTrained p lanes cap) = t) :
    rf t (Reg.PVW_STATUS p) Fld.PVW_STATUS_TRAINED = 1 ∧ (mapGet pvwDflt t.pvw p).capacity = cap ∧ sameMemory s t := by
  have htakes : ¬ (rf s (Reg.PVW_STATUS p) Fld.PVW_STATUS_HPD = 0 ∨ rf s (Reg.PVW_CTRL p) Fld.PVW_CTRL_EN = 0) := by omega
  rw [previewTrained, runEffs_cons, if_neg htakes] at ht
  generalize hu : applyActs s [_, _, _] = u at ht
  have htrain : u.Inv ∧ rf u (Reg.PVW_STATUS p) Fld.PVW_STATUS_TRAINED = 1 ∧ (mapGet pvwDflt u.pvw p).capacity = cap ∧ sameMemory s u := by
    subst hu
    refine ⟨applyActs_inv s _ hs, ?_, ?_, sameMemory_applyActs s _ rfl⟩
    · rw [applyActs_cons]
      refine (rf_applyActs_spares (applyAct_inv s _ hs) _ _ (by decide) (preview_implemented hp).2 ?_).trans
        (rf_fld (regsWf_of_inv hs) _ _ 1 (by decide) (preview_implemented hp).2)
      simp [Act.spares, Act.mayReg, Fld.PVW_STATUS_LANES, Fld.PVW_STATUS_TRAINED, Field.width]
    · simp only [applyActs_cons, applyActs_nil]
      exact congrArg Preview.capacity (get_pvw_same (applyAct_inv _ _ (applyAct_inv s _ hs)) p _)
  obtain ⟨iu, htrained, hcap, hmem⟩ := htrain
  rw [runEffs_cons, if_pos htrained, runEffs_nil] at ht
  obtain ⟨hpvw, hmemT, htrainedT⟩ := previewSize_keeps iu hp u
  subst ht
  exact ⟨htrainedT.trans htrained, by rw [hpvw, hcap], sameMemory_trans hmem hmemT⟩

/-- HPD reads as the pin, and without HPD the link is not trained. -/
theorem previewHpd_follows {s : State} (hs : s.Inv) {p : Nat} (hp : p < 2) (up : Bool) {t : State} (ht : applyActs s (previewHpd p up s) = t) :
    rf t (Reg.PVW_STATUS p) Fld.PVW_STATUS_HPD = (if up then 1 else 0)
      ∧ (up = false → rf t (Reg.PVW_STATUS p) Fld.PVW_STATUS_TRAINED = 0) ∧ sameMemory s t := by
  obtain ⟨mHpd, mTrained⟩ := preview_implemented hp
  have hpin := rf_fld (regsWf_of_inv hs) (Reg.PVW_STATUS p) Fld.PVW_STATUS_HPD (if up then 1 else 0) (by decide) mHpd
  subst ht
  cases up with
  | true => exact ⟨hpin, fun h => absurd h (by decide), sameMemory_applyActs s _ rfl⟩
  | false =>
    have hi := applyAct_inv s (.fld (Reg.PVW_STATUS p) Fld.PVW_STATUS_HPD 0) hs
    refine ⟨?_, fun _ => ?_, sameMemory_applyActs s _ rfl⟩
    · refine (rf_applyActs_spares hi _ _ (by decide) mHpd ?_).trans hpin
      simp [Act.spares, Act.mayReg, Fld.PVW_STATUS_LANES, Fld.PVW_STATUS_TRAINED, Fld.PVW_STATUS_HPD, Field.width]
    · refine (rf_applyActs_spares (applyAct_inv _ _ hi) _ _ (by decide) mTrained ?_).trans (rf_fld (regsWf_of_inv hi) _ _ 0 (by decide) mTrained)
      simp [Act.spares, Act.mayReg, Fld.PVW_STATUS_LANES, Fld.PVW_STATUS_TRAINED, Field.width]

/-- The frame of a trained preview in a mode with curtains shows its selected picture and its curtain. -/
theorem previewFrame_shows {s : State} (hs : s.Inv) {p : Nat} (hp : p < 2) (hmode : curtainMode (mode s) = true)
    (hen : rf s (Reg.PVW_CTRL p) Fld.PVW_CTRL_EN = 1) (htrained : rf s (Reg.PVW_STATUS p) Fld.PVW_STATUS_TRAINED = 1) {t : State}
    (ht : runEffs s (previewFrame p) = t) :
    (mapGet pvwDflt t.pvw p).shownSel = min 6 (rf s (Reg.PVW_CTRL p) Fld.PVW_CTRL_SEL)
      ∧ (mapGet pvwDflt t.pvw p).shownSlot = rf s (Reg.PVW_CTRL p) Fld.PVW_CTRL_SLOT
      ∧ (mapGet pvwDflt t.pvw p).shownCurtain = rf s Reg.CUR_NUM Fld.CUR_NUM_NUM ∧ (mapGet pvwDflt t.pvw p).live = true ∧ sameMemory s t := by
  have hshows : (curtainMode (mode s) && rf s (Reg.PVW_CTRL p) Fld.PVW_CTRL_EN == 1
      && rf s (Reg.PVW_STATUS p) Fld.PVW_STATUS_TRAINED == 1) = true := by simp [hmode, hen, htrained]
  rw [previewFrame, runEffs_cons, runEffs_nil] at ht
  dsimp only at ht
  rw [if_pos hshows, applyActs_cons] at ht
  generalize hu : applyAct s (.pvw p _) = u at ht
  have hu' : u.Inv ∧ sameMemory s u := hu ▸ ⟨applyAct_inv s _ hs, sameMemory_applyAct s _ rfl⟩
  obtain ⟨iu, hmem⟩ := hu'
  obtain ⟨hpvw, hmemT, -⟩ := previewSize_keeps iu hp s
  subst ht
  rw [hpvw, ← hu, get_pvw_same hs, hu]
  exact ⟨rfl, rfl, rfl, rfl, sameMemory_trans hmem hmemT⟩

/-- Settles O20: a message by what its port hears, a link and a preview by the stages of its command. -/
theorem ptpPortsAndPreviewsFollow : Obligations.PtpPortsAndPreviewsFollow := by
  unfold Obligations.PtpPortsAndPreviewsFollow
  refine ⟨fun s p at_ hs hen => ?ports, fun s p hs => ?previews⟩
  case ports =>
    have hears := ptpMessage_heard hs hen p at_
    refine ⟨fun d => ⟨_, rfl, ?announce⟩, fun t1 iv => ⟨_, rfl, ?sync⟩, fun seq t4 hseq => ⟨_, rfl, ?delay⟩, ⟨_, rfl, ?timeout⟩,
      fun seq => ⟨_, rfl, ptpDelayReq_leaves hs hen p at_ seq rfl⟩, ⟨_, rfl, netLinkDown_down hs p⟩, ⟨_, rfl, netLinkUp_up hs p⟩⟩
    case announce => exact ⟨congrArg PtpPort.dataset (hears _), congrArg PtpPort.announceAt (hears _)⟩
    case sync => exact ⟨congrArg PtpPort.syncT2 (hears _), congrArg PtpPort.offset (hears _)⟩
    case delay =>
      refine (congrArg PtpPort.delay (hears _)).trans ?_
      rw [PtpPort.hears, if_neg (fun h => h hseq)]
    case timeout => exact congrArg PtpPort.dataset (get_ptp_put hs p _)
  case previews =>
    exact ⟨fun lanes cap hhpd hen => ⟨_, rfl, previewTrained_trains hs p.isLt hhpd hen lanes cap rfl⟩,
      fun up => ⟨_, rfl, previewHpd_follows hs p.isLt up rfl⟩,
      fun hmode hen htrained => ⟨_, rfl, previewFrame_shows hs p.isLt hmode hen htrained rfl⟩⟩

end Sys2Proof.Machine
end

section
/-! PROOFS of the statements on marks, the sync outputs and the bank sequencers (02_curtain.md R52 to R56, 07_lamp_ports.md R269 to R304):
first what a mark or an output's change does to the state and what an instruction of a running sequencer does, branch by branch, then one
theorem for each statement. -/

namespace Sys2Proof.Machine

/-! ## Flags -/

/-- A flag within its vector reads as it was set. -/
theorem bit_setBit {w : Nat} (x : BitVec w) {i : Nat} (hi : i < w) (v : Bool) : bit (setBit x i v) i = v := by
  have hbit : (BitVec.ofNat w (2 ^ i)).getLsbD i = true := by rw [BitVec.getLsbD_ofNat, Nat.testBit_two_pow_self, decide_eq_true hi]; rfl
  cases v with
  | false => simp only [bit, setBit, Bool.false_eq_true, if_false, BitVec.getLsbD_and, BitVec.getLsbD_not, hbit, Bool.not_true, Bool.and_false]
  | true => simp only [bit, setBit, if_true, BitVec.getLsbD_or, hbit, Bool.or_true]

/-! ## Marks (R269, R271, R272) -/

/-- The ports of bank `b` that a mark of instant `m` leaves by: in service, with their line up long enough before it. -/
def markPorts (s : State) (b m : Nat) : List Nat :=
  (bankPorts b).filter (fun p => portOn (rd s) p && (port s p).up && decide ((port s p).startAt + 50000 ≤ m - 1023))

/-- The mark of the edge (0) or of slot `j` as it leaves port `p`. -/
def markLine (s : State) (j p : Nat) : LineOut :=
  ⟨p, markInstant s j - rf s (Reg.PORT_ADV (p / 64) (p % 64)) Fld.PORT_ADV_ADV, if j = 0 then kCUR else kSTB,
    [if j = 0 then BitVec.ofNat 8 (rf s Reg.CUR_NUM Fld.CUR_NUM_NUM + 1) else BitVec.ofNat 8 j]⟩

/-- A mark still to come is emitted 1,023 ns ahead on every such port. -/
theorem exec_markEmit {s : State} {j : Fin 8} (hrun : s.cur.running = true) (hj : j.val < slotCount (rdLamp s))
    (hnow : now s ≤ markInstant s j) (b : Fin 16) : exec (.markEmit b j) s = nextBy s [.clockTo (markInstant s j - 1023),
      .out (fun o => { o with lines := o.lines ++ (markPorts s b (markInstant s j)).map (markLine s j) })] := by
  have hdue : (s.cur.running && decide (j.val < slotCount (rdLamp s)) && decide (now s ≤ markInstant s j)) = true := by
    simp only [hrun, hj, hnow, decide_true, Bool.and_self]
  exact congrArg (nextBy s) (if_pos hdue)

theorem mem_markPorts {s : State} {b m p : Nat} (hp : p ∈ bankPorts b) (hon : portOn (rd s) p = true) (hup : (port s p).up = true)
    (hstart : (port s p).startAt + 50000 ≤ m - 1023) : p ∈ markPorts s b m := by
  refine List.mem_filter.2 ⟨hp, ?_⟩
  simp only [hon, hup, hstart, decide_true, Bool.and_self]

/-! ## CAMSYNC and SYNC_OUT (R52, R54, R56) -/

/-- A CAMSYNC output enabled for a mask with slot `j` goes active at the slot's first instant to come. -/
theorem exec_camsyncFire {s : State} {m j : Fin 8} {i : Nat} (hlive : syncLive s = true)
    (hen : getF (rdLamp s (Reg.CUR_CAMSYNC_CTRL m)) Fld.CUR_CAMSYNC_CTRL_EN = 1) (hj : j.val < slotCount (rdLamp s))
    (hmode : getF (rdLamp s (Reg.CUR_CAMSYNC_CTRL m)) Fld.CUR_CAMSYNC_CTRL_MODE = 1)
    (hmask : bitsOf (getF (rdLamp s (Reg.CUR_CAMSYNC_CTRL m)) Fld.CUR_CAMSYNC_CTRL_SLOT_MASK) j j = 1)
    (hi : firstAt (now s) (slotInstants s j (sreg (rdLamp s (Reg.CUR_CAMSYNC_PHASE m)))) = some i) :
    exec (.camsyncFire m j) s = nextBy s [.clockTo i, .cur (fun q => { q with
      camsync := setBit q.camsync m true
      camsyncEnd := q.camsyncEnd.set m (i + getF (rdLamp s (Reg.CUR_CAMSYNC_WIDTH m)) Fld.CUR_CAMSYNC_WIDTH_WIDTH) })] := by
  show Host.Outcome.next (runEffs s (camsyncFire m j)) = _
  simp only [camsyncFire, runEffs_cons, runEffs_nil, hlive, hen, hmode, hmask, hj, hi, if_true, decide_true, beq_self_eq_true, Bool.and_self]

theorem exec_camsyncEnd {s : State} {m : Fin 8} (h : bit s.cur.camsync m = true) : exec (.camsyncEnd m) s
    = nextBy s [.clockTo (s.cur.camsyncEnd.getD m 0), .cur (fun q => { q with camsync := setBit q.camsync m false })] :=
  congrArg (nextBy s) (if_pos h)

/-- A SYNC_OUT output enabled for the edge goes active at the first edge to come, in LOAD too. -/
theorem exec_syncOutFire {s : State} {o : Fin 4} {j : Fin 8} {i : Nat} (hlive : syncLive s = true)
    (hen : getF (rdLamp s (Reg.CUR_SYNCOUT_CTRL o)) Fld.CUR_SYNCOUT_CTRL_EN = 1)
    (hev : getF (rdLamp s (Reg.CUR_SYNCOUT_CTRL o)) Fld.CUR_SYNCOUT_CTRL_EVENT = 0)
    (hi : firstAt (now s) (syncInstants s (rdLamp s) 0 j (sreg (rdLamp s (Reg.CUR_SYNCOUT_PHASE o)))) = some i) :
    exec (.syncOutFire o j) s = nextBy s [.clockTo i, .cur (fun q => { q with
      syncOut := setBit q.syncOut o true
      syncOutEnd := q.syncOutEnd.set o (i + getF (rdLamp s (Reg.CUR_SYNCOUT_WIDTH o)) Fld.CUR_SYNCOUT_WIDTH_WIDTH) })] := by
  have hdead : (mode s == mLOAD && ((0 : Nat) == 2 || (0 : Nat) == 4)) = false := Bool.and_false _
  show Host.Outcome.next (runEffs s (syncOutFire o j)) = _
  simp only [syncOutFire, runEffs_cons, runEffs_nil, hlive, hen, hev, hi, hdead, if_true, if_false, Nat.zero_ne_one, beq_self_eq_true,
    Bool.and_self, Bool.not_false]

theorem exec_syncOutEnd {s : State} {o : Fin 4} (h : bit s.cur.syncOut o = true) : exec (.syncOutEnd o) s
    = nextBy s [.clockTo (s.cur.syncOutEnd.getD o 0), .cur (fun q => { q with syncOut := setBit q.syncOut o false })] :=
  congrArg (nextBy s) (if_pos h)

/-- Settles O17: each command's updates where its guard holds; they touch the clock, the outputs and the lines alone. -/
theorem marksAndOutputsFireAtTheirInstants : Obligations.MarksAndOutputsFireAtTheirInstants := by
  unfold Obligations.MarksAndOutputsFireAtTheirInstants
  refine ⟨fun s b j hrun hj hnow => ⟨_, exec_markEmit hrun hj hnow b, rfl, ?marks, rfl, sameMemory_applyActs s _ rfl⟩, fun s hlive =>
    ⟨fun m j i hen hj hmode hmask hi => ⟨_, exec_camsyncFire hlive hen hj hmode hmask hi, bit_setBit _ m.isLt true, rfl, rfl, rfl,
        sameMemory_applyActs s _ rfl⟩,
      fun m h => ⟨_, exec_camsyncEnd h, bit_setBit _ m.isLt false, rfl, rfl, sameMemory_applyActs s _ rfl⟩,
      fun o j i hen hev hi => ⟨_, exec_syncOutFire hlive hen hev hi, bit_setBit _ o.isLt true, rfl, rfl, rfl, sameMemory_applyActs s _ rfl⟩,
      fun o h => ⟨_, exec_syncOutEnd h, bit_setBit _ o.isLt false, rfl, rfl, sameMemory_applyActs s _ rfl⟩⟩⟩
  case marks =>
    intro p hp hon hup hstart
    have hmark : markLine s j p ∈ (markPorts s b (markInstant s j)).map (markLine s j) :=
      List.mem_map_of_mem (mem_markPorts hp hon hup hstart)
    exact ⟨markLine s j p, List.mem_append_right _ hmark, rfl, rfl, rfl⟩

/-! ## Instructions of a running sequencer (R297 to R304) -/

/-- A running sequencer's instruction acts in the state in which every window still open has missed. -/
theorem doneAll_bsRun {s : State} {b : Nat} (h : bsState s b = bsRUN) (f : Eff) :
    doneAll s (bsRun b f) = nextBy (runEffs s ((bankPorts b).map windowMiss)) (f (runEffs s ((bankPorts b).map windowMiss))) := by
  have hrun : (fun s => bsState s b == bsRUN) s = true := beq_iff_eq.2 h
  rw [doneAll, bsRun, runEffs_whenE s _ _ _ hrun, List.append_nil, runEffs_append]
  rfl

/-- Conditions above 7 are illegal (R301). -/
theorem bsCond_illegal (s : State) (b : Nat) {c : Nat} (h : 8 ≤ c) : bsCond s b c = none := by
  obtain ⟨k, rfl⟩ := Nat.exists_eq_add_of_le' h
  rfl

theorem bsBr_legal {s : State} {b c : Nat} {v : Bool} (h : bsCond s b c = some v) (a : Nat) :
    bsBr b a c s = bsStep b .free (fun pc => if v then a else bsNext pc) (fun _ _ => []) s := by
  simp only [bsBr, h]

theorem bsBr_illegal {s : State} {b c : Nat} (h : bsCond s b c = none) (a : Nat) : bsBr b a c s = seqFault b 1 s := by
  simp only [bsBr, h]

theorem bsWaitc_legal {s : State} {b c : Nat} {v : Bool} (h : bsCond s b c = some v) :
    bsWaitc b c s = bsStep b (.emit 1) (fun pc => if v then bsNext pc else pc) (fun _ _ => []) s := by
  simp only [bsWaitc, h]

theorem bsWaitc_illegal {s : State} {b c : Nat} (h : bsCond s b c = none) : bsWaitc b c s = seqFault b 1 s := by
  simp only [bsWaitc, h]

/-- CALL with the stack empty keeps the return address. -/
theorem bsCall_empty {s : State} {b : Nat} (h : (bseq s b).full = false) (a : Nat) :
    bsCall b a s = bsStep b .free (fun _ => a) (fun _ s => [.bseq b (fun q =>
      { q with stack := BitVec.ofNat 16 (bsNext (rf s (Reg.BS_STATUS b) Fld.BS_STATUS_PC)), full := true })]) s :=
  if_neg (ne_true_of_eq_false h)

theorem bsCall_full {s : State} {b : Nat} (h : (bseq s b).full = true) (a : Nat) : bsCall b a s = seqFault b 3 s := if_pos h

/-- SETF and CLRF act on F5 and F6 alone. -/
theorem bsFlag_program {k : Nat} (h : k = 5 ∨ k = 6) (s : State) (b pred : Nat) (v : Bool) :
    bsFlag b pred k v s = bsStep b .free bsNext
      (fun _ s => (lanes s b pred).map (fun p => .port p (fun q => { q with flags := setBit q.flags (k - 5) v }))) s := by
  simp only [bsFlag, if_pos h]

theorem bsFlag_hardware {k : Nat} (h5 : k ≠ 5) (h6 : k ≠ 6) (s : State) (b pred : Nat) (v : Bool) :
    bsFlag b pred k v s = bsStep b .free bsNext (fun _ _ => []) s := by
  simp only [bsFlag, if_neg (not_or.2 ⟨h5, h6⟩)]

/-- KSYM of any control symbol but CUR and STB, which marks alone emit. -/
theorem bsKsym_other {imm : Nat} (hcur : imm / 256 ≠ kCUR) (hstb : imm / 256 ≠ kSTB) (s : State) (b pred : Nat) :
    bsKsym b pred imm s = bsStep b (.emit 2) bsNext (fun n s => [.out (fun o => { o with
      lines := o.lines ++ (lanes s b pred).map (fun p =>
        ⟨p, symNs s b n + 1023 - rf s (Reg.PORT_ADV (p / 64) (p % 64)) Fld.PORT_ADV_ADV, imm / 256 % 256, [BitVec.ofNat 8 imm]⟩) })]) s :=
  if_neg (not_or.2 ⟨hcur, hstb⟩)

theorem bsKsym_mark {imm : Nat} (h : imm / 256 = kCUR ∨ imm / 256 = kSTB) (s : State) (b pred : Nat) :
    bsKsym b pred imm s = seqFault b 1 s := if_pos h

/-- Settles O35: an instruction acts after the misses; its branch is the one that the flags, the condition or the operand name. -/
theorem sequencerInstructionsAct : Obligations.SequencerInstructionsAct := by
  unfold Obligations.SequencerInstructionsAct
  intro s b hrun u c z n pc on goes free emits stops
  have acts : ∀ f : Eff, doneAll s (bsRun b f) = nextBy u (f u) := doneAll_bsRun hrun
  have acts_as : ∀ {f : Eff} {xs : List Act}, f u = xs → doneAll s (bsRun b f) = nextBy u xs := fun h => (acts _).trans (congrArg (nextBy u) h)
  refine ⟨acts _, fun k => acts _, fun a => acts _, fun imm => acts _, fun a => acts _,
    fun a k v hk => ⟨acts_as (bsBr_legal hk a), acts_as (bsWaitc_legal hk)⟩,
    fun a k hk => ⟨acts_as (bsBr_illegal (bsCond_illegal u b hk) a), acts_as (bsWaitc_illegal (bsCond_illegal u b hk))⟩,
    fun a h => acts_as (bsCall_empty h a), fun a h => acts_as (bsCall_full h a), acts _, fun imm => acts _, acts _, acts _, acts _,
    fun pred k hk => ⟨acts_as (bsFlag_program hk u b pred true), acts_as (bsFlag_program hk u b pred false)⟩,
    fun pred k h5 h6 => ⟨acts_as (bsFlag_hardware h5 h6 u b pred true), acts_as (bsFlag_hardware h5 h6 u b pred false)⟩,
    fun pred imm hcur hstb => acts_as (bsKsym_other hcur hstb u b pred), fun pred imm h => acts_as (bsKsym_mark h u b pred)⟩

/-! ## SEND, TURN, FETCH and the sequencers' registers -/

/-- FETCH with no background page to offer fills the lanes' buffers. -/
theorem exec_bsFetch {s : State} (hbg : s.stp.bgReady.filter (·.2) = []) (b : Fin 16) (pred : Fin 8) :
    exec (.bsFetch b pred) s = doneAll s (bsRun b (bsStep b .free bsNext (fun _ s => seqE ((lanes s b pred).map fetchLane) s))) := by
  show Host.Outcome.next (runEffs s (_ :: _)) = _
  rw [runEffs_cons, hbg]
  rfl

/-- A lane with a packet sends it first of all. -/
theorem sendLane_sends {s : State} {p : Nat} {x : LineBuf} {xs : List LineBuf} (h : (port s p).bufs = x :: xs) (k : Nat) :
    ∃ l rest, sendLane p k s = l :: rest ∧ (applyAct s l).out.lines = s.out.lines
      ++ [⟨p, symNs s (p / 64) k + 1023 - rf s (Reg.PORT_ADV (p / 64) (p % 64)) Fld.PORT_ADV_ADV, kSOP, pktBytes x.pkt⟩] := by
  simp only [sendLane, h, List.append_assoc, List.cons_append]
  exact ⟨_, _, rfl, rfl⟩

/-- T0 stores a microinstruction in a sequencer that is OFF or HALTed (R303). -/
theorem udataHiWrite_stores {s : State} {b : Nat} (h : bsState s b = bsOFF ∨ bsState s b = bsHALT) (v : Word) :
    udataHiWrite 0 b v s = [.reg (Reg.BS_UDATA_HI b) v,
        .bseq b (fun q => { q with
          store := mapPut zeroMicro q.store (rf s (Reg.BS_UADDR b) Fld.BS_UADDR_ADDR)
            (BitVec.ofNat 48 ((rd s (Reg.BS_UDATA_LO b)).toNat + 2 ^ 32 * getF v Fld.BS_UDATA_HI_DATA)) })]
      ++ (if rf s (Reg.BS_UADDR b) Fld.BS_UADDR_AUTOINC = 1 then
            [.fld (Reg.BS_UADDR b) Fld.BS_UADDR_ADDR ((rf s (Reg.BS_UADDR b) Fld.BS_UADDR_ADDR + 1) % 4096)] else []) := by
  have hopen : ¬(bsState s b ≠ bsOFF ∧ bsState s b ≠ bsHALT) := fun hne => h.elim hne.1 hne.2
  exact (if_neg (not_not_intro rfl)).trans (if_neg hopen)

/-- In one that runs or has faulted the word is refused with BUSY (R303). -/
theorem udataHiWrite_busy {s : State} {b : Nat} (h : bsState s b = bsRUN ∨ bsState s b = bsFAULT) (v : Word) :
    udataHiWrite 0 b v s = tenantFault s 0 stBUSY (Reg.BS_UDATA_HI b) := by
  have hshut : bsState s b ≠ bsOFF ∧ bsState s b ≠ bsHALT := by
    rcases h with h | h <;> rw [h] <;> decide
  exact (if_neg (not_not_intro rfl)).trans (if_pos hshut)

/-- An access of BS_UDATA_HI by T0 that reaches it is `udataHiWrite`. -/
theorem exec_bsUdataHiWrite {s : State} {a : Acc} {b : Fin 16} (hr : reaches s a (Reg.BS_UDATA_HI b) true) (ha : actsFor a = 0) (v : Word) :
    exec (.bsUdataHiWrite a b v) s = nextBy s (udataHiWrite 0 b v s) := by
  show nextBy s (gate _ _ _ _ _ s) = _
  rw [gate_reaches hr, ha]

/-- Settles O36: the instructions act after the misses, the register accesses through the gate. -/
theorem sequencersSendAndAreTold : Obligations.SequencersSendAndAreTold := by
  unfold Obligations.SequencersSendAndAreTold
  refine ⟨fun s b pred hrun => ⟨doneAll_bsRun hrun _, doneAll_bsRun hrun _, fun hbg => (exec_bsFetch hbg b pred).trans (doneAll_bsRun hrun _),
      fun p x h => sendLane_sends h⟩,
    fun s a b v => ⟨fun hr ha h => (exec_bsUdataHiWrite hr ha v).trans (congrArg (nextBy s) (udataHiWrite_stores h v)),
      fun hr ha h => (exec_bsUdataHiWrite hr ha v).trans (congrArg (nextBy s) (udataHiWrite_busy h v)),
      fun hr => congrArg (nextBy s) (gate_reaches hr _ _), fun p hup => congrArg (nextBy s) (if_pos hup)⟩⟩

end Sys2Proof.Machine
end

section
/-! PROOFS of the statements on lamp drivers (07_lamp_ports.md R276 to R282, R308, 08_lamp_drive.md R320, R321, R333): what acceptance does
with a packet, what a mark leaves of a driver, then one theorem for each statement. -/

namespace Sys2Proof.Machine

/-! ## Acceptance (R276, R308) -/

/-- The driver's logic is on and its line in lock. -/
def drvHears (s : State) (w : DrvAt) : Prop := chainOff s (drvKey w) = false ∧ (drv s (drvKey w)).locked = true

theorem not_deaf {s : State} {w : DrvAt} (h : drvHears s w) : (chainOff s (drvKey w) || !(drv s (drvKey w)).locked) = false := by
  rw [h.1, h.2]
  rfl

theorem not_deaf_prop {s : State} {w : DrvAt} (h : drvHears s w) : ¬(chainOff s (drvKey w) || !(drv s (drvKey w)).locked) = true :=
  ne_true_of_eq_false (not_deaf h)

section Take

variable {s : State} {w : DrvAt} {h : FwdHead} {lenOk : Bool} {f : Nat → Eff}

/-- A packet in error or of a wrong length is discarded. -/
theorem done_drvTake_bad (hears : drvHears s w) (hbad : h.ok = false ∨ lenOk = false) :
    done s (drvTake w h lenOk f s) = nextBy s (discardPkt s (drvKey w)) := by
  have hcond : (!h.ok || !lenOk) = true := by rcases hbad with hbad | hbad <;> simp only [hbad, Bool.not_false, Bool.or_true, Bool.true_or]
  exact congrArg (nextBy s) ((if_neg (not_deaf_prop hears)).trans (if_pos hcond))

/-- A sound packet for another driver is ignored. -/
theorem done_drvTake_foreign (hears : drvHears s w) (hok : h.ok = true) (hlen : lenOk = true) (hfor : addressed w h = false) :
    done s (drvTake w h lenOk f s) = .next s := by
  have hcond : ¬(!h.ok || !lenOk) = true := by simp only [hok, hlen, Bool.not_true, Bool.or_self, Bool.false_eq_true, not_false_eq_true]
  have hfor' : (!addressed w h) = true := by rw [hfor]; rfl
  exact congrArg (nextBy s) ((if_neg (not_deaf_prop hears)).trans ((if_neg hcond).trans (if_pos hfor')))

/-- The driver takes a packet: it hears it, and the packet is sound and addressed to it. -/
def drvTakes (s : State) (w : DrvAt) (h : FwdHead) : Prop := drvHears s w ∧ h.ok = true ∧ addressed w h = true

/-- A packet that is taken, of a right length, acts. -/
theorem done_drvTake_taken (takes : drvTakes s w h) (hlen : lenOk = true) :
    done s (drvTake w h lenOk f s) = nextBy s (f (drvKey w) s) := by
  obtain ⟨hears, hok, haddr⟩ := takes
  have hcond : ¬(!h.ok || !lenOk) = true := by simp only [hok, hlen, Bool.not_true, Bool.or_self, Bool.false_eq_true, not_false_eq_true]
  have haddr' : ¬(!addressed w h) = true := by rw [haddr]; exact Bool.false_ne_true
  exact congrArg (nextBy s) ((if_neg (not_deaf_prop hears)).trans ((if_neg hcond).trans (if_neg haddr')))

/-- One that acts on a page acts where the page is not shown. -/
theorem done_drvTake_page (takes : drvTakes s w h) (hlen : lenOk = true) {page : Nat} {xs ys : List Act}
    (hf : f (drvKey w) s = if showsPage (drv s (drvKey w)) page = true then xs else ys) :
    done s (drvTake w h lenOk f s) = if showsPage (drv s (drvKey w)) page = true then nextBy s xs else nextBy s ys := by
  rw [done_drvTake_taken takes hlen, hf]
  exact apply_ite (nextBy s) _ xs ys

end Take

/-- Settles O38: a packet in error or of a wrong length is discarded, a foreign one ignored, any other acts as its type says. -/
theorem driversTakePackets : Obligations.DriversTakePackets := by
  unfold Obligations.DriversTakePackets
  intro s w h addr bs k d page first counts puts hears takes
  have taken : takes → drvTakes s w h := fun ⟨hh, hok, haddr⟩ => ⟨hh, hok, haddr⟩
  refine ⟨fun hh hbad => ?inError, fun hh hok hodd => done_drvTake_bad hh (.inr ?odd),
    fun hh hok hfor hlen => done_drvTake_foreign hh hok (beq_iff_eq.2 hlen) hfor,
    fun ht heven hlen => done_drvTake_page (taken ht) ?pageLen rfl, fun ht hlen => done_drvTake_page (taken ht) (decide_eq_true hlen) rfl,
    fun ht hlen => done_drvTake_page (taken ht) hlen rfl, fun ht hlen => done_drvTake_page (taken ht) (beq_iff_eq.2 hlen) rfl,
    fun ht hlo hhi hdiv => done_drvTake_taken (taken ht) ?regLen, fun ht hlen => done_drvTake_taken (taken ht) (beq_iff_eq.2 hlen),
    fun ht hlen => done_drvTake_taken (taken ht) (beq_iff_eq.2 hlen), fun ht hlen => done_drvTake_taken (taken ht) (beq_iff_eq.2 hlen),
    fun ht tag => done_drvTake_taken (taken ht) rfl⟩
  case inError =>
    have bad : ∀ {lenOk : Bool} {f : Nat → Eff}, done s (drvTake w h lenOk f s) = counts 0x24 := done_drvTake_bad hh (.inl hbad)
    exact ⟨bad, bad, bad, bad, bad, bad, bad, bad⟩
  case odd => rw [hodd]; rfl
  case pageLen => rw [heven, decide_eq_true hlen]; rfl
  case regLen => rw [hdiv, decide_eq_true ⟨hlo, hhi⟩]; rfl

/-! ## What the steps of a mark leave of a driver (R320, R333, R337) -/

/-- What a driver shows and reports, and the marks it has seen. -/
structure DrvFace where
  shown : List Nat
  dark : Bool
  sched : List Byte
  slot : Nat
  lastCur : Nat
  markAt : Nat
  flags : BitVec 3
  writes : List (Nat × Word)

def Driver.face (d : Driver) : DrvFace := ⟨d.shown, d.dark, d.sched, d.slot, d.lastCur, d.markAt, d.flags, d.writes⟩

/-- Whether the outputs are enabled, and held. -/
def Driver.outputs (d : Driver) : Bool × Bool := (d.lit, d.holds)

/-- The driver register of word number `i`. -/
def Driver.word (i : Nat) (d : Driver) : Word := mapGet drvWord d.regs i

/-- What no step of a fold changes, the fold keeps. -/
theorem foldl_keeps {α β γ : Type} (p : α → γ) {f : α → β → α} (h : ∀ a b, p (f a b) = p a) (l : List β) (a : α) :
    p (l.foldl f a) = p a := by
  induction l generalizing a with
  | nil => rfl
  | cons b l ih => exact (ih (f a b)).trans (h a b)

theorem face_switchPage (d : Driver) (a b : Nat) : (d.switchPage a b).face = d.face := by
  unfold Driver.switchPage
  split <;> rfl

theorem outputs_switchPage (d : Driver) (a b : Nat) : (d.switchPage a b).outputs = d.outputs := by
  unfold Driver.switchPage
  split <;> rfl

theorem word_switchPage (i : Nat) (d : Driver) (a b : Nat) : (d.switchPage a b).word i = d.word i := by
  unfold Driver.switchPage
  split <;> rfl

theorem face_power1 (d : Driver) (rail : Bool) (a : Nat) : (d.power1 rail a).face = d.face := by
  unfold Driver.power1
  split <;> rfl

/-- BORROW_DROP is word 0x52: any other is left by what is owed. -/
theorem word_repayAll {i : Nat} (h : i ≠ 0x52) (d : Driver) : d.repayAll.word i = d.word i := mapGet_mapPut_other drvWord h _ _

theorem word_power1 {i : Nat} (h : i ≠ 0x52) (d : Driver) (rail : Bool) (a : Nat) : (d.power1 rail a).word i = d.word i := by
  have hdrop : d.dropDebts.word i = d.word i := mapGet_mapPut_other drvWord h _ _
  unfold Driver.power1
  split
  · rfl
  · exact hdrop
  · exact hdrop
  · rfl

/-! ## A CUR mark (R278, R308) -/

/-- The driver once the mark of time `t` and number `sym` has begun: reconciled, at slot 0, its waiting packets gone, sensors armed and read. -/
def Driver.markBegins (d : Driver) (t : Nat) (sym : Byte) : Driver :=
  { d with
    slot := 0, markAt := t, writes := [], curs := []
    armLive := if d.arm.any (fun q => q.1 == sym.toNat) then some sym.toNat else none
    arm := if d.arm.any (fun q => q.1 == sym.toNat) then none else d.arm
    taken := (match d.armLive with
      | some c => (List.range 4).foldl (fun (l : List (Nat × Nat)) x => if l.any (fun q => q.1 == x) then l else l ++ [(x, c)]) d.taken
      | none => d.taken)
    flat := none }

/-- Its waiting writes of scan registers take effect, and a flat field that ends with the mark is read. -/
def Driver.markScans (d : Driver) (t : Nat) (sym : Byte) : Driver :=
  let d1 := d.writes.foldl (fun (d : Driver) q => d.setReg q.1 q.2.toNat) (d.markBegins t sym)
  if d.flat = some sym.toNat then
    { d1 with taken := (List.range 4).foldl (fun (l : List (Nat × Nat)) x => if l.any (fun q => q.1 == x) then l else l ++ [(x, sym.toNat)]) d1.taken }
  else d1

/-- Without a CURTAIN packet of its number it keeps its pages. -/
def Driver.markMissed (d : Driver) (t : Nat) (sym : Byte) : Driver :=
  let d2 := d.markScans t sym
  { d2 with flags := setBit d2.flags 0 true, lent := false }.repayAll

/-- The PAGE_MAP of a CURTAIN payload. -/
def pageMap (bs : List Byte) : List Nat := ((bs.drop 6).take (bs.getD 4 0).toNat).map (·.toNat)

/-- With one, `bs`, it shows the packet's pages. -/
def Driver.markShows (d : Driver) (t : Nat) (sym : Byte) (bs : List Byte) : Driver :=
  { (d.shown.zip (pageMap bs)).foldl (fun (d : Driver) q => d.switchPage q.1 q.2) (d.markScans t sym) with
    shown := pageMap bs, dark := (bs.getD 5 0).getLsbD 0, lastCur := sym.toNat
    sched := if d.schedNext.isEmpty then d.sched else d.schedNext
    schedNext := [], lit := d.lit || d.holds, holds := false, power := [] }

/-- Then the waiting POWER arguments act, and debts are repaid. -/
def Driver.markTaken (d : Driver) (t : Nat) (sym : Byte) (bs : List Byte) (rail : Bool) : Driver :=
  (d.power.foldl (fun d a => d.power1 rail a) (d.markShows t sym bs)).repayAll

theorem exec_curMark_missed {s : State} {w : DrvAt} {sym : Byte} (hears : drvHears s w)
    (h : (drv s (drvKey w)).curs.find? (fun q => q.1 % 256 == sym.toNat) = none) :
    exec (.curMark w sym) s = nextBy s [.drv (drvKey w) (fun _ => (drv s (drvKey w)).reconcile.markMissed (now s) sym)] := by
  have h' : (drv s (drvKey w)).reconcile.curs.find? (fun q => q.1 % 256 == sym.toNat) = none := h
  refine congrArg (nextBy s) ((if_neg (not_deaf_prop hears)).trans ?_)
  rw [h']
  rfl

/-- Does the driver lend a pulse to the curtain that begins (R361)? -/
def Driver.lends (d : Driver) (sym : Byte) : Bool := d.borrow.any (fun q => q.2 == sym.toNat) && !d.holds

/-- The debts that it runs up, `e` being the driver after the mark. -/
def Driver.lend (s : State) (k : Nat) (sym : Byte) (e d : Driver) : Driver :=
  if e.lends sym then { d with debts := borrowDebts (applyAct s (.drv k (fun _ => e))) k ((e.borrow.map (·.1)).getD 0) d } else d

theorem exec_curMark_taken {s : State} {w : DrvAt} {sym : Byte} (hears : drvHears s w) {c : Nat × List Byte}
    (h : (drv s (drvKey w)).curs.find? (fun q => q.1 % 256 == sym.toNat) = some c) {e : Driver}
    (he : (drv s (drvKey w)).reconcile.markTaken (now s) sym c.2 (chainRail s (drvKey w)) = e) :
    exec (.curMark w sym) s = nextBy s [.drv (drvKey w) (fun _ => { e with lent := e.lends sym, borrow := none }),
      .drv (drvKey w) (Driver.lend s (drvKey w) sym e)] := by
  have hfind : (drv s (drvKey w)).reconcile.curs.find? (fun q => q.1 % 256 == sym.toNat) = some c := h
  refine congrArg (nextBy s) ((if_neg (not_deaf_prop hears)).trans ?_)
  rw [hfind, ← he]
  rfl

/-- Lending changes the debts and the borrowing alone. -/
theorem lend_keeps {γ : Type} (p : Driver → γ) (hp : ∀ (d : Driver) m b l, p { d with debts := m, borrow := b, lent := l } = p d) (s : State)
    (k : Nat) (sym : Byte) (e : Driver) : p (Driver.lend s k sym e { e with lent := e.lends sym, borrow := none }) = p e := by
  unfold Driver.lend
  split
  · exact hp e _ _ _
  · exact hp e e.debts _ _

section Marks

variable (d : Driver) (t : Nat) (sym : Byte) (bs : List Byte) (rail : Bool)

/-- The waiting writes change registers alone, and a flat field the readings alone. -/
theorem markScans_keeps {γ : Type} (p : Driver → γ) (hreg : ∀ d a v, p (Driver.setReg d a v) = p d)
    (htaken : ∀ (d : Driver) l, p { d with taken := l } = p d) : p (d.markScans t sym) = p (d.markBegins t sym) := by
  have hwrites : p (d.writes.foldl (fun (d : Driver) q => d.setReg q.1 q.2.toNat) (d.markBegins t sym)) = p (d.markBegins t sym) :=
    foldl_keeps p (fun d (q : Nat × Word) => hreg d q.1 q.2.toNat) _ _
  unfold Driver.markScans
  dsimp only
  split
  · exact (htaken _ _).trans hwrites
  · exact hwrites

theorem face_markScans : (d.markScans t sym).face = ⟨d.shown, d.dark, d.sched, 0, d.lastCur, t, d.flags, []⟩ :=
  markScans_keeps d t sym Driver.face (fun _ _ _ => rfl) (fun _ _ => rfl)

theorem outputs_markScans : (d.markScans t sym).outputs = d.outputs :=
  markScans_keeps d t sym Driver.outputs (fun _ _ _ => rfl) (fun _ _ => rfl)

/-- A scan register written before the mark has its value at the mark (R333). -/
theorem word_markScans {a : Nat} {v : Word} (hwrites : d.writes = [(a, v)]) (hwf : mapWf drvWord d.regs = true) :
    (d.markScans t sym).word (a / 4) = v := by
  have hset : ((d.markBegins t sym).setReg a v.toNat).word (a / 4) = v :=
    (mapGet_mapPut_same drvWord hwf _ _).trans ((BitVec.ofNat_toNat 32 v).trans (BitVec.setWidth_eq v))
  unfold Driver.markScans
  rw [hwrites]
  dsimp only [List.foldl_cons, List.foldl_nil]
  split
  · exact hset
  · exact hset

theorem face_markMissed : (d.markMissed t sym).face = ⟨d.shown, d.dark, d.sched, 0, d.lastCur, t, setBit d.flags 0 true, []⟩ := by
  show ({ (d.markScans t sym).face with flags := setBit (d.markScans t sym).face.flags 0 true } : DrvFace) = _
  rw [face_markScans]

theorem outputs_markMissed : (d.markMissed t sym).outputs = d.outputs := outputs_markScans d t sym

theorem word_markMissed {i : Nat} (h : i ≠ 0x52) : (d.markMissed t sym).word i = (d.markScans t sym).word i := word_repayAll h _

theorem face_markShows : (d.markShows t sym bs).face = ⟨pageMap bs, (bs.getD 5 0).getLsbD 0,
    if d.schedNext.isEmpty then d.sched else d.schedNext, 0, sym.toNat, t, d.flags, []⟩ := by
  have hpages := foldl_keeps Driver.face (fun d (q : Nat × Nat) => face_switchPage d q.1 q.2) (d.shown.zip (pageMap bs)) (d.markScans t sym)
  rw [face_markScans] at hpages
  exact congrArg (fun f : DrvFace => { f with
    shown := pageMap bs, dark := (bs.getD 5 0).getLsbD 0, sched := if d.schedNext.isEmpty then d.sched else d.schedNext
    lastCur := sym.toNat }) hpages

theorem face_markTaken : (d.markTaken t sym bs rail).face = (d.markShows t sym bs).face :=
  foldl_keeps Driver.face (fun d a => face_power1 d rail a) d.power _

/-- Without waiting POWER arguments, outputs that were lit or held are lit. -/
theorem outputs_markTaken (h : d.power = []) : (d.markTaken t sym bs rail).outputs = (d.lit || d.holds, false) := by
  unfold Driver.markTaken
  rw [h]
  rfl

theorem word_markTaken {i : Nat} (h : i ≠ 0x52) : (d.markTaken t sym bs rail).word i = (d.markScans t sym).word i := calc
  (d.markTaken t sym bs rail).word i
  _ = (d.power.foldl (fun d a => d.power1 rail a) (d.markShows t sym bs)).word i := word_repayAll h _
  _ = (d.markShows t sym bs).word i := foldl_keeps (Driver.word i) (fun d a => word_power1 h d rail a) _ _
  _ = (d.markScans t sym).word i := foldl_keeps (Driver.word i) (fun d (q : Nat × Nat) => word_switchPage i d q.1 q.2) _ _

end Marks

/-! ## Strobes and turnarounds (R282, R308) -/

/-- A turnaround that names the driver is for it to answer. -/
theorem not_ignored_of_named {s : State} {w : DrvAt} (hears : drvHears s w) {chain : Fin 16} {driver : Fin 256} (hchain : chain.val = w.chain.val)
    (hdriver : driver.val = w.driver.val) :
    ¬(chainOff s (drvKey w) || !(drv s (drvKey w)).locked || chain.val != w.chain.val || driver.val != w.driver.val) = true := by
  rw [not_deaf hears, hchain, hdriver, bne_self_eq_false, bne_self_eq_false]
  exact Bool.false_ne_true

/-- The oldest request is answered. -/
theorem exec_ta_request {s : State} {w : DrvAt} (hears : drvHears s w) {chain : Fin 16} {driver : Fin 256} (hchain : chain.val = w.chain.val)
    (hdriver : driver.val = w.driver.val) {q : DrvReq} {rest : List DrvReq} (h : (drv s (drvKey w)).reqs = q :: rest) :
    exec (.ta w chain driver) s = nextBy s [
      .out (fun o => { o with ups := o.ups ++ [⟨w.port, now s + dreg s (drvKey w) 0xC, kSOP, retBytes q.typ w.chain w.driver q.tag q.bytes⟩] }),
      .drv (drvKey w) (fun d => { d with reqs := d.reqs.drop 1 })] := by
  refine congrArg (nextBy s) ((if_neg (not_ignored_of_named hears hchain hdriver)).trans ?_)
  rw [h]

/-- Without a request the driver answers with STATUS. -/
theorem exec_ta_status {s : State} {w : DrvAt} (hears : drvHears s w) {chain : Fin 16} {driver : Fin 256} (hchain : chain.val = w.chain.val)
    (hdriver : driver.val = w.driver.val) (h : (drv s (drvKey w)).reqs = []) :
    exec (.ta w chain driver) s = nextBy s [
      .out (fun o => { o with ups := o.ups ++ [⟨w.port, now s + dreg s (drvKey w) 0xC, kSOP,
        retBytes pkSTATUS w.chain w.driver 0 (statusBytes s (drvKey w))⟩] }),
      .drv (drvKey w) (fun d => { d with flags := 0 })] := by
  refine congrArg (nextBy s) ((if_neg (not_ignored_of_named hears hchain hdriver)).trans ?_)
  rw [h]

theorem exec_abt_busy {s : State} {w : DrvAt} (hears : drvHears s w) : exec (.abt w true) s = nextBy s (discardPkt s (drvKey w)) := by
  have hbusy : ¬(chainOff s (drvKey w) || !(drv s (drvKey w)).locked || !true) = true := by
    rw [not_deaf hears]
    exact Bool.false_ne_true
  exact congrArg (nextBy s) (if_neg hbusy)

/-- What a driver shows, its outputs and its registers after a mark without its CURTAIN packet. -/
theorem curMark_missed_leaves {s : State} (hs : s.Inv) {w : DrvAt} {sym : Byte} (hears : drvHears s w)
    (h : (drv s (drvKey w)).curs.find? (fun q => q.1 % 256 == sym.toNat) = none) {d : Driver} (hd : drv s (drvKey w) = d) :
    ∃ t, exec (.curMark w sym) s = .next t ∧ t.regs = s.regs ∧ sameMemory s t
      ∧ (drv t (drvKey w)).face = ⟨d.shown, d.dark, d.sched, 0, d.lastCur, now s, setBit d.flags 0 true, []⟩
      ∧ (drv t (drvKey w)).outputs = d.outputs
      ∧ ∀ i, i ≠ 0x52 → (drv t (drvKey w)).word i = (d.reconcile.markScans (now s) sym).word i := by
  subst hd
  refine ⟨_, exec_curMark_missed hears h, rfl, sameMemory_applyActs s _ rfl, ?_⟩
  have hdrv := get_drv_same hs (drvKey w) (fun _ => (drv s (drvKey w)).reconcile.markMissed (now s) sym)
  have hface := (congrArg Driver.face hdrv).trans (face_markMissed _ _ _)
  have houtputs := (congrArg Driver.outputs hdrv).trans (outputs_markMissed _ _ _)
  exact ⟨hface, houtputs, fun i hi => (congrArg (Driver.word i) hdrv).trans (word_markMissed _ _ _ hi)⟩

/-- The same after a mark with its CURTAIN packet `c`. -/
theorem curMark_taken_leaves {s : State} (hs : s.Inv) {w : DrvAt} {sym : Byte} (hears : drvHears s w) {c : Nat × List Byte}
    (h : (drv s (drvKey w)).curs.find? (fun q => q.1 % 256 == sym.toNat) = some c) {d : Driver} (hd : drv s (drvKey w) = d) :
    ∃ t, exec (.curMark w sym) s = .next t ∧ t.regs = s.regs ∧ sameMemory s t
      ∧ (drv t (drvKey w)).face = ⟨pageMap c.2, (c.2.getD 5 0).getLsbD 0,
          if d.schedNext.isEmpty then d.sched else d.schedNext, 0, sym.toNat, now s, d.flags, []⟩
      ∧ (d.power = [] → (drv t (drvKey w)).outputs = (d.lit || d.holds, false))
      ∧ ∀ i, i ≠ 0x52 → (drv t (drvKey w)).word i = (d.reconcile.markScans (now s) sym).word i := by
  subst hd
  obtain ⟨e, he⟩ : ∃ e, (drv s (drvKey w)).reconcile.markTaken (now s) sym c.2 (chainRail s (drvKey w)) = e := ⟨_, rfl⟩
  refine ⟨_, exec_curMark_taken hears h he, rfl, sameMemory_applyActs s _ rfl, ?_⟩
  have hdrv := (get_drv_same (applyAct_inv s (.drv (drvKey w) (fun _ => { e with lent := e.lends sym, borrow := none })) hs) (drvKey w)
    (Driver.lend s (drvKey w) sym e)).trans (congrArg _ (get_drv_same hs (drvKey w) _))
  have hface := (congrArg Driver.face hdrv).trans (lend_keeps Driver.face (fun _ _ _ _ => rfl) _ _ _ _)
  have houtputs := (congrArg Driver.outputs hdrv).trans (lend_keeps Driver.outputs (fun _ _ _ _ => rfl) _ _ _ _)
  have hword := fun i => (congrArg (Driver.word i) hdrv).trans (lend_keeps (Driver.word i) (fun _ _ _ _ => rfl) _ _ _ _)
  refine ⟨hface.trans ?face, fun hpower => houtputs.trans ?outputs, fun i hi => (hword i).trans ?word⟩
  case face => rw [← he, face_markTaken]; exact face_markShows _ _ _ _
  case outputs => rw [← he]; exact outputs_markTaken _ _ _ _ _ hpower
  case word => rw [← he]; exact word_markTaken _ _ _ _ _ hi

/-- Settles O39: a CUR mark by what its steps leave of the driver, with and without its CURTAIN packet; the others by their updates. -/
theorem driverMarksAct : Obligations.DriverMarksAct := by
  unfold Obligations.DriverMarksAct
  intro s w sym hs k d hon hlock
  have hears : drvHears s w := ⟨hon, hlock⟩
  refine ⟨fun hnone => ?missed, fun c hsome => ?taken, fun a v hwrites hlo hhi hwf => ?scan, congrArg (nextBy s) (if_neg (not_deaf_prop hears)),
    fun chain driver hchain hdriver => ⟨fun q rest hreqs => exec_ta_request hears hchain hdriver hreqs,
      fun hreqs => exec_ta_status hears hchain hdriver hreqs⟩, exec_abt_busy hears⟩
  case missed =>
    obtain ⟨t, hexec, hregs, hmem, hface, houtputs, -⟩ := curMark_missed_leaves hs hears hnone rfl
    exact ⟨t, hexec, congrArg DrvFace.shown hface, (congrArg (fun f => bit f.flags 0) hface).trans (bit_setBit _ (by decide) true),
      congrArg DrvFace.slot hface, congrArg Prod.fst houtputs, congrArg DrvFace.markAt hface, hregs, hmem⟩
  case taken =>
    obtain ⟨t, hexec, hregs, hmem, hface, houtputs, -⟩ := curMark_taken_leaves hs hears hsome rfl
    exact ⟨t, hexec, congrArg DrvFace.shown hface, congrArg DrvFace.dark hface, congrArg DrvFace.lastCur hface, congrArg DrvFace.slot hface,
      congrArg DrvFace.flags hface, congrArg DrvFace.sched hface, congrArg DrvFace.markAt hface,
      fun hpower => ⟨congrArg Prod.fst (houtputs hpower), congrArg Prod.snd (houtputs hpower)⟩, hregs, hmem⟩
  case scan =>
    have hscan : (d.reconcile.markScans (now s) sym).word (a / 4) = v := word_markScans d.reconcile (now s) sym hwrites hwf
    have hdrop : a / 4 ≠ 0x52 := by omega
    cases hfind : d.curs.find? (fun q => q.1 % 256 == sym.toNat) with
    | none =>
      obtain ⟨t, hexec, -, -, hface, -, hword⟩ := curMark_missed_leaves hs hears hfind rfl
      exact ⟨t, hexec, (hword _ hdrop).trans hscan, congrArg DrvFace.writes hface⟩
    | some c =>
      obtain ⟨t, hexec, -, -, hface, -, hword⟩ := curMark_taken_leaves hs hears hfind rfl
      exact ⟨t, hexec, (hword _ hdrop).trans hscan, congrArg DrvFace.writes hface⟩

end Sys2Proof.Machine
end

section
/-! PROOFS of the statements on lamp drive (08_lamp_drive.md R336 to R347, R352 to R367): SERVICE packets and the line of a driver, the
power sequence of a tile and the restart of its lines, scrub, diagnosis windows and lamp states set. One theorem for each statement. -/

namespace Sys2Proof.Machine

/-! ## SERVICE packets (R336, R337, R354, R361, R374, R375, R389) -/

/-- A packet that is taken and acts only under a condition. -/
theorem done_drvTake_when {s : State} {w : DrvAt} {h : FwdHead} (takes : drvTakes s w h) {f : Nat → Eff} {c : Prop} [Decidable c] {xs : List Act}
    (hf : f (drvKey w) s = if c then xs else []) : done s (drvTake w h true f s) = if c then nextBy s xs else .next s := by
  rw [done_drvTake_taken takes rfl, hf]
  exact apply_ite (nextBy s) c xs []

/-- CAL_FLAT in time for the mark that it names is noted (R374). -/
theorem calFlat_inTime {s : State} {n : Nat} (hrun : s.cur.running = true) (hnum : (rf s Reg.CUR_NUM Fld.CUR_NUM_NUM + 1) % 256 = n)
    (htime : now s + 600000 ≤ s.cur.next) (k : Nat) : calFlat n k s = [.drv k (fun d => { d with flat := some n })] := by
  refine if_pos ?_
  rw [hrun, decide_eq_true hnum, decide_eq_true htime]
  rfl

/-- A sensor's reading is returned and cleared (R375). -/
theorem flRead_taken {s : State} {k sensor : Nat} {q : Nat × Nat} (h : (drv s k).taken.find? (fun q => q.1 == sensor) = some q)
    (sat bad : Bool) (counts : List Nat) :
    flRead sensor sat bad counts k s = [.drv k (fun d => { d with
      taken := d.taken.filter (fun x => x.1 != sensor)
      reqs := d.reqs ++ [⟨pkSERVICE_DATA, 0, [BitVec.ofNat 8 q.2, BitVec.ofNat 8 ((if sat then 1 else 0) + if bad then 2 else 0)]
        ++ (List.range 6).flatMap (fun i => leBytes 2 (counts.getD i 0)) ++ [0, 0]⟩] })] := by
  unfold flRead
  rw [h]

theorem flRead_untaken {s : State} {k sensor : Nat} (h : (drv s k).taken.find? (fun q => q.1 == sensor) = none)
    (sat bad : Bool) (counts : List Nat) :
    flRead sensor sat bad counts k s = [.drv k (fun d => { d with
      reqs := d.reqs ++ [⟨pkSERVICE_DATA, 0, [0, 4] ++ List.replicate 14 0⟩] })] := by
  unfold flRead
  rw [h]

/-! ## The line of a driver (R282, R308, R338, R346, R347) -/

/-- Lit outputs without HOLD go off once LINE_LOSS_HOLD has passed. -/
theorem lineLossHold_lit {s : State} {w : DrvAt} {t : Nat} (hlost : (drv s (drvKey w)).lostAt = some t) (hlit : (drv s (drvKey w)).lit = true)
    (hholds : (drv s (drvKey w)).holds = false) :
    lineLossHold w s = [.clockTo (t + 1000000 * dreg s (drvKey w) 0x13C), .drv (drvKey w) (fun d => { d with lit := false })] := by
  simp only [lineLossHold, hlost, hlit, hholds, Bool.not_false, Bool.and_self, if_true]

/-- Lock gained while the logic is on. -/
theorem lockGain_on {s : State} {w : DrvAt} (hon : chainOff s (drvKey w) = false) :
    lockGain w s = [.drv (drvKey w) (fun d => { d with locked := true, lostAt := none })] := by
  simp only [lockGain, hon, Bool.false_and, Bool.false_eq_true, if_false, List.append_nil]

/-- Lock gained while it is off: a capable chain's logic comes on after a millisecond without transitions. -/
theorem lockGain_off {s : State} {w : DrvAt} {t : Nat} (hoff : chainOff s (drvKey w) = true) (hlost : (drv s (drvKey w)).lostAt = some t) :
    lockGain w s = .drv (drvKey w) (fun d => { d with locked := true, lostAt := none })
      :: if powerCap s (drvKey w) 1 = true ∧ t + 1000000 ≤ now s
         then [.drive (fun q => { q with logics := mapPut falseFlag q.logics (drvKey w / 256) false })] else [] := by
  simp only [lockGain, hoff, hlost, Bool.true_and, Bool.and_eq_true, decide_eq_true_eq, List.singleton_append]

/-- Settles O40: a packet that is taken acts as its code says; the line by what losing and gaining lock do. -/
theorem driverLinesAndServicesAct : Obligations.DriverLinesAndServicesAct := by
  unfold Obligations.DriverLinesAndServicesAct
  refine ⟨?service, ?line⟩
  case service =>
    intro s w h k d hon hlock hok haddr answers
    have ht : drvTakes s w h := ⟨⟨hon, hlock⟩, hok, haddr⟩
    exact ⟨done_drvTake_when ht rfl, done_drvTake_when ht rfl, done_drvTake_when ht rfl, done_drvTake_taken ht rfl, done_drvTake_taken ht rfl,
      done_drvTake_taken ht rfl, fun first tests => ⟨done_drvTake_taken ht rfl, done_drvTake_taken ht rfl⟩,
      fun slot cur8 => (done_drvTake_taken ht rfl).trans (apply_ite (nextBy s) _ [] _), fun mv bad => done_drvTake_taken ht rfl,
      fun cur8 hrun hnum htime => (done_drvTake_taken ht rfl).trans (congrArg (nextBy s) (calFlat_inTime hrun hnum htime k)),
      fun cur8 slot => done_drvTake_taken ht rfl,
      fun sensor sat bad n q hq => (done_drvTake_taken ht rfl).trans (congrArg (nextBy s) (flRead_taken hq sat bad n)),
      fun sensor sat bad n hnone => (done_drvTake_taken ht rfl).trans (congrArg (nextBy s) (flRead_untaken hnone sat bad n))⟩
  case line =>
    intro s w k d
    exact ⟨fun hlock => congrArg (nextBy s) (if_pos hlock),
      fun t hlost hlit hholds => congrArg (nextBy s) (lineLossHold_lit hlost hlit hholds),
      fun hon => congrArg (nextBy s) (lockGain_on hon), fun t hoff hlost => congrArg (nextBy s) (lockGain_off hoff hlost)⟩

/-! ## The power state of a tile (R340, R368) -/

/-- Rows that name no element at an address are passed over. -/
theorem findRow_skips {pre : List RegRow} {a : Nat} (h : ∀ r ∈ pre, strideIdx r.strides (a - r.base) = none) (rest : List RegRow) :
    findRow (pre ++ rest) a = findRow rest a := by
  induction pre with
  | nil => rfl
  | cons r pre ih =>
    obtain ⟨hr, hpre⟩ := List.forall_mem_cons.1 h
    rw [List.cons_append, findRow, hr, ih hpre]
    exact ite_self _

/-- The row is of another word of a tile's block than the one at offset 0x80. -/
def besidePower (r : RegRow) : Bool := r.strides == [(0x100, 1024)] && decide (r.base < 0x700080) && decide (0x700080 < r.base + 0x100)

/-- Such a row names no element at a tile's POWER register. -/
theorem strideIdx_besidePower {r : RegRow} (h : besidePower r = true) (t : Nat) : strideIdx r.strides (Reg.TD_POWER t - r.base) = none := by
  simp only [besidePower, Bool.and_eq_true, beq_iff_eq, decide_eq_true_eq] at h
  obtain ⟨⟨hstrides, hlo⟩, hhi⟩ := h
  have hoff : ¬ (Reg.TD_POWER t - r.base) % 0x100 = 0 := by unfold Reg.TD_POWER; omega
  simp only [hstrides, strideIdx, if_neg hoff, Option.map_none, ite_self]

/-- The row of a tile's POWER register: STATE and CAUSE read-only, DARK, FAULT_DARK and TARGET staged (R368). -/
def powerRow : RegRow := ⟨0x00700080, [(0x100, 1024)], .tile, 0, [⟨⟨31, 28⟩, .ro, 0⟩, ⟨⟨27, 24⟩, .ro, 0⟩, ⟨⟨23, 6⟩, .res, 0⟩,
  ⟨⟨5, 5⟩, .rws, 0⟩, ⟨⟨4, 4⟩, .rws, 0⟩, ⟨⟨3, 2⟩, .res, 0⟩, ⟨⟨1, 0⟩, .rws, 0⟩]⟩

theorem regRow_tilePower {t : Nat} (ht : t < 1024) : regRow? (Reg.TD_POWER t) = some (powerRow, [t]) := by
  have haligned : Reg.TD_POWER t % 4 = 0 := by unfold Reg.TD_POWER; omega
  have hblock : Reg.TD_POWER t / 0x100000 = 7 := by unfold Reg.TD_POWER; omega
  have hrows : blockRows (Reg.TD_POWER t) = rowsDrv0.take 11 ++ powerRow :: (rowsDrv1 ++ rowsDrv2 ++ rowsDrv3 ++ rowsDrv4) := by
    unfold blockRows
    rw [hblock]
    rfl
  have hothers : ∀ r ∈ rowsDrv0.take 11, besidePower r = true := by decide
  have hoff : Reg.TD_POWER t - powerRow.base = 0x100 * t := Nat.add_sub_cancel_left _ _
  have hhere : strideIdx powerRow.strides (Reg.TD_POWER t - powerRow.base) = some [t] := by
    rw [hoff]
    simp [powerRow, strideIdx, ht]
  rw [regRow?, if_pos haligned, hrows, findRow_skips fun r hr => strideIdx_besidePower (hothers r hr) t, findRow, hhere]
  exact if_pos (Nat.le_add_right _ _)

/-- STATE is a field of every tile's POWER register. -/
theorem tileState_implemented {t : Nat} (ht : t < 1024) : regImpl (Reg.TD_POWER t) &&& Fld.TD_POWER_STATE.mask = Fld.TD_POWER_STATE.mask := by
  unfold regImpl
  rw [regRow_tilePower ht]
  exact (by decide : rowImpl powerRow &&& Fld.TD_POWER_STATE.mask = Fld.TD_POWER_STATE.mask)

/-- An event is status bits and a record. -/
theorem mem_eventNow {s : State} {blk b unit : Nat} {ts : List Nat} {a : BitVec 64} {x : Act} (h : x ∈ eventNow s blk b ts unit a) :
    (∃ t, x = .evt blk t b) ∨ ∃ r, x = .log r := by
  rcases List.mem_append.1 h with h | h
  · obtain ⟨t, -, rfl⟩ := List.mem_map.1 h
    exact .inl ⟨t, rfl⟩
  · exact .inr ⟨_, List.mem_singleton.1 h⟩

/-- An event of a tile leaves every tile's POWER register. -/
theorem tileEvent_leaves_power {s : State} {b t p c d : Nat} {x : Act} (hx : x ∈ tileEvent s b t p c d) {u : Nat} (hu : u < 1024) :
    x.mayReg (Reg.TD_POWER u) = false := by
  rcases mem_eventNow hx with ⟨v, rfl⟩ | ⟨r, rfl⟩
  · simp only [Act.mayReg, evtStatus, Reg.DRV_EVT_STATUS, Reg.TD_POWER, beq_eq_false_iff_ne]
    omega
  · simp only [Act.mayReg, Reg.PB_UNIT_LOST, Reg.TD_POWER, beq_eq_false_iff_ne]
    omega

/-- A tile that enters a power state is in it. -/
theorem tileState_toState {s : State} (hs : s.Inv) {t st : Nat} (ht : t < 1024) (hst : st < 16) :
    tileState (applyActs s (toState t st s)) t = st := by
  unfold toState
  split
  · assumption
  · rw [List.cons_append, applyActs_cons]
    refine (congrArg (getF · Fld.TD_POWER_STATE) (rd_applyActs_of_forall ?rest _)).trans ?_
    case rest => exact List.forall_mem_cons.2 ⟨rfl, fun x hx => tileEvent_leaves_power hx ht⟩
    exact (rf_fld (regsWf_of_inv hs) _ _ st (by decide) (tileState_implemented ht)).trans (Nat.mod_eq_of_lt hst)

/-! ## The steps of a tile towards its TARGET (R340, R343) -/

section Advance

variable {s : State} {t : Nat} {found : List (Nat × Nat)} (hon : tileOn (rd s) t = true)

include hon

/-- A tile whose LOGIC_OFF has been sent is off. -/
theorem advanceTile_leaves (hphase : (tilePwr s t).phase = 9) (hsent : (tilePwr s t).railAt ≠ none) :
    advanceTile t found s = seqE [toState t tpLOGIC_OFF, fun _ => [
      .tile t (fun x => { x with met := false, railOn := false, light := none, lightSent := none }), .fld (Reg.TD_POWER t) Fld.TD_POWER_CAUSE 0]] s := by
  simp only [advanceTile, hon, hphase, Option.isSome_iff_ne_none.2 hsent, Bool.not_true, Bool.false_eq_true, if_false, if_true]

/-- CLEAR's writes sent, every part is read back. -/
theorem advanceTile_clear_reads (hst : tileState s t = tpCLEAR) (hphase : (tilePwr s t).phase = 0) (hsent : clearWrites s (tilePortList (rd s) t) = false) :
    advanceTile t found s = readClear t (tilePortList (rd s) t) s ++ [.tile t (fun x => { x with phase := 1 })] := by
  simp only [advanceTile, hon, show tileState s t = 3 from hst, hphase, hsent, Bool.not_true, Bool.false_eq_true, Nat.reduceEqDiff, if_false]

/-- Every part read back, CLEAR is met. -/
theorem advanceTile_clear_met (hst : tileState s t = tpCLEAR) (hphase : (tilePwr s t).phase = 1) (hread : awaits s (tilePortList (rd s) t) isClear = false) :
    advanceTile t found s = clearMet t (tilePortList (rd s) t) true s ++ [.tile t (fun x => { x with phase := 2 })] := by
  simp only [advanceTile, hon, show tileState s t = 3 from hst, hphase, hread, Bool.not_true, Bool.false_eq_true, Nat.reduceEqDiff, if_false]

/-- Then the rail is switched on. -/
theorem advanceTile_clear_rail (hst : tileState s t = tpCLEAR) (hphase : (tilePwr s t).phase = 2) (htarget : tileTarget s t ≠ 0) :
    advanceTile t found s = sendPower t 1 s ++ [.tile t (fun x => { x with railOn := true, phase := 3 })] := by
  simp only [advanceTile, hon, show tileState s t = 3 from hst, hphase, htarget, Bool.not_true, Bool.false_eq_true, Nat.reduceEqDiff, if_false]

/-- The drivers reporting it, the rail is on. -/
theorem advanceTile_clear_railOn (hst : tileState s t = tpCLEAR) (hphase : (tilePwr s t).phase = 3) (hreports : reports s t 2 = true) :
    advanceTile t found s = toState t tpRAIL_ON s := by
  simp only [advanceTile, hon, show tileState s t = 3 from hst, hphase, hreports, Bool.not_true, Bool.false_eq_true, Nat.reduceEqDiff, if_false,
    if_true]

/-- The drivers reporting it, the rail is off. -/
theorem advanceTile_discharged (hst : tileState s t = tpRAIL_ON ∨ tileState s t = tpLIGHT_OFF) (hphase : (tilePwr s t).phase = 5)
    (hreports : reports s t 1 = true) : advanceTile t found s = toState t tpRAIL_OFF s := by
  rcases hst with hst | hst
  · simp only [advanceTile, hon, show tileState s t = 4 from hst, hphase, hreports, Bool.not_true, Bool.false_eq_true, Nat.reduceEqDiff,
      if_false, if_true]
  · simp only [advanceTile, hon, show tileState s t = 6 from hst, hphase, hreports, Bool.not_true, Bool.false_eq_true, Nat.reduceEqDiff,
      if_false, if_true]

variable (hstays : (tilePwr s t).phase ≠ 9)

include hstays

/-- It is brought up once its ports are ALIVE. -/
theorem advanceTile_logicOff (hst : tileState s t = tpLOGIC_OFF) (htarget : tileTarget s t ≠ 0)
    (halive : ∀ p ∈ tilePortList (rd s) t, portState s p = psALIVE) :
    advanceTile t found s = seqE [toState t tpLOGIC_ON, toState t tpINIT,
      fun _ => [.tile t (fun x => { x with chains := found.filter (fun c => (tilePortList (rd s) t).contains (c.1 / 16)) })],
      startInit t (tilePortList (rd s) t)] s := by
  have hready : ¬(tileTarget s t = 0 ∨ (tilePortList (rd s) t).any (fun p => portState s p != psALIVE) = true) := by
    simpa [htarget] using halive
  simp only [advanceTile, hon, hstays, show tileState s t = 0 from hst, hready, Bool.not_true, Bool.false_eq_true, if_false]

/-- Its INIT written, it is cleared. -/
theorem advanceTile_init (hst : tileState s t = tpINIT) (hphase : (tilePwr s t).phase ≠ 0)
    (hwritten : awaits s (tilePortList (rd s) t) isInitWrite = false) (htarget : tileTarget s t ≠ 0) :
    advanceTile t found s = seqE [toState t tpCLEAR, startClear t (tilePortList (rd s) t)] s := by
  simp only [advanceTile, hon, hstays, show tileState s t = 2 from hst, hphase, hwritten, htarget, Bool.not_true, Bool.false_eq_true, false_and,
    if_false]

/-- A tile with its rail on and CLEAR met is lit at the next mark. -/
theorem advanceTile_lights (hst : tileState s t = tpRAIL_ON) (hphase : (tilePwr s t).phase ≠ 5)
    (htarget : tileTarget s t = 2) (hmet : (tilePwr s t).met = true) (hlight : (tilePwr s t).light = none) (hsent : (tilePwr s t).lightSent = none) :
    advanceTile t found s = [.tile t (fun x => { x with light := some 2 })] := by
  simp only [advanceTile, hon, hstays, show tileState s t = 4 from hst, hphase, htarget, hmet, hlight, hsent, Bool.not_true, Bool.false_eq_true,
    Nat.reduceEqDiff, Option.isNone_none, Bool.and_self, if_false, if_true]

/-- One whose TARGET is lower goes dark at the next mark. -/
theorem advanceTile_darkens (hst : tileState s t = tpLIGHT_ON) (htarget : tileTarget s t < 2)
    (hlight : (tilePwr s t).light = none) (hsent : (tilePwr s t).lightSent = none) :
    advanceTile t found s = [.tile t (fun x => { x with light := some 3 })] := by
  simp only [advanceTile, hon, hstays, show tileState s t = 5 from hst, htarget, hlight, hsent, Bool.not_true, Bool.false_eq_true,
    Option.isNone_none, Bool.and_self, if_false, if_true]

/-- A tile with its rail on or its lamps off, whose TARGET is 0, has its rail switched off. -/
theorem advanceTile_railOff (hst : tileState s t = tpRAIL_ON ∨ tileState s t = tpLIGHT_OFF) (hphase : (tilePwr s t).phase ≠ 5)
    (htarget : tileTarget s t = 0) : advanceTile t found s = sendPower t 4 s ++ [.tile t (fun x => { x with phase := 5 })] := by
  rcases hst with hst | hst
  · simp only [advanceTile, hon, hstays, show tileState s t = 4 from hst, hphase, htarget, Bool.not_true, Bool.false_eq_true, if_false, if_true]
  · simp only [advanceTile, hon, hstays, show tileState s t = 6 from hst, hphase, htarget, Bool.not_true, Bool.false_eq_true, if_false, if_true]

/-- A tile with its rail off is taken off. -/
theorem advanceTile_goesOff (hst : tileState s t = tpRAIL_OFF) : advanceTile t found s = goOff t s := by
  simp only [advanceTile, hon, hstays, show tileState s t = 7 from hst, Bool.not_true, Bool.false_eq_true, if_false]

/-- One in FAULT is taken off when its TARGET is 0, and stays there else. -/
theorem advanceTile_fault (hst : tileState s t = tpFAULT) : advanceTile t found s = if tileTarget s t = 0 then goOff t s else [] := by
  simp only [advanceTile, hon, hstays, show tileState s t = 8 from hst, Bool.not_true, Bool.false_eq_true, if_false]

end Advance

/-- The command by the stages of the tile's step. -/
theorem exec_advance_stages {s : State} {t : Fin 1024} {found : List (Nat × Nat)} {es : List Eff} (h : advanceTile t found s = seqE es s) :
    exec (.tilePowerAdvance t found) s = .next (runEffs s es) :=
  (congrArg (nextBy s) h).trans (congrArg Host.Outcome.next (applyActs_seqE s es))

/-- The command where the step is one stage. -/
theorem exec_advance_stage {s : State} {t : Fin 1024} {found : List (Nat × Nat)} {e : Eff} (h : advanceTile t found s = e s) :
    exec (.tilePowerAdvance t found) s = .next (runEffs s [e]) := congrArg (nextBy s) h

/-! ## Waits of a tile (R340, R342) -/

/-- The wait for the rail ends RAIL_SETTLE or RAIL_DISCHARGE after POWER was sent. -/
theorem railElapsed_waited {s : State} {t a : Nat} {on : Bool} (hat : (tilePwr s t).railAt = some a) (hdone : (tilePwr s t).railDone = false)
    (hphase : (tilePwr s t).phase = if on then 3 else 5) {ms : Nat}
    (hms : rf s (Reg.TD_RAIL t) (if on then Fld.TD_RAIL_SETTLE else Fld.TD_RAIL_DISCHARGE) = ms) :
    railElapsed t on s = [.clockTo (a + 1000000 * ms), .tile t (fun x => { x with railDone := true, waitFrom := max (now s) (a + 1000000 * ms) })] := by
  simp only [railElapsed, hat, hdone, hphase, hms, Bool.not_false, beq_self_eq_true, Bool.and_self, if_true]

/-- 2 s without a report end in FAULT; the wait is the same once the clock has passed them. -/
theorem exec_tileReportTimeout {s : State} {t : Fin 1024} (h : waitsReport s t = true) {u : State}
    (hu : applyActs s [.clockTo ((tilePwr s t).waitFrom + 2000000001)] = u) : exec (.tileReportTimeout t) s = nextBy u (tileFault t 4 u) := by
  have hwait : waitsReport u t = true := by
    rw [← hu]
    exact h
  show Host.Outcome.next (runEffs s (reportTimeout t)) = _
  simp only [reportTimeout, runEffs_cons, runEffs_nil, h, if_true, hu, hwait]

/-! ## The line of a SILENT port (R338) -/

/-- When the line may be tried: at once, or 2 s after the last attempt. -/
def attemptAt (n : Nat) (q : Port) : Nat := max n (match q.restartAt with | some a => a + 2000000000 | none => 0)

theorem attemptAt_first {n : Nat} {q : Port} (h : q.restartAt = none) : attemptAt n q = n := by
  unfold attemptAt
  rw [h]
  exact Nat.max_eq_left (Nat.zero_le n)

theorem attemptAt_again {n a : Nat} {q : Port} (h : q.restartAt = some a) : attemptAt n q = max n (a + 2000000000) := by
  unfold attemptAt
  rw [h]

/-- The line is held from then on. -/
def holdLine (n : Nat) (q : Port) : Port := { q with restartAt := some (attemptAt n q), up := false }

/-- A wait that ends with an event of a port leaves every port and every memory. -/
theorem waitEvent_leaves {s : State} (hs : s.Inv) (n : Nat) (u : State) (b p c d q : Nat) :
    port (applyActs s ([.clockTo n] ++ portEvent u b p c d)) q = port s q
      ∧ now (applyActs s ([.clockTo n] ++ portEvent u b p c d)) = max (now s) n
      ∧ sameMemory s (applyActs s ([.clockTo n] ++ portEvent u b p c d)) := by
  have hwait : State.Inv (applyAct s (.clockTo n)) := applyAct_inv s _ hs
  rw [List.singleton_append, applyActs_cons]
  refine ⟨applyActs_keeps (fun v => port v q) (fun x hx v _ => ?port) hwait, applyActs_keeps now (fun x hx v _ => ?now) hwait,
    sameMemory_trans (sameMemory_applyAct s (.clockTo n) rfl) (sameMemory_of_noMem fun x hx =>
      (reports_leaves (eventNow_reports _ _ _ _ _ _ x hx)).1)⟩
  case port => rcases mem_eventNow hx with ⟨t, rfl⟩ | ⟨r, rfl⟩ <;> simp [port]
  case now => rcases mem_eventNow hx with ⟨t, rfl⟩ | ⟨r, rfl⟩ <;> simp [now]

/-- The conditions under which a port's line is restarted. -/
def restarts (s : State) (p : Nat) : Prop :=
  ∃ t, portTile (rd s) p = some t ∧ tileState s t = tpLOGIC_OFF ∧ 0 < tileTarget s t ∧ portState s p = psSILENT ∧ bsState s (p / 64) ≠ bsOFF

/-- The first stage of a command, then the others. -/
theorem runEffs_first (s : State) (es : List Eff) : runEffs s es = runEffs (applyActs s (es.headD (fun _ => []) s)) (es.drop 1) := by
  cases es with
  | nil => rfl
  | cons e es => rfl

/-- First the last attempt's 2 s are waited for, with DRIVER_SILENT again, and the line is held. -/
theorem logicLineRestart_holds {s : State} (hs : s.Inv) {p : Nat} (h : restarts s p) :
    ∃ xs, (logicLineRestart p).headD (fun _ => []) s = xs ++ [.port p (holdLine (now s))]
      ∧ port (applyActs s xs) p = port s p ∧ now (applyActs s xs) = attemptAt (now s) (port s p) ∧ sameMemory s (applyActs s xs) := by
  obtain ⟨t, htile, hcond⟩ := h
  cases hlast : (port s p).restartAt with
  | none =>
    refine ⟨[], ?_, rfl, (attemptAt_first hlast).symm, sameMemory_refl s⟩
    simp only [logicLineRestart, List.headD_cons, htile, if_pos hcond, hlast]
    rfl
  | some a =>
    obtain ⟨hport, hnow, hmem⟩ := waitEvent_leaves hs (a + 2000000000) (applyAct s (.clockTo (a + 2000000000))) 0 p 0 0 p
    refine ⟨_, ?_, hport, hnow.trans (attemptAt_again hlast).symm, hmem⟩
    simp only [logicLineRestart, List.headD_cons, htile, if_pos hcond, hlast]
    rfl

/-- Then it is started 2 ms later. -/
theorem logicLineRestart_starts {s : State} {p a : Nat} (hat : (port s p).restartAt = some a) (hdown : (port s p).up = false) (hnow : now s = a) :
    runEffs s ((logicLineRestart p).drop 1) = applyActs s [.clockTo (a + 2000000), startPort p (a + 2000000)] := by
  simp only [logicLineRestart, List.drop_one, List.tail_cons, runEffs_cons, runEffs_nil, hat, hdown, hnow, Nat.le_refl, decide_true, Bool.not_false,
    Bool.and_self, if_true]

/-- A line restarted is up, and empty, from 2 ms after the attempt on. -/
theorem exec_logicLineRestart {s : State} (hs : s.Inv) {p : Fin 1024} (h : restarts s p) :
    ∃ u, exec (.logicLineRestart p) s = .next u ∧ (port u p).up = true ∧ (port u p).sent = [] ∧ (port u p).bufs = [] ∧ sameMemory s u
      ∧ (port u p).startAt = attemptAt (now s) (port s p) + 2000000 ∧ now u = (port u p).startAt := by
  obtain ⟨xs, hstage, hport, hnow, hmem⟩ := logicLineRestart_holds hs h
  have hrun : runEffs s (logicLineRestart p) = runEffs (applyActs s (xs ++ [.port p (holdLine (now s))])) ((logicLineRestart p).drop 1) := by
    rw [runEffs_first, hstage]
  have iWait := applyActs_inv s xs hs
  rw [applyActs_append] at hrun
  generalize applyActs s xs = w at *
  have hheld : port (applyAct w (.port p (holdLine (now s)))) p = holdLine (now s) (port s p) := (get_port_same iWait p _).trans (congrArg _ hport)
  have iHeld := applyAct_inv w (.port p (holdLine (now s))) iWait
  have hstart := logicLineRestart_starts (s := applyAct w (.port p (holdLine (now s)))) (congrArg Port.restartAt hheld) (congrArg Port.up hheld) hnow
  have hup := fun n : Nat => get_port_same (applyAct_inv _ (.clockTo n) iHeld) p (fun q => { q with
    up := true, startAt := n, lastWin := n + 50000, since := 0, window := none, turn := 0, bufs := [], sent := [] })
  refine ⟨_, congrArg Host.Outcome.next (hrun.trans hstart), congrArg Port.up (hup _), congrArg Port.sent (hup _), congrArg Port.bufs (hup _),
    sameMemory_trans hmem (sameMemory_applyActs w [.port _ _, .clockTo _, .port _ _] rfl), congrArg Port.startAt (hup _), ?clock⟩
  case clock =>
    refine Eq.trans ?_ (congrArg Port.startAt (hup _)).symm
    have hclock : now w ≤ attemptAt (now s) (port s p) + 2000000 := hnow ▸ Nat.le_add_right _ _
    exact Nat.max_eq_right hclock

/-- Settles O41: each step of a tile by the branch that its state takes, its waits, and the restart of a line. -/
theorem tilesAndLinesAreBroughtUp : Obligations.TilesAndLinesAreBroughtUp := by
  unfold Obligations.TilesAndLinesAreBroughtUp
  refine ⟨?tile, ?line⟩
  case tile =>
    intro s t found hon q ps runs phase light
    refine ⟨fun st hs hst => tileState_toState hs t.isLt hst, fun hphase hsent => exec_advance_stages (advanceTile_leaves hon hphase hsent),
      fun hstays => ?steps, ?rail, ?timeout⟩
    case steps =>
      exact ⟨fun hst htarget halive => exec_advance_stages (advanceTile_logicOff hon hstays hst htarget halive),
        fun hst hphase hwritten htarget => exec_advance_stages (advanceTile_init hon hstays hst hphase hwritten htarget),
        fun hst hphase hsent => exec_advance_stage (advanceTile_clear_reads hon hst hphase hsent),
        fun hst hphase hread => exec_advance_stage (advanceTile_clear_met hon hst hphase hread),
        fun hst hphase htarget => exec_advance_stage (advanceTile_clear_rail hon hst hphase htarget),
        fun hst hphase hreports => exec_advance_stage (advanceTile_clear_railOn hon hst hphase hreports),
        fun hst hphase htarget hmet hlight hsent => exec_advance_stage (advanceTile_lights hon hstays hst hphase htarget hmet hlight hsent),
        fun hst htarget hlight hsent => exec_advance_stage (advanceTile_darkens hon hstays hst htarget hlight hsent),
        fun hst hphase htarget => exec_advance_stage (advanceTile_railOff hon hstays hst hphase htarget),
        fun hst hphase hreports => exec_advance_stage (advanceTile_discharged hon hst hphase hreports),
        fun hst => exec_advance_stage (advanceTile_goesOff hon hstays hst),
        fun hst htarget => exec_advance_stage ((advanceTile_fault hon hstays hst).trans (if_pos htarget)),
        fun hst htarget => exec_advance_stages ((advanceTile_fault hon hstays hst).trans (if_neg htarget))⟩
    case rail =>
      intro a hat hdone waited
      exact ⟨fun hphase => congrArg (nextBy s) (railElapsed_waited (on := true) hat hdone hphase rfl),
        fun hphase => congrArg (nextBy s) (railElapsed_waited (on := false) hat hdone hphase rfl)⟩
    case timeout =>
      intro hwait u
      exact exec_tileReportTimeout hwait rfl
  case line =>
    intro s p t hs htile hoff htarget hsilent hbank
    obtain ⟨u, hexec, hup, hsent, hbufs, hmem, hstart, hnow⟩ := exec_logicLineRestart hs ⟨t, htile, hoff, htarget, hsilent, hbank⟩
    refine ⟨u, hexec, hup, hsent, hbufs, hmem, hstart.trans ?_, hnow⟩
    cases hlast : (port s p).restartAt with
    | none => rw [attemptAt_first hlast]
    | some a => rw [attemptAt_again hlast]

/-! ## Scrub, diagnosis windows and lamps set (R352, R355, R356, R364, R367) -/

/-- An idle port with SCRUB reads back its next shown part. -/
theorem scrub_idle {s : State} {p t i g j : Nat} (htile : portTile (rd s) p = some t) (hscrub : rf s Reg.DRV_CTRL Fld.DRV_CTRL_SCRUB ≠ 0)
    (hread : awaits s [p] isRead = false) (hclear : portClearing s p = false) (hparts : scrubParts s t p ≠ [])
    (hnext : (scrubParts s t p)[(port s p).scrub % (scrubParts s t p).length]? = some (i, g, j)) :
    scrub p s = [.port p (fun q => { q with
      scrub := (q.scrub + 1) % (scrubParts s t p).length
      house := q.house ++ [{ partRead s t i (p - tilePort0 (rd s) t) (pageOf s (rf s Reg.CUR_NUM Fld.CUR_NUM_NUM) j) (.scrub g j)
        (partSentCrc s t i (p - tilePort0 (rd s) t) j) with after := 0 }] })] := by
  have hidle : (rf s Reg.DRV_CTRL Fld.DRV_CTRL_SCRUB = 0 || awaits s [p] isRead || portClearing s p || (scrubParts s t p).isEmpty) = false := by
    rw [decide_eq_false hscrub, hread, hclear, List.isEmpty_eq_false_iff.2 hparts]
    rfl
  unfold scrub
  rw [htile]
  dsimp only
  rw [if_neg (ne_true_of_eq_false hidle), hnext]

/-- Where no window stands one begins, with the chunks of every driver in service. -/
theorem exec_diagWindow_begins {s : State} (hwin : s.drive.winOn = false) :
    exec .diagWindow s = nextBy s (.drive (fun d => { d with winOn := true, winAt := now s })
      :: (tilesOn (rd s)).flatMap (fun t => (tilePortList (rd s) t).map (fun p => queueHouse p ((portDrivers s t p).flatMap (windowReqs s t p))))) := by
  show Host.Outcome.next (runEffs s diagWindow) = _
  simp only [diagWindow, runEffs_cons, runEffs_nil, hwin, Bool.false_eq_true, if_false, applyActs_nil, Bool.false_and, List.nil_append,
    List.singleton_append]

/-- A window whose reads are out is extended, which is counted once. -/
theorem exec_diagWindow_late {s : State} (hwin : s.drive.winOn = true) (hlate : s.drive.winLate = false)
    (hout : awaits s ((tilesOn (rd s)).flatMap (tilePortList (rd s))) isDiag = true) :
    exec .diagWindow s = nextBy s [.clockTo (s.drive.winAt + 1000000000 * max 1 (rf s Reg.DRV_CTRL Fld.DRV_CTRL_DIAG_WIN)),
      .drive (fun d => { d with winLate := true }), .inc Reg.DRV_DIAG_STAT Fld.DRV_DIAG_STAT_LATE 1] := by
  show Host.Outcome.next (runEffs s diagWindow) = _
  have hopen : ∀ at_, (applyAct s (.clockTo at_)).drive = s.drive := fun _ => rfl
  have hreads : ∀ at_, awaits (applyAct s (.clockTo at_)) ((tilesOn (rd (applyAct s (.clockTo at_)))).flatMap
    (tilePortList (rd (applyAct s (.clockTo at_))))) isDiag = true := fun _ => hout
  simp only [nextBy, diagWindow, runEffs_cons, runEffs_nil, applyActs_cons, applyActs_nil, hopen, hreads, hwin, hlate, Bool.and_self, if_true,
    Bool.false_eq_true, if_false]

theorem exec_drvLampSetA {s : State} {a : Acc} (hr : reaches s a Reg.DRV_LAMP_SET_A true) (v : Word) :
    exec (.drvLampSetA a v) s = nextBy s (lampSetA (actsFor a) v s) :=
  congrArg (nextBy s) (gate_reaches hr false _)

theorem exec_drvLampSetB {s : State} {a : Acc} (hr : reaches s a Reg.DRV_LAMP_SET_B true) (v : Word) :
    exec (.drvLampSetB a v) s = nextBy s (lampSetB (actsFor a) v s) :=
  congrArg (nextBy s) (gate_reaches hr false _)

/-- DRV_LAMP_SET_A latches a lamp of a tile that the tenant owns (R367). -/
theorem lampSetA_owned {s : State} {u t : Nat} {v : Word} (htile : portTile (rd s) (getF v Fld.DRV_LAMP_SET_A_PORT) = some t)
    (hown : u = 0 ∨ ownerOf s 3 t = u) (hlamp : getF v Fld.DRV_LAMP_SET_A_LAMP < lampsOfPort (rd s) (getF v Fld.DRV_LAMP_SET_A_PORT)) :
    lampSetA u v s = [.drive (fun d => { d with
      latch := mapPut noLatch d.latch u (some (getF v Fld.DRV_LAMP_SET_A_PORT, getF v Fld.DRV_LAMP_SET_A_LAMP, t, epochOf s 3 t)) })] := by
  have howns : (u == 0 || ownerOf s 3 t == u) = true := by simpa only [Bool.or_eq_true, beq_iff_eq] using hown
  simp only [lampSetA, htile, howns, if_pos hlamp, if_true]

theorem lampSetA_foreign {s : State} {u t : Nat} {v : Word} (htile : portTile (rd s) (getF v Fld.DRV_LAMP_SET_A_PORT) = some t)
    (hu : u ≠ 0) (hown : ownerOf s 3 t ≠ u) : lampSetA u v s = tenantFault s u stNOT_OWNER Reg.DRV_LAMP_SET_A := by
  have howns : (u == 0 || ownerOf s 3 t == u) = false := by simp only [beq_eq_false_iff_ne.2 hu, beq_eq_false_iff_ne.2 hown, Bool.or_self]
  simp only [lampSetA, htile, howns, Bool.false_eq_true, if_false]

/-- A changed role epoch refuses DRV_LAMP_SET_B (R364, R367). -/
theorem lampSetB_stale {s : State} {u p lamp t ep : Nat} {v : Word} (hlatch : mapGet noLatch s.drive.latch u = some (p, lamp, t, ep))
    (hstate : ¬(getF v Fld.DRV_LAMP_SET_B_STATE = 0 ∨ 4 < getF v Fld.DRV_LAMP_SET_B_STATE)) (hep : epochOf s 3 t ≠ ep) :
    lampSetB u v s = .drive (fun d => { d with latch := mapPut noLatch d.latch u none }) :: tenantFault s u stSTALE_ROLE Reg.DRV_LAMP_SET_B := by
  simp only [lampSetB, hlatch, if_neg hstate, if_pos hep]

/-- Else the latched lamp's state is set, CONF 0 and AGE kept (R356). -/
theorem lampSetB_sets {s : State} {u p lamp t ep : Nat} {v : Word} (hlatch : mapGet noLatch s.drive.latch u = some (p, lamp, t, ep))
    (hstate : ¬(getF v Fld.DRV_LAMP_SET_B_STATE = 0 ∨ 4 < getF v Fld.DRV_LAMP_SET_B_STATE)) (hep : epochOf s 3 t = ep)
    (hown : u = 0 ∨ ownerOf s 3 t = u) :
    lampSetB u v s = .drive (fun d => { d with latch := mapPut noLatch d.latch u none })
      :: setLive t p lamp (8192 * getF v Fld.DRV_LAMP_SET_B_STATE + leValue (dramBytes s (liveAddr s p lamp) 2) % 2048) s := by
  have hforeign : ¬(u ≠ 0 ∧ ownerOf s 3 t ≠ u) := fun ⟨hu, hne⟩ => hown.elim hu hne
  simp only [lampSetB, hlatch, if_neg hstate, if_neg (not_not_intro hep), if_neg hforeign]

/-- Settles O42: scrub and diagnosis windows by what their condition selects, DRV_LAMP_SET past the gate. -/
theorem lampStatesAreKept : Obligations.LampStatesAreKept := by
  unfold Obligations.LampStatesAreKept
  intro s
  refine ⟨?scrub, exec_diagWindow_begins, exec_diagWindow_late, ?latch, ?set⟩
  case scrub =>
    intro p t i g j htile hscrub hread hclear hparts hnext k
    exact congrArg (nextBy s) (scrub_idle htile hscrub hread hclear hparts hnext)
  case latch =>
    intro a v t hr p lamp htile
    exact ⟨fun hown hlamp => (exec_drvLampSetA hr v).trans (congrArg (nextBy s) (lampSetA_owned htile hown hlamp)),
      fun hu hown => (exec_drvLampSetA hr v).trans (congrArg (nextBy s) (lampSetA_foreign htile hu hown))⟩
  case set =>
    intro a v p lamp t ep hr hlatch hlo hhi emptied
    have hstate : ¬(getF v Fld.DRV_LAMP_SET_B_STATE = 0 ∨ 4 < getF v Fld.DRV_LAMP_SET_B_STATE) := by omega
    exact ⟨fun hep => (exec_drvLampSetB hr v).trans (congrArg (nextBy s) (lampSetB_stale hlatch hstate hep)),
      fun hep hown => (exec_drvLampSetB hr v).trans (congrArg (nextBy s) (lampSetB_sets hlatch hstate hep hown))⟩

end Sys2Proof.Machine
end

section
/-! PROOFS of the statement on company time and links (10_company.md R408, R413 to R416, R430). First what cells and events of the company
leave as it was and what a link's state register reads after its updates, then what each command does, then the statement. -/

namespace Sys2Proof.Machine

/-! ## Stages -/

/-- A stage without updates. -/
theorem runEffs_skip {s : State} {e : Eff} (h : e s = []) (es : List Eff) : runEffs s (e :: es) = runEffs s es := by
  rw [runEffs_cons, h, applyActs_nil]

/-- Stages that make the same updates of a state. -/
theorem runEffs_congr {s : State} {e f : Eff} (h : e s = f s) (es : List Eff) : runEffs s (e :: es) = runEffs s (f :: es) := by
  rw [runEffs_cons, runEffs_cons, h]

theorem runEffs_single (s : State) (e : Eff) : runEffs s [e] = applyActs s (e s) := rfl

/-- A stage that is itself stages, then the others. -/
theorem runEffs_stages {s : State} {e : Eff} {xs : List Eff} (h : e s = seqE xs s) (es : List Eff) :
    runEffs s (e :: es) = runEffs s (xs ++ es) := by
  rw [runEffs_cons, h, applyActs_seqE, runEffs_append]

/-- Stages none of which changes memory. -/
theorem sameMemory_runEffs {es : List Eff} (h : ∀ e ∈ es, ∀ u, ∀ x ∈ e u, x.mayMem = false) (s : State) : sameMemory s (runEffs s es) := by
  rw [← applyActs_seqE]
  exact sameMemory_of_noMem (forall_mem_seqE h s)

/-- Does an update leave `p` of the state that the company keeps beside registers? -/
def Act.keepsCmp {β : Type} (p : Company → β) : Act → Prop
  | .cmp f => ∀ c, p (f c) = p c
  | _ => True

theorem cmp_applyAct_keeps {β : Type} {p : Company → β} {x : Act} (h : x.keepsCmp p) (s : State) : p (applyAct s x).cmp = p s.cmp := by
  cases x with
  | cmp f => exact h s.cmp
  | evt blk t b => simp
  | signal t v => simp
  | _ => rfl

theorem cmp_applyActs_keeps {β : Type} {p : Company → β} {s : State} (hs : s.Inv) {xs : List Act} (h : ∀ x ∈ xs, x.keepsCmp p) :
    p (applyActs s xs).cmp = p s.cmp :=
  applyActs_keeps (fun u => p u.cmp) (fun x hx u _ => cmp_applyAct_keeps (h x hx) u) hs

/-! ## Cells (R410, R411) -/

section Cells

variable {s : State} {e : Nat} (cls kind src : Nat) (dst : Option Nat) (hops a : Nat) (items : List Nat)

/-- The updates of a cell that leaves: one of what is put out, one of the next SEQ. -/
theorem forall_mem_sendCell {P : Act → Prop} (hout : ∀ f, P (.out f))
    (hseq : ∀ f : Company → SMap Nat, P (.cmp fun c => { c with txSeq := f c })) (s : State) (e : Nat) :
    ∀ x ∈ sendCell e cls kind src dst hops a items s, P x := by
  unfold sendCell
  split
  · exact fun x hx => absurd hx List.not_mem_nil
  · exact List.forall_mem_cons.2 ⟨hout _, List.forall_mem_singleton.2 (hseq _)⟩

/-- On a link that is UP the cell is put out, after those before it. -/
theorem cells_sendCell (h : linkUp s e = true) : (applyActs s (sendCell e cls kind src dst hops a items s)).out.cells
    = s.out.cells ++ [⟨e == 0, cls, kind, src, dst, hops, mapGet zeroNat s.cmp.txSeq (8 * e + cls), a, items⟩] := by
  simp only [sendCell, h, Bool.not_true, Bool.false_eq_true, if_false]
  rfl

/-- A cell leaves the registers, the prompt book and memory. -/
theorem sendCell_leaves : (applyActs s (sendCell e cls kind src dst hops a items s)).regs = s.regs
    ∧ (applyActs s (sendCell e cls kind src dst hops a items s)).book = s.book
    ∧ sameMemory s (applyActs s (sendCell e cls kind src dst hops a items s)) := by
  unfold sendCell
  split
  · exact ⟨rfl, rfl, sameMemory_refl s⟩
  · exact ⟨rfl, rfl, sameMemory_applyActs s _ rfl⟩

theorem linkUp_sendCell (f : Nat) : linkUp (applyActs s (sendCell e cls kind src dst hops a items s)) f = linkUp s f := by
  obtain ⟨hregs, -, -⟩ := sendCell_leaves (s := s) (e := e) cls kind src dst hops a items
  unfold linkUp cmpOn rf rd
  rw [hregs]

end Cells

theorem forall_mem_broadcast {P : Act → Prop} (hout : ∀ f, P (.out f))
    (hseq : ∀ f : Company → SMap Nat, P (.cmp fun c => { c with txSeq := f c })) (cls kind a : Nat) (items : List Nat) (s : State) :
    ∀ x ∈ broadcast cls kind a items s, P x := by
  have hway : ∀ n link u, ∀ x ∈ (if n = 0 then [] else sendCell link cls kind (ownIndex u) none (n - 1) a items u), P x := fun n link u => by
    split
    · exact fun x hx => absurd hx List.not_mem_nil
    · exact forall_mem_sendCell cls kind _ none _ a items hout hseq u link
  refine forall_mem_seqE (List.forall_mem_cons.2 ⟨hway _ 0, List.forall_mem_singleton.2 (hway _ 1)⟩) s

/-- A cell that goes on leaves the registers, the prompt book and memory. -/
theorem forwardCell_leaves (s : State) (h : CellHead) (cls kind a : Nat) (items : List Nat) :
    (applyActs s (forwardCell h cls kind a items s)).regs = s.regs ∧ (applyActs s (forwardCell h cls kind a items s)).book = s.book
      ∧ sameMemory s (applyActs s (forwardCell h cls kind a items s)) := by
  unfold forwardCell
  split
  · exact sendCell_leaves _ _ _ _ _ _ _
  · exact ⟨rfl, rfl, sameMemory_refl s⟩

/-! ## Company time (R413, R414, R416) -/

theorem ne_lead_of_member {s : State} (h : role s = rlMEMBER) : role s ≠ rlLEAD := by
  rw [h]
  decide

/-- TIME cells leave at the next instant of their series, where a link is UP. -/
theorem exec_timeCellSend {s : State} (h : (linkUp s 0 || linkUp s 1) = true) :
    exec .timeCellSend s = .next (runEffs (applyActs s [.clockTo (s.cmp.timeAt + 125000),
        .cmp (fun c => { c with timeAt := max (c.timeAt + 125000) s.cur.clock })]) [timeCells 0, timeCells 1]) := by
  show Host.Outcome.next (runEffs s timeCellSend) = _
  rw [timeCellSend, runEffs_cons, if_pos h]

/-- A lead's TIME cells carry its own index, serial number and count, and ask for the delay. -/
theorem cells_timeCells {s : State} {e : Nat} (hup : linkUp s e = true) (hlead : role s = rlLEAD) :
    ∃ n, (applyActs s (timeCells e s)).out.cells = s.out.cells
      ++ [⟨e == 0, clTIME, 0, ownIndex s, none, 0, mapGet zeroNat s.cmp.txSeq (8 * e + clTIME), 0,
        [256 * now s, s.cur.next, (rf s Reg.CUR_NUM Fld.CUR_NUM_NUM + 1) % 2 ^ 32, rf s Reg.CMP_EPOCH Fld.CMP_EPOCH_LEAD_PRIO, ownSerial s,
          ownIndex s + 1, rf s Reg.CMP_EPOCH Fld.CMP_EPOCH_EPOCH, 0]⟩, ⟨e == 0, clTIME, 1, ownIndex s, none, 0, n, 0, [now s]⟩] := by
  have hmember : ¬ role s = rlMEMBER := fun h => ne_lead_of_member h hlead
  simp only [timeCells, applyActs_seqE, runEffs_cons, runEffs_nil, if_pos hlead, if_neg hmember, cells_sendCell, linkUp_sendCell, hup,
    List.append_assoc, List.singleton_append]
  exact ⟨_, rfl⟩

theorem exec_delayRequest {s : State} {h : CellHead} (hok : h.ok = true) (hup : linkUp s h.e = true) (at_ : Nat) :
    let u := applyActs s [.clockTo at_]
    exec (.delayRequest h at_) s = nextBy u (sendCell h.e clTIME 2 (ownIndex s) none 0 0 [at_, now u] u) := by
  intro u
  have hcond : (h.ok && linkUp u h.e) = true := by
    rw [hok, Bool.true_and]
    exact hup
  show Host.Outcome.next (runEffs s (delayRequest h at_)) = _
  rw [delayRequest, runEffs_cons, runEffs_single, if_pos hcond]
  rfl

theorem exec_delayResponse {s : State} {h : CellHead} (hok : h.ok = true) (hup : linkUp s h.e = true) (t1 t2 t3 t4 : Nat) :
    exec (.delayResponse h t1 t2 t3 t4) s
      = nextBy s [.clockTo t4, .fld (Reg.CMP_LINK_DELAY h.e) Fld.CMP_LINK_DELAY_NS (companyDelay s h.e t1 t2 t3 t4)] := by
  have hcond : (h.ok && linkUp s h.e) = true := by rw [hok, hup]; rfl
  show nextBy s (delayResponse h t1 t2 t3 t4 s) = _
  rw [delayResponse, if_pos hcond]

/-- A cell of another device conflicts with no index. -/
theorem indexConflict_other {s : State} {h : CellHead} (hother : h.from_.val ≠ ownIndex s) : indexConflict h s = [] := by
  simp only [indexConflict, beq_eq_false_iff_ne.2 hother, Bool.and_false, Bool.false_and, Bool.false_eq_true, if_false]

/-- A cell taken, of a company without conflict. -/
theorem not_discarded {s : State} {h : CellHead} (hmine : cellMine s h = true) (hconf : s.cmp.conflict = false) :
    ¬ (!cellMine s h || s.cmp.conflict) = true := by
  rw [hmine, hconf]
  decide

/-- A member takes its lead's cells, on its way to it, as its reference. -/
theorem leadHeard_follows {s : State} {h : CellHead} {l : LeadHeard} (hmember : role s = rlMEMBER) (hlead : l.dev = leadIndex s)
    (hway : timeLink s l.dev = some h.e.val) (at_ : Nat) :
    leadHeard h at_ l s = followLead l s ++ seqE (referenceEvent 4 at_ l.phase) (applyActs s (followLead l s)) := by
  rw [leadHeard, if_neg (ne_lead_of_member hmember), if_pos hmember, if_pos (.inl hlead), if_pos hway]

theorem exec_timeCell_follows {s : State} {h : CellHead} {lead : Fin 16} (hmine : cellMine s h = true) (hother : h.from_.val ≠ ownIndex s)
    (hconf : s.cmp.conflict = false) (hmember : role s = rlMEMBER) (hlead : lead.val = leadIndex s) (hway : timeLink s lead = some h.e.val)
    (at_ time256 edge num prio serial epoch hops : Nat) :
    let u := applyActs s [.clockTo at_]
    let l := heardLead u h at_ time256 edge num prio serial epoch hops lead
    exec (.timeCell h at_ time256 edge num prio serial (some lead) epoch hops) s
      = nextBy u (followLead l u ++ seqE (referenceEvent 4 at_ l.phase) (applyActs u (followLead l u))) := by
  intro u l
  have htaken : ¬ (!cellMine u h || u.cmp.conflict) = true := not_discarded (s := u) hmine hconf
  show Host.Outcome.next (runEffs s (timeCell h at_ time256 edge num prio serial (some lead) epoch hops)) = _
  rw [timeCell, runEffs_cons, runEffs_skip (indexConflict_other (s := u) hother), runEffs_single, if_neg htaken]
  exact congrArg (nextBy u) (leadHeard_follows (s := u) (l := l) hmember hlead hway at_)

/-! ## Events, topology and candidacies beside the links (R420, R430, R434) -/

/-- Does an update touch neither memory nor a register of the company's links and control: an event of the company, CMP_STATUS, its
state beside registers, or what is put out? -/
def Act.besideLinks : Act → Bool
  | .fld a _ _ => a == Reg.CMP_STATUS
  | .evt blk _ _ => blk == 9
  | .log _ => true
  | .out _ => true
  | .cmp _ => true
  | _ => false

theorem besideLinks_leaves {x : Act} (h : x.besideLinks = true) :
    x.mayMem = false ∧ (∀ e < 2, x.mayReg (Reg.CMP_LINK_STATE e) = false) ∧ x.mayReg Reg.CMP_CTRL = false := by
  cases x with
  | fld a f v =>
    obtain rfl : a = Reg.CMP_STATUS := beq_iff_eq.1 h
    exact ⟨rfl, (by decide : ∀ e < 2, (Reg.CMP_STATUS == Reg.CMP_LINK_STATE e) = false), rfl⟩
  | evt blk t b =>
    obtain rfl : blk = 9 := beq_iff_eq.1 h
    simp only [Act.mayMem, Act.mayReg, evtStatus, Reg.CMP_EVT_STATUS, Reg.CMP_LINK_STATE, Reg.CMP_CTRL, beq_eq_false_iff_ne, true_and]
    exact ⟨fun e he => by omega, by omega⟩
  | log r => exact ⟨rfl, (by decide : ∀ e < 2, (Reg.CMP_LINK_STATE e == Reg.PB_UNIT_LOST) = false), rfl⟩
  | out f => exact ⟨rfl, fun _ _ => rfl, rfl⟩
  | cmp f => exact ⟨rfl, fun _ _ => rfl, rfl⟩
  | _ => cases h

/-- An event of the company is status bits of its block and a record. -/
theorem forall_mem_cmpEvent {P : Act → Prop} {b : Nat} (hevt : ∀ t, P (.evt 9 t b)) (hlog : ∀ r, P (.log r)) (s : State) (unit a : Nat) :
    ∀ x ∈ cmpEvent s b unit a, P x := by
  intro x hx
  rcases mem_eventNow hx with ⟨t, rfl⟩ | ⟨r, rfl⟩
  · exact hevt t
  · exact hlog r

/-- The devices that each link reaches, and whether lanes or links have changed since the last edge. -/
def Company.reachView (c : Company) : List Nat × List Nat × Bool := (c.east, c.west, c.lanesChanged)

/-- Does an update leave the links and what they reach? -/
def Act.sparesLinks (x : Act) : Prop := x.besideLinks = true ∧ x.keepsCmp Company.reachView

theorem cmpEvent_sparesLinks (s : State) (b unit a : Nat) : ∀ x ∈ cmpEvent s b unit a, x.sparesLinks :=
  forall_mem_cmpEvent (fun _ => ⟨rfl, trivial⟩) (fun _ => ⟨rfl, trivial⟩) s unit a

theorem topology_sparesLinks (s : State) : ∀ x ∈ topology s, x.sparesLinks :=
  List.forall_mem_cons.2 ⟨⟨rfl, trivial⟩, List.forall_mem_cons.2 ⟨⟨rfl, trivial⟩, List.forall_mem_singleton.2 ⟨rfl, fun _ => rfl⟩⟩⟩

theorem stand_sparesLinks (prio : Nat) (s : State) : ∀ x ∈ stand prio s, x.sparesLinks := by
  refine forall_mem_seqE (fun e he u => ?_) s
  obtain rfl | rfl : _ ∨ _ := by simpa using he
  · exact List.forall_mem_singleton.2 ⟨rfl, fun _ => rfl⟩
  · exact forall_mem_broadcast (fun _ => ⟨rfl, trivial⟩) (fun _ => ⟨rfl, fun _ => rfl⟩) _ _ _ _ u

theorem noMem_sparesLinks {xs : List Act} (h : ∀ x ∈ xs, x.sparesLinks) : ∀ x ∈ xs, x.mayMem = false :=
  fun x hx => by
    obtain ⟨hmem, -, -⟩ := besideLinks_leaves (h x hx).1
    exact hmem

theorem reachView_sparesLinks {s : State} (hs : s.Inv) {xs : List Act} (h : ∀ x ∈ xs, x.sparesLinks) :
    (applyActs s xs).cmp.reachView = s.cmp.reachView := cmp_applyActs_keeps hs fun x hx => (h x hx).2

/-! ## The state register of a link (R408, R433) -/

theorem linkState_implemented {e : Nat} (he : e < 2) :
    regImpl (Reg.CMP_LINK_STATE e) &&& Fld.CMP_LINK_STATE_STATE.mask = Fld.CMP_LINK_STATE_STATE.mask
      ∧ regImpl (Reg.CMP_LINK_STATE e) &&& Fld.CMP_LINK_STATE_PEER.mask = Fld.CMP_LINK_STATE_PEER.mask
      ∧ regImpl (Reg.CMP_LINK_STATE e) &&& Fld.CMP_LINK_STATE_LANES.mask = Fld.CMP_LINK_STATE_LANES.mask :=
  (by decide : ∀ e < 2, regImpl (Reg.CMP_LINK_STATE e) &&& Fld.CMP_LINK_STATE_STATE.mask = Fld.CMP_LINK_STATE_STATE.mask
    ∧ regImpl (Reg.CMP_LINK_STATE e) &&& Fld.CMP_LINK_STATE_PEER.mask = Fld.CMP_LINK_STATE_PEER.mask
    ∧ regImpl (Reg.CMP_LINK_STATE e) &&& Fld.CMP_LINK_STATE_LANES.mask = Fld.CMP_LINK_STATE_LANES.mask) e he

/-- What a link's state register says. -/
@[ext] structure LinkView where
  state : Nat
  peer : Nat
  lanes : Nat

def linkView (s : State) (e : Nat) : LinkView :=
  ⟨rf s (Reg.CMP_LINK_STATE e) Fld.CMP_LINK_STATE_STATE, rf s (Reg.CMP_LINK_STATE e) Fld.CMP_LINK_STATE_PEER,
    rf s (Reg.CMP_LINK_STATE e) Fld.CMP_LINK_STATE_LANES⟩

theorem linkView_besideLinks {xs : List Act} (h : ∀ x ∈ xs, x.besideLinks = true) (s : State) {e : Nat} (he : e < 2) :
    linkView (applyActs s xs) e = linkView s e := by
  have hreg : rd (applyActs s xs) (Reg.CMP_LINK_STATE e) = rd s (Reg.CMP_LINK_STATE e) :=
    rd_applyActs_of_forall (fun x hx => by
      obtain ⟨-, hlink, -⟩ := besideLinks_leaves (h x hx)
      exact hlink e he) s
  unfold linkView rf
  rw [hreg]

theorem linkView_sparesLinks {xs : List Act} (h : ∀ x ∈ xs, x.sparesLinks) (s : State) {e : Nat} (he : e < 2) :
    linkView (applyActs s xs) e = linkView s e := linkView_besideLinks (fun x hx => (h x hx).1) s he

section LinkFields

variable {s : State} (hs : s.Inv) {e : Nat} (he : e < 2) (v : Nat)
include hs he

theorem linkView_setState : linkView (applyAct s (.fld (Reg.CMP_LINK_STATE e) Fld.CMP_LINK_STATE_STATE v)) e
    = { linkView s e with state := v % 4 } := by
  obtain ⟨hstate, hpeer, hlanes⟩ := linkState_implemented he
  exact LinkView.ext (rf_fld (regsWf_of_inv hs) _ _ v (by decide) hstate)
    (rf_fld_other (regsWf_of_inv hs) _ _ _ v (by decide) hpeer (by decide))
    (rf_fld_other (regsWf_of_inv hs) _ _ _ v (by decide) hlanes (by decide))

theorem linkView_setPeer : linkView (applyAct s (.fld (Reg.CMP_LINK_STATE e) Fld.CMP_LINK_STATE_PEER v)) e
    = { linkView s e with peer := v % 16 } := by
  obtain ⟨hstate, hpeer, hlanes⟩ := linkState_implemented he
  exact LinkView.ext (rf_fld_other (regsWf_of_inv hs) _ _ _ v (by decide) hstate (by decide))
    (rf_fld (regsWf_of_inv hs) _ _ v (by decide) hpeer)
    (rf_fld_other (regsWf_of_inv hs) _ _ _ v (by decide) hlanes (by decide))

theorem linkView_setLanes : linkView (applyAct s (.fld (Reg.CMP_LINK_STATE e) Fld.CMP_LINK_STATE_LANES v)) e
    = { linkView s e with lanes := v % 16 } := by
  obtain ⟨hstate, hpeer, hlanes⟩ := linkState_implemented he
  exact LinkView.ext (rf_fld_other (regsWf_of_inv hs) _ _ _ v (by decide) hstate (by decide))
    (rf_fld_other (regsWf_of_inv hs) _ _ _ v (by decide) hpeer (by decide))
    (rf_fld (regsWf_of_inv hs) _ _ v (by decide) hlanes)

end LinkFields

/-- Does an update only set a field of a link's state register, or report an event of the company? -/
def Act.ofLink (e : Nat) : Act → Bool
  | .fld a _ _ => a == Reg.CMP_LINK_STATE e
  | .evt blk _ _ => blk == 9
  | .log _ => true
  | _ => false

theorem ofLink_leaves {e : Nat} (he : e < 2) {x : Act} (h : x.ofLink e = true) :
    x.mayMem = false ∧ x.mayReg Reg.CMP_CTRL = false ∧ x.keepsCmp id := by
  cases x with
  | fld a f v =>
    obtain rfl : a = Reg.CMP_LINK_STATE e := beq_iff_eq.1 h
    exact ⟨rfl, (by decide : ∀ e < 2, (Reg.CMP_LINK_STATE e == Reg.CMP_CTRL) = false) e he, trivial⟩
  | evt blk t b =>
    obtain ⟨-, -, hctrl⟩ := besideLinks_leaves (x := .evt blk t b) h
    exact ⟨rfl, hctrl, trivial⟩
  | log r => exact ⟨rfl, rfl, trivial⟩
  | _ => cases h

section OfLink

variable {e : Nat} (he : e < 2) {xs : List Act} (h : ∀ x ∈ xs, x.ofLink e = true)
include he h

theorem noMem_ofLink : ∀ x ∈ xs, x.mayMem = false := fun x hx => by
  obtain ⟨hmem, -, -⟩ := ofLink_leaves he (h x hx)
  exact hmem

theorem cmpOn_ofLink (s : State) : cmpOn (applyActs s xs) = cmpOn s := by
  have hctrl : rd (applyActs s xs) Reg.CMP_CTRL = rd s Reg.CMP_CTRL := rd_applyActs_of_forall (fun x hx => by
    obtain ⟨-, hreg, -⟩ := ofLink_leaves he (h x hx)
    exact hreg) s
  unfold cmpOn rf
  rw [hctrl]

theorem cmp_ofLink {s : State} (hs : s.Inv) : (applyActs s xs).cmp = s.cmp :=
  cmp_applyActs_keeps (p := id) hs fun x hx => by
    obtain ⟨-, -, hcmp⟩ := ofLink_leaves he (h x hx)
    exact hcmp

end OfLink

theorem linkState_ofLink (e st : Nat) (s : State) : ∀ x ∈ linkState e st s, x.ofLink e = true := by
  unfold linkState
  split
  · exact fun x hx => absurd hx List.not_mem_nil
  · exact List.forall_mem_cons.2 ⟨beq_self_eq_true _, forall_mem_cmpEvent (fun _ => rfl) (fun _ => rfl) s _ _⟩

/-- A link that enters a state is in it, with its peer and lanes. -/
theorem linkView_linkState {s u : State} (hu : u.Inv) {e : Nat} (he : e < 2) {st : Nat} (hst : st < 4)
    (hsame : (linkView u e).state = (linkView s e).state) :
    linkView (applyActs u (linkState e st s)) e = { linkView u e with state := st } := by
  unfold linkState
  split
  · next h => exact LinkView.ext (hsame.trans h) rfl rfl
  · rw [applyActs_cons, linkView_sparesLinks (cmpEvent_sparesLinks _ _ _ _) _ he, linkView_setState hu he, Nat.mod_eq_of_lt hst]

/-! ## Lanes (R408) -/

/-- A lane that leaves the stripe takes its bit of LANES with it. -/
theorem laneLoss_lane {s : State} (hs : s.Inv) (e : Fin 2) (lane : Fin 4)
    (hlane : bitsOf (rf s (Reg.CMP_LINK_STATE e) Fld.CMP_LINK_STATE_LANES) lane lane = 1) :
    linkView (applyActs s ((laneLoss e lane).headD (fun _ => []) s)) e
      = { linkView s e with lanes := (linkView s e).lanes - 2 ^ lane.val } := by
  have hne : ¬ bitsOf (rf s (Reg.CMP_LINK_STATE e) Fld.CMP_LINK_STATE_LANES) lane lane = 0 := by omega
  have hlt : (linkView s e).lanes - 2 ^ lane.val < 16 := Nat.lt_of_le_of_lt (Nat.sub_le _ _) (getF_lt _ Fld.CMP_LINK_STATE_LANES)
  have iAt := applyAct_inv s (.cmp (fun c => { c with laneAt := mapPut zeroNat c.laneAt (4 * e + lane) 0 })) hs
  simp only [laneLoss, List.headD_cons, if_neg hne, applyActs_cons]
  rw [linkView_sparesLinks (cmpEvent_sparesLinks _ _ _ _) _ e.isLt]
  exact (linkView_setLanes iAt e.isLt _).trans (LinkView.ext rfl rfl (Nat.mod_eq_of_lt hlt))

/-- A link goes DOWN with its last lane. -/
theorem laneLoss_link {s : State} (hs : s.Inv) (e : Fin 2) (lane : Fin 4) :
    linkView (runEffs s ((laneLoss e lane).drop 1)) e
      = if (linkView s e).lanes = 0 ∧ (linkView s e).state = 2 then { linkView s e with state := 0 } else linkView s e := by
  simp only [laneLoss, List.drop_one, List.tail_cons, runEffs_single]
  by_cases h : (linkView s e).lanes = 0 ∧ (linkView s e).state = 2
  · refine (congrArg (fun xs => linkView (applyActs s xs) e) (if_pos h)).trans ?_
    rw [if_pos h, applyActs_seqE, runEffs_cons, ← applyActs_seqE, linkView_besideLinks (forall_mem_seqE ?_ _) _ e.isLt,
      linkView_linkState hs e.isLt (by decide) rfl]
    exact List.forall_mem_cons.2 ⟨fun _ => List.forall_mem_singleton.2 rfl,
      List.forall_mem_cons.2 ⟨fun u x hx => (topology_sparesLinks u x hx).1,
        List.forall_mem_singleton.2 fun u x hx => (cmpEvent_sparesLinks u _ _ _ x hx).1⟩⟩
  · rw [if_neg h]
    exact congrArg (fun xs => linkView (applyActs s xs) e) (if_neg h)

theorem laneLoss_noMem (e : Fin 2) (lane : Nat) : ∀ f ∈ laneLoss e lane, ∀ u, ∀ x ∈ f u, x.mayMem = false := by
  have hevent : ∀ u b unit a, ∀ x ∈ cmpEvent u b unit a, x.mayMem = false := fun u b unit a => noMem_sparesLinks (cmpEvent_sparesLinks u b unit a)
  refine List.forall_mem_cons.2 ⟨fun u => List.forall_mem_cons.2 ⟨rfl, ?lane⟩, List.forall_mem_singleton.2 fun u => forall_mem_guarded ?link⟩
  case lane =>
    split
    · exact fun x hx => absurd hx List.not_mem_nil
    · exact List.forall_mem_cons.2 ⟨rfl, List.forall_mem_cons.2 ⟨rfl, hevent u _ _ _⟩⟩
  case link =>
    exact forall_mem_seqE (List.forall_mem_cons.2 ⟨fun v => noMem_ofLink e.isLt (linkState_ofLink e 0 v),
      List.forall_mem_cons.2 ⟨fun _ => List.forall_mem_singleton.2 rfl,
      List.forall_mem_cons.2 ⟨fun v => noMem_sparesLinks (topology_sparesLinks v), List.forall_mem_singleton.2 fun v => hevent v _ _ _⟩⟩⟩) u

theorem exec_laneLoss {s : State} (hs : s.Inv) (e : Fin 2) (lane : Fin 4)
    (hlane : bitsOf (rf s (Reg.CMP_LINK_STATE e) Fld.CMP_LINK_STATE_LANES) lane lane = 1) :
    ∃ t, exec (.laneLoss e lane) s = .next t ∧ sameMemory s t ∧ (linkView t e).lanes = (linkView s e).lanes - 2 ^ lane.val
      ∧ ((linkView s e).state = 2 → (linkView s e).lanes = 2 ^ lane.val → (linkView t e).state = 0) := by
  have hlink := laneLoss_link (applyActs_inv s ((laneLoss e lane).headD (fun _ => []) s) hs) e lane
  rw [laneLoss_lane hs e lane hlane, ← runEffs_first] at hlink
  refine ⟨_, rfl, sameMemory_runEffs (laneLoss_noMem e lane) s, ?lanes, fun htwo hlast => ?state⟩
  case lanes =>
    rw [hlink]
    split <;> rfl
  case state => rw [hlink, if_pos ⟨Nat.sub_eq_zero_of_le (Nat.le_of_eq hlast), htwo⟩]

theorem exec_laneLock {s : State} (hs : s.Inv) (hon : cmpOn s = true) (e : Fin 2) (lane : Fin 4)
    (hlane : bitsOf (rf s (Reg.CMP_LINK_STATE e) Fld.CMP_LINK_STATE_LANES) lane lane = 0) :
    ∃ t, exec (.laneLock e lane) s = .next t ∧ sameMemory s t ∧ t.cmp.laneAt = mapPut zeroNat s.cmp.laneAt (4 * e + lane) (now s + 1)
      ∧ (linkView t e).state = if (linkView s e).state = 0 then 1 else (linkView s e).state := by
  have hskip : ¬ (!cmpOn s ∨ bitsOf (rf s (Reg.CMP_LINK_STATE e) Fld.CMP_LINK_STATE_LANES) lane lane = 1) := by
    rw [hon, hlane]
    decide
  have iAt := applyAct_inv s (.cmp (fun c => { c with laneAt := mapPut zeroNat c.laneAt (4 * e + lane) (now s + 1) })) hs
  have hexec : exec (.laneLock e lane) s = nextBy s (laneLock e lane s) := rfl
  rw [hexec, laneLock, if_neg hskip]
  refine ⟨_, rfl, sameMemory_of_noMem (List.forall_mem_cons.2 ⟨rfl, forall_mem_guarded (noMem_ofLink e.isLt (linkState_ofLink e 1 s))⟩), ?_⟩
  rw [applyActs_cons]
  by_cases hdown : rf s (Reg.CMP_LINK_STATE e) Fld.CMP_LINK_STATE_STATE = 0
  · rw [if_pos hdown]
    exact ⟨congrArg Company.laneAt (cmp_ofLink e.isLt (linkState_ofLink e 1 s) iAt),
      (congrArg LinkView.state (linkView_linkState iAt e.isLt (by decide) rfl)).trans (if_pos hdown).symm⟩
  · rw [if_neg hdown]
    exact ⟨rfl, (if_neg hdown).symm⟩

/-! ## Links (R430) -/

/-- The links of ports in service reach other devices from now on. -/
def reachesNow (ea we : List Nat) : Eff := fun s =>
  if !cmpOn s then [] else [.cmp (fun c => { c with east := ea, west := we, lanesChanged := true })]

/-- What a change of reach and the stages after it leave. -/
theorem reachesNow_reaches {s : State} (hs : s.Inv) (hon : cmpOn s = true) (ea we : List Nat) {es : List Eff}
    (hes : ∀ e ∈ es, ∀ u, ∀ x ∈ e u, x.sparesLinks) {t : State} (ht : runEffs s (reachesNow ea we :: es) = t) :
    t.cmp.reachView = (ea, we, true) ∧ (∀ e < 2, linkView t e = linkView s e) ∧ sameMemory s t := by
  subst ht
  have hset : reachesNow ea we s = [.cmp (fun c => { c with east := ea, west := we, lanesChanged := true })] := if_neg (by rw [hon]; decide)
  have iSet := applyAct_inv s (.cmp (fun c => { c with east := ea, west := we, lanesChanged := true })) hs
  have hrest := forall_mem_seqE (P := Act.sparesLinks) hes
  rw [runEffs_cons, hset, applyActs_cons, applyActs_nil, ← applyActs_seqE]
  exact ⟨reachView_sparesLinks iSet (hrest _), fun e he => linkView_sparesLinks (hrest _) _ he,
    sameMemory_trans (sameMemory_applyAct s (.cmp _) rfl) (sameMemory_of_noMem (noMem_sparesLinks (hrest _)))⟩

/-- A link that goes DOWN changes its own state first, and what the links reach second. -/
theorem linkDown_stages (e : Fin 2) (ea we : List Nat) : linkDown (some e) ea we = (linkDown (some e) ea we).headD (fun _ => [])
    :: reachesNow (if some e = some 0 then [] else ea) (if some e = some 1 then [] else we) :: (linkDown (some e) ea we).drop 2 := rfl

/-- So does a link that comes UP. -/
theorem linkComesUp_stages (e : Fin 2) (peer : Nat) (lanes : BitVec 4) (ea we : List Nat) : linkComesUp (some e) peer lanes ea we
    = (linkComesUp (some e) peer lanes ea we).headD (fun _ => []) :: reachesNow ea we :: (linkComesUp (some e) peer lanes ea we).drop 2 := rfl

/-- A link that goes DOWN first loses its lanes and its state. -/
theorem linkDown_link {s : State} (hs : s.Inv) (e : Fin 2) (ea we : List Nat) :
    (∀ x ∈ (linkDown (some e) ea we).headD (fun _ => []) s, x.ofLink e = true)
      ∧ (linkView (applyActs s ((linkDown (some e) ea we).headD (fun _ => []) s)) e).state = 0 := by
  simp only [linkDown, List.headD_cons]
  split
  · next h => exact ⟨fun x hx => absurd hx List.not_mem_nil, h⟩
  · have hlanes := linkView_setLanes hs e.isLt 0
    refine ⟨List.forall_mem_cons.2 ⟨beq_self_eq_true _, linkState_ofLink e 0 s⟩, ?_⟩
    rw [applyActs_cons, linkView_linkState (applyAct_inv s _ hs) e.isLt (by decide) (by rw [hlanes])]

/-- Nothing is reached by the link that is DOWN. -/
theorem reach_of_downLink (e k : Fin 2) (l : List Nat) : (if some e = some k then [] else l) = if e.val = k.val then [] else l := by
  simp only [Option.some.injEq, Fin.ext_iff]

theorem exec_linkDown {s : State} (hs : s.Inv) (hon : cmpOn s = true) (e : Fin 2) (ea we : List (Fin 16)) :
    ∃ t, exec (.linkDown (some e) ea we) s = .next t ∧ sameMemory s t ∧ (linkView t e).state = 0
      ∧ t.cmp.reachView = (if some e = some 0 then [] else ea.map Fin.val, if some e = some 1 then [] else we.map Fin.val, true) := by
  obtain ⟨hof, hstate⟩ := linkDown_link hs e (ea.map Fin.val) (we.map Fin.val)
  have iDown := applyActs_inv s ((linkDown (some e) (ea.map Fin.val) (we.map Fin.val)).headD (fun _ => []) s) hs
  obtain ⟨hreach, hview, hmem⟩ := reachesNow_reaches (es := (linkDown (some e) (ea.map Fin.val) (we.map Fin.val)).drop 2) iDown
    ((cmpOn_ofLink e.isLt hof s).trans hon) (if some e = some 0 then [] else ea.map Fin.val) (if some e = some 1 then [] else we.map Fin.val)
    (List.forall_mem_singleton.2 fun u => forall_mem_guarded (List.forall_mem_append.2
      ⟨topology_sparesLinks u, cmpEvent_sparesLinks u _ _ _⟩)) rfl
  exact ⟨_, congrArg (fun es => Host.Outcome.next (runEffs s es)) (linkDown_stages e _ _),
    sameMemory_trans (sameMemory_of_noMem (noMem_ofLink e.isLt hof)) hmem, (congrArg LinkView.state (hview e e.isLt)).trans hstate, hreach⟩

/-- A link that comes UP first has its peer and lanes, and is UP where it has a lane. -/
theorem linkComesUp_link {s : State} (hs : s.Inv) (hon : cmpOn s = true) (e : Fin 2) (peer : Nat) (lanes : BitVec 4) (ea we : List Nat) :
    (∀ x ∈ (linkComesUp (some e) peer lanes ea we).headD (fun _ => []) s, x.ofLink e = true)
      ∧ linkView (applyActs s ((linkComesUp (some e) peer lanes ea we).headD (fun _ => []) s)) e
        = ⟨if lanes = 0 then 1 else 2, peer % 16, lanes.toNat⟩ := by
  have hin : ¬ (!cmpOn s) = true := by rw [hon]; decide
  have hst : (if lanes = 0 then 1 else 2) < 4 := by split <;> decide
  have iPeer := applyAct_inv s (.fld (Reg.CMP_LINK_STATE e) Fld.CMP_LINK_STATE_PEER peer) hs
  have iLanes := applyAct_inv _ (.fld (Reg.CMP_LINK_STATE e) Fld.CMP_LINK_STATE_LANES lanes.toNat) iPeer
  have hview := (linkView_setLanes iPeer e.isLt lanes.toNat).trans (congrArg (fun q => { q with lanes := lanes.toNat % 16 })
    (linkView_setPeer hs e.isLt peer))
  simp only [linkComesUp, List.headD_cons, if_neg hin]
  refine ⟨List.forall_mem_cons.2 ⟨beq_self_eq_true _, List.forall_mem_cons.2 ⟨beq_self_eq_true _, linkState_ofLink e _ s⟩⟩, ?_⟩
  rw [applyActs_cons, applyActs_cons, linkView_linkState iLanes e.isLt hst (by rw [hview]), hview]
  exact LinkView.ext rfl rfl (Nat.mod_eq_of_lt lanes.isLt)

theorem exec_linkUp {s : State} (hs : s.Inv) (hon : cmpOn s = true) (e : Fin 2) (peer : Fin 16) (lanes : BitVec 4) (ea we : List (Fin 16)) :
    ∃ t, exec (.linkUp (some e) peer lanes ea we) s = .next t ∧ sameMemory s t ∧ t.cmp.reachView = (ea.map Fin.val, we.map Fin.val, true)
      ∧ linkView t e = ⟨if lanes = 0 then 1 else 2, peer, lanes.toNat⟩ := by
  obtain ⟨hof, hlink⟩ := linkComesUp_link hs hon e peer lanes (ea.map Fin.val) (we.map Fin.val)
  have iUp := applyActs_inv s ((linkComesUp (some e) peer lanes (ea.map Fin.val) (we.map Fin.val)).headD (fun _ => []) s) hs
  obtain ⟨hreach, hview, hmem⟩ := reachesNow_reaches (es := (linkComesUp (some e) peer lanes (ea.map Fin.val) (we.map Fin.val)).drop 2) iUp
    ((cmpOn_ofLink e.isLt hof s).trans hon) (ea.map Fin.val) (we.map Fin.val)
    (List.forall_mem_cons.2 ⟨fun u => forall_mem_guarded (topology_sparesLinks u),
      List.forall_mem_singleton.2 fun u => forall_mem_guarded (stand_sparesLinks _ u)⟩) rfl
  exact ⟨_, congrArg (fun es => Host.Outcome.next (runEffs s es)) (linkComesUp_stages e peer lanes _ _),
    sameMemory_trans (sameMemory_of_noMem (noMem_ofLink e.isLt hof)) hmem, hreach,
    ((hview e e.isLt).trans hlink).trans (LinkView.ext rfl (Nat.mod_eq_of_lt peer.isLt) rfl)⟩

/-! ## The statement on time and links -/

/-- Settles O44: TIME cells by what a cell puts out, the rest of company time by its commands; lanes and links by what their stages leave of
the link's state register and of the devices reached. -/
theorem companyTimeAndLinks : Obligations.CompanyTimeAndLinks := by
  unfold Obligations.CompanyTimeAndLinks
  refine ⟨fun s h at_ => ⟨exec_timeCellSend, fun e => cells_timeCells, fun hok hup => exec_delayRequest hok hup at_,
    fun t1 t2 t3 t4 hok hup => exec_delayResponse hok hup t1 t2 t3 t4, ?time⟩,
    fun s hs hon => ⟨exec_laneLoss hs, exec_laneLock hs hon, ?down, ?up⟩⟩
  case time =>
    intro time256 edge num prio serial epoch hops lead hmine hother hconf hmember hlead hway
    exact ⟨exec_timeCell_follows hmine hother hconf hmember hlead hway at_ time256 edge num prio serial epoch hops, rfl⟩
  case down =>
    intro e ea we
    obtain ⟨t, hexec, hmem, hstate, hreach⟩ := exec_linkDown hs hon e ea we
    obtain ⟨heast, hrest⟩ := Prod.mk.inj hreach
    obtain ⟨hwest, hchanged⟩ := Prod.mk.inj hrest
    exact ⟨t, hexec, hmem, heast.trans (reach_of_downLink e 0 _), hwest.trans (reach_of_downLink e 1 _), hchanged, hstate⟩
  case up =>
    intro e peer lanes ea we
    obtain ⟨t, hexec, hmem, hreach, hview⟩ := exec_linkUp hs hon e peer lanes ea we
    obtain ⟨heast, hrest⟩ := Prod.mk.inj hreach
    exact ⟨t, hexec, hmem, heast, congrArg Prod.fst hrest, congrArg LinkView.peer hview, congrArg LinkView.lanes hview,
      congrArg LinkView.state hview⟩

end Sys2Proof.Machine
end

section
/-! PROOFS of the statement on roles and requests (10_company.md R415, R417 to R420, R428): what each command's stage makes of a state that
meets its conditions, then the statement. -/

namespace Sys2Proof.Machine

/-! ## Roles and requests (R415, R417 to R420, R428) -/

/-- A request of another epoch is answered at once. -/
theorem takeAsk_stale {s : State} {a : RoleAsk} (hother : a.from_ ≠ ownIndex s) {epoch : Nat}
    (hepoch : epoch ≠ rf s Reg.CMP_EPOCH Fld.CMP_EPOCH_EPOCH) :
    takeAsk a epoch s
      = sendTo a.from_ clCONTROL 1 0 [ownIndex s, rf s Reg.CMP_EPOCH Fld.CMP_EPOCH_LEAD_PRIO, ownSerial s, a.from_, stSTALE_ROLE] s := by
  simp only [takeAsk, if_pos hepoch, if_neg hother]

/-- A request of this epoch that is no foreign HAND_OFF waits for commit close. -/
theorem takeAsk_waits {s : State} {a : RoleAsk} (hkind : a.kind ≠ 2) :
    takeAsk a (rf s Reg.CMP_EPOCH Fld.CMP_EPOCH_EPOCH) s = [.cmp (fun c => { c with asks := c.asks ++ [a] })] := by
  simp only [takeAsk, ne_eq, not_true_eq_false, if_false, hkind, false_and]

section Candidacy

variable {s : State} {h : CellHead} (hmine : cellMine s h = true) (hother : h.from_.val ≠ ownIndex s) (hconf : s.cmp.conflict = false)
include hmine hother hconf

/-- A request that reaches the lead is taken there, and goes on. -/
theorem exec_controlCandidacy_asks (hlead : role s = rlLEAD) {kind : Fin 3} (hkind : kind.val ≠ 0) (target : Fin 16) (prio serial epoch : Nat) :
    exec (.controlCandidacy h kind target prio serial epoch) s = .next (runEffs s [takeAsk ⟨h.from_, kind, target, prio, serial⟩ epoch,
      forwardCell h clCONTROL 4 0 [kind, target, prio, serial, epoch]]) := by
  show Host.Outcome.next (runEffs s (controlCandidacy h kind target prio serial epoch)) = _
  rw [controlCandidacy, runEffs_skip (indexConflict_other hother), if_neg hkind]
  refine congrArg Host.Outcome.next (runEffs_congr ?_ _)
  rw [if_neg (not_discarded hmine hconf), if_neg hkind, if_pos hlead]

theorem exec_controlCandidacy_waits (hlead : role s = rlLEAD) {kind : Fin 3} (hkind : kind.val = 1) (target : Fin 16) (prio serial : Nat) :
    exec (.controlCandidacy h kind target prio serial (rf s Reg.CMP_EPOCH Fld.CMP_EPOCH_EPOCH)) s
      = .next (runEffs s [fun _ => [.cmp (fun c => { c with asks := c.asks ++ [⟨h.from_, kind, target, prio, serial⟩] })],
        forwardCell h clCONTROL 4 0 [kind, target, prio, serial, rf s Reg.CMP_EPOCH Fld.CMP_EPOCH_EPOCH]]) := by
  rw [exec_controlCandidacy_asks hmine hother hconf hlead (by omega)]
  refine congrArg Host.Outcome.next (runEffs_congr (takeAsk_waits ?_) _)
  dsimp only
  omega

theorem exec_controlCandidacy_stale (hlead : role s = rlLEAD) {kind : Fin 3} (hkind : kind.val ≠ 0) (target : Fin 16) (prio serial : Nat) {e : Nat}
    (he : e ≠ rf s Reg.CMP_EPOCH Fld.CMP_EPOCH_EPOCH) : exec (.controlCandidacy h kind target prio serial e) s
      = .next (runEffs s [sendTo h.from_ clCONTROL 1 0 [ownIndex s, rf s Reg.CMP_EPOCH Fld.CMP_EPOCH_LEAD_PRIO, ownSerial s, h.from_, stSTALE_ROLE],
        forwardCell h clCONTROL 4 0 [kind, target, prio, serial, e]]) := by
  rw [exec_controlCandidacy_asks hmine hother hconf hlead hkind]
  exact congrArg Host.Outcome.next (runEffs_congr (takeAsk_stale hother he) _)

/-- A candidacy in an election is kept, in place of an earlier one of its device. -/
theorem exec_controlCandidacy_stands (helect : s.cmp.electing = true) (hform : formable s = false) (target : Fin 16) (prio serial epoch : Nat) :
    exec (.controlCandidacy h 0 target prio serial epoch) s = .next (runEffs s [
        fun _ => [.cmp (fun c => { c with cands := c.cands.filter (fun k => k.dev != h.from_.val) ++ [⟨h.from_, prio, serial⟩] })],
        forwardCell h clCONTROL 0 0 [0, target, prio, serial, epoch]]) := by
  have hkeeps : (s.cmp.electing || formable s) = true := by rw [helect]; rfl
  have hzero : (0 : Fin 3).val = 0 := rfl
  have hstill : ∀ f : Company → List Cand, ¬ (formable (applyActs s [.cmp (fun c => { c with cands := f c })])
      && !(applyActs s [.cmp (fun c => { c with cands := f c })]).cmp.standing) = true := fun f => by
    have hsame : formable (applyActs s [.cmp (fun c => { c with cands := f c })]) = formable s := rfl
    rw [hsame, hform]
    exact Bool.false_ne_true
  show Host.Outcome.next (runEffs s (controlCandidacy h (0 : Fin 3).val target prio serial epoch)) = _
  rw [controlCandidacy, runEffs_skip (indexConflict_other hother)]
  refine congrArg Host.Outcome.next (runEffs_congr ?_ _)
  rw [if_neg (not_discarded hmine hconf), if_pos hzero, if_pos hkeeps]
  simp only [seqE, if_neg (hstill _), List.append_nil]

end Candidacy

section FromLead

variable {s : State} {h : CellHead} (hmine : cellMine s h = true) (hmember : role s = rlMEMBER) (hlead : h.from_.val = leadIndex s)
include hmine hmember hlead

theorem exec_controlLeadDecision (hnone : s.cmp.decision = none) (w : Fin 16) (prio serial : Nat) (outs : List (Nat × Nat)) :
    exec (.controlLeadDecision h w prio serial outs) s
      = .next (runEffs s [fun _ => [.cmp (fun c => { c with decision := some ⟨w, prio, serial, outs⟩ })],
        forwardCell h clCONTROL 1 0 ([w.val, prio, serial] ++ outs.flatMap (fun o => [o.1, o.2]))]) := by
  have htaken : (cellMine s h && h.from_.val == leadIndex s && role s == rlMEMBER) = true := by
    simp only [hmine, hmember, hlead, beq_self_eq_true, Bool.and_self]
  show Host.Outcome.next (runEffs s (leadDecision h w prio serial outs)) = _
  rw [leadDecision, runEffs_cons, if_pos htaken]
  refine congrArg (fun u => Host.Outcome.next (runEffs u _)) (congrArg (fun q => { s with cmp := q }) ?_)
  simp only [hnone, List.nil_append]

theorem exec_controlFieldsAnnounce (fields : List (Nat × Word)) : exec (.controlFieldsAnnounce h fields) s
    = .next (runEffs s [fun _ => [.cur (fun c => { c with commits := c.commits
        ++ [⟨8, 0, (fields.filter (fun f => companyWide f.1)).map (fun f => ⟨f.1, 0xFFFFFFFF, f.2, 0, 0, 0⟩), now s, false, none,
          some ((rf s Reg.CUR_NUM Fld.CUR_NUM_NUM + 2) % 2 ^ 32), false⟩] })],
      forwardCell h clCONTROL 2 0 (fields.flatMap (fun f => [f.1, f.2.toNat]))]) := by
  have htaken : (cellMine s h && role s == rlMEMBER && h.from_.val == leadIndex s) = true := by
    simp only [hmine, hmember, hlead, beq_self_eq_true, Bool.and_self]
  show Host.Outcome.next (runEffs s (fieldsAnnounce h fields)) = _
  rw [fieldsAnnounce]
  exact congrArg Host.Outcome.next (runEffs_congr (if_pos htaken) _)

end FromLead

section Census

variable {s : State} {h : CellHead} (hmine : cellMine s h = true)
include hmine

theorem exec_controlCensusRequest_due (hmember : role s = rlMEMBER) {num : Nat} (gen : Nat)
    (htwo : 2 ≤ (num + 2 ^ 32 - rf s Reg.CUR_NUM Fld.CUR_NUM_NUM) % 2 ^ 32)
    (hhalf : (num + 2 ^ 32 - rf s Reg.CUR_NUM Fld.CUR_NUM_NUM) % 2 ^ 32 < 2 ^ 31) : exec (.controlCensusRequest h num gen none) s
      = .next (runEffs s [fun _ => [.cmp (fun c => { c with census := some (num, gen) })], forwardCell h clCONTROL 3 0 [num, gen]]) := by
  show Host.Outcome.next (runEffs s (censusRequest h num gen none)) = _
  refine congrArg Host.Outcome.next (runEffs_congr ?_ _)
  generalize (num + 2 ^ 32 - rf s Reg.CUR_NUM Fld.CUR_NUM_NUM) % 2 ^ 32 = ahead at *
  have hdue : ¬ (ahead = 0 ∨ 2 ^ 31 ≤ ahead ∨ (ahead = 1 ∧ s.cur.closed = true)) := by omega
  simp only [hmine, Bool.not_true, Bool.false_eq_true, if_false, hmember, ne_eq, not_true_eq_false, if_neg hdue]

theorem exec_controlCensusRequest_report (hlead : role s = rlLEAD)
    (hnew : bitsOf (rf s Reg.CMP_CENSUS_STAT Fld.CMP_CENSUS_STAT_MASK) h.from_ h.from_ = 0) (num : Nat) :
    let gen := rf s Reg.CMP_CENSUS_STAT Fld.CMP_CENSUS_STAT_GEN
    exec (.controlCensusRequest h num gen (some true)) s
      = .next (runEffs s [fun _ => [.inc Reg.CMP_CENSUS_STAT Fld.CMP_CENSUS_STAT_MASK (2 ^ h.from_.val)],
        forwardCell h clCONTROL 3 1 [num, gen, 1]]) := by
  intro gen
  have hbit : ¬ bitsOf (rf s Reg.CMP_CENSUS_STAT Fld.CMP_CENSUS_STAT_MASK) h.from_ h.from_ = 1 := by omega
  show Host.Outcome.next (runEffs s (censusRequest h num gen (some true))) = _
  refine congrArg Host.Outcome.next (runEffs_congr ?_ _)
  simp only [hmine, Bool.not_true, Bool.false_eq_true, if_false, hlead, gen, and_self, if_true, if_neg hbit]

end Census

/-! ## Requests of T0 (R417, R420, R428) -/

theorem exec_cmpRoleReq {s : State} {a : Acc} (ha : actsFor a = 0) (hr : reaches s a Reg.CMP_ROLE_REQ true) (v : Word) :
    exec (.cmpRoleReq a v) s = .next (runEffs s (roleReq 0 v)) := by
  show nextBy s (gate a Reg.CMP_ROLE_REQ true false (fun u => seqE (roleReq u v)) s) = _
  rw [gate_reaches hr, ha, nextBy, applyActs_seqE]

/-- CMP_ROLE_STAT with this curtain and a status. -/
def roleStat (s : State) (st : Nat) : Act :=
  .reg Reg.CMP_ROLE_STAT (putF (putF 0 Fld.CMP_ROLE_STAT_NUM (rf s Reg.CUR_NUM Fld.CUR_NUM_NUM)) Fld.CMP_ROLE_STAT_STATUS st)

section RoleReq

variable {s : State} {v : Word}

theorem roleReq_refused (hkind : getF v Fld.CMP_ROLE_REQ_KIND = 0 ∨ getF v Fld.CMP_ROLE_REQ_KIND = 3) :
    runEffs s (roleReq 0 v) = applyActs s (roleStat s stBAD_ARG :: tenantFault s 0 stBAD_ARG Reg.CMP_ROLE_REQ) := by
  simp only [roleReq, runEffs_single, ne_eq, not_true_eq_false, if_false, if_pos hkind]
  rfl

/-- TAKE_LEAD and HAND_OFF are no malformed kinds. -/
theorem kind_wellFormed (hkind : getF v Fld.CMP_ROLE_REQ_KIND = 1 ∨ getF v Fld.CMP_ROLE_REQ_KIND = 2) :
    ¬ (getF v Fld.CMP_ROLE_REQ_KIND = 0 ∨ getF v Fld.CMP_ROLE_REQ_KIND = 3) := by omega

theorem roleReq_sent (hkind : getF v Fld.CMP_ROLE_REQ_KIND = 1 ∨ getF v Fld.CMP_ROLE_REQ_KIND = 2) (hmember : role s = rlMEMBER) :
    runEffs s (roleReq 0 v) = applyActs s (roleStat s stBUSY :: sendTo (leadIndex s) clCONTROL 4 0 [getF v Fld.CMP_ROLE_REQ_KIND,
      getF v Fld.CMP_ROLE_REQ_TARGET, getF v Fld.CMP_ROLE_REQ_PRIO, ownSerial s, getF v Fld.CMP_ROLE_REQ_EPOCH] s) := by
  simp only [roleReq, runEffs_single, ne_eq, not_true_eq_false, if_false, if_neg (kind_wellFormed hkind), if_neg (ne_lead_of_member hmember),
    if_pos hmember]
  rfl

theorem roleReq_taken (hkind : getF v Fld.CMP_ROLE_REQ_KIND = 1 ∨ getF v Fld.CMP_ROLE_REQ_KIND = 2) (hlead : role s = rlLEAD) :
    runEffs s (roleReq 0 v) = runEffs s [fun _ => [roleStat s stBUSY], takeAsk ⟨ownIndex s, getF v Fld.CMP_ROLE_REQ_KIND,
      getF v Fld.CMP_ROLE_REQ_TARGET, getF v Fld.CMP_ROLE_REQ_PRIO, ownSerial s⟩ (getF v Fld.CMP_ROLE_REQ_EPOCH)] := by
  simp only [roleReq, runEffs_single, ne_eq, not_true_eq_false, if_false, if_neg (kind_wellFormed hkind), if_pos hlead, applyActs_seqE]
  rfl

theorem roleReq_unreachable (hkind : getF v Fld.CMP_ROLE_REQ_KIND = 1 ∨ getF v Fld.CMP_ROLE_REQ_KIND = 2)
    (hrole : role s = rlALONE ∨ role s = rlPENDING) : runEffs s (roleReq 0 v) = applyActs s [roleStat s stUNREACHABLE] := by
  have hlead : ¬ role s = rlLEAD := by rcases hrole with h | h <;> rw [h] <;> decide
  have hmember : ¬ role s = rlMEMBER := by rcases hrole with h | h <;> rw [h] <;> decide
  simp only [roleReq, runEffs_single, ne_eq, not_true_eq_false, if_false, if_neg (kind_wellFormed hkind), if_neg hlead, if_neg hmember]
  rfl

end RoleReq

theorem exec_cmpCensus {s : State} {a : Acc} (ha : actsFor a = 0) (hr : reaches s a Reg.CMP_CENSUS true) (v : Word) :
    exec (.cmpCensus a v) s = .next (runEffs s (censusGo 0 v)) := by
  show nextBy s (gate a Reg.CMP_CENSUS true false (fun u => seqE (censusGo u v)) s) = _
  rw [gate_reaches hr, ha, nextBy, applyActs_seqE]

section CensusGo

variable {s : State} {v : Word} (hgo : getF v Fld.CMP_CENSUS_GO = 1)
include hgo

theorem censusGo_announces (hlead : role s = rlLEAD) :
    let num := (rf s Reg.CUR_NUM Fld.CUR_NUM_NUM + 1 + max 2 (rf s Reg.CMP_CTRL Fld.CMP_CTRL_CENSUS_AHEAD)) % 2 ^ 32
    let gen := (rf s Reg.CMP_CENSUS_STAT Fld.CMP_CENSUS_STAT_GEN + 1) % 65536
    runEffs s (censusGo 0 v) = applyActs s (.reg Reg.CMP_CENSUS_STAT (putF 0 Fld.CMP_CENSUS_STAT_GEN gen)
      :: .cmp (fun c => { c with census := some (num, gen) }) :: broadcast clCONTROL 3 0 [num, gen] s) := by
  intro num gen
  simp only [censusGo, runEffs_single, ne_eq, not_true_eq_false, if_false, hgo, hlead, Nat.one_ne_zero]
  rfl

theorem censusGo_refused (hlead : role s ≠ rlLEAD) :
    runEffs s (censusGo 0 v) = applyActs s (tenantFault s 0 stBAD_ARG Reg.CMP_CENSUS) := by
  simp only [censusGo, runEffs_single, ne_eq, not_true_eq_false, if_false, hgo, hlead, not_false_eq_true, if_true, Nat.one_ne_zero]

end CensusGo

theorem exec_leadLost {s : State} (hmember : role s = rlMEMBER) (hquiet : leadLossCurtains s ≤ s.cmp.quiet) (helect : s.cmp.electing = false) :
    exec .leadLost s = .next (runEffs s [
      fun s => .cmp (fun c => { c with electing := true, cands := [] }) :: cmpEvent s 6 ctlUnit (leadIndex s),
      fun s => if rf s Reg.CMP_CTRL Fld.CMP_CTRL_AUTO_LEAD = 1 ∧ 0 < ownPrio s then stand (ownPrio s) s else []]) := by
  have hlost : role s = rlMEMBER ∧ leadLossCurtains s ≤ s.cmp.quiet ∧ (!s.cmp.electing) = true := ⟨hmember, hquiet, by rw [helect]; rfl⟩
  show nextBy s (leadLost s) = _
  rw [leadLost, if_pos hlost, nextBy, applyActs_seqE]

/-! ## The statement on roles and requests -/

/-- Settles O45: a cell's stage on a device that takes it, and a write's stage past the gate, each by the branch that its conditions name. -/
theorem companyRolesAndRequests : Obligations.CompanyRolesAndRequests := by
  unfold Obligations.CompanyRolesAndRequests
  refine ⟨?cells, ?requests⟩
  case cells =>
    intro s h hmine hother hconf
    refine ⟨fun kind target prio serial hlead hkind => exec_controlCandidacy_waits hmine hother hconf hlead hkind target prio serial,
      fun kind target prio serial e hlead hkind he => exec_controlCandidacy_stale hmine hother hconf hlead hkind target prio serial he,
      fun target prio serial e helect hform => exec_controlCandidacy_stands hmine hother hconf helect hform target prio serial e,
      fun ⟨hmember, hlead⟩ w prio serial outs hnone => exec_controlLeadDecision hmine hmember hlead hnone w prio serial outs,
      fun ⟨hmember, hlead⟩ fields => exec_controlFieldsAnnounce hmine hmember hlead fields,
      fun num gen hmember htwo hhalf => exec_controlCensusRequest_due hmine hmember gen htwo hhalf,
      fun num hlead hnew => exec_controlCensusRequest_report hmine hlead hnew num⟩
  case requests =>
    intro s a v ha
    refine ⟨fun hr => ?role, fun hr hgo => ?census, exec_leadLost⟩
    case role =>
      rw [exec_cmpRoleReq ha hr]
      exact ⟨fun hkind => congrArg Host.Outcome.next (roleReq_refused hkind),
        fun hkind hmember => congrArg Host.Outcome.next (roleReq_sent hkind hmember),
        fun hkind hlead => congrArg Host.Outcome.next (roleReq_taken hkind hlead),
        fun hkind hrole => congrArg Host.Outcome.next (roleReq_unreachable hkind hrole)⟩
    case census =>
      rw [exec_cmpCensus ha hr]
      exact ⟨fun hlead => congrArg Host.Outcome.next (censusGo_announces hgo hlead),
        fun hlead => congrArg Host.Outcome.next (censusGo_refused hgo hlead)⟩

end Sys2Proof.Machine
end

section
/-! PROOFS of the statement on data in cells (10_company.md R412, R423, R424, R427, R429, 12_packer.md R488): shares, records and bulk
transfers, then the statement. -/

namespace Sys2Proof.Machine

/-! ## Shared blocks (R423, R488) -/

/-- A block after the window's first is sent or waits. -/
theorem exec_shareBlockReady {s : State} {k : Fin 6} {bx by_ : Nat} (hshared : blockShared s k bx by_ = true)
    (hlater : firstBlock s k bx by_ = false) : exec (.shareBlockReady k bx by_) s = nextBy s (if (freeLane s).isSome then sendBlock k bx by_ true s
    else [.cmp (fun c => { c with shareWait := c.shareWait ++ [⟨k, bx, by_, now s⟩] })]) := by
  have hopen : ¬ (blockShared s k bx by_ && firstBlock s k bx by_) = true := by
    rw [hlater, Bool.and_false]
    decide
  have hin : ¬ (!blockShared s k bx by_) = true := by
    rw [hshared]
    decide
  show Host.Outcome.next (runEffs s (shareReady k bx by_)) = _
  rw [shareReady, runEffs_skip (if_neg hopen), runEffs_single, if_neg hin]

/-- The oldest waiting block is sent raw 2 us after it came. -/
theorem exec_shareRawTimeout {s : State} {w : ShareWait} {ws : List ShareWait} (hwait : s.cmp.shareWait = w :: ws) :
    let u := applyActs s [.clockTo (w.since + 2000)]
    exec .shareRawTimeout s = nextBy u (.cmp (fun c => { c with shareWait := c.shareWait.drop 1 })
      :: .inc Reg.PKR_RAW_SHARE Fld.PKR_RAW_SHARE_COUNT 1 :: sendBlock w.share w.bx w.by_ false u) := by
  intro u
  have hstill : u.cmp.shareWait = w :: ws := hwait
  show Host.Outcome.next (runEffs s shareRaw) = _
  simp only [shareRaw, runEffs_cons, runEffs_nil, hwait]
  simp only [hstill, u]

theorem exec_sourceCell {s : State} {h : CellHead} (hmine : cellMine s h = true) {bs : List Byte} (hlen : bs.length ≤ 256)
    (share frame bx by_ : Nat) (fmt : FrameFmt) (win : ShareWin) (packed last : Bool) :
    exec (.sourceCell h share frame bx by_ fmt win packed last bs) s
      = .next (runEffs s ((receivers s h.from_ share).flatMap (fun x => recvCell x frame bx by_ fmt win packed last bs)
        ++ [forwardCell h clSOURCE ((if packed then 1 else 0) + (if last then 2 else 0))
          (share + 256 * (frame % 65536) + 2 ^ 24 * (by_ * blocksX fmt + bx))
          ([fmt.sampling, fmt.depth, fmt.range, fmt.tf, fmt.color, fmt.width, fmt.height, win.ns] ++ bs.map BitVec.toNat)])) := by
  have htaken : (cellMine s h && decide (bs.length ≤ 256)) = true := by
    rw [hmine, decide_eq_true hlen]
    rfl
  show Host.Outcome.next (runEffs s (sourceCell h share frame bx by_ fmt win packed last bs)) = _
  exact congrArg Host.Outcome.next (runEffs_stages (if_pos htaken) _)

/-! ## Records (R429) -/

theorem exec_promptCell {s : State} {h : CellHead} (hmine : cellMine s h = true) (hlead : role s = rlLEAD)
    (stamp unit code kind level : Nat) (co : Bool) (block count : Nat) (tenants : BitVec 8) (a : BitVec 64) :
    ∃ t, exec (.promptCell h stamp unit code kind level co block count tenants a) s = .next t ∧ sameMemory s t ∧ t.regs = s.regs
      ∧ t.book = { s.book with
          companyRing := bookInsert ⟨stamp, unit % 4096 + 4096 * h.from_.val, code, kind, level, co, block, count, tenants, a⟩
            s.book.companyRing } := by
  have htaken : (cellMine s h && role s == rlLEAD) = true := by
    rw [hmine, hlead]
    rfl
  refine ⟨_, rfl, ?_⟩
  rw [promptCell, runEffs_cons, if_pos htaken, runEffs_single]
  obtain ⟨hregs, hbook, hmem⟩ := forwardCell_leaves (applyActs s [.book (fun b => { b with
    companyRing := bookInsert ⟨stamp, unit % 4096 + 4096 * h.from_.val, code, kind, level, co, block, count, tenants, a⟩ b.companyRing })])
    h clPROMPT 0 0 [stamp, unit, code, kind, level, if co then 1 else 0, block, count, tenants.toNat, a.toNat]
  exact ⟨hmem, hregs, hbook⟩

/-! ## Bulk transfers (R412, R427) -/

/-- Bytes in sequence go to their window, and the cell is acknowledged. -/
theorem exec_bulkCell_inSequence {s : State} {h : CellHead} (hmine : cellMine s h = true) {dst len off : Nat} {bs : List Byte}
    (hlen : bs.length ≤ 256) (hgood : (rxOf s h.from_ dst len off).bad = false) (hnext : (rxOf s h.from_ dst len off).done_ = off)
    (hfits : off + bs.length ≤ len) :
    exec (.bulkCell h dst len off bs) s = .next (runEffs s [
      fun s' => dramStore s' (dst + off) bs ++ [.cmp (fun c => { c with rxBulk := c.rxBulk.filter (fun p => p.from_ != h.from_.val)
          ++ [{ rxOf s h.from_ dst len off with done_ := off + bs.length }] })]
        ++ sendTo h.from_ clBULK 1 0 [h.seq, stOK] s',
      forwardCell h clBULK 0 (dst + off) ([dst, len, off] ++ bs.map BitVec.toNat)]) := by
  have htaken : ¬ (!(cellMine s h && decide (bs.length ≤ 256))) = true := by
    rw [hmine, decide_eq_true hlen]
    decide
  have hbad : ¬ (rxOf s h.from_ dst len off).bad = true := by
    rw [hgood]
    decide
  have hle : off ≤ (rxOf s h.from_ dst len off).done_ := Nat.le_of_eq hnext.symm
  show Host.Outcome.next (runEffs s (bulkArrives h dst len off bs)) = _
  refine congrArg Host.Outcome.next (runEffs_congr ?_ _)
  simp only [if_neg htaken, if_neg hbad, if_pos hle, if_pos (And.intro hnext.symm hfits)]

/-- The acknowledgement of the last cell in flight ends a transfer that is sent. -/
theorem exec_bulkAck_last {s : State} {h : CellHead} (hmine : cellMine s h = true) {x : Xfer} {c : Nat × Nat × Nat} (hx : s.cmp.xfer = some x)
    (hdest : x.dest = h.from_.val) (hflight : x.flight = [c]) (hsent : xferLen s ≤ x.sent) :
    exec (.bulkAck h c.1 stOK) s = .next (runEffs s [xferDone stOK, forwardCell h clBULK 1 0 [c.1, stOK]]) := by
  have hfirst : [c].findIdx? (fun q => q.1 == c.1) = some 0 := by simp
  show Host.Outcome.next (runEffs s (bulkAck h c.1 stOK)) = _
  refine congrArg Host.Outcome.next (runEffs_congr ?_ _)
  simp only [hmine, Bool.not_true, Bool.false_eq_true, if_false, hx, hdest, ne_eq, not_true_eq_false, hflight, hfirst]
  exact if_pos ⟨rfl, hsent⟩

theorem exec_xferUnreachable {s : State} {x : Xfer} {t : Nat} (hx : s.cmp.xfer = some x) (hdead : x.deadAt = some t) :
    let u := applyActs s [.clockTo (t + 100000000)]
    exec .xferUnreachable s = nextBy u (xferDone stUNREACHABLE u) := by
  intro u
  have hstill : u.cmp.xfer = some x := hx
  show Host.Outcome.next (runEffs s xferUnreachable) = _
  simp only [xferUnreachable, runEffs_cons, runEffs_nil, hx, hdead]
  simp only [hstill, hdead, Option.isSome_some, if_true, u]

theorem exec_cmpXferGo {s : State} {a : Acc} (hr : reaches s a Reg.XFER_CTRL true) (ha : actsFor a = 0) (v : Word) :
    exec (.cmpXferGo a v) s = .next (runEffs s (xferGo 0 v)) := by
  show nextBy s (gate a Reg.XFER_CTRL true false (fun u => seqE (xferGo u v)) s) = _
  rw [gate_reaches hr, ha, nextBy, applyActs_seqE]

section XferGo

variable {s : State} {v : Word} (hgo : getF v Fld.XFER_CTRL_GO = 1)
include hgo

theorem xferGo_busy (hbusy : rf s Reg.XFER_STAT Fld.XFER_STAT_STATE = 1) :
    runEffs s (xferGo 0 v) = applyActs s (tenantFault s 0 stBUSY Reg.XFER_CTRL) := by
  simp only [xferGo, runEffs_single, ne_eq, not_true_eq_false, if_false, hgo, Nat.one_ne_zero, if_pos hbusy]

theorem xferGo_starts (hidle : rf s Reg.XFER_STAT Fld.XFER_STAT_STATE ≠ 1) :
    runEffs s (xferGo 0 v) = runEffs s [
      fun s => [.reg Reg.XFER_STAT (putF (putF 0 Fld.XFER_STAT_STATE 1) Fld.XFER_STAT_STATUS stBUSY), .cmp (fun c => { c with
        xfer := some ⟨getF v Fld.XFER_CTRL_DEST, 0, [], if (route s (getF v Fld.XFER_CTRL_DEST)).isSome then none else some (now s)⟩ })],
      fun s => if xferLen s = 0 then xferDone stOK s else [], bulkSend bulkWindow] := by
  simp only [xferGo, runEffs_single, ne_eq, not_true_eq_false, if_false, hgo, Nat.one_ne_zero, if_neg hidle, applyActs_seqE]

end XferGo

/-! ## The statement on data in cells -/

/-- Settles O46: shares and transfers by what their first stages make of the clock and what waits, cells by the branch of a device that
takes them. -/
theorem cellsCarryData : Obligations.CellsCarryData := by
  unfold Obligations.CellsCarryData
  intro s h
  refine ⟨?share, fun w ws hwait => exec_shareRawTimeout hwait, fun hmine => ⟨?source, ?prompt, ?bulk, ?ack⟩,
    fun x t hx hdead => exec_xferUnreachable hx hdead, ?go⟩
  case share =>
    intro k bx by_ hshared hlater
    rw [exec_shareBlockReady hshared hlater]
    refine ⟨fun hfree => by rw [if_pos hfree], fun hfull => ?_⟩
    rw [hfull, if_neg (by decide)]
  case source =>
    intro share frame bx by_ fmt win packed last bs hlen
    exact exec_sourceCell hmine hlen share frame bx by_ fmt win packed last
  case prompt =>
    intro stamp unit code kind level co block count tenants a hlead
    exact exec_promptCell hmine hlead stamp unit code kind level co block count tenants a
  case bulk =>
    intro dst len off bs hlen q hgood hnext hfits
    exact exec_bulkCell_inSequence hmine hlen hgood hnext hfits
  case ack =>
    intro x c hx hdest hflight hsent
    exact exec_bulkAck_last hmine hx hdest hflight hsent
  case go =>
    intro a v hr ha hgo
    rw [exec_cmpXferGo hr ha]
    exact ⟨fun hbusy => congrArg Host.Outcome.next (xferGo_busy hgo hbusy), fun hidle _ => congrArg Host.Outcome.next (xferGo_starts hgo hidle)⟩

end Sys2Proof.Machine
end

section
/-! PROOFS of the statement on banks and atomics (11_memory.md R438 to R440, R442, R446 to R448). First what events leave and what a row
of the register map gives its elements, then the banks' owners, power, scrubbing and window, then the statement. -/

namespace Sys2Proof.Machine

/-! ## Events and fields -/

/-- An event raised with a level is status bits and a record. -/
theorem mem_eventLv {s : State} {blk b lvl unit : Nat} {ts : List Nat} {a : BitVec 64} {x : Act} (h : x ∈ eventLv s blk b lvl ts unit a) :
    (∃ t, x = .evt blk t b) ∨ ∃ r, x = .log r := by
  rcases List.mem_append.1 h with h | h
  · obtain ⟨t, -, rfl⟩ := List.mem_map.1 h
    exact .inl ⟨t, rfl⟩
  · exact .inr ⟨_, List.mem_singleton.1 h⟩

/-- What of the block an event leaves: the fuses, the banks' check bits, the DRAM controller, system state. -/
def unitView (s : State) : Fuses × MemUnit × DramUnit × Sys := (s.fuses, s.mem, s.ddr, s.sys)

/-- Status bits and records of block `blk` leave memory, what `unitView` shows and every other register. -/
theorem notices_leave {blk b : Nat} {xs : List Act} (h : ∀ x ∈ xs, (∃ t, x = .evt blk t b) ∨ ∃ r, x = .log r) {s : State} (hs : s.Inv) :
    sameMemory s (applyActs s xs) ∧ unitView (applyActs s xs) = unitView s
      ∧ ∀ r, (∀ t, evtStatus blk t ≠ r) → r ≠ Reg.PB_UNIT_LOST → rd (applyActs s xs) r = rd s r := by
  refine ⟨sameMemory_of_noMem fun x hx => ?mem, applyActs_keeps unitView (fun x hx u _ => ?view) hs,
    fun r hevt hlog => rd_applyActs_of_forall (fun x hx => ?reg) s⟩
  all_goals rcases h x hx with ⟨t, rfl⟩ | ⟨q, rfl⟩
  case mem.inl => rfl
  case mem.inr => rfl
  case view.inl => simp [unitView]
  case view.inr => rfl
  case reg.inl => exact beq_eq_false_iff_ne.2 (hevt t)
  case reg.inr => exact beq_eq_false_iff_ne.2 hlog

/-- A row's bits are implemented at each of its elements that no row before it names. -/
theorem regImpl_of_row {a : Nat} {pre post : List RegRow} {r : RegRow} {ix : List Nat} (hrows : blockRows a = pre ++ r :: post)
    (haligned : a % 4 = 0) (hpre : ∀ q ∈ pre, strideIdx q.strides (a - q.base) = none) (hbase : r.base ≤ a)
    (hix : strideIdx r.strides (a - r.base) = some ix) : regImpl a = rowImpl r := by
  have hrow : regRow? a = some (r, ix) := by
    rw [regRow?, if_pos haligned, hrows, findRow_skips hpre, findRow, if_pos hbase, hix]
  rw [regImpl, hrow]

theorem strideIdx_words {n cnt : Nat} (h : n < cnt) : strideIdx [(0x4, cnt)] (0x4 * n) = some [n] := by
  simp [strideIdx, h]

theorem strideIdx_beyond {cnt off : Nat} (h : 4 * cnt ≤ off) : strideIdx [(0x4, cnt)] off = none :=
  if_neg (by omega)

theorem regImpl_bankOwner {n : Nat} (hn : n < 512) : regImpl (Reg.BANK_OWNER n) = 0xFFFF00FF := by
  have hblock : Reg.BANK_OWNER n / 0x100000 = 10 := by unfold Reg.BANK_OWNER; omega
  have hrows : blockRows (Reg.BANK_OWNER n) = [] ++ rowsMem := by
    unfold blockRows
    rw [hblock]
    rfl
  have hoff : Reg.BANK_OWNER n - 0x00A00000 = 0x4 * n := Nat.add_sub_cancel_left _ _
  exact (regImpl_of_row hrows (by unfold Reg.BANK_OWNER; omega) (by simp) (Nat.le_add_right _ _)
    ((congrArg (strideIdx _) hoff).trans (strideIdx_words hn))).trans (by decide)

theorem regImpl_bankPwr {n : Nat} (hn : n < 512) : regImpl (Reg.BANK_PWR n) = 0x1F := by
  have hblock : Reg.BANK_PWR n / 0x100000 = 10 := by unfold Reg.BANK_PWR; omega
  have hrows : blockRows (Reg.BANK_PWR n) = rowsMem.take 1 ++ rowsMem.drop 1 := by
    unfold blockRows
    rw [hblock]
    rfl
  have hoff : Reg.BANK_PWR n - 0x00A01000 = 0x4 * n := Nat.add_sub_cancel_left _ _
  have howner : ∀ q ∈ rowsMem.take 1, strideIdx q.strides (Reg.BANK_PWR n - q.base) = none := fun q hq => by
    obtain rfl := List.mem_singleton.1 hq
    exact strideIdx_beyond (show 4 * 512 ≤ Reg.BANK_PWR n - 0x00A00000 by unfold Reg.BANK_PWR; omega)
  exact (regImpl_of_row hrows (by unfold Reg.BANK_PWR; omega) howner (Nat.le_add_right _ _)
    ((congrArg (strideIdx _) hoff).trans (strideIdx_words hn))).trans (by decide)

theorem owner_implemented {n : Nat} (hn : n < 512) : regImpl (Reg.BANK_OWNER n) &&& Fld.BANK_OWNER_OWNER.mask = Fld.BANK_OWNER_OWNER.mask := by
  rw [regImpl_bankOwner hn]
  decide

theorem epoch_implemented {n : Nat} (hn : n < 512) : regImpl (Reg.BANK_OWNER n) &&& Fld.BANK_OWNER_EPOCH.mask = Fld.BANK_OWNER_EPOCH.mask := by
  rw [regImpl_bankOwner hn]
  decide

theorem bankTarget_implemented {n : Nat} (hn : n < 512) : regImpl (Reg.BANK_PWR n) &&& Fld.BANK_PWR_PWR.mask = Fld.BANK_PWR_PWR.mask := by
  rw [regImpl_bankPwr hn]
  decide

theorem bankState_implemented {n : Nat} (hn : n < 512) : regImpl (Reg.BANK_PWR n) &&& Fld.BANK_PWR_STATE.mask = Fld.BANK_PWR_STATE.mask := by
  rw [regImpl_bankPwr hn]
  decide

theorem mappedOut_implemented {n : Nat} (hn : n < 512) :
    regImpl (Reg.BANK_PWR n) &&& Fld.BANK_PWR_MAPPED_OUT.mask = Fld.BANK_PWR_MAPPED_OUT.mask := by
  rw [regImpl_bankPwr hn]
  decide

/-! ## Owners (R438 to R440) -/

theorem exec_bankOwnerWrite {s : State} {a : Acc} {n : Fin 512} (hr : reaches s a (Reg.BANK_OWNER n) true) (v : Word) :
    exec (.bankOwnerWrite a n v) s = nextBy s (bankOwnerWrite (actsFor a) n v s) := by
  show nextBy s (gate a (Reg.BANK_OWNER n) true false (fun u => bankOwnerWrite u n v) s) = _
  rw [gate_reaches hr]

theorem bankOwnerWrite_hands {s : State} {u n : Nat} {v : Word} (hmay : mayBank s u n = true)
    (hallow : bankAllows n (getF v Fld.BANK_OWNER_OWNER) = true) :
    bankOwnerWrite u n v s = reassign s 4 n (getF v Fld.BANK_OWNER_OWNER) u := by
  simp only [bankOwnerWrite, hmay, hallow, Bool.not_true, Bool.false_eq_true, if_false]

theorem bankOwnerWrite_refused {s : State} {u n : Nat} {v : Word} (hmay : mayBank s u n = true)
    (hallow : bankAllows n (getF v Fld.BANK_OWNER_OWNER) = false) :
    bankOwnerWrite u n v s = tenantFault s u stBAD_ARG (Reg.BANK_OWNER n) := by
  simp only [bankOwnerWrite, hmay, hallow, Bool.not_true, Bool.not_false, Bool.false_eq_true, if_false, if_true]

/-- A bank handed over has its new owner, and its epoch counts the change. -/
theorem reassign_bank {s : State} (hs : s.Inv) {n : Nat} (hn : n < 512) {o : Nat} (ho : o < 256) (u : Nat) {t : State}
    (ht : applyActs s (reassign s 4 n o u) = t) :
    bankOwner t n = o
      ∧ rf t (Reg.BANK_OWNER n) Fld.BANK_OWNER_EPOCH
          = (rf s (Reg.BANK_OWNER n) Fld.BANK_OWNER_EPOCH + (if o = bankOwner s n then 0 else 1)) % 65536
      ∧ (∀ r, r ≠ Reg.BANK_OWNER n → r ≠ Reg.PB_UNIT_LOST → rd t r = rd s r) ∧ sameMemory s t := by
  subst ht
  by_cases hsame : ownerOf s 4 n = o
  · have howner : o = bankOwner s n := hsame.symm
    have hnone : reassign s 4 n o u = [] := if_pos hsame
    rw [hnone, if_pos howner]
    exact ⟨howner.symm, (Nat.mod_eq_of_lt (getF_lt _ Fld.BANK_OWNER_EPOCH)).symm, fun r _ _ => rfl, sameMemory_refl s⟩
  · have hother : ¬ o = bankOwner s n := fun h => hsame h.symm
    generalize hword : putF (putF 0 Fld.TEN_OWN_TILE_EPOCH ((epochOf s 4 n + 1) % 65536)) Fld.TEN_OWN_TILE_OWNER o = word
    have hsome : ∃ q, reassign s 4 n o u = [.reg (Reg.BANK_OWNER n) word, .log q] := by
      subst hword
      exact ⟨_, if_neg hsame⟩
    obtain ⟨q, hsome⟩ := hsome
    have hlog : rd (applyAct (applyAct s (.reg (Reg.BANK_OWNER n) word)) (.log q)) (Reg.BANK_OWNER n)
        = rd (applyAct s (.reg (Reg.BANK_OWNER n) word)) (Reg.BANK_OWNER n) :=
      rd_applyAct_other _ _ _ (beq_eq_false_iff_ne.2 (by unfold Reg.BANK_OWNER Reg.PB_UNIT_LOST; omega))
    have hwf := regsWf_of_inv hs
    rw [hsome, if_neg hother]
    refine ⟨?owner, ?epoch, fun r hr hlost => rd_applyActs_other s _ r ?reg, sameMemory_applyActs s _ rfl⟩
    case owner =>
      calc bankOwner _ n = getF word Fld.BANK_OWNER_OWNER :=
            (congrArg (getF · Fld.BANK_OWNER_OWNER) hlog).trans (rf_reg hwf _ word _ (by decide) (owner_implemented hn))
        _ = o % 2 ^ 8 := hword ▸ getF_putF _ Fld.BANK_OWNER_OWNER o (by decide)
        _ = o := Nat.mod_eq_of_lt ho
    case epoch =>
      calc rf _ (Reg.BANK_OWNER n) Fld.BANK_OWNER_EPOCH = getF word Fld.BANK_OWNER_EPOCH :=
            (congrArg (getF · Fld.BANK_OWNER_EPOCH) hlog).trans (rf_reg hwf _ word _ (by decide) (epoch_implemented hn))
        _ = getF (putF 0 Fld.BANK_OWNER_EPOCH ((epochOf s 4 n + 1) % 65536)) Fld.BANK_OWNER_EPOCH :=
            hword ▸ getF_putF_other _ Fld.BANK_OWNER_OWNER Fld.BANK_OWNER_EPOCH o (by decide) (by decide)
        _ = (epochOf s 4 n + 1) % 65536 := (getF_putF _ Fld.BANK_OWNER_EPOCH _ (by decide)).trans (Nat.mod_mod _ _)
    case reg => simp [Act.mayReg, Ne.symm hr, hlost]

/-! ## Power (R442, R449) -/

theorem exec_bankPwrWrite {s : State} {a : Acc} {n : Fin 512} (hr : reaches s a (Reg.BANK_PWR n) true) (v : Word) :
    exec (.bankPwrWrite a n v) s = .next (runEffs s (bankPwrWrite (actsFor a) n v)) := by
  show nextBy s (gate a (Reg.BANK_PWR n) true false (fun u => seqE (bankPwrWrite u n v)) s) = _
  rw [gate_reaches hr, nextBy, applyActs_seqE]

/-- A target that is set: the bank moves unless it is mapped out or there already. -/
theorem bankPwrWrite_moves {s : State} {u n : Nat} {v : Word} (hmay : mayBank s u n = true) (hv : getF v Fld.BANK_PWR_PWR ≠ 3) :
    runEffs s (bankPwrWrite u n v) = runEffs s [fun _ => [.fld (Reg.BANK_PWR n) Fld.BANK_PWR_PWR (getF v Fld.BANK_PWR_PWR)],
      fun s => bankMove s n] := by
  refine runEffs_congr ?_ _
  simp only [hmay, hv, Bool.not_true, Bool.false_eq_true, if_false]

theorem bankMove_ofBank (s : State) (n : Nat) : ∀ x ∈ bankMove s n, x = .fld (Reg.BANK_PWR n) Fld.BANK_PWR_STATE 3 := by
  unfold bankMove
  split
  · exact fun _ h => absurd h List.not_mem_nil
  · exact fun _ h => List.mem_singleton.1 h

theorem bankMove_state {s : State} (hs : s.Inv) {n : Nat} (hn : n < 512) : bankState (applyActs s (bankMove s n)) n
    = if bankOut s n = true ∨ bankState s n = bankTarget s n then bankState s n else 3 := by
  have hcond : (bankOut s n || bankState s n == bankTarget s n) = true ↔ bankOut s n = true ∨ bankState s n = bankTarget s n := by simp
  unfold bankMove
  split
  · next h => exact (if_pos (hcond.1 h)).symm
  · next h =>
    rw [if_neg (mt hcond.2 h)]
    exact rf_fld (regsWf_of_inv hs) _ _ 3 (by decide) (bankState_implemented hn)

/-- The bank has its target, and is CHANGING unless mapped out or there already. -/
theorem bankPower_set {s : State} (hs : s.Inv) {n : Nat} (hn : n < 512) {p : Nat} (hp : p < 4) {t : State}
    (ht : runEffs s [fun _ => [.fld (Reg.BANK_PWR n) Fld.BANK_PWR_PWR p], fun s => bankMove s n] = t) :
    bankTarget t n = p ∧ bankState t n = (if bankOut s n = true ∨ bankState s n = p then bankState s n else 3)
      ∧ (∀ r, r ≠ Reg.BANK_PWR n → rd t r = rd s r) ∧ sameMemory s t := by
  subst ht
  have hwf := regsWf_of_inv hs
  have iSet := applyAct_inv s (.fld (Reg.BANK_PWR n) Fld.BANK_PWR_PWR p) hs
  have hset : bankTarget (applyAct s (.fld (Reg.BANK_PWR n) Fld.BANK_PWR_PWR p)) n = p :=
    (rf_fld hwf _ _ p (by decide) (bankTarget_implemented hn)).trans (Nat.mod_eq_of_lt hp)
  have hstate : bankState (applyAct s (.fld (Reg.BANK_PWR n) Fld.BANK_PWR_PWR p)) n = bankState s n :=
    rf_fld_other hwf _ _ Fld.BANK_PWR_STATE p (by decide) (bankState_implemented hn) (by decide)
  have hout : bankOut (applyAct s (.fld (Reg.BANK_PWR n) Fld.BANK_PWR_PWR p)) n = bankOut s n :=
    congrArg (· == 1) (rf_fld_other hwf _ _ Fld.BANK_PWR_MAPPED_OUT p (by decide) (mappedOut_implemented hn) (by decide))
  simp only [runEffs_cons, runEffs_nil, applyActs_cons, applyActs_nil]
  generalize hu : applyAct s (.fld (Reg.BANK_PWR n) Fld.BANK_PWR_PWR p) = u at *
  refine ⟨?target, ?state, fun r hr => ?reg, ?mem⟩
  case target =>
    refine (rf_applyActs_spares iSet _ Fld.BANK_PWR_PWR (by decide) (bankTarget_implemented hn) fun x hx => ?_).trans hset
    rw [bankMove_ofBank u n x hx]
    exact Bool.or_eq_true_iff.2 (.inr rfl)
  case state => rw [bankMove_state iSet hn, hout, hstate, hset]
  case reg =>
    refine (rd_applyActs_of_forall (fun x hx => ?_) u).trans ?_
    · rw [bankMove_ofBank u n x hx]
      exact beq_eq_false_iff_ne.2 (Ne.symm hr)
    · rw [← hu]
      exact rd_applyAct_other s _ r (beq_eq_false_iff_ne.2 (Ne.symm hr))
  case mem =>
    refine sameMemory_trans (t := u) (hu ▸ sameMemory_applyAct s _ rfl) (sameMemory_of_noMem fun x hx => ?_)
    rw [bankMove_ofBank u n x hx]
    rfl

theorem mapGet_mapDrop_other {α : Type} (d : Nat → α) (m : SMap α) {a n k : Nat} (h : ¬ (a ≤ k ∧ k < a + n)) :
    mapGet d (mapDrop m a n) k = mapGet d m k := by
  unfold mapDrop
  induction m with
  | nil => rfl
  | cons e m ih =>
    obtain ⟨k', v⟩ := e
    by_cases hk : k = k'
    · subst hk
      rw [List.filter_cons_of_pos (by simp only [decide_eq_false h, Bool.not_false]), mapGet_cons_same, mapGet_cons_same]
    · rw [mapGet_cons_other d hk, List.filter_cons]
      split
      · rw [mapGet_cons_other d hk, ih]
      · exact ih

theorem exec_bankPowerMoveDone (n : Fin 512) (s : State) : exec (.bankPowerMoveDone n) s = nextBy s (bankArrive n s) := rfl

/-- A bank arrives at its target, and loses its contents in OFF alone. -/
theorem bankArrive_arrives {s : State} (hs : s.Inv) {n : Nat} (hn : n < 512) (hmoves : bankState s n = 3) {t : State}
    (ht : applyActs s (bankArrive n s) = t) :
    bankState t n = bankTarget s n ∧ (∀ r, r ≠ Reg.BANK_PWR n → rd t r = rd s r)
      ∧ ∀ k, sramByte t k = if bankTarget s n = 0 ∧ k / 0x40000 = n then 0 else sramByte s k := by
  subst ht
  have hstate : bankState (applyAct s (.fld (Reg.BANK_PWR n) Fld.BANK_PWR_STATE (bankTarget s n))) n = bankTarget s n :=
    (rf_fld (regsWf_of_inv hs) _ _ _ (by decide) (bankState_implemented hn)).trans (Nat.mod_eq_of_lt (getF_lt _ Fld.BANK_PWR_PWR))
  have hreg : ∀ r, r ≠ Reg.BANK_PWR n → rd (applyAct s (.fld (Reg.BANK_PWR n) Fld.BANK_PWR_STATE (bankTarget s n))) r = rd s r :=
    fun r hr => rd_applyAct_other s _ r (beq_eq_false_iff_ne.2 (Ne.symm hr))
  rw [bankArrive, if_pos hmoves]
  by_cases hoff : bankTarget s n = 0
  · rw [if_pos hoff]
    refine ⟨hstate, hreg, fun k => ?_⟩
    show mapGet zeroByte (mapDrop s.sram (0x40000 * n) 0x40000) k = _
    by_cases hk : k / 0x40000 = n
    · rw [if_pos ⟨hoff, hk⟩]
      exact mapGet_mapDrop zeroByte s.sram (by omega)
    · rw [if_neg fun h => hk h.2]
      exact mapGet_mapDrop_other zeroByte s.sram (by omega)
  · rw [if_neg hoff]
    exact ⟨hstate, hreg, fun k => (if_neg fun h => hoff h.1).symm⟩

/-! ## Scrubbing (R447, R448) -/

theorem exec_bankScrubRead (n : Fin 512) (word : Fin 32768) (found : Fin 3) (s : State) :
    exec (.bankScrubRead n word found) s = .next (runEffs s (scrubRead n word found)) := rfl

/-- The words of a bank are numbered in the map of errors. -/
theorem wordErr_of_word (s : State) (n word : Nat) : wordErr s (0x40000 * n + 8 * word) = mapGet zeroNat s.mem.errs (0x8000 * n + word) := by
  unfold wordErr
  congr 1
  omega

/-- The errors of words when word `w` has taken an upset. -/
def upsetErrs (errs : SMap Nat) (w found : Nat) : SMap Nat := mapPut zeroNat errs w (max found (mapGet zeroNat errs w))

/-- The state in which a word of a bank has taken an upset. -/
def upset (s : State) (n word found : Nat) : State :=
  applyAct s (.mem (fun m => { m with errs := upsetErrs m.errs (0x8000 * n + word) found }))

theorem scrubRead_reads {s : State} {n word found : Nat} (hscrub : rf s Reg.MEM_CTRL Fld.MEM_CTRL_SCRUB = 1) (hon : bankState s n = 2)
    (hfound : 0 < found) : runEffs s (scrubRead n word found)
      = applyActs (upset s n word found) (wordRead (upset s n word found) (0x40000 * n + 8 * word)) := by
  have hscrub' : rf (upset s n word found) Reg.MEM_CTRL Fld.MEM_CTRL_SCRUB = 1 := hscrub
  have hon' : bankState (upset s n word found) n = 2 := hon
  rw [scrubRead, runEffs_cons, if_pos ⟨hscrub, hon, hfound⟩]
  show runEffs (upset s n word found) _ = _
  rw [runEffs_single, if_pos ⟨hscrub', hon'⟩]

/-- A scrub read that finds nothing in a good word does nothing. -/
theorem scrubRead_clean {s : State} {n word : Nat} (hgood : wordErr s (0x40000 * n + 8 * word) = 0) : runEffs s (scrubRead n word 0) = s := by
  have hread : wordRead s (0x40000 * n + 8 * word) = [] := by simp only [wordRead, hgood]
  rw [scrubRead, runEffs_skip (if_neg fun h => absurd h.2.2 (Nat.lt_irrefl 0)), runEffs_single, hread, ite_self, applyActs_nil]

theorem wordErr_upset {s : State} (hwf : mapWf zeroNat s.mem.errs = true) {n word : Nat} (found : Nat)
    (hgood : wordErr s (0x40000 * n + 8 * word) = 0) : wordErr (upset s n word found) (0x40000 * n + 8 * word) = found := by
  rw [wordErr_of_word] at hgood
  rw [wordErr_of_word]
  refine (mapGet_mapPut_same zeroNat hwf _ _).trans ?_
  rw [hgood, Nat.max_zero]

/-- A word with one bit in error is corrected and counted. -/
theorem wordRead_corrects {u : State} (hu : u.Inv) (hwf : mapWf zeroNat u.mem.errs = true) {w : Nat} (herr : wordErr u w = 1) {t : State}
    (ht : applyActs u (wordRead u w) = t) :
    wordErr t w = 0 ∧ sameMemory u t
      ∧ rf t Reg.MEM_ECC_CORR Fld.MEM_ECC_CORR_COUNT = (rf u Reg.MEM_ECC_CORR Fld.MEM_ECC_CORR_COUNT + 1) % 2 ^ 32 := by
  have hread : wordRead u w = [.inc Reg.MEM_ECC_CORR Fld.MEM_ECC_CORR_COUNT 1,
      .mem (fun m => { m with errs := mapPut zeroNat m.errs (w / 8) 0 })] := by
    simp only [wordRead, herr]
  rw [hread] at ht
  subst ht
  exact ⟨mapGet_mapPut_same zeroNat hwf (w / 8) 0, sameMemory_applyActs u _ rfl,
    rf_inc (regsWf_of_inv hu) Reg.MEM_ECC_CORR Fld.MEM_ECC_CORR_COUNT 1 (by decide) (by decide)⟩

/-- An uncorrectable word stays so and is counted. -/
theorem wordRead_counts {u : State} (hu : u.Inv) {w : Nat} (herr : wordErr u w = 2) {t : State} (ht : applyActs u (wordRead u w) = t) :
    wordErr t w = 2 ∧ sameMemory u t
      ∧ rf t Reg.MEM_ECC_UE Fld.MEM_ECC_UE_COUNT = (rf u Reg.MEM_ECC_UE Fld.MEM_ECC_UE_COUNT + 1) % 2 ^ 32 := by
  generalize hcounts : [Act.inc Reg.MEM_ECC_UE Fld.MEM_ECC_UE_COUNT 1, .mem (fun m => { m with
    ueThis := mapPut zeroNat m.ueThis (w / 0x40000) (mapGet zeroNat m.ueThis (w / 0x40000) + 1) })] = counts
  have hread : ∃ lvl ts unit a, wordRead u w = counts ++ eventLv u 10 1 lvl ts unit a := by
    subst hcounts
    unfold wordRead
    rw [herr]
    exact ⟨_, _, _, _, rfl⟩
  obtain ⟨lvl, ts, unit, a, hread⟩ := hread
  rw [hread, applyActs_append] at ht
  subst ht
  obtain ⟨hmem, hview, hreg⟩ := notices_leave (fun x hx => mem_eventLv hx) (applyActs_inv u counts hu) (xs := eventLv u 10 1 lvl ts unit a)
  have hevt : ∀ t, evtStatus 10 t ≠ Reg.MEM_ECC_UE := fun t => by
    simp only [evtStatus, Reg.MEM_EVT_STATUS, Reg.MEM_ECC_UE]
    omega
  refine ⟨?err, sameMemory_trans ?mem hmem, ?count⟩
  case err =>
    refine (congrArg (fun v => mapGet zeroNat v.2.1.errs (w / 8)) hview).trans ?_
    subst hcounts
    exact herr
  case mem =>
    subst hcounts
    exact sameMemory_applyActs u _ rfl
  case count =>
    refine (congrArg (getF · Fld.MEM_ECC_UE_COUNT) (hreg _ hevt (by decide))).trans ?_
    subst hcounts
    exact rf_inc (regsWf_of_inv hu) Reg.MEM_ECC_UE Fld.MEM_ECC_UE_COUNT 1 (by decide) (by decide)

/-! ## Atomics on the window (R446) -/

theorem exec_atomicFetchadd {s : State} {a : Acc} {addr : Nat} (hr : reaches s a addr true) (bytes : Nat) (v : Word) :
    exec (.atomicFetchadd a addr bytes v) s = .next (runEffs s (windowAtomic false (actsFor a) addr bytes v)) := by
  show nextBy s (gate a addr true true (fun u => seqE (windowAtomic false u addr bytes v)) s) = _
  rw [gate_reaches hr, nextBy, applyActs_seqE]

theorem exec_atomicSwap {s : State} {a : Acc} {addr : Nat} (hr : reaches s a addr true) (bytes : Nat) (v : Word) :
    exec (.atomicSwap a addr bytes v) s = .next (runEffs s (windowAtomic true (actsFor a) addr bytes v)) := by
  show nextBy s (gate a addr true true (fun u => seqE (windowAtomic true u addr bytes v)) s) = _
  rw [gate_reaches hr, nextBy, applyActs_seqE]

theorem length_leBytes (k n : Nat) : (leBytes k n).length = k := by
  induction k generalizing n with
  | zero => rfl
  | succ k ih => rw [leBytes, List.length_cons, ih]

/-- The bytes of a number give it back, cut to their count. -/
theorem leValue_leBytes (k n : Nat) : leValue (leBytes k n) = n % 256 ^ k := by
  induction k generalizing n with
  | zero => exact (Nat.mod_one n).symm
  | succ k ih => rw [leBytes, leValue, ih, BitVec.toNat_ofNat, Nat.pow_succ' (m := 256), Nat.mod_mul (x := n)]

section Window

variable {s : State} {u off : Nat} (hoff : off < 0x8000000) (hpriv : hasPriv s u pvSRAM_WIN = true)
include hoff hpriv

theorem windowAtomic_refused {bytes : Nat} (hbad : off % 4 ≠ 0 ∨ bytes ≠ 4) (swap : Bool) (v : Word) :
    runEffs s (windowAtomic swap u (0x08000000 + off) bytes v)
      = applyActs s (tenantFault s u stBAD_ARG (0x08000000 + off) ++ [.out (fun o => { o with readData := 0 })]) := by
  have hin : ¬ (0x08000000 + off < 0x08000000 ∨ 0x10000000 ≤ 0x08000000 + off) := by omega
  have hbad' : (0x08000000 + off) % 4 ≠ 0 ∨ bytes ≠ 4 := hbad.imp_left (by omega)
  rw [windowAtomic, runEffs_single, if_neg hin, hpriv, if_neg (by decide), if_pos hbad']

/-- An aligned atomic at a bank that serves its tenant: the bank is at ON first, then the word, no uncorrectable one, is read and stored. -/
theorem windowAtomic_served (haligned : off % 4 = 0) (hserved : windowCause s u off = none)
    (hgood : bankUE (applyActs s (bankArrive (off / 0x40000) s)) off 4 = false) (swap : Bool) (v : Word) :
    runEffs s (windowAtomic swap u (0x08000000 + off) 4 v) = runEffs s [bankArrive (off / 0x40000), fun s =>
      bankWrite s off (leBytes 4 (if swap then v.toNat else leValue (sramRead s off 4) + v.toNat))
        ++ [.out (fun o => { o with readData := BitVec.ofNat 32 (leValue (sramRead s off 4)) })]] := by
  have hin : ¬ (0x08000000 + off < 0x08000000 ∨ 0x10000000 ≤ 0x08000000 + off) := by omega
  have hword : ¬ ((0x08000000 + off) % 4 ≠ 0 ∨ 4 ≠ 4) := by omega
  have hsub : 0x08000000 + off - 0x08000000 = off := Nat.add_sub_cancel_left _ _
  rw [windowAtomic, runEffs_single, hsub, if_neg hin, hpriv, if_neg (by decide), if_neg hword, hserved]
  refine (applyActs_seqE s _).trans ?_
  rw [runEffs_cons, runEffs_single, hgood, if_neg Bool.false_ne_true, runEffs_cons, runEffs_single]

end Window

/-- A bank that serves the window is at ON or on its way there. -/
theorem bankAwake_of_served {s : State} {u off : Nat} (h : windowCause s u off = none) : bankAwake s (off / 0x40000) = true := by
  unfold windowCause bankCause at h
  cases hawake : bankAwake s (off / 0x40000) with
  | true => rfl
  | false =>
    rw [hawake, Bool.not_false, if_pos rfl] at h
    split at h
    · cases h
    · split at h
      · cases h
      · cases h

/-- An update before a store to a bank: of the bank's power register as it arrives, or of a corrected word. -/
def Act.readies (n : Nat) (x : Act) : Prop :=
  (∃ f v, x = .fld (Reg.BANK_PWR n) f v) ∨ (∃ f v, x = .inc Reg.MEM_ECC_CORR f v) ∨ ∃ f, x = .mem f

/-- The memories that an access to a bank may concern. -/
def bytesView (s : State) : SMap Byte × SMap Byte × SMap Byte := (s.sram, s.dram, s.host)

theorem readies_leaves {n : Nat} {xs : List Act} (h : ∀ x ∈ xs, x.readies n) {s : State} (hs : s.Inv) :
    bytesView (applyActs s xs) = bytesView s
      ∧ ∀ r, r ≠ Reg.MEM_ECC_CORR → r ≠ Reg.BANK_PWR n → rd (applyActs s xs) r = rd s r := by
  refine ⟨applyActs_keeps bytesView (fun x hx v _ => ?bytes) hs, fun r hcorr hpwr => rd_applyActs_of_forall (fun x hx => ?reg) s⟩
  all_goals rcases h x hx with ⟨f, v, rfl⟩ | ⟨f, v, rfl⟩ | ⟨f, rfl⟩
  case reg.inl => exact beq_eq_false_iff_ne.2 (Ne.symm hpwr)
  case reg.inr.inl => exact beq_eq_false_iff_ne.2 (Ne.symm hcorr)
  all_goals rfl

theorem bankArrive_readies {s : State} {n : Nat} (hawake : bankAwake s n = true) :
    (∀ x ∈ bankArrive n s, x.readies n) ∧ (applyActs s (bankArrive n s)).mem = s.mem := by
  unfold bankArrive
  split
  · next hmoves =>
    have hon : ¬ bankTarget s n = 0 := by
      intro h
      simp [bankAwake, hmoves, h] at hawake
    rw [if_neg hon]
    exact ⟨List.forall_mem_singleton.2 (.inl ⟨_, _, rfl⟩), rfl⟩
  · exact ⟨fun _ h => absurd h List.not_mem_nil, rfl⟩

theorem wordRead_readies {s : State} {w : Nat} (herr : wordErr s w ≤ 1) (n : Nat) : ∀ x ∈ wordRead s w, x.readies n := by
  unfold wordRead
  match h : wordErr s w, herr with
  | 0, _ => exact fun _ h => absurd h List.not_mem_nil
  | 1, _ => exact List.forall_mem_cons.2 ⟨.inr (.inl ⟨_, _, rfl⟩), List.forall_mem_singleton.2 (.inr (.inr ⟨_, rfl⟩))⟩

theorem wordErr_start (s : State) (off : Nat) : wordErr s (8 * (off / 8)) = wordErr s off := by
  have hword : 8 * (off / 8) / 8 = off / 8 := by omega
  rw [wordErr, wordErr, hword]

section AlignedWord

variable {off : Nat} (haligned : off % 4 = 0)
include haligned

theorem wordsOf_aligned : wordsOf off 4 = [8 * (off / 8)] := by
  have hone : (off + 4 + 7) / 8 - off / 8 = 1 := by omega
  rw [wordsOf, hone]
  rfl

theorem partialWords_aligned : partialWords off 4 = [8 * (off / 8)] := by
  rw [partialWords, wordsOf_aligned haligned]
  refine List.filter_eq_self.2 fun w hw => ?_
  rw [List.mem_singleton.1 hw]
  exact decide_eq_true (by omega)

variable {s : State} (herr : wordErr s off ≤ 1)
include herr

theorem bankUE_aligned : bankUE s off 4 = false := by
  rw [bankUE, wordsOf_aligned haligned, List.any_cons, List.any_nil, Bool.or_false, wordErr_start]
  exact beq_eq_false_iff_ne.2 (by omega)

/-- Four bytes at an aligned address: their word is read, then they are stored, and no check bits are made anew. -/
theorem bankWrite_aligned {bs : List Byte} (hlen : bs.length = 4) :
    bankWrite s off bs = wordRead s (8 * (off / 8)) ++ [.sram off bs, .mem (fun m => m)] := by
  have hgood : bankWriteUE s off bs = false := by
    rw [bankWriteUE, hlen, partialWords_aligned haligned, List.any_cons, List.any_nil, Bool.or_false, wordErr_start]
    exact beq_eq_false_iff_ne.2 (by omega)
  have hpart : ¬ (off ≤ 8 * (off / 8) ∧ 8 * (off / 8) + 8 ≤ off + 4) := by omega
  rw [bankWrite, hgood, hlen, partialWords_aligned haligned, wordsOf_aligned haligned]
  simp only [List.flatMap_cons, List.flatMap_nil, List.foldl_cons, List.foldl_nil, if_neg hpart, Bool.false_eq_true, if_false, List.append_nil,
    List.append_assoc, List.cons_append, List.nil_append]

end AlignedWord

/-- What a 32-bit atomic leaves: `new` at its word, no other byte, and the old word read back. -/
theorem windowAtomic_stores {s : State} (hs : s.Inv) {u off : Nat} (hoff : off < 0x8000000) (hpriv : hasPriv s u pvSRAM_WIN = true)
    (haligned : off % 4 = 0) (hserved : windowCause s u off = none) (herr : wordErr s off ≤ 1) (swap : Bool) (v : Word) {t : State}
    (ht : runEffs s (windowAtomic swap u (0x08000000 + off) 4 v) = t) :
    t.out.readData = BitVec.ofNat 32 (leValue (sramRead s off 4))
      ∧ leValue (sramRead t off 4) = (if swap then v.toNat else leValue (sramRead s off 4) + v.toNat) % 2 ^ 32
      ∧ (∀ k, k < off ∨ off + 4 ≤ k → sramByte t k = sramByte s k) ∧ (∀ k, dramByte t k = dramByte s k) ∧ (∀ k, hostByte t k = hostByte s k)
      ∧ ∀ r, r ≠ Reg.MEM_ECC_CORR → r ≠ Reg.BANK_PWR (off / 0x40000) → rd t r = rd s r := by
  obtain ⟨harrive, hmem⟩ := bankArrive_readies (bankAwake_of_served hserved)
  have iOn := applyActs_inv s (bankArrive (off / 0x40000) s) hs
  obtain ⟨bOn, rOn⟩ := readies_leaves harrive hs
  have herr' : wordErr (applyActs s (bankArrive (off / 0x40000) s)) off ≤ 1 := by
    unfold wordErr at herr ⊢
    rwa [hmem]
  rw [windowAtomic_served hoff hpriv haligned hserved (bankUE_aligned haligned herr'), runEffs_cons] at ht
  generalize applyActs s (bankArrive (off / 0x40000) s) = on at *
  have hold : sramRead on off 4 = sramRead s off 4 := congrArg (fun v : _ × _ => mapGets zeroByte v.1 off 4) bOn
  rw [runEffs_single, hold, bankWrite_aligned haligned herr' (length_leBytes 4 _), applyActs_append, applyActs_append] at ht
  have iRead := applyActs_inv on (wordRead on (8 * (off / 8))) iOn
  obtain ⟨bRead, rRead⟩ := readies_leaves (wordRead_readies (Nat.le_trans (Nat.le_of_eq (wordErr_start on off)) herr') (off / 0x40000)) iOn
  generalize applyActs on (wordRead on (8 * (off / 8))) = read at *
  generalize hbs : leBytes 4 (if swap then v.toNat else leValue (sramRead s off 4) + v.toNat) = bs at *
  have hlen : bs.length = 4 := hbs ▸ length_leBytes 4 _
  have hbytes := bRead.trans bOn
  subst ht
  refine ⟨rfl, ?new, fun k hk => ?rest, fun k => ?dram, fun k => ?host, fun r hcorr hpwr => (rRead r hcorr hpwr).trans (rOn r hcorr hpwr)⟩
  case new =>
    have hstored : mapGets zeroByte (mapPuts zeroByte read.sram off bs) off bs.length = bs :=
      mapGets_mapPuts zeroByte bs off (mem_of_inv iRead).2.1
    rw [hlen] at hstored
    refine (congrArg leValue hstored).trans ?_
    rw [← hbs]
    exact leValue_leBytes 4 _
  case rest =>
    exact (mapGet_mapPuts_other zeroByte bs read.sram off (hlen ▸ hk)).trans (congrArg (fun v => mapGet zeroByte v.1 k) hbytes)
  case dram => exact congrArg (fun v => mapGet zeroByte v.2.1 k) hbytes
  case host => exact congrArg (fun v => mapGet zeroByte v.2.2 k) hbytes

/-! ## The statement on banks and atomics -/

/-- Settles O47: a handover and a power target by the registers they write, an arrival by the range it drops, a scrub read by the word it
reads, an atomic by the store that follows the bank's arrival and its word's correction. -/
theorem banksAndAtomicsAct : Obligations.BanksAndAtomicsAct := by
  unfold Obligations.BanksAndAtomicsAct
  refine ⟨fun s a n v hs => ⟨?owner, ?power, fun hmoves => ⟨_, exec_bankPowerMoveDone n s, bankArrive_arrives hs n.isLt hmoves rfl⟩, ?scrub⟩,
    fun s a off bytes v hs hoff hr hpriv => ⟨?atomic, ?refused⟩⟩
  case owner =>
    intro hr hmay o
    refine ⟨fun hallow => ⟨_, exec_bankOwnerWrite hr v, ?_⟩, fun hallow => ?_⟩
    · rw [bankOwnerWrite_hands hmay hallow]
      exact reassign_bank hs n.isLt (getF_lt v Fld.BANK_OWNER_OWNER) _ rfl
    · rw [exec_bankOwnerWrite hr, bankOwnerWrite_refused hmay hallow]
  case power =>
    intro hr hmay hv
    refine ⟨_, exec_bankPwrWrite hr v, ?_⟩
    rw [bankPwrWrite_moves hmay hv]
    exact bankPower_set hs n.isLt (getF_lt v Fld.BANK_PWR_PWR) rfl
  case scrub =>
    intro word hscrub hon hwf hgood
    have iUpset := fun found => applyAct_inv s (.mem (fun m => { m with errs := upsetErrs m.errs (0x8000 * n.val + word.val) found })) hs
    refine ⟨congrArg Host.Outcome.next (scrubRead_clean hgood), ⟨_, exec_bankScrubRead n word 1 s, ?_⟩, ⟨_, exec_bankScrubRead n word 2 s, ?_⟩⟩
    · rw [scrubRead_reads hscrub hon (by decide)]
      exact wordRead_corrects (iUpset 1) (mapPut_wf zeroNat hwf _ _) (wordErr_upset hwf 1 hgood) rfl
    · rw [scrubRead_reads hscrub hon (by decide)]
      exact wordRead_counts (iUpset 2) (wordErr_upset hwf 2 hgood) rfl
  case atomic =>
    rintro haligned rfl hserved herr old does
    exact ⟨⟨_, exec_atomicFetchadd hr 4 v, windowAtomic_stores hs hoff hpriv haligned hserved herr false v rfl⟩,
      ⟨_, exec_atomicSwap hr 4 v, windowAtomic_stores hs hoff hpriv haligned hserved herr true v rfl⟩⟩
  case refused =>
    intro hbad
    exact ⟨(exec_atomicFetchadd hr bytes v).trans (congrArg Host.Outcome.next (windowAtomic_refused hoff hpriv hbad false v)),
      (exec_atomicSwap hr bytes v).trans (congrArg Host.Outcome.next (windowAtomic_refused hoff hpriv hbad true v))⟩

end Sys2Proof.Machine
end

section
/-! PROOFS of the statement on the DRAM controller (11_memory.md R460 to R462, R464, R466). First the primitives of training and the
delays, then a lost channel and DRAM laid anew, then the statement. -/

namespace Sys2Proof.Machine

/-! ## Registers of a channel (R466) -/

theorem chState_implemented {c : Nat} (hc : c < 8) : regImpl (Reg.CH_STAT c) &&& Fld.CH_STAT_STATE.mask = Fld.CH_STAT_STATE.mask :=
  (by decide : ∀ c < 8, regImpl (Reg.CH_STAT c) &&& Fld.CH_STAT_STATE.mask = Fld.CH_STAT_STATE.mask) c hc

theorem pending_implemented {c : Nat} (hc : c < 8) : regImpl (Reg.CH_STAT c) &&& Fld.CH_STAT_PENDING.mask = Fld.CH_STAT_PENDING.mask :=
  (by decide : ∀ c < 8, regImpl (Reg.CH_STAT c) &&& Fld.CH_STAT_PENDING.mask = Fld.CH_STAT_PENDING.mask) c hc

theorem mr4_implemented {c : Nat} (hc : c < 8) : regImpl (Reg.CH_STAT c) &&& Fld.CH_STAT_MR4.mask = Fld.CH_STAT_MR4.mask :=
  (by decide : ∀ c < 8, regImpl (Reg.CH_STAT c) &&& Fld.CH_STAT_MR4.mask = Fld.CH_STAT_MR4.mask) c hc

/-- Every delay register of a channel has its delay in the same bits. -/
theorem delay_implemented {c : Nat} (hc : c < 8) : ∀ r ∈ delayRegs c, regImpl r &&& Fld.DLY_CA_DELAY.mask = Fld.DLY_CA_DELAY.mask :=
  (by decide +kernel : ∀ c < 8, ∀ r ∈ delayRegs c, regImpl r &&& Fld.DLY_CA_DELAY.mask = Fld.DLY_CA_DELAY.mask) c hc

theorem delayReg_lt {c r : Nat} (h : r ∈ delayRegs c) : r < Reg.CH_STAT c := by
  simp only [delayRegs, List.mem_append, List.mem_map, List.mem_range, List.mem_singleton, or_assoc] at h
  unfold Reg.CH_STAT
  rcases h with ⟨j, hj, rfl⟩ | rfl | ⟨j, hj, rfl⟩ | ⟨j, hj, rfl⟩
  · unfold Reg.DLY_CA; omega
  · unfold Reg.DLY_WCK; omega
  · unfold Reg.DLY_WR; omega
  · unfold Reg.DLY_RD; omega

/-! ## Training (R460, R466) -/

theorem exec_mrw {s : State} (hok : trainOk s = true) (c : Fin 8) (mr data : Byte) : exec (.mrw c mr data) s
    = nextBy s [.ddr (fun d => { d with modeRegs := mapPut noByte d.modeRegs (256 * c.val + mr.toNat) (some data) }),
        .fld Reg.DDR_TRN_CTRL Fld.DDR_TRN_CTRL_DONE 1] :=
  congrArg (nextBy s) (if_pos hok)

theorem exec_mrr {s : State} (hok : trainOk s = true) {c : Fin 8} {mr b : Byte}
    (hwritten : mapGet noByte s.ddr.modeRegs (256 * c.val + mr.toNat) = some b) : exec (.mrr c mr) s
      = nextBy s [.fld Reg.DDR_TRN_ARG Fld.DDR_TRN_ARG_RESULT b.toNat, .fld Reg.DDR_TRN_CTRL Fld.DDR_TRN_CTRL_DONE 1] := by
  refine (congrArg (nextBy s) (if_pos hok)).trans ?_
  rw [hwritten]
  rfl

/-- The commands of comparing primitives. -/
theorem exec_comparing (mask : Nat) {o : Instr} (ho : o = .wffRff mask ∨ o = .rdc mask ∨ o = .loopback mask) (s : State) :
    exec o s = nextBy s (trainCompare mask s) := by
  rcases ho with rfl | rfl | rfl <;> rfl

/-- A primitive's last update is DONE. -/
theorem done_of_trainDone {s : State} (hs : s.Inv) (xs : List Act) :
    rf (applyActs s (xs ++ trainDone)) Reg.DDR_TRN_CTRL Fld.DDR_TRN_CTRL_DONE = 1 := by
  rw [applyActs_append]
  exact rf_fld (regsWf_of_inv (applyActs_inv s xs hs)) _ _ 1 (by decide) (by decide)

/-- A mode register that was written is read back. -/
theorem mrr_reads {s : State} (hs : s.Inv) (b : Byte) {t : State}
    (ht : applyActs s [.fld Reg.DDR_TRN_ARG Fld.DDR_TRN_ARG_RESULT b.toNat, .fld Reg.DDR_TRN_CTRL Fld.DDR_TRN_CTRL_DONE 1] = t) :
    rf t Reg.DDR_TRN_ARG Fld.DDR_TRN_ARG_RESULT = b.toNat ∧ rf t Reg.DDR_TRN_CTRL Fld.DDR_TRN_CTRL_DONE = 1
      ∧ (∀ r, r ≠ Reg.DDR_TRN_ARG → r ≠ Reg.DDR_TRN_CTRL → rd t r = rd s r) ∧ sameMemory s t := by
  subst ht
  refine ⟨?result, done_of_trainDone hs [_], fun r harg hctrl => rd_applyActs_other s _ r ?reg, sameMemory_applyActs s _ rfl⟩
  case result =>
    have hb : b.toNat < 2 ^ 16 := Nat.lt_trans b.isLt (by decide)
    refine (congrArg (getF · Fld.DDR_TRN_ARG_RESULT) (rd_applyAct_other _ (.fld Reg.DDR_TRN_CTRL _ _) Reg.DDR_TRN_ARG (by decide))).trans ?_
    exact (rf_fld (regsWf_of_inv hs) _ _ b.toNat (by decide) (by decide)).trans (Nat.mod_eq_of_lt hb)
  case reg => simp [Act.mayReg, Ne.symm harg, Ne.symm hctrl]

/-- A comparing primitive reports its mask. -/
theorem trainCompare_reports {s : State} (hs : s.Inv) (hok : trainOk s = true) {mask : Nat} (hmask : mask < 2 ^ 36) {t : State}
    (ht : applyActs s (trainCompare mask s) = t) :
    rd t Reg.DDR_TRN_ERR_LO = BitVec.ofNat 32 mask ∧ rf t Reg.DDR_TRN_ERR_HI Fld.DDR_TRN_ERR_HI_MASK = mask / 2 ^ 32
      ∧ rf t Reg.DDR_TRN_CTRL Fld.DDR_TRN_CTRL_DONE = 1 ∧ sameMemory s t := by
  rw [trainCompare, if_pos hok] at ht
  subst ht
  have iLo := applyAct_inv s (.reg Reg.DDR_TRN_ERR_LO (BitVec.ofNat 32 mask)) hs
  refine ⟨?lo, ?hi, done_of_trainDone hs [_, _], sameMemory_applyActs s _ rfl⟩
  case lo =>
    have himpl : regImpl Reg.DDR_TRN_ERR_LO = BitVec.allOnes 32 := by decide
    refine (rd_applyActs_other (applyAct s (.reg Reg.DDR_TRN_ERR_LO (BitVec.ofNat 32 mask))) [.reg Reg.DDR_TRN_ERR_HI _, .fld Reg.DDR_TRN_CTRL _ _]
      Reg.DDR_TRN_ERR_LO rfl).trans ?_
    refine (rd_putReg_same (regs_of_inv hs).1 _ _).trans ?_
    rw [himpl, BitVec.and_allOnes]
  case hi =>
    refine (congrArg (getF · Fld.DDR_TRN_ERR_HI_MASK) (rd_applyAct_other _ (.fld Reg.DDR_TRN_CTRL _ _) Reg.DDR_TRN_ERR_HI (by decide))).trans ?_
    refine (rf_reg (regsWf_of_inv iLo) _ _ _ (by decide) (by decide)).trans ?_
    exact (getF_putF _ _ _ (by decide)).trans (Nat.mod_eq_of_lt (Nat.div_lt_of_lt_mul hmask))

/-! ## Delays and MR4 (R461, R462, R466) -/

theorem exec_chApply {s : State} {a : Acc} {c : Fin 8} {v : Word} (hr : reaches s a (Reg.CH_APPLY c) true) (ha : actsFor a = 0)
    (hgo : getF v Fld.CH_APPLY_GO = 1) : exec (.chApply a c v) s = nextBy s [.fld (Reg.CH_STAT c) Fld.CH_STAT_PENDING 1] := by
  show nextBy s (gate a (Reg.CH_APPLY c) true false
    (fun u s => if u = 0 then chApply c v s else tenantFault s u stNOT_OWNER (Reg.CH_APPLY c)) s) = _
  rw [gate_reaches hr, if_pos ha, chApply, if_pos hgo]

/-- A field of a channel's status register set alone. -/
theorem chStat_set {s : State} (hs : s.Inv) {c : Nat} {f : Field} (hf : f.lo + f.width ≤ 32) (himpl : regImpl (Reg.CH_STAT c) &&& f.mask = f.mask)
    {v : Nat} (hv : v < 2 ^ f.width) {t : State} (ht : applyActs s [.fld (Reg.CH_STAT c) f v] = t) :
    rf t (Reg.CH_STAT c) f = v ∧ t.ddr = s.ddr ∧ ∀ r, r ≠ Reg.CH_STAT c → rd t r = rd s r := by
  subst ht
  exact ⟨(rf_fld (regsWf_of_inv hs) _ f v hf himpl).trans (Nat.mod_eq_of_lt hv), rfl,
    fun r hr => rd_applyAct_other s _ r (beq_eq_false_iff_ne.2 (Ne.symm hr))⟩

theorem exec_delayApplied {s : State} {c : Fin 8} (hpending : rf s (Reg.CH_STAT c) Fld.CH_STAT_PENDING = 1) : exec (.delayApplied c) s
    = nextBy s ([.fld (Reg.CH_STAT c) Fld.CH_STAT_PENDING 0,
        .ddr (fun d => { d with applied := (delayRegs c).foldl (fun m a => mapPut zeroWord m a (rd s a)) d.applied })]
      ++ eventNow s 11 1 allTenants (0xB00 + c.val) (arg [(16, c.val)])) :=
  congrArg (nextBy s) (if_pos hpending)

theorem exec_mr4Poll {s : State} {c : Fin 8} (hstate : rf s (Reg.CH_STAT c) Fld.CH_STAT_STATE = 1) (mr4 : Byte) :
    exec (.mr4Poll c mr4) s = nextBy s [.fld (Reg.CH_STAT c) Fld.CH_STAT_MR4 mr4.toNat] :=
  congrArg (nextBy s) (if_pos hstate)

theorem exec_delayCheck {s : State} {c : Fin 8} {i r : Nat} (hreg : (delayRegs c)[i]? = some r) (d : Int) : exec (.delayCheck c [(i, d)]) s
    = nextBy s [.fld r Fld.DLY_CA_DELAY (clampInt (rf s r Fld.DLY_CA_DELAY + clampInt d (-2) 2) 0 255).toNat,
        .fld (Reg.CH_STAT c) Fld.CH_STAT_PENDING 1] := by
  show nextBy s (if _ then _ else _) = _
  simp [hreg]

theorem clampInt_toNat_lt (x : Int) {n : Nat} : (clampInt x 0 n).toNat < n + 1 := by
  unfold clampInt
  split
  · exact Nat.succ_pos n
  · split <;> omega

/-- A delay that a check moves is set, and pending until the refresh. -/
theorem delay_moves {s : State} (hs : s.Inv) {c : Nat} (hc : c < 8) {r : Nat} (hr : r ∈ delayRegs c) {v : Nat} (hv : v < 256) {t : State}
    (ht : applyActs s [.fld r Fld.DLY_CA_DELAY v, .fld (Reg.CH_STAT c) Fld.CH_STAT_PENDING 1] = t) :
    rf t r Fld.DLY_CA_DELAY = v ∧ rf t (Reg.CH_STAT c) Fld.CH_STAT_PENDING = 1 ∧ ∀ q, q ≠ r → q ≠ Reg.CH_STAT c → rd t q = rd s q := by
  subst ht
  have iSet := applyAct_inv s (.fld r Fld.DLY_CA_DELAY v) hs
  refine ⟨?delay, rf_fld (regsWf_of_inv iSet) _ _ 1 (by decide) (pending_implemented hc), fun q hq hstat => rd_applyActs_other s _ q ?reg⟩
  case delay =>
    have hstat : (Act.fld (Reg.CH_STAT c) Fld.CH_STAT_PENDING 1).mayReg r = false := beq_eq_false_iff_ne.2 (Nat.ne_of_gt (delayReg_lt hr))
    refine (congrArg (getF · Fld.DLY_CA_DELAY) (rd_applyAct_other _ _ r hstat)).trans ?_
    exact (rf_fld (regsWf_of_inv hs) r _ v (by decide) (delay_implemented hc r hr)).trans (Nat.mod_eq_of_lt hv)
  case reg => simp [Act.mayReg, Ne.symm hq, Ne.symm hstat]

/-! ## A lost channel (R464) -/

theorem bitsOf_bit (n b : Nat) : (bitsOf n b b == 1) = n.testBit b := by
  rw [bitsOf, Nat.sub_self, Nat.zero_add, Nat.pow_one, Nat.testBit_eq_decide_div_mod_eq]
  rfl

/-- The channels left when pair `p` is struck out of DDR_CFG. -/
theorem channels_struck {s t : State} {p : Nat} (hp : p < 4) (hfuses : t.fuses = s.fuses)
    (hcfg : rf t Reg.DDR_CFG Fld.DDR_CFG_CHANNELS = rf s Reg.DDR_CFG Fld.DDR_CFG_CHANNELS &&& (0xFF - 3 * 4 ^ p)) :
    channels t = (channels s).filter (fun x => x / 2 != p) := by
  have hmask : ∀ p < 4, ∀ x < 8, (0xFF - 3 * 4 ^ p).testBit x = (x / 2 != p) := by decide
  rw [channels, channels, List.filter_filter, hcfg, hfuses]
  refine List.filter_congr fun x hx => ?_
  rw [bitsOf_bit, bitsOf_bit, Nat.testBit_and, hmask p hp x (List.mem_range.1 hx), Bool.and_right_comm, Bool.and_comm]

/-- What a channel fault does before it is told: the pair of channels is marked and struck, DRAM counts as lost. -/
def channelStruck (s : State) (c : Nat) : List Act :=
  [.fld (Reg.CH_STAT (2 * (c / 2))) Fld.CH_STAT_STATE 3, .fld (Reg.CH_STAT (2 * (c / 2) + 1)) Fld.CH_STAT_STATE 3,
   .fld Reg.DDR_CFG Fld.DDR_CFG_CHANNELS (rf s Reg.DDR_CFG Fld.DDR_CFG_CHANNELS &&& (0xFF - 3 * 4 ^ (c / 2))),
   .ddr (fun d => { d with lost := true }), .sys (fun y => { y with degraded := true })]

theorem exec_channelFault {s : State} {c : Fin 8} (hin : (channels s).contains c.val = true) : exec (.channelFault c) s
    = nextBy s (channelStruck s c ++ eventLv s 11 2 5 allTenants (0xB00 + c) (arg [(16, c)])) :=
  if_neg (by rw [hin]; decide)

theorem channelStruck_regs {s : State} (hs : s.Inv) {c : Nat} (hc : c < 8) :
    rf (applyActs s (channelStruck s c)) (Reg.CH_STAT (2 * (c / 2))) Fld.CH_STAT_STATE = 3
      ∧ rf (applyActs s (channelStruck s c)) (Reg.CH_STAT (2 * (c / 2) + 1)) Fld.CH_STAT_STATE = 3
      ∧ rf (applyActs s (channelStruck s c)) Reg.DDR_CFG Fld.DDR_CFG_CHANNELS
          = rf s Reg.DDR_CFG Fld.DDR_CFG_CHANNELS &&& (0xFF - 3 * 4 ^ (c / 2)) := by
  have hcfg : rf s Reg.DDR_CFG Fld.DDR_CFG_CHANNELS &&& (0xFF - 3 * 4 ^ (c / 2)) < 2 ^ 8 :=
    Nat.lt_of_le_of_lt Nat.and_le_left (getF_lt _ Fld.DDR_CFG_CHANNELS)
  have iEven := applyAct_inv s (.fld (Reg.CH_STAT (2 * (c / 2))) Fld.CH_STAT_STATE 3) hs
  have hEven : rf (applyAct s (.fld (Reg.CH_STAT (2 * (c / 2))) Fld.CH_STAT_STATE 3)) (Reg.CH_STAT (2 * (c / 2))) Fld.CH_STAT_STATE = 3 :=
    rf_fld (regsWf_of_inv hs) _ _ 3 (by decide) (chState_implemented (by omega))
  have hpair : Reg.CH_STAT (2 * (c / 2) + 1) ≠ Reg.CH_STAT (2 * (c / 2)) := by unfold Reg.CH_STAT; omega
  have hother : ∀ e, Reg.DDR_CFG ≠ Reg.CH_STAT e := fun e => by unfold Reg.DDR_CFG Reg.CH_STAT; omega
  unfold channelStruck
  generalize rf s Reg.DDR_CFG Fld.DDR_CFG_CHANNELS &&& (0xFF - 3 * 4 ^ (c / 2)) = k at *
  rw [applyActs_cons]
  generalize applyAct s (.fld (Reg.CH_STAT (2 * (c / 2))) Fld.CH_STAT_STATE 3) = even at *
  have iOdd := applyAct_inv even (.fld (Reg.CH_STAT (2 * (c / 2) + 1)) Fld.CH_STAT_STATE 3) iEven
  have hOdd : rf (applyAct even (.fld (Reg.CH_STAT (2 * (c / 2) + 1)) Fld.CH_STAT_STATE 3)) (Reg.CH_STAT (2 * (c / 2) + 1)) Fld.CH_STAT_STATE = 3 :=
    rf_fld (regsWf_of_inv iEven) _ _ 3 (by decide) (chState_implemented (by omega))
  refine ⟨(congrArg (getF · Fld.CH_STAT_STATE) (rd_applyActs_other even _ _ ?even)).trans hEven, ?odd, ?cfg⟩
  case even => simp [Act.mayReg, hpair, hother]
  case odd =>
    rw [applyActs_cons]
    refine (congrArg (getF · Fld.CH_STAT_STATE) (rd_applyActs_other _ _ _ ?_)).trans hOdd
    simp [Act.mayReg, hother]
  case cfg => exact (rf_fld (regsWf_of_inv iOdd) _ _ k (by decide) (by decide)).trans (Nat.mod_eq_of_lt hcfg)

/-- A lost channel takes its pair out of service. -/
theorem channelFault_strikes {s : State} (hs : s.Inv) {c : Nat} (hc : c < 8) (unit : Nat) (a : BitVec 64) {t : State}
    (ht : applyActs s (channelStruck s c ++ eventLv s 11 2 5 allTenants unit a) = t) :
    t.ddr.lost = true ∧ t.sys.degraded = true ∧ rf t (Reg.CH_STAT (2 * (c / 2))) Fld.CH_STAT_STATE = 3
      ∧ rf t (Reg.CH_STAT (2 * (c / 2) + 1)) Fld.CH_STAT_STATE = 3 ∧ channels t = (channels s).filter (fun x => x / 2 != c / 2)
      ∧ sameMemory s t := by
  rw [applyActs_append] at ht
  obtain ⟨heven, hodd, hcfg⟩ := channelStruck_regs hs hc
  have hmem : sameMemory s (applyActs s (channelStruck s c)) := sameMemory_applyActs s _ rfl
  have hview : unitView (applyActs s (channelStruck s c)) = (s.fuses, s.mem, { s.ddr with lost := true }, { s.sys with degraded := true }) := rfl
  obtain ⟨hmemEvent, hviewEvent, hregEvent⟩ := notices_leave (fun x hx => mem_eventLv hx) (applyActs_inv s (channelStruck s c) hs)
    (xs := eventLv s 11 2 5 allTenants unit a)
  rw [ht] at hmemEvent hviewEvent hregEvent
  generalize applyActs s (channelStruck s c) = struck at *
  have hkept : ∀ r, Reg.PB_UNIT_LOST ≠ r → r < 0xB0F000 → rd t r = rd struck r := fun r hlost hlt => by
    refine hregEvent r (fun u => ?_) (Ne.symm hlost)
    simp only [evtStatus, Reg.DDR_EVT_STATUS]
    omega
  have hunits := hviewEvent.trans hview
  have hstat : ∀ c < 8, rd t (Reg.CH_STAT c) = rd struck (Reg.CH_STAT c) := fun c hc =>
    hkept _ (by unfold Reg.PB_UNIT_LOST Reg.CH_STAT; omega) (by unfold Reg.CH_STAT; omega)
  refine ⟨congrArg (·.2.2.1.lost) hunits, congrArg (·.2.2.2.degraded) hunits, ?_, ?_, channels_struck (by omega) (congrArg (·.1) hunits) ?_,
    sameMemory_trans hmem hmemEvent⟩
  · exact (congrArg (getF · Fld.CH_STAT_STATE) (hstat _ (by omega))).trans heven
  · exact (congrArg (getF · Fld.CH_STAT_STATE) (hstat _ (by omega))).trans hodd
  · exact (congrArg (getF · Fld.DDR_CFG_CHANNELS) (hkept _ (by decide) (by decide))).trans hcfg

/-! ## DRAM laid anew (R464) -/

theorem length_channels_le (s : State) : (channels s).length ≤ 8 :=
  Nat.le_trans (List.length_filter_le _ _) (Nat.le_of_eq List.length_range)

theorem dieGb_le (d : Nat) : dieGb d ≤ 32 := by
  unfold dieGb
  split <;> decide

/-- Eight channels of two dies of two ranks: the capacity fits its register. -/
theorem usableMiB_lt (cfg : Word) {n : Nat} (hn : n ≤ 8) : usableMiB cfg n < 2 ^ 32 := by
  have hinstalled : installedMiB cfg n ≤ 8 * 2 * 32 * 128 * 2 :=
    Nat.mul_le_mul (Nat.mul_le_mul_right _ (Nat.mul_le_mul (Nat.mul_le_mul_right _ hn) (dieGb_le _))) (getF_lt cfg Fld.DDR_CFG_RANKS)
  unfold usableMiB
  split <;> omega

/-- What DRAM laid anew does first: contents and errors are gone, the capacity is that of the channels left. -/
def dramCleared (s : State) : List Act :=
  [.dramDrop 0 (2 ^ 36), .ddr (fun d => { d with bad := [], lost := false }), .sys (fun y => { y with snapOk := false }),
   .fld Reg.DDR_CAP Fld.DDR_CAP_MIB (usableMiB (rd s Reg.DDR_CFG) (channels s).length)]

/-- Without a running image nothing is reloaded: held bits are cleared and the event is told. -/
theorem exec_dramRelaid {s : State} (hlost : s.ddr.lost = true) (hnone : s.pnx.running = none) : exec .dramRelaid s
    = .next (runEffs (applyActs s (dramCleared s)) [heldInv (putF 0 Fld.STP_HELD_INV_ALL 1), fun s => eventNow s 11 3 allTenants 0xB30 0]) := by
  have hnone' : (applyActs s (dramCleared s)).pnx.running = none := hnone
  show nextBy s (dramRelaid s) = _
  rw [dramRelaid, hlost, Bool.not_true, if_neg Bool.false_ne_true, nextBy, applyActs_seqE, runEffs_cons]
  refine congrArg Host.Outcome.next (runEffs_skip (s := applyActs s (dramCleared s)) ?_ _)
  rw [hnone']

/-- Updates that leave memory, the capacity and the DRAM controller. -/
def Act.sparesDram (x : Act) : Prop := x.mayMem = false ∧ x.mayReg Reg.DDR_CAP = false ∧ ∀ u, (applyAct u x).ddr = u.ddr

theorem heldInv_sparesDram {v : Word} (hall : getF v Fld.STP_HELD_INV_ALL = 1) (s : State) : ∀ x ∈ heldInv v s, x.sparesDram := by
  rw [heldInv, if_pos hall]
  refine List.forall_mem_append.2 ⟨List.forall_mem_map.2 fun w hw => ⟨rfl, beq_eq_false_iff_ne.2 ?_, fun _ => rfl⟩,
    List.forall_mem_singleton.2 ⟨rfl, rfl, fun _ => rfl⟩⟩
  have hw := List.mem_range.1 hw
  unfold Reg.STP_HELD_VALID Reg.DDR_CAP
  omega

theorem ddrEvent_sparesDram (s : State) (b unit : Nat) (ts : List Nat) (a : BitVec 64) : ∀ x ∈ eventNow s 11 b ts unit a, x.sparesDram := by
  intro x hx
  rcases mem_eventNow hx with ⟨t, rfl⟩ | ⟨r, rfl⟩
  · refine ⟨rfl, beq_eq_false_iff_ne.2 ?_, fun u => by simp⟩
    simp only [evtStatus, Reg.DDR_EVT_STATUS, Reg.DDR_CAP]
    omega
  · exact ⟨rfl, rfl, fun _ => rfl⟩

theorem dramRelaid_lays {s : State} (hs : s.Inv) {t : State} (ht : runEffs (applyActs s (dramCleared s))
      [heldInv (putF 0 Fld.STP_HELD_INV_ALL 1), fun s => eventNow s 11 3 allTenants 0xB30 0] = t) :
    t.ddr.lost = false ∧ t.ddr.bad = [] ∧ rf t Reg.DDR_CAP Fld.DDR_CAP_MIB = usableMiB (rd s Reg.DDR_CFG) (channels s).length
      ∧ (∀ k, k < 2 ^ 36 → dramByte t k = 0) ∧ ∀ k, sramByte t k = sramByte s k := by
  have iBefore := applyActs_inv s [.dramDrop 0 (2 ^ 36), .ddr (fun d => { d with bad := [], lost := false }),
    .sys (fun y => { y with snapOk := false })] hs
  have hcap : rf (applyActs s (dramCleared s)) Reg.DDR_CAP Fld.DDR_CAP_MIB = usableMiB (rd s Reg.DDR_CFG) (channels s).length :=
    (rf_fld (regsWf_of_inv iBefore) _ _ _ (by decide) (by decide)).trans (Nat.mod_eq_of_lt (usableMiB_lt _ (length_channels_le s)))
  have hdram : ∀ k, k < 2 ^ 36 → dramByte (applyActs s (dramCleared s)) k = 0 := fun k hk =>
    mapGet_mapDrop zeroByte s.dram ⟨Nat.zero_le k, by omega⟩
  have hsram : (applyActs s (dramCleared s)).sram = s.sram := rfl
  have hddr : (applyActs s (dramCleared s)).ddr = { s.ddr with bad := [], lost := false } := rfl
  have iCleared := applyActs_inv s (dramCleared s) hs
  generalize applyActs s (dramCleared s) = cleared at *
  have hrest := forall_mem_seqE (P := Act.sparesDram) (es := [heldInv (putF 0 Fld.STP_HELD_INV_ALL 1), fun s => eventNow s 11 3 allTenants 0xB30 0])
    (List.forall_mem_cons.2 ⟨heldInv_sparesDram (by decide), List.forall_mem_singleton.2 fun u => ddrEvent_sparesDram u 3 0xB30 allTenants 0⟩) cleared
  rw [← applyActs_seqE] at ht
  obtain ⟨hdramRest, hsramRest, -⟩ := sameMemory_of_noMem (s := cleared) fun x hx => (hrest x hx).1
  have hcapRest := rd_applyActs_of_forall (fun x hx => (hrest x hx).2.1) cleared
  have hddrRest := applyActs_keeps State.ddr (fun x hx u _ => (hrest x hx).2.2 u) iCleared
  rw [ht] at hdramRest hsramRest hcapRest hddrRest
  rw [hddrRest, hddr]
  exact ⟨rfl, rfl, (congrArg (getF · Fld.DDR_CAP_MIB) hcapRest).trans hcap, fun k hk => (hdramRest k).trans (hdram k hk),
    fun k => (hsramRest k).trans (congrArg (mapGet zeroByte · k) hsram)⟩

/-! ## The statement on the DRAM controller -/

/-- Settles O48: primitives and delays by the registers they write, a lost channel by the bits it strikes out, DRAM laid anew by what its
stages drop and spare. -/
theorem dramIsTrainedAndRelaid : Obligations.DramIsTrainedAndRelaid := by
  unfold Obligations.DramIsTrainedAndRelaid
  intro s c hs
  refine ⟨fun hok => ⟨exec_mrw hok c, fun mr b hwritten => ⟨_, exec_mrr hok hwritten, mrr_reads hs b rfl⟩, ?compare⟩, ?apply, exec_delayApplied,
    ?mr4, ?check, fun hin => ⟨_, exec_channelFault hin, channelFault_strikes hs c.isLt _ _ rfl⟩,
    fun hlost hnone => ⟨_, exec_dramRelaid hlost hnone, dramRelaid_lays hs rfl⟩⟩
  case compare =>
    intro mask hmask reports
    have hreports : ∀ o, (o = .wffRff mask ∨ o = .rdc mask ∨ o = .loopback mask) → reports o := fun o ho =>
      ⟨_, exec_comparing mask ho s, trainCompare_reports hs hok hmask rfl⟩
    exact ⟨hreports _ (.inl rfl), hreports _ (.inr (.inl rfl)), hreports _ (.inr (.inr rfl))⟩
  case apply =>
    intro a v hr ha hgo
    exact ⟨_, exec_chApply hr ha hgo, chStat_set hs (by decide) (pending_implemented c.isLt) (by decide) rfl⟩
  case mr4 =>
    intro mr4 hstate
    obtain ⟨hread, -, hother⟩ := chStat_set hs (by decide) (mr4_implemented c.isLt) mr4.isLt rfl
    exact ⟨_, exec_mr4Poll hstate mr4, hread, hother⟩
  case check =>
    intro i r d hreg
    exact ⟨_, exec_delayCheck hreg d, delay_moves hs c.isLt (List.mem_of_getElem? hreg) (clampInt_toNat_lt _) rfl⟩

end Sys2Proof.Machine
end

section
/-! PROOFS of what the packer's decoder reads of the bits that its encoder writes (12_packer.md R471, R474, R475): fields and bytes, the table
section, and canonical codes, which are read back because the code space is not oversubscribed. -/

namespace Sys2Proof.Machine

/-! ## Bits and bytes (R471) -/

theorem length_natBits (k n : Nat) : (natBits k n).length = k := by
  induction k generalizing n with
  | zero => rfl
  | succ k ih => rw [natBits, List.length_cons, ih]

theorem bitsNat_natBits (k n : Nat) : bitsNat (natBits k n) = n % 2 ^ k := by
  induction k generalizing n with
  | zero => exact (Nat.mod_one n).symm
  | succ k ih =>
    have hcons : bitsNat (natBits (k + 1) n) = (if decide (n % 2 = 1) then 1 else 0) + 2 * bitsNat (natBits k (n / 2)) := rfl
    rw [hcons, ih, Nat.pow_succ' (m := 2), Nat.mod_mul (x := n)]
    simp only [decide_eq_true_eq]
    split <;> omega

/-- A field that fits is read back, and what follows it stays. -/
theorem takeBits_natBits {k x : Nat} (hx : x < 2 ^ k) (r : List Bool) : takeBits k (natBits k x ++ r) = some (x, r) := by
  have hlen := length_natBits k x
  rw [takeBits, if_neg (by simp [hlen]), List.take_left' hlen, List.drop_left' hlen, bitsNat_natBits, Nat.mod_eq_of_lt hx]

/-- The most significant of the bits written is the last. -/
theorem natBits_succ_last (k n : Nat) : natBits (k + 1) n = natBits k n ++ [decide (n / 2 ^ k % 2 = 1)] := by
  induction k generalizing n with
  | zero => simp [natBits]
  | succ k ih =>
    rw [natBits, ih, natBits, List.cons_append, Nat.div_div_eq_div_mul, ← Nat.pow_succ']

/-- A number read from bits, written in more bits, is those bits and zero bits. -/
theorem natBits_bitsNat {k : Nat} {l : List Bool} (h : l.length ≤ k) : natBits k (bitsNat l) = l ++ List.replicate (k - l.length) false := by
  induction k generalizing l with
  | zero => rw [List.length_eq_zero_iff.1 (Nat.le_zero.1 h)]; rfl
  | succ k ih =>
    cases l with
    | nil => simpa [natBits, bitsNat, List.replicate_succ] using ih (l := []) (Nat.zero_le k)
    | cons b l =>
      have hcons : bitsNat (b :: l) = (if b then 1 else 0) + 2 * bitsNat l := rfl
      have hhalf : bitsNat (b :: l) / 2 = bitsNat l := by rw [hcons]; split <;> omega
      have hodd : decide (bitsNat (b :: l) % 2 = 1) = b := by rw [hcons]; cases b <;> simp
      rw [natBits, hhalf, hodd, ih (Nat.le_of_succ_le_succ h), List.length_cons, Nat.add_sub_add_right, List.cons_append]

theorem byteBits_cons (b : Byte) (bs : List Byte) : byteBits (b :: bs) = natBits 8 b.toNat ++ byteBits bs := by
  have hbit : (List.range 8).map (fun i => b.getLsbD i) = natBits 8 b.toNat := by
    revert b
    decide
  rw [byteBits, List.flatMap_cons, hbit]
  rfl

theorem bitBytes_of_ne_nil {l : List Bool} (h : l ≠ []) : bitBytes l = BitVec.ofNat 8 (bitsNat (l.take 8)) :: bitBytes (l.drop 8) := by
  have hpos := List.length_pos_iff.2 h
  have hcount : (l.length + 7) / 8 = ((l.drop 8).length + 7) / 8 + 1 := by rw [List.length_drop]; omega
  have htail (i : Nat) : 8 * (i + 1) = 8 + 8 * i := by omega
  simp only [bitBytes, hcount, List.range_succ_eq_map, List.map_cons, List.map_map, Function.comp_def, List.drop_drop, htail, Nat.mul_zero,
    List.drop_zero, Nat.succ_eq_add_one]

theorem bitsNat_lt (l : List Bool) : bitsNat l < 2 ^ l.length := by
  induction l with
  | nil => decide
  | cons b l ih =>
    have hcons : bitsNat (b :: l) = (if b then 1 else 0) + 2 * bitsNat l := rfl
    rw [hcons, List.length_cons, Nat.pow_succ]
    split <;> omega

theorem byteBits_bitBytes_of_ne_nil {l : List Bool} (h : l ≠ []) :
    byteBits (bitBytes l) = l.take 8 ++ List.replicate (8 - l.length) false ++ byteBits (bitBytes (l.drop 8)) := by
  have htake : (l.take 8).length ≤ 8 := List.length_take_le 8 l
  have hbyte : (BitVec.ofNat 8 (bitsNat (l.take 8))).toNat = bitsNat (l.take 8) :=
    Nat.mod_eq_of_lt ((bitsNat_lt _).trans_le (Nat.pow_le_pow_right (by decide) htake))
  have hpad : 8 - (l.take 8).length = 8 - l.length := by rw [List.length_take]; omega
  rw [bitBytes_of_ne_nil h, byteBits_cons, hbyte, natBits_bitsNat htake, hpad]

/-- Packing bits into bytes only adds zero bits, up to the next byte boundary. -/
theorem byteBits_bitBytes (l : List Bool) : ∃ k < 8, byteBits (bitBytes l) = l ++ List.replicate k false := by
  induction hn : l.length using Nat.strong_induction_on generalizing l with
  | _ n ih =>
    by_cases hnil : l = []
    · exact ⟨0, by decide, by rw [hnil]; rfl⟩
    have hpos := List.length_pos_iff.2 hnil
    rw [byteBits_bitBytes_of_ne_nil hnil]
    rcases Nat.lt_or_ge 8 l.length with hmore | hlast
    · obtain ⟨k, hk, hrest⟩ := ih (l.drop 8).length (by rw [List.length_drop]; omega) _ rfl
      refine ⟨k, hk, ?_⟩
      rw [hrest, Nat.sub_eq_zero_of_le hmore.le, List.replicate_zero, List.append_nil, ← List.append_assoc, List.take_append_drop]
    · refine ⟨8 - l.length, by omega, ?_⟩
      rw [List.take_of_length_le hlast, List.drop_eq_nil_of_le hlast]
      exact List.append_nil _

/-! ## The table section (R474) -/

theorem take_eq_replicate_of_takeWhile {k : Nat} {l : List Nat} (h : k ≤ (l.takeWhile (· == 0)).length) : l.take k = List.replicate k 0 := by
  rw [← List.takeWhile_append_dropWhile (p := (· == 0)) (l := l), List.take_append_of_le_length h, List.eq_replicate_iff]
  refine ⟨by rw [List.length_take]; omega, fun b hb => ?_⟩
  simpa using List.mem_takeWhile_imp (List.mem_of_mem_take hb)

/-- The table section the encoder writes gives the code lengths back, and what follows it stays. -/
theorem readLens_lensBits {fuel : Nat} {lens : List Nat} (hfuel : lens.length ≤ fuel) (hlens : ∀ l ∈ lens, l < 16) (r : List Bool) :
    readLens fuel lens.length (lensBits fuel lens ++ r) = some (lens, r) := by
  induction fuel generalizing lens with
  | zero => rw [List.length_eq_zero_iff.1 (Nat.le_zero.1 hfuel)]; rfl
  | succ fuel ih =>
    match lens with
    | [] => rfl
    | 0 :: tail =>
      have hrun := (List.takeWhile_prefix (l := tail) (· == 0)).length_le
      rw [lensBits]
      generalize hk : min 15 (tail.takeWhile (· == 0)).length = k
      have hdrop := ih (lens := tail.drop k) (by simp at *; omega) (fun l hl => hlens l (List.mem_cons_of_mem _ (List.mem_of_mem_drop hl)))
      rw [List.length_drop] at hdrop
      have hmarker := takeBits_natBits (show 0 < 2 ^ 4 by decide)
      have hcount := takeBits_natBits (show k < 2 ^ 4 by omega)
      have hzeros := take_eq_replicate_of_takeWhile (show k ≤ (tail.takeWhile (· == 0)).length by omega)
      simp only [List.length_cons, readLens, List.append_assoc, hmarker, hcount, if_neg (show ¬tail.length < k by omega), hdrop, Option.map_some,
        List.replicate_succ, List.cons_append, ← hzeros, List.take_append_drop]
    | (v + 1) :: tail =>
      have hv : v + 1 < 2 ^ 4 := hlens _ List.mem_cons_self
      have htail := ih (Nat.le_of_succ_le_succ hfuel) (fun l hl => hlens l (List.mem_cons_of_mem _ hl))
      simp only [lensBits, List.length_cons, readLens, List.append_assoc, takeBits_natBits hv, htail, Option.map_some]

/-! ## Canonical codes (R475) -/

/-- One past the last code of length `l`: twice this is the first code of the next length (R475). -/
def codeEnd (lens : List Nat) (l : Nat) : Nat := firstCode lens l + (if l = 0 then 0 else (symsOf lens l).length)

theorem firstCode_succ (lens : List Nat) (l : Nat) : firstCode lens (l + 1) = 2 * codeEnd lens l := rfl

theorem codeEnd_succ (lens : List Nat) (l : Nat) : codeEnd lens (l + 1) = 2 * codeEnd lens l + (symsOf lens (l + 1)).length := rfl

theorem mem_symsOf {lens : List Nat} {l s : Nat} : s ∈ symsOf lens l ↔ s < lens.length ∧ lens.getD s 0 = l := by
  rw [symsOf, List.mem_filter, List.mem_range, beq_iff_eq]

theorem length_symsOf (lens : List Nat) (l : Nat) : (symsOf lens l).length = lens.count l := by
  have hread : (List.range lens.length).map (fun s => lens.getD s 0) = lens :=
    List.ext_getElem (by simp) fun i _ h => by simp [h]
  calc (symsOf lens l).length = (List.range lens.length).countP (fun s => lens.getD s 0 == l) := List.countP_eq_length_filter.symm
    _ = ((List.range lens.length).map (fun s => lens.getD s 0)).count l := (List.countP_map (p := (· == l))).symm
    _ = lens.count l := by rw [hread]

/-- The code space, in units of 2^-15, that a symbol of length `l` takes. -/
def codeSpace (l : Nat) : Nat := if l = 0 then 0 else 2 ^ (15 - l)

/-- The code space that the symbols of lengths up to `bound` take. -/
def spaceUpTo (bound : Nat) (lens : List Nat) : Nat := ((lens.filter (· ≤ bound)).map codeSpace).sum

theorem spaceUpTo_cons (bound l : Nat) (lens : List Nat) :
    spaceUpTo bound (l :: lens) = (if l ≤ bound then codeSpace l else 0) + spaceUpTo bound lens := by
  by_cases h : l ≤ bound <;> simp [spaceUpTo, h]

theorem spaceUpTo_succ (bound : Nat) (lens : List Nat) :
    spaceUpTo (bound + 1) lens = spaceUpTo bound lens + lens.count (bound + 1) * codeSpace (bound + 1) := by
  induction lens with
  | nil => simp [spaceUpTo]
  | cons l lens ih =>
    rw [spaceUpTo_cons, spaceUpTo_cons, ih]
    rcases Nat.lt_trichotomy l (bound + 1) with h | rfl | h
    · rw [if_pos h.le, if_pos (Nat.le_of_lt_succ h), List.count_cons_of_ne h.ne, Nat.add_assoc]
    · rw [if_pos le_rfl, if_neg (Nat.not_succ_le_self bound), List.count_cons_self]
      ring
    · rw [if_neg (by omega), if_neg (by omega), List.count_cons_of_ne h.ne', Nat.add_assoc]

/-- The codes of lengths up to `l` take the code space below `codeEnd` and no more. -/
theorem codeEnd_space (lens : List Nat) {l : Nat} (hl : l ≤ 15) : codeEnd lens l * 2 ^ (15 - l) = spaceUpTo l lens := by
  induction l with
  | zero =>
    have hzero : spaceUpTo 0 lens = 0 := List.sum_eq_zero fun x hx => by
      obtain ⟨l, hl, rfl⟩ := List.mem_map.1 hx
      rw [codeSpace, if_pos (by simpa using (List.mem_filter.1 hl).2)]
    rw [hzero]
    exact Nat.zero_mul _
  | succ l ih =>
    have hpow : 2 ^ (15 - l) = 2 * 2 ^ (15 - (l + 1)) := by rw [← Nat.pow_succ']; congr 1; omega
    rw [spaceUpTo_succ, ← ih (by omega), codeEnd_succ, length_symsOf, codeSpace, if_neg l.succ_ne_zero, hpow]
    ring

theorem codeEnd_le {lens : List Nat} (hspace : oversubscribed lens = false) {l : Nat} (hl : l ≤ 15) : codeEnd lens l ≤ 2 ^ l := by
  have htotal : (lens.map codeSpace).sum ≤ 2 ^ 15 := by
    rw [List.sum_eq_foldl]
    exact Nat.not_lt.1 (of_decide_eq_false hspace)
  have hpart : spaceUpTo l lens ≤ (lens.map codeSpace).sum := ((List.filter_sublist).map _).sum_le_sum (by simp)
  have hpow : 2 ^ l * 2 ^ (15 - l) = 2 ^ 15 := by rw [← Nat.pow_add]; congr 1; omega
  refine Nat.le_of_mul_le_mul_right ?_ (Nat.two_pow_pos (15 - l))
  rw [codeEnd_space lens hl, hpow]
  exact hpart.trans htotal

/-- Codes of one length lie beyond all codes of a shorter length that is extended to it. -/
theorem codeEnd_shift_le (lens : List Nat) (l k : Nat) : codeEnd lens l * 2 ^ (k + 1) ≤ firstCode lens (l + k + 1) := by
  induction k with
  | zero => exact (Nat.mul_comm _ 2).le
  | succ k ih =>
    have hstep : firstCode lens (l + k + 1) ≤ codeEnd lens (l + k + 1) := Nat.le_add_right _ _
    calc codeEnd lens l * 2 ^ (k + 1 + 1) = 2 * (codeEnd lens l * 2 ^ (k + 1)) := by ring
      _ ≤ 2 * codeEnd lens (l + k + 1) := Nat.mul_le_mul_left 2 (ih.trans hstep)

/-- The code of a symbol (R475). -/
def symCode (lens : List Nat) (s : Nat) : Nat := firstCode lens (lens.getD s 0) + (symsOf lens (lens.getD s 0)).findIdx (· == s)

theorem symBits_eq (lens : List Nat) (s : Nat) : symBits lens s = (natBits (lens.getD s 0) (symCode lens s)).reverse := rfl

/-- A symbol's code cut short is no code of the shorter length. -/
theorem shortened_not_code {lens : List Nat} {s l k : Nat} (hlen : l + 1 + k + 1 = lens.getD s 0) :
    (symsOf lens (l + 1))[symCode lens s / 2 ^ (k + 1) - firstCode lens (l + 1)]? = none := by
  have hfirst : firstCode lens (l + 1 + k + 1) ≤ symCode lens s := by rw [hlen]; exact Nat.le_add_right _ _
  have hbeyond : codeEnd lens (l + 1) ≤ symCode lens s / 2 ^ (k + 1) :=
    (Nat.le_div_iff_mul_le (Nat.two_pow_pos _)).2 ((codeEnd_shift_le lens (l + 1) k).trans hfirst)
  refine List.getElem?_eq_none ?_
  rw [codeEnd, if_neg l.succ_ne_zero] at hbeyond
  omega

theorem readSym_found {lens : List Nat} {l c c' s : Nat} {b : Bool} (hc : 2 * c + (if b then 1 else 0) = c') (hfirst : firstCode lens (l + 1) ≤ c')
    (hs : (symsOf lens (l + 1))[c' - firstCode lens (l + 1)]? = some s) (fuel : Nat) (bs : List Bool) :
    readSym lens (fuel + 1) l c (b :: bs) = some (s, bs) := by
  simp only [readSym, hc, if_pos hfirst, hs]

theorem readSym_onward {lens : List Nat} {l c c' : Nat} {b : Bool} (hc : 2 * c + (if b then 1 else 0) = c')
    (hnone : (symsOf lens (l + 1))[c' - firstCode lens (l + 1)]? = none) (fuel : Nat) (bs : List Bool) :
    readSym lens (fuel + 1) l c (b :: bs) = readSym lens fuel (l + 1) c' bs := by
  simp only [readSym, hc, hnone, ite_self]

theorem append_bit (x k : Nat) : 2 * (x / 2 ^ (k + 1)) + (if decide (x / 2 ^ k % 2 = 1) then 1 else 0) = x / 2 ^ k := by
  rw [Nat.pow_succ, ← Nat.div_div_eq_div_mul]
  simp only [decide_eq_true_eq]
  split <;> omega

theorem natBits_reverse_succ (k x : Nat) : (natBits (k + 1) x).reverse = decide (x / 2 ^ k % 2 = 1) :: (natBits k x).reverse := by
  rw [natBits_succ_last, List.reverse_append]
  rfl

section Symbol

variable {lens : List Nat} {s : Nat} (hcode : 0 < lens.getD s 0)
include hcode

theorem mem_symsOf_length : s ∈ symsOf lens (lens.getD s 0) := by
  refine mem_symsOf.2 ⟨Nat.lt_of_not_le fun h => ?_, rfl⟩
  rw [List.getD_eq_default _ _ h] at hcode
  exact Nat.lt_irrefl 0 hcode

theorem findIdx_symsOf_lt : (symsOf lens (lens.getD s 0)).findIdx (· == s) < (symsOf lens (lens.getD s 0)).length :=
  List.findIdx_lt_length_of_exists ⟨s, mem_symsOf_length hcode, beq_self_eq_true s⟩

theorem symCode_lt_codeEnd : symCode lens s < codeEnd lens (lens.getD s 0) := by
  have := findIdx_symsOf_lt hcode
  rw [symCode, codeEnd, if_neg (by omega)]
  omega

theorem symCode_lookup : (symsOf lens (lens.getD s 0))[symCode lens s - firstCode lens (lens.getD s 0)]? = some s := by
  rw [symCode, Nat.add_sub_cancel_left, List.getElem?_eq_getElem (findIdx_symsOf_lt hcode)]
  exact congrArg some (beq_iff_eq.1 (List.findIdx_getElem (w := findIdx_symsOf_lt hcode)))

/-- A symbol is read when all but the last `k + 1` bits of its code have been. -/
theorem readSym_suffix {k fuel l : Nat} (hfuel : k < fuel) (hlen : l + k + 1 = lens.getD s 0) (r : List Bool) :
    readSym lens fuel l (symCode lens s / 2 ^ (k + 1)) ((natBits (k + 1) (symCode lens s)).reverse ++ r) = some (s, r) := by
  obtain ⟨fuel, rfl⟩ := Nat.exists_eq_add_one_of_ne_zero (Nat.ne_zero_of_lt hfuel)
  induction k generalizing fuel l with
  | zero =>
    have hlookup := symCode_lookup hcode
    have hfirst : firstCode lens (lens.getD s 0) ≤ symCode lens s := Nat.le_add_right _ _
    rw [← hlen] at hlookup hfirst
    rw [natBits_reverse_succ]
    exact readSym_found ((append_bit _ 0).trans (Nat.div_one _)) hfirst hlookup fuel r
  | succ k ih =>
    obtain ⟨fuel, rfl⟩ := Nat.exists_eq_add_one_of_ne_zero (show fuel ≠ 0 by omega)
    rw [natBits_reverse_succ, List.cons_append, readSym_onward (append_bit _ _) (shortened_not_code (by omega)),
      ih (by omega) fuel (by omega)]

/-- What the encoder writes for a symbol is read as that symbol, and what follows it stays. -/
theorem readSym_symBits (hspace : oversubscribed lens = false) (hlens : ∀ l ∈ lens, l ≤ 15) (r : List Bool) :
    readSym lens 15 0 0 (symBits lens s ++ r) = some (s, r) := by
  have hlen : lens.getD s 0 ≤ 15 := by
    obtain ⟨hs, -⟩ := mem_symsOf.1 (mem_symsOf_length hcode)
    rw [List.getD_eq_getElem _ _ hs]
    exact hlens _ (List.getElem_mem hs)
  have hfits : symCode lens s / 2 ^ lens.getD s 0 = 0 :=
    Nat.div_eq_of_lt ((symCode_lt_codeEnd hcode).trans_le (codeEnd_le hspace hlen))
  obtain ⟨k, hk⟩ := Nat.exists_eq_add_one_of_ne_zero hcode.ne'
  rw [symBits_eq, hk]
  rw [hk] at hfits
  have hread := readSym_suffix hcode (k := k) (fuel := 15) (l := 0) (by omega) (by omega) r
  rwa [hfits] at hread

end Symbol

end Sys2Proof.Machine
end

section
/-! PROOFS of the packer's symbol stream (12_packer.md R472, R473, R476, R479, R480): length and distance symbols, matches, the encoder's code
lengths, and tokens. The decoder's output follows the encoder's position. -/

namespace Sys2Proof.Machine

/-! ## Length and distance symbols (R473) -/

/-- A number without its last bits has `k + 1` bits left. -/
theorem leading_bits {m k : Nat} (hm : 2 ^ k ≤ m) : 2 ^ k ≤ m / 2 ^ (log2 m - k) ∧ m / 2 ^ (log2 m - k) < 2 ^ (k + 1) := by
  have hpos : m ≠ 0 := ((Nat.two_pow_pos k).trans_le hm).ne'
  have hk : k ≤ log2 m := (Nat.le_log2 hpos).2 hm
  refine ⟨(Nat.le_div_iff_mul_le (Nat.two_pow_pos _)).2 ?_, (Nat.div_lt_iff_lt_mul (Nat.two_pow_pos _)).2 ?_⟩
  · rw [← Nat.pow_add, Nat.add_sub_cancel' hk]
    exact Nat.log2_self_le hpos
  · rw [← Nat.pow_add, show k + 1 + (log2 m - k) = log2 m + 1 by omega]
    exact Nat.lt_log2_self

theorem lenBase_small {m : Nat} (hm : m < 8) : lenBase (257 + m) = (m, 0) := by
  rw [lenBase, if_pos (by omega), Nat.add_sub_cancel_left]

theorem lenBase_large {e q : Nat} (he : 1 ≤ e) (hlow : 4 ≤ q) (hhigh : q < 8) : lenBase (265 + 4 * (e - 1) + (q - 4)) = (q * 2 ^ e, e) := by
  have hexp : (265 + 4 * (e - 1) + (q - 4) - 265) / 4 + 1 = e := by omega
  have hlead : (265 + 4 * (e - 1) + (q - 4) - 265) % 4 + 4 = q := by omega
  rw [lenBase, if_neg (by omega)]
  dsimp only
  rw [hexp, hlead]

theorem distBase_small {m : Nat} (hm : m < 4) : distBase m = (m, 0) := if_pos hm

theorem distBase_large {e q : Nat} (he : 1 ≤ e) (hlow : 2 ≤ q) (hhigh : q < 4) : distBase (4 + 2 * (e - 1) + (q - 2)) = (q * 2 ^ e, e) := by
  have hexp : (4 + 2 * (e - 1) + (q - 2) - 4) / 2 + 1 = e := by omega
  have hlead : (4 + 2 * (e - 1) + (q - 2) - 4) % 2 + 2 = q := by omega
  rw [distBase, if_neg (by omega)]
  dsimp only
  rw [hexp, hlead]

/-- A match length is its symbol's base value and extra bits. -/
theorem lenSym_spec {n : Nat} (h4 : 4 ≤ n) (h259 : n ≤ 259) :
    257 ≤ (lenSym n).1 ∧ (lenSym n).1 < 285 ∧ (lenSym n).2.2 < 2 ^ (lenSym n).2.1 ∧ (lenBase (lenSym n).1).2 = (lenSym n).2.1
      ∧ (lenBase (lenSym n).1).1 + (lenSym n).2.2 + 4 = n := by
  obtain ⟨m, rfl⟩ := Nat.exists_eq_add_of_le' h4
  rw [lenSym, Nat.add_sub_cancel]
  by_cases hm : m < 8
  · rw [if_pos hm, lenBase_small hm]
    exact ⟨by omega, by omega, Nat.one_pos, rfl, rfl⟩
  · obtain ⟨hlow, hhigh⟩ := leading_bits (m := m) (k := 2) (by omega)
    have hlog : log2 m < 8 := (Nat.log2_lt (by omega)).2 (by omega)
    have hlog3 : 3 ≤ log2 m := (Nat.le_log2 (by omega)).2 (by omega)
    rw [if_neg hm]
    dsimp only
    rw [lenBase_large (by omega) hlow hhigh]
    exact ⟨by omega, by omega, Nat.mod_lt m (Nat.two_pow_pos _), rfl, congrArg (· + 4) (Nat.div_add_mod' m _)⟩

/-- A match distance is its code's base value and extra bits. -/
theorem distSym_spec {d : Nat} (h1 : 1 ≤ d) (hmax : d ≤ 16384) :
    (distSym d).1 < 28 ∧ (distSym d).2.2 < 2 ^ (distSym d).2.1 ∧ (distBase (distSym d).1).2 = (distSym d).2.1
      ∧ (distBase (distSym d).1).1 + (distSym d).2.2 + 1 = d := by
  obtain ⟨m, rfl⟩ := Nat.exists_eq_add_of_le' h1
  rw [distSym, Nat.add_sub_cancel]
  by_cases hm : m < 4
  · rw [if_pos hm, distBase_small hm]
    exact ⟨by omega, Nat.one_pos, rfl, rfl⟩
  · obtain ⟨hlow, hhigh⟩ := leading_bits (m := m) (k := 1) (by omega)
    have hlog : log2 m < 14 := (Nat.log2_lt (by omega)).2 (by omega)
    have hlog2 : 2 ≤ log2 m := (Nat.le_log2 (by omega)).2 (by omega)
    rw [if_neg hm]
    dsimp only
    rw [distBase_large (by omega) hlow hhigh]
    exact ⟨by omega, Nat.mod_lt m (Nat.two_pow_pos _), rfl, congrArg (· + 1) (Nat.div_add_mod' m _)⟩

/-! ## Matches (R476, R479) -/

/-- Two lists agree up to the limit at most, and have the same bytes as far as they agree. -/
theorem agree_spec (n : Nat) (xs ys : List Byte) :
    agree n xs ys ≤ n ∧ ∀ i < agree n xs ys, ∃ b, xs[i]? = some b ∧ ys[i]? = some b := by
  induction n, xs, ys using agree.induct with
  | case1 => exact ⟨Nat.le_refl 0, fun i hi => absurd hi (Nat.not_lt_zero i)⟩
  | case2 n xs y ys ih =>
    obtain ⟨hle, hsame⟩ := ih
    rw [agree, if_pos rfl]
    refine ⟨Nat.succ_le_succ hle, fun i hi => ?_⟩
    cases i with
    | zero => exact ⟨y, rfl, rfl⟩
    | succ i => exact hsame i (Nat.lt_of_succ_lt_succ hi)
  | case3 n x xs y ys hne =>
    rw [agree, if_neg hne]
    exact ⟨Nat.zero_le _, fun i hi => absurd hi (Nat.not_lt_zero i)⟩
  | case4 n xs ys hend =>
    have hnone : agree (n + 1) xs ys = 0 := by simp only [agree]
    rw [hnone]
    exact ⟨Nat.zero_le _, fun i hi => absurd hi (Nat.not_lt_zero i)⟩

/-- A match of `n` bytes at position `p` of the data, from `d` bytes back: the two may overlap. -/
structure Matches (data : List Byte) (p n d : Nat) : Prop where
  pos : 1 ≤ d
  back : d ≤ p
  same : ∀ i < n, ∃ b, data[p - d + i]? = some b ∧ data[p + i]? = some b

/-- What the search for a match keeps: nothing found, or a match within the limits. -/
def FoundMatch (data : List Byte) (p : Nat) (b : Nat × Nat) : Prop := b.1 = 0 ∨ b.1 ≤ 259 ∧ b.2 ≤ 16384 ∧ Matches data p b.1 b.2

theorem foundMatch_agree {data : List Byte} {p d : Nat} (h1 : 1 ≤ d) (hmax : d ≤ 16384) (hp : d ≤ p) :
    FoundMatch data p (agree 259 (data.drop (p - d)) (data.drop p), d) := by
  obtain ⟨hle, hsame⟩ := agree_spec 259 (data.drop (p - d)) (data.drop p)
  exact .inr ⟨hle, hmax, h1, hp, fun i hi => by simpa only [List.getElem?_drop] using hsame i hi⟩

theorem longestMatch_spec {data : List Byte} {p n d : Nat} (h : longestMatch data p = some (n, d)) :
    4 ≤ n ∧ n ≤ 259 ∧ d ≤ 16384 ∧ Matches data p n d := by
  unfold longestMatch at h
  split at h
  · cases h
  dsimp only at h
  split at h
  case isFalse => cases h
  case isTrue hfour =>
    have hbest := Option.some.inj h
    rw [hbest] at hfour
    have hfound : FoundMatch data p (n, d) := by
      rw [← hbest]
      refine List.foldlRecOn _ _ (.inl rfl) fun b hb k hk => ?_
      have hcand := List.mem_filter.1 (List.mem_of_mem_take hk)
      obtain ⟨j, hj, rfl⟩ := List.mem_map.1 hcand.1
      have hj' := List.mem_range.1 hj
      split
      · exact foundMatch_agree (by omega) (by omega) (by omega)
      · exact hb
    rcases hfound with hzero | ⟨hle, hmax, hm⟩
    · exact absurd hfour (Nat.not_le.2 (lt_of_eq_of_lt hzero (by decide)))
    · exact ⟨hfour, hle, hmax, hm⟩

theorem Matches.end_le {data : List Byte} {p n d : Nat} (h : Matches data p n d) (hn : 0 < n) : p + n ≤ data.length := by
  obtain ⟨b, -, hb⟩ := h.same (n - 1) (by omega)
  have := (List.getElem?_eq_some_iff.1 hb).1
  omega

theorem take_succ_reverse {data : List Byte} {p : Nat} {b : Byte} (h : data[p]? = some b) :
    (data.take (p + 1)).reverse = b :: (data.take p).reverse := by
  rw [List.take_add_one, h, List.reverse_append]
  rfl

/-- The byte `d` back from position `p`, where the output is held newest first. -/
theorem getD_take_reverse {data : List Byte} {p d : Nat} {b c : Byte} (h1 : 1 ≤ d) (hp : d ≤ p) (hb : data[p - d]? = some b)
    (hc : data[p]? = some c) : (data.take p).reverse.getD (d - 1) 0 = b := by
  have hlen := (List.getElem?_eq_some_iff.1 hc).1
  have htake : (data.take p).length = p := List.length_take_of_le hlen.le
  rw [List.getD_eq_getElem?_getD, List.getElem?_reverse (by omega), htake, List.getElem?_take_of_lt (by omega),
    show p - 1 - (d - 1) = p - d by omega, hb]
  rfl

/-- Copying a match extends the output as far as the data go on. -/
theorem copyBack_matches {data : List Byte} {p n d : Nat} (h : Matches data p n d) :
    copyBack n d (data.take p).reverse = (data.take (p + n)).reverse := by
  induction n generalizing p with
  | zero => rfl
  | succ n ih =>
    obtain ⟨hpos, hback, hsame⟩ := h
    obtain ⟨b, hfrom, hto⟩ := hsame 0 n.succ_pos
    have hnext : Matches data (p + 1) n d := ⟨hpos, Nat.le_succ_of_le hback, fun i hi => by
      have hshift := hsame (i + 1) (Nat.succ_lt_succ hi)
      rwa [show p - d + (i + 1) = p + 1 - d + i by omega, show p + (i + 1) = p + 1 + i by omega] at hshift⟩
    rw [copyBack, getD_take_reverse hpos hback hfrom hto, ← take_succ_reverse (p := p) hto, ih hnext, Nat.add_assoc, Nat.add_comm 1 n]

/-! ## The encoder's code lengths (R480) -/

/-- What R475 asks of the code lengths of a block, and R480 of those an encoder builds. -/
structure PackTable (lens : List Nat) : Prop where
  length : lens.length = 313
  le : ∀ l ∈ lens, l ≤ 15
  lits : oversubscribed (lens.take 285) = false
  dists : oversubscribed (lens.drop 285) = false

theorem lensOk_iff {counts lens : List Nat} :
    lensOk counts lens = true ↔ PackTable lens ∧ ∀ s < 313, counts.getD s 0 = 0 ∨ 0 < lens.getD s 0 := by
  simp only [lensOk, Bool.and_eq_true, beq_iff_eq, List.all_eq_true, decide_eq_true_eq, Bool.not_eq_true', Bool.or_eq_true, List.mem_range]
  exact ⟨fun ⟨⟨⟨⟨hlen, hle⟩, hl⟩, hd⟩, hc⟩ => ⟨⟨hlen, hle, hl, hd⟩, hc⟩,
    fun ⟨⟨hlen, hle, hl, hd⟩, hc⟩ => ⟨⟨⟨⟨hlen, hle⟩, hl⟩, hd⟩, hc⟩⟩

theorem oversubscribed_replicate (n l : Nat) : oversubscribed (List.replicate n l) = decide (32768 < n * codeSpace l) := by
  rw [oversubscribed, List.map_replicate, ← List.sum_eq_foldl, List.sum_replicate, smul_eq_mul]
  rfl

theorem map_range_cut (a b x y : Nat) :
    (List.range (a + b)).map (fun s => if s < a then x else y) = List.replicate a x ++ List.replicate b y :=
  List.ext_getElem (by simp) fun s _ _ => by simp [List.getElem_append]

theorem packTable_even : PackTable (List.replicate 285 9 ++ List.replicate 28 5) where
  length := by rw [List.length_append, List.length_replicate, List.length_replicate]
  le l hl := by
    rcases List.mem_append.1 hl with hl | hl <;> rw [List.eq_of_mem_replicate hl] <;> decide
  lits := by
    rw [List.take_left' List.length_replicate, oversubscribed_replicate]
    decide
  dists := by
    rw [List.drop_left' List.length_replicate, oversubscribed_replicate]
    decide

/-- The encoder's code lengths conform, whether they are those that R480 leaves to it or those that stand in for them. -/
theorem lensOk_packLens (counts : List Nat) : lensOk counts (packLens counts) = true := by
  unfold packLens
  split
  case isTrue h => exact h
  case isFalse =>
    refine lensOk_iff.2 ⟨map_range_cut 285 28 9 5 ▸ packTable_even, fun s hs => .inr ?_⟩
    rw [List.getD_eq_getElem _ _ (by simpa using hs), List.getElem_map]
    split <;> decide

theorem packTable_packLens (counts : List Nat) : PackTable (packLens counts) := (lensOk_iff.1 (lensOk_packLens counts)).1

/-- Does every symbol of a list, as far as there are symbols, have a code? -/
def Codes (lens syms : List Nat) : Prop := ∀ s ∈ syms, s < 313 → 0 < lens.getD s 0

theorem codes_packLens (toks : List PackTok) : Codes (packLens (symCounts toks)) (256 :: toks.flatMap tokSyms) := by
  intro s hs hlt
  refine ((lensOk_iff.1 (lensOk_packLens (symCounts toks))).2 s hlt).resolve_left fun hzero => ?_
  rw [symCounts, List.getD_eq_getElem _ _ (by simpa using hlt), List.getElem_map, List.getElem_range, List.length_eq_zero_iff] at hzero
  exact List.filter_eq_nil_iff.1 hzero s hs (beq_self_eq_true s)

theorem getD_take {lens : List Nat} {s k : Nat} (hs : s < k) : (lens.take k).getD s 0 = lens.getD s 0 := by
  rw [List.getD_eq_getElem?_getD, List.getElem?_take_of_lt hs, List.getD_eq_getElem?_getD]

theorem getD_drop (lens : List Nat) (s k : Nat) : (lens.drop k).getD s 0 = lens.getD (k + s) 0 := by
  rw [List.getD_eq_getElem?_getD, List.getElem?_drop, List.getD_eq_getElem?_getD]

section Table

variable {lens : List Nat} (ht : PackTable lens)
include ht

theorem PackTable.readLens_lensBits (r : List Bool) : readLens 313 313 (lensBits 313 lens ++ r) = some (lens, r) := by
  have hread := Machine.readLens_lensBits ht.length.le (fun l hl => Nat.lt_succ_of_le (ht.le l hl)) r
  rwa [ht.length] at hread

theorem PackTable.readLit {s : Nat} (hs : s < 285) (hcode : 0 < lens.getD s 0) (r : List Bool) :
    readSym (lens.take 285) 15 0 0 (symBits (lens.take 285) s ++ r) = some (s, r) :=
  readSym_symBits (hcode.trans_eq (getD_take hs).symm) ht.lits (fun l hl => ht.le l (List.mem_of_mem_take hl)) r

theorem PackTable.readDist {c : Nat} (hcode : 0 < lens.getD (285 + c) 0) (r : List Bool) :
    readSym (lens.drop 285) 15 0 0 (symBits (lens.drop 285) c ++ r) = some (c, r) :=
  readSym_symBits (hcode.trans_eq (getD_drop lens c 285).symm) ht.dists (fun l hl => ht.le l (List.mem_of_mem_drop hl)) r

/-! ## The symbol stream (R472, R476) -/

variable (rawLen fuel : Nat) (out : List Byte) (n : Nat)

/-- A literal writes its byte. -/
theorem PackTable.decodeSyms_lit {b : Byte} (hcode : Codes lens (tokSyms (.lit b))) (hfits : n + 1 ≤ rawLen) (r : List Bool) :
    decodeSyms (lens.take 285) (lens.drop 285) rawLen (fuel + 1) (tokBits lens (.lit b) ++ r) out n
      = decodeSyms (lens.take 285) (lens.drop 285) rawLen fuel r (b :: out) (n + 1) := by
  have hb := b.isLt
  have hread := ht.readLit (show b.toNat < 285 by omega) (hcode _ List.mem_cons_self (by omega)) r
  rw [decodeSyms, tokBits, hread]
  dsimp only
  rw [if_pos hb, if_neg (Nat.not_lt.2 hfits), BitVec.ofNat_toNat, BitVec.setWidth_eq]

/-- A match copies its bytes. -/
theorem PackTable.decodeSyms_cpy {len d : Nat} (hcode : Codes lens (tokSyms (.cpy len d))) (h4 : 4 ≤ len) (h259 : len ≤ 259) (h1 : 1 ≤ d)
    (hmax : d ≤ 16384) (hback : d ≤ out.length) (hfits : n + len ≤ rawLen) (r : List Bool) :
    decodeSyms (lens.take 285) (lens.drop 285) rawLen (fuel + 1) (tokBits lens (.cpy len d) ++ r) out n
      = decodeSyms (lens.take 285) (lens.drop 285) rawLen fuel r (copyBack len d out) (n + len) := by
  obtain ⟨hsLow, hsHigh, hx, hxBits, hlen⟩ := lenSym_spec h4 h259
  obtain ⟨hc, hy, hyBits, hd⟩ := distSym_spec h1 hmax
  have hsRead := ht.readLit hsHigh (hcode _ List.mem_cons_self (by omega))
  have hcRead := ht.readDist (hcode _ (List.mem_cons_of_mem _ List.mem_cons_self) (by omega))
  have hnotLit : ¬(lenSym len).1 < 256 := by omega
  have hnotEnd : (lenSym len).1 ≠ 256 := by omega
  rw [decodeSyms, tokBits]
  simp only [List.append_assoc, hsRead, if_neg hnotLit, if_neg hnotEnd, hxBits, takeBits_natBits hx, hcRead, hyBits, takeBits_natBits hy, hlen, hd,
    if_neg (Nat.not_lt.2 hback), if_neg (Nat.not_lt.2 hfits)]

/-- End-of-block ends a block whose output has its length, before fewer than 8 zero bits. -/
theorem PackTable.decodeSyms_end (hcode : 0 < lens.getD 256 0) {pad : Nat} (hpad : pad < 8) :
    decodeSyms (lens.take 285) (lens.drop 285) rawLen (fuel + 1) (symBits (lens.take 285) 256 ++ List.replicate pad false) out rawLen
      = .ok ((out.take rawLen).reverse) := by
  have hread := ht.readLit (show 256 < 285 by decide) hcode (List.replicate pad false)
  have hrest : ¬(8 ≤ (List.replicate pad false).length ∨ (List.replicate pad false).any id = true) := by
    rintro (hlong | hone)
    · rw [List.length_replicate] at hlong
      omega
    · obtain ⟨b, hb, htrue⟩ := List.any_eq_true.1 hone
      exact Bool.false_ne_true ((List.eq_of_mem_replicate hb).symm.trans htrue)
  rw [decodeSyms, hread]
  dsimp only
  rw [if_neg (by decide), if_pos rfl, if_neg (Nat.lt_irrefl _), if_neg hrest]

end Table

/-! ## Tokens (R479) -/

theorem codes_append {lens as bs : List Nat} : Codes lens (as ++ bs) ↔ Codes lens as ∧ Codes lens bs := List.forall_mem_append

theorem packToks_of_le {data : List Byte} {p : Nat} (h : data.length ≤ p) (fuel : Nat) : packToks data fuel p = [] := by
  cases fuel with
  | zero => rfl
  | succ fuel => rw [packToks, List.getElem?_eq_none h]

theorem packToks_cpy {data : List Byte} {p len d : Nat} (hp : p < data.length) (hm : longestMatch data p = some (len, d)) (fuel : Nat) :
    packToks data (fuel + 1) p = .cpy len d :: packToks data fuel (p + len) := by
  rw [packToks, List.getElem?_eq_getElem hp, hm]

theorem packToks_lit {data : List Byte} {p : Nat} (hp : p < data.length) (hm : longestMatch data p = none) (fuel : Nat) :
    packToks data (fuel + 1) p = .lit data[p] :: packToks data fuel (p + 1) := by
  rw [packToks, List.getElem?_eq_getElem hp, hm]

/-- After all tokens, end-of-block leaves the data past the history. -/
theorem PackTable.decodeSyms_past {lens : List Nat} (ht : PackTable lens) (hend : 0 < lens.getD 256 0) {data : List Byte} {hist pad fuel : Nat}
    (hpad : pad < 8) (hhist : hist ≤ data.length) :
    decodeSyms (lens.take 285) (lens.drop 285) (data.length - hist) (fuel + 1) (symBits (lens.take 285) 256 ++ List.replicate pad false)
      (data.take data.length).reverse (data.length - hist) = .ok (data.drop hist) := by
  rw [ht.decodeSyms_end _ _ _ hend hpad, List.take_length, List.take_reverse, List.reverse_reverse, Nat.sub_sub_self hhist]

/-- The symbol stream of the data from position `p` on decodes, after the data before it, to the data past the history: each token brings
the output up to the position of the next. -/
theorem PackTable.decodeSyms_packToks {lens : List Nat} (ht : PackTable lens) (hend : 0 < lens.getD 256 0) {data : List Byte} {hist pad : Nat}
    (hpad : pad < 8) {fuel fuel' p : Nat} (hhist : hist ≤ p) (hp : p ≤ data.length) (hfuel : data.length - p ≤ fuel)
    (hfuel' : data.length - p < fuel') (hcodes : Codes lens ((packToks data fuel p).flatMap tokSyms)) :
    decodeSyms (lens.take 285) (lens.drop 285) (data.length - hist) fuel'
      ((packToks data fuel p).flatMap (tokBits lens) ++ (symBits (lens.take 285) 256 ++ List.replicate pad false)) (data.take p).reverse (p - hist)
      = .ok (data.drop hist) := by
  obtain ⟨fuel', rfl⟩ := Nat.exists_eq_add_one_of_ne_zero (Nat.ne_zero_of_lt hfuel')
  induction fuel generalizing p fuel' with
  | zero =>
    obtain rfl : p = data.length := by omega
    exact ht.decodeSyms_past hend hpad hhist
  | succ fuel ih =>
    rcases hp.eq_or_lt with rfl | hp
    · rw [packToks_of_le le_rfl]
      exact ht.decodeSyms_past hend hpad hhist
    obtain ⟨fuel', rfl⟩ := Nat.exists_eq_add_one_of_ne_zero (show fuel' ≠ 0 by omega)
    cases hm : longestMatch data p with
    | none =>
      rw [packToks_lit hp hm, List.flatMap_cons, codes_append] at hcodes
      rw [packToks_lit hp hm, List.flatMap_cons, List.append_assoc, ht.decodeSyms_lit _ _ _ _ hcodes.1 (by omega),
        ← take_succ_reverse (List.getElem?_eq_getElem hp), ← Nat.sub_add_comm hhist]
      exact ih (by omega) (by omega) (by omega) hcodes.2 fuel' (by omega)
    | some m =>
      obtain ⟨len, d⟩ := m
      obtain ⟨h4, h259, hmax, hmatch⟩ := longestMatch_spec hm
      have hstop := hmatch.end_le (by omega)
      have hback : d ≤ (data.take p).reverse.length := by
        rw [List.length_reverse, List.length_take_of_le hp.le]
        exact hmatch.back
      rw [packToks_cpy hp hm, List.flatMap_cons, codes_append] at hcodes
      rw [packToks_cpy hp hm, List.flatMap_cons, List.append_assoc,
        ht.decodeSyms_cpy _ _ _ _ hcodes.1 h4 h259 hmatch.pos hmax hback (by omega), copyBack_matches hmatch, ← Nat.sub_add_comm hhist]
      exact ih (by omega) (by omega) (by omega) hcodes.2 fuel' (by omega)

end Sys2Proof.Machine
end

section
/-! PROOFS of the statement on the packer's blocks (12_packer.md R468 to R470, R480, R481): headers, raw blocks, packed blocks, then the
statement. -/

namespace Sys2Proof.Machine

/-! ## Headers (R468, R469) -/

/-- FLAGS of a block without its MODE (R468). -/
def blockFlags (stream cont last : Bool) : Nat := (if stream then 4 else 0) + (if cont then 8 else 0) + (if last then 16 else 0)

/-- A block as the encoder writes it: a header for these flags and bytes, and a payload. -/
def blockOf (flags mode : Nat) (raw payload : List Byte) : List Byte :=
  blockHeader (flags / 4 * 4 + mode) raw.length (16 + payload.length) (crc32 raw) ++ payload

theorem encodeBlock_eq (flags : Nat) (hist raw : List Byte) : encodeBlock flags hist raw =
    if raw.isEmpty || noGain hist raw then blockOf flags 0 raw raw else blockOf flags 1 raw (packPayload hist raw) := rfl

section Header

variable (flags mode : Nat) (raw payload : List Byte)

theorem drop_blockOf : (blockOf flags mode raw payload).drop 16 = payload := rfl

theorem length_blockOf : (blockOf flags mode raw payload).length = 16 + payload.length := by
  rw [blockOf, List.length_append]
  rfl

theorem hdrFlags_blockOf : hdrFlags (blockOf flags mode raw payload) = (flags / 4 * 4 + mode) % 256 := rfl

theorem hdrRawLen_blockOf (h : raw.length ≤ 65536) : hdrRawLen (blockOf flags mode raw payload) = raw.length := by
  have hbytes : ((blockOf flags mode raw payload).drop 6).take 3 = leBytes 3 raw.length := rfl
  rw [hdrRawLen, hbytes, leValue_leBytes, Nat.mod_eq_of_lt (by omega)]

theorem hdrBlockLen_blockOf (h : payload.length ≤ 65536) : hdrBlockLen (blockOf flags mode raw payload) = 16 + payload.length := by
  have hbytes : ((blockOf flags mode raw payload).drop 9).take 3 = leBytes 3 (16 + payload.length) := rfl
  rw [hdrBlockLen, hbytes, leValue_leBytes, Nat.mod_eq_of_lt (by omega)]

theorem hdrCheck_blockOf : hdrCheck (blockOf flags mode raw payload) = (crc32 raw).toNat := by
  have hbytes : ((blockOf flags mode raw payload).drop 12).take 4 = leBytes 4 (crc32 raw).toNat := rfl
  rw [hdrCheck, hbytes, leValue_leBytes]
  exact Nat.mod_eq_of_lt (crc32 raw).isLt

end Header

/-- The bits of FLAGS are what they are written for. -/
theorem blockFlags_bits : ∀ stream cont last : Bool, ∀ mode < 2,
    let f := (blockFlags stream cont last / 4 * 4 + mode) % 256
    f < 32 ∧ f % 4 = mode ∧ (bitsOf f 2 2 == 1) = stream ∧ (bitsOf f 3 3 == 1) = cont ∧ (bitsOf f 4 4 == 1) = last := by
  decide

section Flags

variable {mode : Nat} (hmode : mode < 2) (stream cont last : Bool) (raw payload : List Byte)
include hmode

theorem hdrMode_blockOf : hdrMode (blockOf (blockFlags stream cont last) mode raw payload) = mode := by
  obtain ⟨-, hm, -⟩ := blockFlags_bits stream cont last mode hmode
  exact hm

theorem hdrCont_blockOf : hdrCont (blockOf (blockFlags stream cont last) mode raw payload) = cont := by
  obtain ⟨-, -, -, hc, -⟩ := blockFlags_bits stream cont last mode hmode
  exact hc

end Flags

section Block

variable {stream cont last : Bool} {mode : Nat} {raw payload : List Byte} {ctx : Option (List Byte)}

/-- The header the encoder writes is none of those that R469 refuses. -/
theorem headerBad_blockOf (hmode : mode < 2) (hraw : raw.length ≤ 65536) (hpayload : payload.length ≤ 65536)
    (hstream : stream = false → cont = false ∧ last = false) (hctx : cont = true → ctx.isSome = true)
    (h0 : mode = 0 → payload = raw) (h1 : mode = 1 → raw ≠ [] ∧ payload ≠ []) :
    headerBad (blockOf (blockFlags stream cont last) mode raw payload) ctx.isSome = false := by
  obtain ⟨hreserved, hm, hs, hc, hl⟩ := blockFlags_bits stream cont last mode hmode
  rw [← hdrFlags_blockOf _ mode raw payload] at hreserved hm hs hc hl
  have hmagic : (blockOf (blockFlags stream cont last) mode raw payload).take 4 = [0x4D, 0x5A, 0x50, 0x4B] := rfl
  have hversion : (blockOf (blockFlags stream cont last) mode raw payload).getD 4 0 = 1 := rfl
  rw [headerBad, hmagic, hversion, hdrMode, hm, hdrCont, hc, hdrLast, hl, hdrStream, hs, hdrRawLen_blockOf _ _ _ _ hraw,
    hdrBlockLen_blockOf _ _ _ _ hpayload, length_blockOf]
  have hstreamed : ((cont || last) && !stream) = false := by
    cases stream
    · rw [(hstream rfl).1, (hstream rfl).2]
      rfl
    · exact Bool.and_false _
  have hplain : (mode == 0 && 16 + payload.length != 16 + raw.length) = false := by
    by_cases hzero : mode = 0
    · rw [h0 hzero, bne_self_eq_false, Bool.and_false]
    · rw [beq_false_of_ne hzero, Bool.false_and]
  have hpacked : (mode == 1 && (raw.length == 0 || decide (16 + payload.length < 17))) = false := by
    by_cases hone : mode = 1
    · have hrawPos := List.length_pos_iff.2 (h1 hone).1
      have hpayloadPos := List.length_pos_iff.2 (h1 hone).2
      rw [beq_false_of_ne hrawPos.ne', decide_eq_false (by omega), Bool.or_false, Bool.and_false]
    · rw [beq_false_of_ne hone, Bool.false_and]
  have hcontext : (cont && !ctx.isSome) = false := by
    cases cont
    · rfl
    · rw [hctx rfl]
      rfl
  rw [hstreamed, hplain, hpacked, hcontext, decide_eq_false (by omega), decide_eq_false (Nat.not_le.2 hreserved),
    decide_eq_false (Nat.not_le.2 hmode), decide_eq_false (Nat.not_lt.2 hraw), bne_self_eq_false, bne_self_eq_false, bne_self_eq_false]
  rfl

/-- A raw block decodes to its bytes. -/
theorem decodeBlock_raw (hraw : raw.length ≤ 65536) (hstream : stream = false → cont = false ∧ last = false)
    (hctx : cont = true → ctx.isSome = true) :
    decodeBlock (blockOf (blockFlags stream cont last) 0 raw raw) raw.length ctx = .ok raw := by
  have hgood := headerBad_blockOf (mode := 0) (by decide) hraw hraw hstream hctx (fun _ => rfl) (fun h => absurd h (by decide))
  have hmode := hdrMode_blockOf (mode := 0) (by decide) stream cont last raw raw
  simp only [decodeBlock, hgood, hmode, hdrRawLen_blockOf _ _ _ _ hraw, hdrCheck_blockOf, drop_blockOf, Nat.lt_irrefl, if_true, if_false,
    Bool.false_eq_true]

/-- A packed payload decodes: the table section gives the code lengths back, and the symbol stream the raw bytes. -/
theorem decode_packPayload (hist raw : List Byte) : ∃ lens syms, PackTable lens ∧ 0 < lens.getD 256 0
    ∧ readLens 313 313 (byteBits (packPayload hist raw)) = some (lens, syms)
    ∧ decodeSyms (lens.take 285) (lens.drop 285) raw.length (raw.length + 1) syms hist.reverse 0 = .ok raw := by
  rw [packPayload]
  generalize htoks : packToks (hist ++ raw) raw.length hist.length = toks
  have hcodes := codes_packLens toks
  have ht := packTable_packLens (symCounts toks)
  generalize packLens (symCounts toks) = lens at hcodes ht ⊢
  obtain ⟨hend, htokCodes⟩ := List.forall_mem_cons.1 hcodes
  obtain ⟨pad, hpad, hbits⟩ := byteBits_bitBytes (lensBits 313 lens ++ toks.flatMap (tokBits lens) ++ symBits (lens.take 285) 256)
  have hsyms := ht.decodeSyms_packToks (hend (by decide)) (data := hist ++ raw) (hist := hist.length) (fuel := raw.length) (fuel' := raw.length + 1)
    hpad le_rfl (by simp) (by simp) (by simp) (htoks ▸ htokCodes)
  simp only [htoks, List.length_append, Nat.add_sub_cancel_left, List.take_left, List.drop_left, Nat.sub_self] at hsyms
  rw [hbits, List.append_assoc, List.append_assoc]
  exact ⟨lens, _, ht, hend (by decide), ht.readLens_lensBits _, hsyms⟩

theorem packPayload_ne_nil (hist raw : List Byte) : packPayload hist raw ≠ [] := by
  intro hnil
  obtain ⟨lens, syms, -, -, hlens, -⟩ := decode_packPayload hist raw
  rw [hnil] at hlens
  cases hlens

/-- A packed block decodes to its raw bytes. -/
theorem decodeBlock_packed {hist : List Byte} (hraw : raw.length ≤ 65536) (hgain : (packPayload hist raw).length < raw.length)
    (hstream : stream = false → cont = false ∧ last = false) (hindependent : cont = false → hist = [])
    (hctx : cont = true → ctx = some hist) :
    decodeBlock (blockOf (blockFlags stream cont last) 1 raw (packPayload hist raw)) raw.length ctx = .ok raw := by
  have hsome : cont = true → ctx.isSome = true := fun h => by rw [hctx h]; rfl
  have hnonempty : raw ≠ [] := List.length_pos_iff.1 (Nat.zero_lt_of_lt hgain)
  have hgood := headerBad_blockOf (mode := 1) (by decide) hraw (hgain.le.trans hraw) hstream hsome
    (fun h => absurd h (by decide)) (fun _ => ⟨hnonempty, packPayload_ne_nil hist raw⟩)
  have hmode := hdrMode_blockOf (mode := 1) (by decide) stream cont last raw (packPayload hist raw)
  have hcont := hdrCont_blockOf (mode := 1) (by decide) stream cont last raw (packPayload hist raw)
  have hhist : (if cont = true then (ctx.getD []).reverse else []) = hist.reverse := by
    cases cont
    · rw [hindependent rfl]
      rfl
    · rw [hctx rfl]
      rfl
  obtain ⟨lens, syms, ht, hend, hlens, hsyms⟩ := decode_packPayload hist raw
  have hendLit : ((lens.take 285).getD 256 0 == 0) = false := by
    rw [getD_take (by decide)]
    exact beq_false_of_ne hend.ne'
  simp only [decodeBlock, hgood, hmode, hdrRawLen_blockOf _ _ _ _ hraw, hdrCheck_blockOf, drop_blockOf, hlens, ht.lits, ht.dists, hendLit,
    hcont, hhist, hsyms, Nat.lt_irrefl, if_true, if_false, Bool.false_eq_true, Bool.or_false, Nat.one_ne_zero]

end Block

/-! ## The statement on the packer's encoder -/

/-- Settles O49: a raw block by its header and its CRC, a packed one by its code lengths, which the table section gives back, and by its
tokens, each of which the decoder reads from its canonical codes. -/
theorem everyBlockDecodesToItsInput : Obligations.EveryBlockDecodesToItsInput := by
  unfold Obligations.EveryBlockDecodesToItsInput
  refine ⟨fun counts => (packTable_packLens counts).le, fun raw hist stream cont last ctx hraw _ hstream hindependent hctx => ?_⟩
  show decodeBlock (encodeBlock (blockFlags stream cont last) hist raw) raw.length ctx = .ok raw
  rw [encodeBlock_eq]
  split
  case isTrue => exact decodeBlock_raw hraw hstream fun h => by rw [hctx h]; rfl
  case isFalse hpacks =>
    rw [Bool.or_eq_true, not_or] at hpacks
    have hgain : (packPayload hist raw).length < raw.length := Nat.not_le.1 fun h => hpacks.2 (decide_eq_true h)
    exact decodeBlock_packed hraw hgain hstream hindependent hctx

end Sys2Proof.Machine
end

section
/-! PROOFS of the statement on image commands, key slots and flash (14_pronex_image.md R532, R538, R540, R543, R544, R547 to R549, R552, R553,
R555). First what the end of a command tells and leaves, then the image commands, LOAD by house firmware, the rounds of LIVE, the key slots
and flash, then the statement. -/

namespace Sys2Proof.Machine

/-! ## Ends of commands (R551, R555) -/

/-- What a loader's command is judged by: the loader's own state, the sync keeper's, and the mode. -/
def loaderView (s : State) : Loader × Cur × Nat := (s.pnx, s.cur, mode s)

/-- An outcome told in a register of the loader, with an event of block PNX and records, leaves memory and what `loaderView` shows. -/
theorem told_leaves {a b : Nat} {w : Word} {xs : List Act} (ha : Reg.PNX_CMD ≤ a ∧ a < Reg.PNX_EVT_STATUS 0)
    (hxs : ∀ x ∈ xs, (∃ t, x = .evt 14 t b) ∨ ∃ r, x = .log r) {s : State} (hs : s.Inv) {t : State} (ht : applyActs s (.reg a w :: xs) = t) :
    sameMemory s t ∧ loaderView t = loaderView s
      ∧ ∀ f : Field, f.lo + f.width ≤ 32 → regImpl a &&& f.mask = f.mask → rf t a f = getF w f := by
  subst ht
  simp only [Reg.PNX_CMD, Reg.PNX_EVT_STATUS] at ha
  obtain ⟨hmem, -, hreg⟩ := notices_leave hxs (applyAct_inv s (.reg a w) hs)
  have hmode : mode (applyActs s (.reg a w :: xs)) = mode s := by
    refine congrArg (getF · Fld.SYS_MODE_MODE) ((hreg Reg.SYS_MODE (fun t => ?_) (by decide)).trans
      (rd_applyAct_other s (.reg a w) _ (beq_eq_false_iff_ne.2 ?_)))
    all_goals
      simp only [evtStatus, Reg.PNX_EVT_STATUS, Reg.SYS_MODE]
      omega
  have hkeeps : ∀ x ∈ xs, ∀ u : State, u.Inv → ((applyAct u x).pnx, (applyAct u x).cur) = (u.pnx, u.cur) := by
    intro x hx u _
    rcases hxs x hx with ⟨t, rfl⟩ | ⟨r, rfl⟩
    · simp
    · rfl
  have hview := applyActs_keeps (fun u => (u.pnx, u.cur)) hkeeps (applyAct_inv s (.reg a w) hs)
  obtain ⟨hpnx, hcur⟩ := Prod.mk.inj hview
  refine ⟨sameMemory_trans (sameMemory_applyAct s (.reg a w) rfl) hmem, Prod.ext hpnx (Prod.ext hcur hmode), fun f hf himpl => ?_⟩
  refine (congrArg (getF · f) (hreg a (fun t => ?_) ?_)).trans (rf_reg (regsWf_of_inv hs) a w f hf himpl)
  all_goals
    simp only [evtStatus, Reg.PNX_EVT_STATUS, Reg.PB_UNIT_LOST]
    omega

/-- The fields of PNX_STATUS. -/
def statusFields (s : State) : Nat × Nat × Nat × Nat :=
  (rf s Reg.PNX_STATUS Fld.PNX_STATUS_STATE, rf s Reg.PNX_STATUS Fld.PNX_STATUS_OP, rf s Reg.PNX_STATUS Fld.PNX_STATUS_SECTION,
    rf s Reg.PNX_STATUS Fld.PNX_STATUS_STATUS)

/-- The word of PNX_STATUS that the loader writes. -/
def statusWord (st op sec code : Nat) : Word :=
  putF (putF (putF (putF 0 Fld.PNX_STATUS_STATE st) Fld.PNX_STATUS_OP op) Fld.PNX_STATUS_SECTION sec) Fld.PNX_STATUS_STATUS code

theorem pnxState_eq (st op sec code : Nat) : pnxState st op sec code = .reg Reg.PNX_STATUS (statusWord st op sec code) := rfl

/-- Every field of PNX_STATUS is what the loader writes, where its register reads the word written. -/
theorem statusFields_of_word {t : State} {st op sec code : Nat} (h : ∀ f : Field, f.lo + f.width ≤ 32 →
      regImpl Reg.PNX_STATUS &&& f.mask = f.mask → rf t Reg.PNX_STATUS f = getF (statusWord st op sec code) f) :
    statusFields t = (st % 16, op % 16, sec % 256, code % 65536) := by
  have hstate : rf t Reg.PNX_STATUS Fld.PNX_STATUS_STATE = st % 16 := by
    rw [h _ (by decide) (by decide), statusWord, getF_putF_other _ _ _ _ (by decide) (by decide), getF_putF_other _ _ _ _ (by decide) (by decide),
      getF_putF_other _ _ _ _ (by decide) (by decide), getF_putF _ _ _ (by decide)]
    rfl
  have hop : rf t Reg.PNX_STATUS Fld.PNX_STATUS_OP = op % 16 := by
    rw [h _ (by decide) (by decide), statusWord, getF_putF_other _ _ _ _ (by decide) (by decide), getF_putF_other _ _ _ _ (by decide) (by decide),
      getF_putF _ _ _ (by decide)]
    rfl
  have hsec : rf t Reg.PNX_STATUS Fld.PNX_STATUS_SECTION = sec % 256 := by
    rw [h _ (by decide) (by decide), statusWord, getF_putF_other _ _ _ _ (by decide) (by decide), getF_putF _ _ _ (by decide)]
    rfl
  have hcode : rf t Reg.PNX_STATUS Fld.PNX_STATUS_STATUS = code % 65536 := by
    rw [h _ (by decide) (by decide), statusWord, getF_putF _ _ _ (by decide)]
    rfl
  rw [statusFields, hstate, hop, hsec, hcode]

/-- An image command ends: its outcome stands in PNX_STATUS, and nothing of memory, the loader, the clock or the mode differs (R551). -/
theorem pnxEnd_ends {u : State} (hu : u.Inv) (op st sec id : Nat) (s : State) {t : State} (ht : applyActs u (pnxEnd op st sec id s) = t) :
    sameMemory u t ∧ loaderView t = loaderView u
      ∧ statusFields t = ((if st = stOK then 0 else 4) % 16, op % 16, sec % 256, st % 65536) := by
  have hnotices : ∀ x ∈ logStatus s pnxUnit 14 st [0] (arg [(16, sec)]) ++ (if st = stOK then [] else pnxEvent s 1 allTenants id),
      (∃ t, x = .evt 14 t 1) ∨ ∃ r, x = .log r := by
    intro x hx
    rcases List.mem_append.1 hx with hx | hx
    · exact .inr ⟨_, List.mem_singleton.1 hx⟩
    · split at hx
      · cases hx
      · exact mem_eventNow hx
  obtain ⟨hmem, hview, hword⟩ := told_leaves (by decide) hnotices hu ht
  exact ⟨hmem, hview, statusFields_of_word hword⟩

/-- A flash command ends: its outcome stands in PNX_FL_STAT, and nothing of memory differs (R555). -/
theorem flashEnd_ends {u : State} (hu : u.Inv) (s : State) (st : Nat) {t : State} (ht : applyActs u (flashEnd s st) = t) :
    sameMemory u t ∧ rf t Reg.PNX_FL_STAT Fld.PNX_FL_STAT_STATE = 2 ∧ rf t Reg.PNX_FL_STAT Fld.PNX_FL_STAT_STATUS = st % 65536 := by
  obtain ⟨hmem, -, hword⟩ := told_leaves (by decide) (fun x hx => mem_eventNow hx) hu ht
  refine ⟨hmem, ?_, ?_⟩
  · rw [hword _ (by decide) (by decide), getF_putF_other _ _ _ _ (by decide) (by decide), getF_putF _ _ _ (by decide)]
    rfl
  · rw [hword _ (by decide) (by decide), getF_putF _ _ _ (by decide)]
    rfl

/-! ## Image commands (R543, R547, R551, R555) -/

/-- A write of PNX_CMD by T0 that sets an idle loader going on an image it can read. -/
structure ImageCommand (s : State) (a : Acc) (v : Word) (i : ImgIn) : Prop where
  arrives : reaches s a Reg.PNX_CMD true
  ofT0 : actsFor a = 0
  go : getF v Fld.PNX_CMD_GO = 1
  given : getF v Fld.PNX_CMD_SRC = 1 ∨ getF v Fld.PNX_CMD_ENTRY ≠ 15
  idle : pnxBusy s = false ∧ mode s ≠ mBOOT ∧ mode s ≠ mLOAD
  image : imgIn s (getF v Fld.PNX_CMD_SRC == 1) (getF v Fld.PNX_CMD_ENTRY) = some i
  readable : i.len.isNone = true → dramUE s i.range.1 i.range.2 = false

/-- The loader runs such a command on its image. -/
theorem ImageCommand.runs {s : State} {a : Acc} {v : Word} {i : ImgIn} (h : ImageCommand s a v i) {op : Nat} (hop : getF v Fld.PNX_CMD_OP = op)
    (run : ImgIn → Eff) : gate a Reg.PNX_CMD true false (fun u => pnxCmd op u v run) s = run i s := by
  obtain ⟨hbusy, hboot, hload⟩ := h.idle
  have hasked : ¬ (getF v Fld.PNX_CMD_GO = 0 ∨ getF v Fld.PNX_CMD_OP ≠ op) := by simp [h.go, hop]
  have hnamed : ¬ (getF v Fld.PNX_CMD_SRC = 0 ∧ getF v Fld.PNX_CMD_ENTRY = 15) := fun hno =>
    h.given.elim (fun hsrc => absurd (hno.1.symm.trans hsrc) (by decide)) (fun hne => hne hno.2)
  have hfree : ¬ ((pnxBusy s && !(op == 1 && rf s Reg.PNX_STATUS Fld.PNX_STATUS_STATE == 3)) || mode s == mBOOT || mode s == mLOAD) = true := by
    simp [hbusy, hboot, hload]
  have hgood : ¬ (i.len.isNone = true ∧ dramUE s i.range.1 i.range.2 = true) := fun hno =>
    absurd ((h.readable hno.1).symm.trans hno.2) (by decide)
  rw [gate_reaches h.arrives, h.ofT0]
  simp only [pnxCmd, ne_eq, not_true_eq_false, if_false, if_neg hasked, if_neg hnamed, if_neg hfree, h.image, if_neg hgood]

/-- LOAD is not barred from RECOVERY and the modes with curtains (R599). -/
theorem not_barred {n : Nat} (h : n = mRECOVERY ∨ curtainMode n = true) : ¬ (n ≠ mRECOVERY ∧ (!curtainMode n) = true) := fun hno =>
  h.elim hno.1 fun hcurtain => by simp [hcurtain] at hno

section Asked

variable {s : State} {a : Acc} {v : Word} {i : ImgIn} (h : ImageCommand s a v i)
include h

theorem exec_verify_failed (hop : getF v Fld.PNX_CMD_OP = 3) {q : Nat × Nat} (hA : phaseA s i false = .error q) :
    exec (.verify a v) s = nextBy s (pnxEnd 3 q.1 q.2 (imgId i) s) := by
  refine congrArg (nextBy s) ((h.runs hop _).trans ?_)
  rw [hA]

theorem exec_verify_passed (hop : getF v Fld.PNX_CMD_OP = 3) {m : Image} {new : List ImgSect} {bs : List Byte}
    (hA : phaseA s i false = .ok (m, new, bs)) : exec (.verify a v) s = nextBy s (stageBytes s bs ++ pnxEnd 3 stOK 0 m.id s) := by
  refine congrArg (nextBy s) ((h.runs hop _).trans ?_)
  rw [hA]

theorem exec_load_failed (hop : getF v Fld.PNX_CMD_OP = 1) (hfrom : mode s = mRECOVERY ∨ curtainMode (mode s) = true) {q : Nat × Nat}
    (hA : phaseA s i false = .error q) : exec (.load (some a) v) s = nextBy s (pnxEnd 1 q.1 q.2 (imgId i) s) := by
  refine congrArg (nextBy s) ((h.runs hop _).trans ?_)
  rw [if_neg (not_barred hfrom), hA]

theorem exec_load_passed (hop : getF v Fld.PNX_CMD_OP = 1) (hfrom : mode s = mRECOVERY ∨ curtainMode (mode s) = true) {m : Image}
    {new : List ImgSect} {bs : List Byte} (hA : phaseA s i false = .ok (m, new, bs)) :
    exec (.load (some a) v) s = nextBy s (loadPassed m bs s) := by
  refine congrArg (nextBy s) ((h.runs hop _).trans ?_)
  rw [if_neg (not_barred hfrom), hA]

theorem exec_live_failed (hop : getF v Fld.PNX_CMD_OP = 2) {q : Nat × Nat} (hA : phaseA s i true = .error q) :
    exec (.live a v) s = nextBy s (pnxEnd 2 q.1 q.2 (imgId i) s) := by
  refine congrArg (nextBy s) ((h.runs hop _).trans ?_)
  rw [hA]

/-- LIVE that passes: what is staged, the memory that the image writes, the understudies of the first round, and one commit (R548, R549). -/
theorem exec_live_passed (hop : getF v Fld.PNX_CMD_OP = 2) {m : Image} {new : List ImgSect} {bs : List Byte}
    (hA : phaseA s i true = .ok (m, new, bs)) (hext : extFault s new = none) :
    let prog := new.filter (fun x => x.ty == tyENG_PROG)
    let ps := if prog.isEmpty then [] else roundPairs s
    exec (.live a v) s = nextBy s (seqE [
      fun s => stageBytes s bs ++ [pnxState 2 2 0 stBUSY, .pnx (fun p => { p with live := some m, fresh := [], rewrite := [] })],
      fun s => seqE (((imgRecs new).filter (fun | .mem .. => true | .ext .. => true | _ => false)).map applyRec) s,
      fun s => if prog.isEmpty then [] else roundLoad s prog ps,
      liveCommit (liveFields s new ++ roundFields ps)] s) := by
  intro prog ps
  refine congrArg (nextBy s) ((h.runs hop _).trans ?_)
  rw [hA]
  dsimp only
  rw [hext] <;> rfl

end Asked

/-- An image command that fails leaves memory, the loader and the mode; PNX_STATUS reads FAILED with its status and section (R543, R551). -/
theorem pnxEnd_fails {s : State} (hs : s.Inv) {op st : Nat} (hop : op < 16) (hst : st ≠ stOK) (sec id : Nat) {t : State}
    (ht : applyActs s (pnxEnd op st sec id s) = t) :
    t.pnx = s.pnx ∧ sameMemory s t ∧ mode t = mode s
      ∧ rf t Reg.PNX_STATUS Fld.PNX_STATUS_STATE = 4 ∧ rf t Reg.PNX_STATUS Fld.PNX_STATUS_OP = op
      ∧ rf t Reg.PNX_STATUS Fld.PNX_STATUS_STATUS = st % 65536 ∧ rf t Reg.PNX_STATUS Fld.PNX_STATUS_SECTION = sec % 256 := by
  obtain ⟨hmem, hview, hfields⟩ := pnxEnd_ends hs op st sec id s ht
  rw [if_neg hst, Nat.mod_eq_of_lt hop] at hfields
  simp only [loaderView, statusFields, Prod.mk.injEq] at hview hfields
  obtain ⟨hpnx, -, hmode⟩ := hview
  obtain ⟨hstate, hopField, hsec, hcode⟩ := hfields
  exact ⟨hpnx, hmem, hmode, hstate, hopField, hcode, hsec⟩

/-- A write to DRAM leaves what `loaderView` shows, the banks, the Caddy and flash. -/
theorem loader_storesDram {s : State} (hs : s.Inv) {xs : List Act} (h : ∀ x ∈ xs, x.storesDram = true) {t : State} (ht : applyActs s xs = t) :
    loaderView t = loaderView s ∧ t.sram = s.sram ∧ t.caddy = s.caddy ∧ t.flash = s.flash := by
  subst ht
  have hkeeps := applyActs_keeps (xs := xs) (fun u => (u.pnx, u.cur, u.sram, u.caddy, u.flash)) (fun x hx u _ => ?_) hs
  · simp only [Prod.mk.injEq] at hkeeps
    obtain ⟨hpnx, hcur, hrest⟩ := hkeeps
    exact ⟨Prod.ext hpnx (Prod.ext hcur (congrArg (getF · Fld.SYS_MODE_MODE) (rd_storesDram h (by decide) s))), hrest⟩
  · have hx := h x hx
    cases x with
    | dram k bs => rfl
    | ddr f => rfl
    | fld b f v => rfl
    | _ => cases hx

theorem stageBytes_storesDram (s : State) (bs : List Byte) : ∀ x ∈ stageBytes s bs, x.storesDram = true := by
  unfold stageBytes
  split
  · exact fun x hx => absurd hx List.not_mem_nil
  · exact dramStore_storesDram s _ bs

/-- VERIFY that passes writes its staging area alone and ends OK (R543). -/
theorem verify_ends {s : State} (hs : s.Inv) (bs : List Byte) (id : Nat) {t : State} (ht : applyActs s (stageBytes s bs ++ pnxEnd 3 stOK 0 id s) = t) :
    t.pnx = s.pnx ∧ mode t = mode s ∧ rf t Reg.PNX_STATUS Fld.PNX_STATUS_STATE = 0 ∧ rf t Reg.PNX_STATUS Fld.PNX_STATUS_STATUS = stOK
      ∧ (∀ k, flashByte t k = flashByte s k) ∧ ∀ k, sramByte t k = sramByte s k := by
  rw [applyActs_append] at ht
  obtain ⟨hview, hsram, -, hflash⟩ := loader_storesDram hs (stageBytes_storesDram s bs) rfl
  obtain ⟨⟨-, hsramEnd, -, -, hflashEnd⟩, hviewEnd, hfields⟩ := pnxEnd_ends (applyActs_inv s _ hs) 3 stOK 0 id s ht
  have hkept := hviewEnd.trans hview
  simp only [loaderView, statusFields, Prod.mk.injEq] at hkept hfields
  obtain ⟨hpnx, -, hmode⟩ := hkept
  obtain ⟨hstate, -, -, hcode⟩ := hfields
  exact ⟨hpnx, hmode, hstate, hcode, fun k => (hflashEnd k).trans (congrArg (mapGet erasedByte · k) hflash),
    fun k => (hsramEnd k).trans (congrArg (mapGet zeroByte · k) hsram)⟩

/-- What a LOAD that passed sets: the staged image, PNX_STATUS, and no mix of programs. -/
def loadStaged (m : Image) : List Act :=
  [.pnx (fun p => { p with staged := some m, parked := false, live := none, fresh := [], roundOut := false, rewrite := [] }),
    pnxState 2 1 0 stBUSY, .fld Reg.PNX_RUN_INFO Fld.PNX_RUN_INFO_MIX 0]

theorem loadPassed_eq (m : Image) (bs : List Byte) :
    loadPassed m bs = seqE [fun s => stageBytes s bs ++ loadStaged m, fun s => if s.cur.running then [] else enterLoad s] := rfl

theorem loadStaged_stages {u : State} (hu : u.Inv) (m : Image) {t : State} (ht : applyActs u (loadStaged m) = t) :
    t.pnx.staged = some m ∧ t.pnx.running = u.pnx.running ∧ mode t = mode u ∧ t.cur = u.cur ∧ statusFields t = (2, 1, 0, stBUSY) := by
  subst ht
  have hmode : mode (applyActs u (loadStaged m)) = mode u := congrArg (getF · Fld.SYS_MODE_MODE) (rd_applyActs_other u (loadStaged m) _ rfl)
  refine ⟨rfl, rfl, hmode, rfl, statusFields_of_word (st := 2) (op := 1) (sec := 0) (code := stBUSY) fun f hf himpl => ?_⟩
  have hstaged := applyActs_inv u ((loadStaged m).take 1) hu
  exact (congrArg (getF · f) (rd_applyAct_other _ (.fld Reg.PNX_RUN_INFO Fld.PNX_RUN_INFO_MIX 0) Reg.PNX_STATUS rfl)).trans
    (rf_reg (regsWf_of_inv hstaged) _ _ f hf himpl)

/-- Under curtains a LOAD that passes stages its image, says so in PNX_STATUS and waits (R544). -/
theorem loadPassed_waits {s : State} (hs : s.Inv) (hrun : s.cur.running = true) (m : Image) (bs : List Byte) {t : State}
    (ht : applyActs s (loadPassed m bs s) = t) :
    t.pnx.staged = some m ∧ t.pnx.running = s.pnx.running ∧ mode t = mode s ∧ t.cur = s.cur
      ∧ rf t Reg.PNX_STATUS Fld.PNX_STATUS_STATE = 2 ∧ rf t Reg.PNX_STATUS Fld.PNX_STATUS_STATUS = stBUSY := by
  obtain ⟨hview, -⟩ := loader_storesDram hs (stageBytes_storesDram s bs) rfl
  simp only [loaderView, Prod.mk.injEq] at hview
  obtain ⟨hpnx, hcur, hmode⟩ := hview
  obtain ⟨hstaged, hrunning, hmodeKept, hcurKept, hfields⟩ := loadStaged_stages (applyActs_inv s (stageBytes s bs) hs) m rfl
  simp only [statusFields, Prod.mk.injEq] at hfields
  obtain ⟨hstate, -, -, hcode⟩ := hfields
  rw [loadPassed_eq, applyActs_seqE, runEffs_cons, applyActs_append, runEffs_single,
    if_pos ((congrArg Cur.running (hcurKept.trans hcur)).trans hrun), applyActs_nil] at ht
  subst ht
  exact ⟨hstaged, hrunning.trans (congrArg Loader.running hpnx), hmodeKept.trans hmode, hcurKept.trans hcur, hstate, hcode⟩

/-! ## House firmware's part of LOAD (R540, R543) -/

section House

variable {s : State} (v : Word)

theorem exec_houseLoad_boot (hmode : mode s = mBOOT) (hspine : s.sys.spine = true) {m : Image} {bs : List Byte}
    (himage : bootImage s = some (m, bs)) : exec (.load none v) s = nextBy s (loadPassed m bs s) := by
  show nextBy s (houseLoad s) = _
  rw [houseLoad, if_pos hmode, hspine, Bool.not_true, if_neg Bool.false_ne_true, himage]

theorem exec_houseLoad_noImage (hmode : mode s = mBOOT) (hspine : s.sys.spine = true) (himage : bootImage s = none) :
    exec (.load none v) s = nextBy s (setMode s mRECOVERY) := by
  show nextBy s (houseLoad s) = _
  rw [houseLoad, if_pos hmode, hspine, Bool.not_true, if_neg Bool.false_ne_true, himage]

theorem exec_houseLoad_phaseB {m : Image} (hmode : mode s = mLOAD) (hstaged : s.pnx.staged = some m) :
    exec (.load none v) s = nextBy s (phaseB m s) := by
  have hboot : mode s ≠ mBOOT := by rw [hmode]; decide
  show nextBy s (houseLoad s) = _
  rw [houseLoad, if_neg hboot, if_pos hmode, hstaged]

theorem phaseB_fails {m : Image} {q : Nat × Nat} (hext : extFault s m.sects = some q) : phaseB m s = loadFails q.1 q.2 m.id s := by
  rw [phaseB, hext]

/-- Phase B where the extents hold, and what was staged can be read or DRAM is reset (R543). -/
theorem phaseB_loads {m : Image} (hext : extFault s m.sects = none)
    (hstage : (imgReg m.sects Reg.DDR_CFG != rd s Reg.DDR_CFG) = true ∨ dramUE s (stageArea s).1 (stageArea s).2 = false ∨ (stageArea s).2 = 0) :
    let keep := unchangedTiles s.pnx.running m
    let reset := imgReg m.sects Reg.DDR_CFG != rd s Reg.DDR_CFG
    phaseB m s = seqE [
      fun _ => if reset then [.dramDrop 0 (2 ^ 36), .ddr (fun _ => ddrInit)] else [], resetUnits keep, writeImage m,
      fun s => [.fld Reg.DDR_CAP Fld.DDR_CAP_MIB (usableMiB (rd s Reg.DDR_CFG) (channels s).length)],
      fun s => seqE ((imgRecs m.sects).map applyRec) s, imageStarts m keep s.cur.refSrc, loadDone m reset] s := by
  intro keep reset
  have hgood : ¬ (!reset && dramUE s (stageArea s).1 (stageArea s).2 && (stageArea s).2 != 0) = true := by
    rcases hstage with hreset | hread | hnone
    · simp [reset, hreset]
    · simp [hread]
    · simp [hnone]
  rw [phaseB, hext]
  exact if_neg hgood

end House

/-! ## Rounds of LIVE (R549) -/

/-- The understudies of a round leave the sync keeper as it was; the round is out, and the engines swapped out are to be rewritten. -/
theorem roundLoad_loads {s : State} (l : List ImgSect) (ps : List (Nat × Nat)) {u : State} (hu : applyActs s (roundLoad s l ps) = u) :
    u.cur = s.cur ∧ u.pnx.roundOut = true ∧ u.pnx.rewrite = ps.map (·.2) := by
  have hkeeps : (roundLoad s l ps).all (fun x => !x.mayCur) = true :=
    List.all_eq_true.2 (List.forall_mem_append.2 ⟨List.forall_mem_map.2 fun _ _ => rfl, List.forall_mem_singleton.2 rfl⟩)
  refine ⟨hu ▸ cur_applyActs s _ hkeeps, ?_⟩
  rw [roundLoad, applyActs_append] at hu
  exact hu ▸ ⟨rfl, rfl⟩

theorem liveCommit_queues (fs : List Staged) (u : State) : ∃ c, (applyActs u (liveCommit fs u)).cur.commits = u.cur.commits ++ [c]
    ∧ (applyActs u (liveCommit fs u)).pnx = u.pnx ∧ c.who = 9 ∧ c.fields = fs := ⟨_, rfl, rfl, rfl, rfl⟩

/-- A round swaps the understudies that it loads: it is out, and its fields are one more commit of T0. -/
theorem liveRound_goes {s : State} {p : Nat × Nat} {ps : List (Nat × Nat)} (hlive : s.pnx.live.isSome = true)
    (hout : s.pnx.roundOut = false) (hstate : rf s Reg.PNX_STATUS Fld.PNX_STATUS_STATE = 3)
    (hprog : (liveNew s).filter (fun x => x.ty == tyENG_PROG) ≠ []) (hpairs : roundPairs s = p :: ps) :
    ∃ t c, exec .liveRound s = .next t ∧ t.pnx.roundOut = true ∧ t.pnx.rewrite = (p :: ps).map (·.2)
      ∧ t.cur.commits = s.cur.commits ++ [c] ∧ c.who = 9 ∧ c.fields = roundFields (p :: ps) := by
  have hgoes : ¬ (s.pnx.live.isNone = true ∨ s.pnx.roundOut = true ∨ ((liveNew s).filter (fun x => x.ty == tyENG_PROG)).isEmpty = true
      ∨ rf s Reg.PNX_STATUS Fld.PNX_STATUS_STATE ≠ 3) := by
    rw [Option.isNone_iff_eq_none, ← Option.not_isSome_iff_eq_none, hlive, hout, List.isEmpty_iff, hstate]
    simp [hprog]
  have hround : liveRound s = seqE [fun s => roundLoad s ((liveNew s).filter (fun x => x.ty == tyENG_PROG)) (p :: ps),
      liveCommit (roundFields (p :: ps))] s := by
    rw [liveRound, if_neg hgoes, hpairs]
    rfl
  obtain ⟨hcur, houtNow, hrewrite⟩ := roundLoad_loads (s := s) ((liveNew s).filter (fun x => x.ty == tyENG_PROG)) (p :: ps) rfl
  obtain ⟨c, hcommits, hpnx, hwho, hfields⟩ := liveCommit_queues (roundFields (p :: ps))
    (applyActs s (roundLoad s ((liveNew s).filter (fun x => x.ty == tyENG_PROG)) (p :: ps)))
  refine ⟨_, c, congrArg (nextBy s) hround, ?_⟩
  rw [applyActs_seqE, runEffs_cons, runEffs_single, hpnx, hcommits, hcur]
  exact ⟨houtNow, hrewrite, rfl, hwho, hfields⟩

/-! ## Key slots (R532, R553) -/

theorem bit_setBit_true {w : Nat} (x : BitVec w) {n : Nat} (hn : n < w) (i : Nat) : bit (setBit x i true) n = (bit x n || n == i) := by
  simp only [bit, setBit, if_true, BitVec.getLsbD_or, BitVec.getLsbD_ofNat, hn, decide_true, Bool.true_and, Nat.testBit_two_pow, beq_eq_decide,
    eq_comm]

/-- A key slot that the running image does not use is revoked. -/
theorem exec_pnxRevoke {s : State} {a : Acc} {v : Word} (hr : reaches s a Reg.PNX_REVOKE true) (ha : actsFor a = 0)
    (hgo : getF v Fld.PNX_REVOKE_GO = 1) (hconfirm : getF v Fld.PNX_REVOKE_CONFIRM = 0xA5)
    (hslot : s.pnx.running.map (·.slot) ≠ some (getF v Fld.PNX_REVOKE_SLOT)) : exec (.pnxRevoke a v) s
      = nextBy s [.fuse (fun f => { f with keyRevoked := setBit f.keyRevoked (getF v Fld.PNX_REVOKE_SLOT) true })] := by
  show nextBy s (gate a Reg.PNX_REVOKE true false (fun u => pnxRevoke u v) s) = _
  rw [gate_reaches hr, ha]
  simp only [pnxRevoke, ne_eq, not_true_eq_false, if_false, hconfirm, hslot, or_self, hgo, Nat.one_ne_zero]

/-! ## Bytes moved (R538, R555) -/

theorem length_mapGets {α : Type} (d : Nat → α) (m : SMap α) (k n : Nat) : (mapGets d m k n).length = n := by
  induction n generalizing k with
  | zero => rfl
  | succ n ih => rw [mapGets, List.length_cons, ih]

theorem getElem_mapGets {α : Type} (d : Nat → α) (m : SMap α) (k n : Nat) {i : Nat} (hi : i < (mapGets d m k n).length) :
    (mapGets d m k n)[i] = mapGet d m (k + i) := by
  induction n generalizing k i with
  | zero => exact absurd hi (Nat.not_lt_zero i)
  | succ n ih =>
    cases i with
    | zero => rfl
    | succ i => exact (ih (k + 1) (Nat.lt_of_succ_lt_succ hi)).trans (congrArg (mapGet d m) (by omega))

/-- What a key reads as after consecutive writes that give key `k + i` the value `g i`. -/
theorem mapGet_mapPuts {α : Type} [DecidableEq α] (d : Nat → α) {m : SMap α} (h : mapWf d m = true) {vs : List α} (g : Nat → α)
    (hg : ∀ i (hi : i < vs.length), vs[i] = g i) (k j : Nat) :
    mapGet d (mapPuts d m k vs) j = if k ≤ j ∧ j < k + vs.length then g (j - k) else mapGet d m j := by
  split
  case isTrue hj =>
    have hi : j - k < vs.length := by omega
    have hread : vs[j - k] = mapGet d (mapPuts d m k vs) (k + (j - k)) := by
      have hget := getElem_mapGets d (mapPuts d m k vs) k vs.length (i := j - k) (by rw [length_mapGets]; exact hi)
      simpa only [mapGets_mapPuts d vs k h] using hget
    rw [← hg _ hi, hread, Nat.add_sub_cancel' hj.1]
  case isFalse hj => exact mapGet_mapPuts_other d vs m k (by omega)

theorem dram_dramStore (s : State) (a : Nat) (bs : List Byte) :
    (applyActs s (dramStore s a bs)).dram = mapPuts zeroByte s.dram a (bs.take (dramCap s - a)) := by
  rw [dramStore, applyActs_append]
  split <;> rfl

/-- A range without an uncorrectable word, below the usable capacity, is read as it stands, and its read reports nothing (R455, R456). -/
theorem dram_readable {s : State} {a n : Nat} (h : dramUE s a n = false) : dramReadActs s a n = [] ∧ dramBytes s a n = dramRead s a n := by
  obtain ⟨hrange, hgood⟩ := Bool.or_eq_false_iff.1 h
  have hwords : dramBadWords s a n = [] := by simpa using hgood
  have hcap : min n (dramCap s - a) = n := by
    simp only [dramRange, decide_eq_false_iff_not] at hrange
    omega
  refine ⟨?_, ?_⟩
  · rw [dramReadActs, hrange, hwords]
    rfl
  · rw [dramBytes, hcap, Nat.sub_self, List.replicate_zero, List.append_nil]

/-! ## Flash commands (R538, R555) -/

/-- A write of PNX_FL_CMD by T0 that sets an idle loader going. -/
structure FlashCommand (s : State) (a : Acc) (v : Word) : Prop where
  arrives : reaches s a Reg.PNX_FL_CMD true
  ofT0 : actsFor a = 0
  go : getF v Fld.PNX_FL_CMD_GO = 1
  idle : pnxBusy s = false ∧ mode s ≠ mBOOT ∧ mode s ≠ mLOAD

/-- Such a command runs on an aligned range that the flash has. -/
theorem FlashCommand.runs {s : State} {a : Acc} {v : Word} (h : FlashCommand s a v) {op align n : Nat} (hop : getF v Fld.PNX_FL_CMD_OP = op)
    (hn : (if op ≤ 2 then 256 * (getF v Fld.PNX_FL_CMD_LEN + 1) else align) = n) (haligned : rf s Reg.PNX_FL_ADDR Fld.PNX_FL_ADDR_ADDR % align = 0)
    (hroom : rf s Reg.PNX_FL_ADDR Fld.PNX_FL_ADDR_ADDR + n ≤ 2 ^ 31) (run : Nat → Nat → Nat → Eff) :
    gate a Reg.PNX_FL_CMD true false (fun u => flashCmd op align u v run) s
      = run (rf s Reg.PNX_FL_ADDR Fld.PNX_FL_ADDR_ADDR) (addr36 s Reg.PNX_FL_DRAM_LO Reg.PNX_FL_DRAM_HI) n s := by
  obtain ⟨hbusy, hboot, hload⟩ := h.idle
  have hasked : ¬ (getF v Fld.PNX_FL_CMD_GO = 0 ∨ getF v Fld.PNX_FL_CMD_OP ≠ op) := by simp [h.go, hop]
  have hfree : ¬ (pnxBusy s || mode s == mBOOT || mode s == mLOAD) = true := by simp [hbusy, hboot, hload]
  have hrange : ¬ (rf s Reg.PNX_FL_ADDR Fld.PNX_FL_ADDR_ADDR % align ≠ 0 ∨ 2 ^ 31 < rf s Reg.PNX_FL_ADDR Fld.PNX_FL_ADDR_ADDR + n) := fun hno =>
    hno.elim (fun hne => hne haligned) (fun hlt => absurd hroom (Nat.not_le.2 hlt))
  rw [gate_reaches h.arrives, h.ofT0]
  simp only [flashCmd, ne_eq, not_true_eq_false, if_false, if_neg hasked, if_neg hfree, hn]
  exact if_neg hrange

/-- A flash command ended well, and the banks and the Caddy are as they were. -/
def flashOk (s t : State) : Prop :=
  rf t Reg.PNX_FL_STAT Fld.PNX_FL_STAT_STATE = 2 ∧ rf t Reg.PNX_FL_STAT Fld.PNX_FL_STAT_STATUS = stOK
    ∧ (∀ k, sramByte t k = sramByte s k) ∧ (∀ k, caddyByte t k = caddyByte s k)

/-- A command that has moved its bytes ends well, and what DRAM and flash hold stays. -/
theorem flashEnd_ok {s u : State} (hu : u.Inv) (hsram : u.sram = s.sram) (hcaddy : u.caddy = s.caddy) (v : State) {t : State}
    (ht : applyActs u (flashEnd v stOK) = t) : flashOk s t ∧ (∀ k, dramByte t k = dramByte u k) ∧ ∀ k, flashByte t k = flashByte u k := by
  obtain ⟨⟨hdram, hsramEnd, -, hcaddyEnd, hflash⟩, hstate, hstatus⟩ := flashEnd_ends hu v stOK ht
  exact ⟨⟨hstate, hstatus, fun k => (hsramEnd k).trans (congrArg (mapGet zeroByte · k) hsram),
    fun k => (hcaddyEnd k).trans (congrArg (mapGet erasedByte · k) hcaddy)⟩, hdram, hflash⟩

/-- READ of `n` bytes of flash at `x` to DRAM at `d` copies them, and no other byte of either differs. -/
theorem flashRead_copies {s : State} (hs : s.Inv) {x d n : Nat} (hcap : d + n ≤ dramCap s) {t : State}
    (ht : applyActs s (dramStore s d (flashRead s x n) ++ flashEnd s (if dramRange s d n then stDATA_UE else stOK)) = t) :
    flashOk s t ∧ (∀ k, flashByte t k = flashByte s k)
      ∧ ∀ k, dramByte t k = if d ≤ k ∧ k < d + n then flashByte s (x + (k - d)) else dramByte s k := by
  have hrange : dramRange s d n = false := decide_eq_false (Nat.not_lt.2 hcap)
  have hlen : (flashRead s x n).length = n := length_mapGets erasedByte s.flash x n
  have hwhole : (flashRead s x n).take (dramCap s - d) = flashRead s x n := List.take_of_length_le (by omega)
  obtain ⟨-, hsram, hcaddy, hflash⟩ := loader_storesDram hs (dramStore_storesDram s d (flashRead s x n)) rfl
  rw [hrange, if_neg Bool.false_ne_true, applyActs_append] at ht
  obtain ⟨hok, hdramEnd, hflashEnd⟩ := flashEnd_ok (applyActs_inv s _ hs) hsram hcaddy s ht
  refine ⟨hok, fun k => (hflashEnd k).trans (congrArg (mapGet erasedByte · k) hflash), fun k => (hdramEnd k).trans ?_⟩
  rw [dramByte, dram_dramStore, hwhole]
  refine (mapGet_mapPuts zeroByte (mem_of_inv hs).1 (fun i => flashByte s (x + i)) (fun i hi => getElem_mapGets erasedByte s.flash x n hi) d k).trans ?_
  rw [length_mapGets]
  rfl

/-- PROGRAM of `n` bytes of flash at `x` from DRAM at `d` clears the bits that the data has 0, and no other byte of either differs. -/
theorem flashProgram_clears {s : State} (hs : s.Inv) {x d n : Nat} (hread : dramUE s d n = false) {t : State}
    (ht : applyActs s (if dramUE s d n then dramReadActs s d n ++ flashEnd s stDATA_UE
      else dramReadActs s d n ++ [.flash x (((flashRead s x n).zip (dramBytes s d n)).map (fun p => p.1 &&& p.2))] ++ flashEnd s stOK) = t) :
    flashOk s t ∧ (∀ k, dramByte t k = dramByte s k)
      ∧ ∀ k, flashByte t k = if x ≤ k ∧ k < x + n then flashByte s k &&& dramByte s (d + (k - x)) else flashByte s k := by
  obtain ⟨hquiet, hbytes⟩ := dram_readable hread
  rw [hread, if_neg Bool.false_ne_true, hquiet, hbytes, List.nil_append, applyActs_append] at ht
  obtain ⟨hok, hdram, hflash⟩ := flashEnd_ok (s := s) (applyActs_inv s _ hs) rfl rfl s ht
  have hlen : (((flashRead s x n).zip (dramRead s d n)).map (fun p => p.1 &&& p.2)).length = n := by
    rw [List.length_map, List.length_zip, flashRead, dramRead, length_mapGets, length_mapGets, Nat.min_self]
  have hbyte : ∀ i (hi : i < (((flashRead s x n).zip (dramRead s d n)).map (fun p => p.1 &&& p.2)).length),
      (((flashRead s x n).zip (dramRead s d n)).map (fun p => p.1 &&& p.2))[i] = flashByte s (x + i) &&& dramByte s (d + i) := by
    intro i hi
    simp only [List.getElem_map, List.getElem_zip, flashRead, dramRead, getElem_mapGets]
    rfl
  refine ⟨hok, hdram, fun k => (hflash k).trans ?_⟩
  refine (mapGet_mapPuts erasedByte (mem_of_inv hs).2.2.2.2 (fun i => flashByte s (x + i) &&& dramByte s (d + i)) hbyte x k).trans ?_
  rw [hlen]
  split
  case isTrue hk => rw [Nat.add_sub_cancel' hk.1]
  case isFalse => rfl

/-- ERASE leaves its sector or block erased, and no other byte differs. -/
theorem flashErase_erases {s : State} (hs : s.Inv) {x size : Nat} {t : State} (ht : applyActs s (.flashDrop x size :: flashEnd s stOK) = t) :
    flashOk s t ∧ (∀ k, dramByte t k = dramByte s k) ∧ ∀ k, flashByte t k = if x ≤ k ∧ k < x + size then 0xFF else flashByte s k := by
  obtain ⟨hok, hdram, hflash⟩ := flashEnd_ok (s := s) (applyAct_inv s (.flashDrop x size) hs) rfl rfl s ht
  refine ⟨hok, hdram, fun k => (hflash k).trans ?_⟩
  split
  case isTrue hk => exact mapGet_mapDrop erasedByte s.flash hk
  case isFalse hk => exact mapGet_mapDrop_other erasedByte s.flash hk

/-! ## The statement on images, flash and keys -/

/-- Settles O52: image commands by the branch that phase A's outcome names and by what the end of a command leaves, flash commands by the bytes
that their one move writes. -/
theorem imagesFlashAndKeysAct : Obligations.ImagesFlashAndKeysAct := by
  unfold Obligations.ImagesFlashAndKeysAct
  refine ⟨fun s a v i hs => ?images, fun s a v hs => ⟨?revoke, ?flash⟩⟩
  case images =>
    intro entry given idle fails
    have hfails : ∀ (c : Instr) (op : Nat) (q : Nat × Nat) (id : Nat), exec c s = nextBy s (pnxEnd op q.1 q.2 id s) →
        op < 16 → q.1 ≠ stOK → fails c op q.1 q.2 :=
      fun c op q id hexec hop hst => ⟨_, hexec, pnxEnd_fails hs hop hst q.2 id rfl⟩
    refine ⟨fun hr ha hgo hgiven hidle himage hread => ?command, ?boot, ?phaseB, fun p ps hlive hout hstate hprog hpairs =>
      liveRound_goes hlive hout hstate hprog hpairs⟩
    case command =>
      have h : ImageCommand s a v i := ⟨hr, ha, hgo, hgiven, hidle, himage, hread⟩
      constructor
      · cases hA : phaseA s i false with
        | error q =>
          exact fun hst => ⟨fun hop => hfails _ 3 q _ (exec_verify_failed h hop hA) (by decide) hst,
            fun hop hfrom => hfails _ 1 q _ (exec_load_failed h hop hfrom hA) (by decide) hst⟩
        | ok r =>
          obtain ⟨m, new, bs⟩ := r
          exact ⟨fun hop => ⟨_, exec_verify_passed h hop hA, verify_ends hs bs m.id rfl⟩,
            fun hop hfrom hrun => ⟨_, exec_load_passed h hop hfrom hA, loadPassed_waits hs hrun m bs rfl⟩⟩
      · cases hA : phaseA s i true with
        | error q => exact fun hst hop => hfails _ 2 q _ (exec_live_failed h hop hA) (by decide) hst
        | ok r =>
          obtain ⟨m, new, bs⟩ := r
          exact fun hext hop => exec_live_passed h hop hA hext
    case boot =>
      intro hmode hspine
      cases himage : bootImage s with
      | none => exact exec_houseLoad_noImage v hmode hspine himage
      | some q =>
        obtain ⟨m, bs⟩ := q
        exact exec_houseLoad_boot v hmode hspine himage
    case phaseB =>
      intro m hmode hstaged keep reset
      rw [exec_houseLoad_phaseB v hmode hstaged]
      exact ⟨fun q hext => congrArg (nextBy s) (phaseB_fails hext), fun hext hstage => congrArg (nextBy s) (phaseB_loads hext hstage)⟩
  case revoke =>
    intro hr ha hgo hconfirm hslot
    exact ⟨_, exec_pnxRevoke hr ha hgo hconfirm hslot, rfl, fun n hn => bit_setBit_true _ hn _, sameMemory_applyActs s _ rfl⟩
  case flash =>
    intro hr ha hgo hbusy hboot hload x d n ok erased
    have h : FlashCommand s a v := ⟨hr, ha, hgo, hbusy, hboot, hload⟩
    refine ⟨fun hop halign hroom hcap => ?read, fun hop halign hroom hread => ?program,
      fun hop halign hroom => ?sector, fun hop halign hroom => ?block⟩
    case read => exact ⟨_, congrArg (nextBy s) (h.runs hop rfl halign hroom _), flashRead_copies hs hcap rfl⟩
    case program => exact ⟨_, congrArg (nextBy s) (h.runs hop rfl halign hroom _), flashProgram_clears hs hread rfl⟩
    case sector => exact ⟨_, congrArg (nextBy s) (h.runs hop rfl halign hroom _), flashErase_erases hs rfl⟩
    case block => exact ⟨_, congrArg (nextBy s) (h.runs hop rfl halign hroom _), flashErase_erases hs rfl⟩

end Sys2Proof.Machine
end

section
/-! PROOF that every command keeps the queue of commands (95_what_each_step_holds.md). -/

namespace Sys2Proof.Machine

/-- Settles O6: a command is stages of primitive updates, and none of them touches the queue. -/
theorem commandsKeepTheQueue : Obligations.CommandsKeepTheQueue := by
  unfold Obligations.CommandsKeepTheQueue
  intro c s
  obtain ⟨es, hes⟩ := exec_runs c s
  exact ⟨runEffs s es, hes, runEffs_pending s es⟩

end Sys2Proof.Machine
end

section
/-! PROOFS of the statement on the management port (15_tenants.md R560, R570): a request frame is dropped, answered again or carried out. -/

namespace Sys2Proof.Machine

theorem ne_hold_of_mgmtOn {s : State} (h : mgmtOn s = true) : mode s ≠ mHOLD := by
  simp only [mgmtOn, Bool.and_eq_true, bne_iff_ne, ne_eq] at h
  exact h.2

section Requests

variable {s : State} (hon : mgmtOn s = true) (f : MgmtFrame) {item most : Nat} (run : Eff)
include hon

theorem mgmtRequest_dropped (h : mgmtAccepts s f item most = false) :
    mgmtRequest f item most run s = [.inc Reg.TEN_MGMT_DROP Fld.TEN_MGMT_DROP_COUNT 1] := by
  simp only [mgmtRequest, if_neg (ne_hold_of_mgmtOn hon), hon, h, Bool.not_true, Bool.not_false, Bool.false_eq_true, if_false, if_true]

theorem mgmtRequest_accepted (h : mgmtAccepts s f item most = true) : mgmtRequest f item most run s
    = if (ten s f.tenant).lastSeq = some f.seq then [.out (fun o => { o with frames := o.frames ++ [(ten s f.tenant).lastAnswer] })]
      else run s := by
  simp only [mgmtRequest, if_neg (ne_hold_of_mgmtOn hon), hon, h, Bool.not_true, Bool.false_eq_true, if_false]

theorem exec_mgmtRead (h : mgmtAccepts s f 4 64 = true) (hfresh : (ten s f.tenant).lastSeq ≠ some f.seq) :
    exec (.mgmtRead f) s = nextBy s ((readAll f.tenant (bodyWords f.carried) s).1 ++ mgmtAnswer f 0 (readAll f.tenant (bodyWords f.carried) s).2 s) := by
  show nextBy s (mgmtRequest f 4 64 _ s) = _
  rw [mgmtRequest_accepted hon f _ h, if_neg hfresh]

theorem exec_mgmtWrite (h : mgmtAccepts s f 8 64 = true) (hfresh : (ten s f.tenant).lastSeq ≠ some f.seq) :
    exec (.mgmtWrite f) s = nextBy s ((writeAll f.tenant (bodyWords f.carried) s).1 ++ mgmtAnswer f 1 (writeAll f.tenant (bodyWords f.carried) s).2 s) := by
  show nextBy s (mgmtRequest f 8 64 _ s) = _
  rw [mgmtRequest_accepted hon f _ h, if_neg hfresh]

theorem exec_mgmtCue (h : mgmtAccepts s f 64 16 = true) (hfresh : (ten s f.tenant).lastSeq ≠ some f.seq) :
    exec (.mgmtCue f) s = nextBy s (mgmtCues f s) := by
  show nextBy s (mgmtRequest f 64 16 _ s) = _
  rw [mgmtRequest_accepted hon f _ h, if_neg hfresh]

end Requests

/-- Cues that the internal queue holds enter it in order, and the answer is OK (R570). -/
theorem mgmtCues_taken {s : State} {f : MgmtFrame} (h : (ten s f.tenant).ready.length + f.len / 64 ≤ 64) :
    applyActs s (mgmtCues f s) = applyActs (runEffs s ((bodyCues (f.len / 64) f.carried).map (fun bs => fun s =>
      takeCue f.tenant (cueOf bs ((ten s f.tenant).serial % 64) (ten s f.tenant).serial) s))) (mgmtAnswer f 2 [stOK] s) := by
  unfold mgmtCues
  rw [if_neg (Nat.not_lt.2 h), applyActs_seqE, runEffs_append]
  rfl

theorem mgmtCues_busy {s : State} {f : MgmtFrame} (h : 64 < (ten s f.tenant).ready.length + f.len / 64) :
    mgmtCues f s = mgmtAnswer f 2 [stBUSY] s := if_pos h

/-- Settles O56: requests for the port's address are answered; a request frame is dropped, answered again, or carried out and answered. -/
theorem managementPortAnswers : Obligations.ManagementPortAnswers := by
  unfold Obligations.ManagementPortAnswers
  intro s hon
  refine ⟨fun sha spa tpa htpa => ?arp, fun dst id seq data hdst => ?icmp, fun f => ⟨fun h hfresh => ?read, fun h hfresh => ?write,
    fun h hfresh hroom => ?cues, fun h hfresh hfull => ?busy, fun h hold => ?readAgain, fun h hold => ?writeAgain, fun h hold => ?cueAgain,
    fun h => ?readDrops, fun h => ?writeDrops, fun h => ?cueDrops⟩⟩
  case arp => exact congrArg (nextBy s) (if_pos (by rw [hon, htpa, beq_self_eq_true]; rfl))
  case icmp => exact congrArg (nextBy s) (if_pos (by rw [hon, hdst, beq_self_eq_true]; rfl))
  case read => exact (exec_mgmtRead hon f h hfresh).trans (congrArg _ (applyActs_append s _ _))
  case write => exact (exec_mgmtWrite hon f h hfresh).trans (congrArg _ (applyActs_append s _ _))
  case cues => exact (exec_mgmtCue hon f h hfresh).trans (congrArg _ (mgmtCues_taken hroom))
  case busy => exact (exec_mgmtCue hon f h hfresh).trans (congrArg (nextBy s) (mgmtCues_busy hfull))
  case readAgain => exact congrArg (nextBy s) ((mgmtRequest_accepted hon f _ h).trans (if_pos (not_not.1 hold)))
  case writeAgain => exact congrArg (nextBy s) ((mgmtRequest_accepted hon f _ h).trans (if_pos (not_not.1 hold)))
  case cueAgain => exact congrArg (nextBy s) ((mgmtRequest_accepted hon f _ h).trans (if_pos (not_not.1 hold)))
  case readDrops => exact congrArg (nextBy s) (mgmtRequest_dropped hon f _ h)
  case writeDrops => exact congrArg (nextBy s) (mgmtRequest_dropped hon f _ h)
  case cueDrops => exact congrArg (nextBy s) (mgmtRequest_dropped hon f _ h)

end Sys2Proof.Machine
end

section
/-! PROOFS of the statement on requests for a mode and the wake (16_modes_power.md R599, R601, R603, R604): what a request that waits for its
edge leaves, which requests the table allows, and the stages of the wake. -/

namespace Sys2Proof.Machine

theorem pendingMode_implemented : regImpl Reg.SYS_MODE &&& Fld.SYS_MODE_PENDING.mask = Fld.SYS_MODE_PENDING.mask := by decide
theorem prevMode_implemented : regImpl Reg.SYS_MODE &&& Fld.SYS_MODE_PREV.mask = Fld.SYS_MODE_PREV.mask := by decide

/-! ## Requests (R599, R601, R603) -/

/-- A request waits for its edge: PENDING shows its target, and the mode stays. -/
theorem pend_waits {s : State} (hs : s.Inv) {m : Nat} (hm : m < 16) {t : State} (ht : applyActs s (pend m s) = t) :
    t.sys.pendTarget = some m ∧ t.sys.pendEdges = (if s.cur.closed = true then 3 else 2) ∧ rf t Reg.SYS_MODE Fld.SYS_MODE_PENDING = m
      ∧ mode t = mode s ∧ sameMemory s t := by
  subst ht
  have hwf := applyAct_regs_wf s (.sys (fun y => { y with pendTarget := some m, pendEdges := reqEdges s })) (regsWf_of_inv hs)
  refine ⟨rfl, rfl, ?pending, ?mode, sameMemory_applyActs s _ rfl⟩
  case pending => exact (rf_fld hwf _ _ m (by decide) pendingMode_implemented).trans (Nat.mod_eq_of_lt hm)
  case mode => exact mode_applyActs_spares hs (List.forall_mem_cons.2 ⟨rfl, List.forall_mem_singleton.2 rfl⟩)

theorem request_allowed {s : State} {u : Nat} {ok : State → Bool} (hu : u = 0) (hok : ok s = true) (e : Eff) : request u ok e s = e s := by
  simp only [request, hu, hok, ne_eq, not_true_eq_false, if_false, if_true]

theorem request_refused {s : State} {u : Nat} {ok : State → Bool} (hu : u = 0) (hok : ok s = false) (e : Eff) :
    request u ok e s = tenantFault s 0 stBAD_ARG Reg.SYS_MODE_REQ := by
  simp only [request, hu, hok, ne_eq, not_true_eq_false, if_false, Bool.false_eq_true]

/-- A change of mode shows the mode before it. -/
theorem setMode_changes {s : State} (hs : s.Inv) {m : Nat} (hm : m < 16) (hother : mode s ≠ m) {t : State} (ht : applyActs s (setMode s m) = t) :
    mode t = m ∧ rf t Reg.SYS_MODE Fld.SYS_MODE_PREV = mode s ∧ sameMemory s t := by
  subst ht
  refine ⟨mode_setMode hs hm, ?prev, sameMemory_of_noMem fun x hx => ?mem⟩
  case prev =>
    have hacts : ∃ r, setMode s m = [.fld Reg.SYS_MODE Fld.SYS_MODE_PREV (mode s), .fld Reg.SYS_MODE Fld.SYS_MODE_MODE m, .log r] :=
      ⟨_, if_neg hother⟩
    obtain ⟨r, hacts⟩ := hacts
    rw [hacts, applyActs_cons, rf_applyActs_spares (applyAct_inv s _ hs) _ _ (by decide) prevMode_implemented
      (List.forall_mem_cons.2 ⟨rfl, List.forall_mem_singleton.2 rfl⟩)]
    exact (rf_fld (regsWf_of_inv hs) _ _ _ (by decide) prevMode_implemented).trans (Nat.mod_eq_of_lt (getF_lt _ Fld.SYS_MODE_MODE))
  case mem => rcases mem_setMode hx with ⟨f, v, rfl⟩ | ⟨r, rfl⟩ <;> rfl

/-- TEST may be entered from BOOT and RECOVERY, with every tile in LOGIC_OFF (R599). -/
def testAllowed (s : State) : Bool :=
  (mode s == mBOOT || mode s == mRECOVERY) && (tilesOn (rd s)).all (fun t => tileState s t == tpLOGIC_OFF)

section Requests

variable {s : State} {a : Acc} (hr : reaches s a Reg.SYS_MODE_REQ true)
include hr

theorem exec_sysModeReqRehearsal : exec (.sysModeReqRehearsal a) s = nextBy s (reqRehearsal (actsFor a) s) :=
  congrArg (nextBy s) (gate_reaches hr false reqRehearsal)

theorem exec_sysModeReqShow : exec (.sysModeReqShow a) s = nextBy s (reqShow (actsFor a) s) :=
  congrArg (nextBy s) (gate_reaches hr false reqShow)

theorem exec_sysModeReqHold : exec (.sysModeReqHold a) s = nextBy s (reqHold (actsFor a) s) :=
  congrArg (nextBy s) (gate_reaches hr false reqHold)

theorem exec_sysModeReqTest : exec (.sysModeReqTest a) s = nextBy s (request (actsFor a) testAllowed (fun s => setMode s mTEST) s) :=
  congrArg (nextBy s) (gate_reaches hr false reqTest)

end Requests

/-! ## The wake (R604) -/

theorem exec_wakeResume {s : State} (hmode : mode s = mHOLD) (hwaking : s.sys.waking = true) : exec .wakeResume s = .next (runEffs s [
    fun s => [.clockTo (now s + 2000000), .sys (fun y => { y with waking := false })], loadDelays,
    fun s => seqE ((List.range 512).map (fun n => seqE [fun s => bankMove s n, bankArrive n])) s, startEngines,
    fun s => setMode s (if showing s.sys.holdFrom && s.sys.holdFrom != mQUIET then showBack s
      else if s.sys.holdFrom = mQUIET ∧ showBack s = mDEGRADED then mDEGRADED else s.sys.holdFrom),
    fun s => seqE ((banksOn (rd s)).map startBank) s, fun s => [ticketAll] ++ resumeSeries (now s) s]) := by
  show nextBy s (wakeResume s) = _
  have hwakes : ¬ (mode s ≠ mHOLD ∨ (!s.sys.waking) = true) := by simp [hmode, hwaking]
  rw [wakeResume, if_neg hwakes]
  exact congrArg _ (applyActs_seqE s _)

/-- Settles O58: a request the table allows waits or changes the mode, any other is refused; the wake runs its stages. -/
theorem modesAreRequested : Obligations.ModesAreRequested := by
  unfold Obligations.ModesAreRequested
  intro s a hs
  refine ⟨fun hr ha => ⟨fun h => ?rehearsal, fun h => ?noRehearsal, fun h => ?show_, fun h => ?noShow, fun h hbar himg => ?hold, fun h => ?noHold,
    fun h hbusy => ?busy, fun h htiles => ?test, fun hboot hrec => ?noTest⟩, exec_wakeResume⟩
  case rehearsal => exact ⟨_, exec_sysModeReqRehearsal hr, pend_waits hs (by decide) (congrArg _ (request_allowed ha h _).symm)⟩
  case noRehearsal => exact (exec_sysModeReqRehearsal hr).trans (congrArg (nextBy s) (request_refused ha h _))
  case show_ => exact ⟨_, exec_sysModeReqShow hr, pend_waits hs (by decide) (congrArg _ (request_allowed (ok := fun s => mode s == mREHEARSAL) ha (beq_iff_eq.2 h) _).symm)⟩
  case noShow => exact (exec_sysModeReqShow hr).trans (congrArg (nextBy s) (request_refused (ok := fun s => mode s == mREHEARSAL) ha (beq_eq_false_iff_ne.2 h) _))
  case hold =>
    have hfree : ¬ (holdBarred s || imageRuns s) = true := by rw [hbar, himg]; exact Bool.false_ne_true
    exact ⟨_, exec_sysModeReqHold hr, pend_waits hs (by decide) (congrArg _ ((request_allowed ha h _).trans (if_neg hfree)).symm)⟩
  case noHold => exact (exec_sysModeReqHold hr).trans (congrArg (nextBy s) (request_refused ha h _))
  case busy =>
    have hbarred : (holdBarred s || imageRuns s) = true := Bool.or_eq_true_iff.2 hbusy
    refine (exec_sysModeReqHold hr).trans (congrArg (nextBy s) ((request_allowed ha h _).trans ?_))
    rw [if_pos hbarred, ha]
  case test =>
    have hmay : testAllowed s = true := by simpa [testAllowed] using ⟨h, htiles⟩
    have hother : mode s ≠ mTEST := by rcases h with h | h <;> rw [h] <;> decide
    exact ⟨_, exec_sysModeReqTest hr, setMode_changes hs (by decide) hother (congrArg _ (request_allowed ha hmay (fun s => setMode s mTEST)).symm)⟩
  case noTest =>
    have hmay : testAllowed s = false := by simp [testAllowed, hboot, hrec]
    exact (exec_sysModeReqTest hr).trans (congrArg (nextBy s) (request_refused ha hmay _))

end Sys2Proof.Machine
end

section
/-! PROOFS of the statement on restarts, temperatures and the test access port (16_modes_power.md R606 to R610, 17_electrical.md R638): when a
restart is warm, what a reading leaves in SYS_TEMP, and the instructions of the port. -/

namespace Sys2Proof.Machine

/-! ## Restarts (R606, R607) -/

/-- Curtains are generated only in modes from BOOT on, and not in HOLD (R597). -/
theorem restartable_of_curtainMode {m : Nat} (h : curtainMode m = true) : fromBoot m = true ∧ m ≠ mHOLD := by
  simp only [curtainMode, showing, Bool.or_eq_true, beq_iff_eq] at h
  rcases h with (((h | h) | h) | h) | h <;> rw [h] <;> decide

theorem restartCold_false {s : State} (hmode : curtainMode (mode s) = true) (hsnap : s.sys.snapOk = true)
    (hlast : ∀ t, s.sys.warmAt = some t → t + 60000000000 ≤ now s) : restartCold s true = false := by
  unfold restartCold
  cases hw : s.sys.warmAt with
  | none => simp [hmode, hsnap]
  | some t => simp [hmode, hsnap, hlast t hw]

theorem restartCold_true {s : State} {ok : Bool} (h : curtainMode (mode s) = false ∨ s.sys.snapOk = false ∨ ok = false
    ∨ ∃ t, s.sys.warmAt = some t ∧ now s < t + 60000000000) : restartCold s ok = true := by
  unfold restartCold
  rcases h with h | h | h | ⟨t, hw, hlt⟩
  · simp [h]
  · simp [h]
  · simp [h]
  · simp [hw, hlt]

/-- A restart that is not cold runs the stages of the warm one, back to the mode it interrupted. -/
theorem warmRestart_warm {s : State} (hmode : curtainMode (mode s) = true) (hwarm : restartCold s true = false) :
    nextBy s (warmRestart true s) = .next (runEffs s [
      fun s => .inc Reg.SYS_RESTARTS Fld.SYS_RESTARTS_COUNT 1 :: .fld Reg.SYS_STATUS Fld.SYS_STATUS_WARM 1
        :: .sys (fun y => { y with warmAt := some (now s), ticketsThis := 0, quietRun := 0 }) :: sysEvent s 5 0,
      abandonLoad, stopLines, stopSeries false, dropRuns,
      fun s => pendDone ++ [.fld Reg.SYS_STATUS Fld.SYS_STATUS_GATED 0] ++ setMode s mBOOT,
      restoreSnap, restartTenants, restartUnits, fun s => [.clockTo (now s + 1000000000)], startEngines,
      fun s => seqE ((banksOn (rd s)).map startBank) s, fun t => setMode t (if showing (mode s) then showBack t else mode s),
      fun s => [ticketAll] ++ resumeSeries (now s) s]) := by
  obtain ⟨hboot, hhold⟩ := restartable_of_curtainMode hmode
  have hruns : ¬ (!fromBoot (mode s) || mode s == mHOLD) = true := by simp [hboot, hhold]
  rw [warmRestart, if_neg hruns, if_neg (by rw [hwarm]; exact Bool.false_ne_true)]
  exact congrArg Host.Outcome.next (applyActs_seqE s _)

theorem warmRestart_cold {s : State} {ok : Bool} (hboot : fromBoot (mode s) = true) (hhold : mode s ≠ mHOLD) (hcold : restartCold s ok = true) :
    nextBy s (warmRestart ok s) = .next (runEffs s [stopLines, stopSeries false,
      fun _ => if ok then [] else [.dramDrop 0 (2 ^ 36), .ddr (fun _ => ddrInit)], coldStart]) := by
  have hruns : ¬ (!fromBoot (mode s) || mode s == mHOLD) = true := by simp [hboot, hhold]
  rw [warmRestart, if_neg hruns, if_pos hcold]
  exact congrArg Host.Outcome.next (applyActs_seqE s _)

theorem exec_hcWatchdog (s : State) (ok : Bool) : exec (.hcWatchdog ok) s = nextBy s (warmRestart ok s) := rfl

theorem exec_hcFault (s : State) (ok : Bool) : exec (.hcFault ok) s = nextBy s (warmRestart ok s) := rfl

theorem exec_sysRestart {s : State} {a : Acc} {v : Word} (hr : reaches s a Reg.SYS_RESTART true) (ha : actsFor a = 0)
    (hgo : getF v Fld.SYS_RESTART_GO = 1) (hconfirm : getF v Fld.SYS_RESTART_CONFIRM = 0xA5) (ok : Bool) :
    exec (.sysRestart a v ok) s = nextBy s (warmRestart ok s) := by
  show nextBy s (gate a Reg.SYS_RESTART true false (fun u => restartWrite u v ok) s) = _
  rw [gate_reaches hr, restartWrite, if_neg (not_not.2 ha), if_pos ⟨hgo, hconfirm⟩]

/-- A restart's outcome is that of each of its three commands. -/
theorem restarts_by_each {s : State} {ok : Bool} {out : Host.Outcome State Fault Refusal} (h : nextBy s (warmRestart ok s) = out) (a : Acc) (v : Word) :
    exec (.hcWatchdog ok) s = out ∧ exec (.hcFault ok) s = out
      ∧ (reaches s a Reg.SYS_RESTART true ∧ actsFor a = 0 ∧ getF v Fld.SYS_RESTART_GO = 1 ∧ getF v Fld.SYS_RESTART_CONFIRM = 0xA5 →
        exec (.sysRestart a v ok) s = out) :=
  ⟨(exec_hcWatchdog s ok).trans h, (exec_hcFault s ok).trans h, fun ⟨hr, ha, hgo, hconfirm⟩ => (exec_sysRestart hr ha hgo hconfirm ok).trans h⟩

/-! ## Temperatures (R395, R609, R610) -/

theorem toSigned_bounds (n : Nat) : -32768 ≤ toSigned 16 n ∧ toSigned 16 n < 32768 := by
  unfold toSigned
  have := Nat.mod_lt n (show 0 < 2 ^ 16 by decide)
  split <;> omega

/-- A number of 16 bits with sign is read back from its word. -/
theorem toSigned_ofInt {x : Int} (hlow : -32768 ≤ x) (hhigh : x < 32768) : toSigned 16 (BitVec.ofInt 16 x).toNat = x := by
  rw [BitVec.toNat_ofInt]
  unfold toSigned
  split <;> omega

theorem temp_implemented {i : Nat} (hi : i < 5) : regImpl (Reg.SYS_TEMP i) = 0xFFFFFFFF := by
  interval_cases i <;> decide

/-- The word that SYS_TEMP takes: the reading, and the highest since the start. -/
def tempWord (s : State) (i : Nat) (v : BitVec 16) : Word :=
  putF (putF 0 Fld.SYS_TEMP_TEMP v.toNat) Fld.SYS_TEMP_PEAK
    (BitVec.ofInt 16 (max (toSigned 16 (rf s (Reg.SYS_TEMP i) Fld.SYS_TEMP_PEAK)) v.toInt)).toNat

/-- A reading writes SYS_TEMP; the rest of it is calibration's copy, the armed warnings and records. -/
theorem thermalRead_eq (i : Nat) (v : BitVec 16) (s : State) : ∃ xs, thermalRead i v s = .reg (Reg.SYS_TEMP i) (tempWord s i v) :: xs
    ∧ ∀ x ∈ xs, (∃ f, x = .cal f) ∨ (∃ f : Sys → Sys, x = .sys f ∧ ∀ y, (f y).vddAo = y.vddAo) ∨ ∃ r, x = .log r := by
  have hwarns : ∀ (c : Prop) [Decidable c] (code : Nat), ∀ x ∈ (if c then sysEvent s code 0 else []), ∃ r, x = .log r := fun c _ code =>
    forall_mem_guarded fun x hx => ⟨_, List.mem_singleton.1 hx⟩
  refine ⟨_, rfl, List.forall_mem_append.2 ⟨List.forall_mem_append.2 ⟨?_, fun x hx => .inr (.inr (hwarns _ 1 x hx))⟩,
    fun x hx => .inr (.inr (hwarns _ 2 x hx))⟩⟩
  exact List.forall_mem_cons.2 ⟨.inl ⟨_, rfl⟩, List.forall_mem_singleton.2 (.inr (.inl ⟨_, rfl, fun _ => rfl⟩))⟩

theorem vddAo_thermalReads {s : State} (hs : s.Inv) (l : List (BitVec 16)) :
    (applyActs s (seqE (l.mapIdx thermalRead) s)).sys.vddAo = s.sys.vddAo := by
  refine applyActs_keeps (fun u => u.sys.vddAo) (forall_mem_seqE (fun e he u x hx v _ => ?_) s) hs
  obtain ⟨i, hi, rfl⟩ := List.mem_mapIdx.1 he
  obtain ⟨xs, hacts, hxs⟩ := thermalRead_eq i (l[i]) u
  rw [hacts] at hx
  rcases List.mem_cons.1 hx with rfl | hx
  · rfl
  rcases hxs x hx with ⟨f, rfl⟩ | ⟨f, rfl, hf⟩ | ⟨r, rfl⟩
  · rfl
  · exact hf v.sys
  · rfl

/-- Trims touch calibration, the far ends and the ports' queues, and no system state. -/
theorem sys_tempTrims (s : State) : (applyActs s (tempTrims s)).sys = s.sys := by
  refine sys_applyActs s _ (List.all_eq_true.2 fun x hx => ?_)
  have hsys : x.maySys = false := by
    refine forall_mem_seqE (P := fun x => x.maySys = false) (fun e he u y hy => ?_) s x hx
    obtain ⟨b, -, rfl⟩ := List.mem_map.1 he
    rcases List.mem_cons.1 hy with rfl | hy
    · rfl
    · split at hy
      · exact absurd hy List.not_mem_nil
      · simp only [List.mem_flatMap, List.mem_cons, List.not_mem_nil, or_false] at hy
        obtain ⟨t, -, p, -, k, -, rfl | rfl⟩ := hy <;> rfl
  rw [hsys]
  rfl

theorem exec_thermalSample {s : State} (hs : s.Inv) (hao : s.sys.vddAo = true) (l : List (BitVec 16)) :
    nextBy s (thermalSample l s) = .next (runEffs s [fun s => seqE (l.mapIdx thermalRead) s,
      fun s => if fromBoot (mode s) && mode s != mHOLD then tempTrims s else [],
      fun s => let hots := (List.range l.length).filter (fun i => decide (2000 ≤ (l.getD i 0).toInt))
        .sys (fun y => { y with hot := (List.range 5).foldl (fun m i => setBit m i (hots.contains i)) 0 })
          :: (match hots.find? (fun i => bit s.sys.hot i) with
              | some i => if rf s Reg.SYS_STATUS Fld.SYS_STATUS_TRIPPED = 1 then [] else thermalTrip i s
              | none => [])]) := by
  have hread : (applyActs s (seqE (l.mapIdx thermalRead) s)).sys.vddAo = true := (vddAo_thermalReads hs l).trans hao
  have htrim : ∀ u : State, u.sys.vddAo = true →
      (applyActs u (if fromBoot (mode u) && mode u != mHOLD then tempTrims u else [])).sys.vddAo = true := fun u hu => by
    split
    · rw [sys_tempTrims, hu]
    · exact hu
  show Host.Outcome.next (applyActs s (thermalSample l s)) = _
  rw [thermalSample, applyActs_seqE]
  simp only [runEffs_cons, runEffs_nil, hao, if_true, hread, Bool.true_and, htrim _ hread, Bool.not_true, Bool.false_eq_true, if_false] <;> rfl

/-- A reading is kept in SYS_TEMP, with the highest since the start. -/
theorem thermalRead_keeps {s : State} (hs : s.Inv) {i : Nat} (hi : i < 5) (x : BitVec 16) {t : State} (ht : applyActs s (thermalRead i x s) = t) :
    rf t (Reg.SYS_TEMP i) Fld.SYS_TEMP_TEMP = x.toNat
      ∧ toSigned 16 (rf t (Reg.SYS_TEMP i) Fld.SYS_TEMP_PEAK) = max (toSigned 16 (rf s (Reg.SYS_TEMP i) Fld.SYS_TEMP_PEAK)) x.toInt := by
  subst ht
  obtain ⟨xs, hacts, hxs⟩ := thermalRead_eq i x s
  have hrd : rd (applyActs s (thermalRead i x s)) (Reg.SYS_TEMP i) = tempWord s i x := by
    have hkeep : ∀ y ∈ xs, y.mayReg (Reg.SYS_TEMP i) = false := fun y hy => by
      rcases hxs y hy with ⟨f, rfl⟩ | ⟨f, rfl, -⟩ | ⟨r, rfl⟩
      · rfl
      · rfl
      · exact beq_eq_false_iff_ne.2 (by unfold Reg.SYS_TEMP Reg.PB_UNIT_LOST; omega)
    rw [hacts, applyActs_cons, rd_applyActs_of_forall hkeep]
    refine (rd_putReg_same (regs_of_inv hs).1 _ _).trans ?_
    rw [temp_implemented hi]
    exact BitVec.and_allOnes
  unfold rf
  rw [hrd]
  constructor
  · rw [tempWord, getF_putF_other _ _ _ _ (by decide) (by decide), getF_putF _ _ _ (by decide)]
    exact Nat.mod_eq_of_lt x.isLt
  · rw [tempWord, getF_putF _ _ _ (by decide)]
    refine (congrArg (toSigned 16) (Nat.mod_eq_of_lt (BitVec.isLt _))).trans (toSigned_ofInt (le_max_of_le_left (toSigned_bounds _).1) ?_)
    exact max_lt (toSigned_bounds _).2 (by have := x.toInt_lt; omega)

/-! ## The test access port (R638) -/

section TestPort

variable {s : State} {balls : List Bool}

theorem tapOn_of_supplied (h : mode s ≠ mOFF) : tapOn s = true := bne_iff_ne.2 h

theorem tapTest_of_pilot (hmode : mode s = mPILOT) (htest : s.sys.testEn = true) : tapTest s = true := by
  rw [tapTest, hmode, htest]
  rfl

theorem tapTest_false (h : mode s ≠ mPILOT ∨ s.sys.testEn = false) : tapTest s = false := by
  rcases h with h | h
  · rw [tapTest, beq_eq_false_iff_ne.2 h]
    rfl
  · rw [tapTest, h, Bool.and_false]

/-- An update of the port where a condition holds, and nothing elsewhere. -/
theorem done_jtag_if {c : Bool} (h : c = true) (f : Jtag → Jtag) : done s (if c then [.jtag f] else []) = .next { s with jtag := f s.jtag } := by
  rw [if_pos h]
  rfl

theorem done_jtag_not {c : Bool} (h : c = false) (f : Jtag → Jtag) : done s (if c then [.jtag f] else []) = .next s := by
  rw [if_neg (by rw [h]; exact Bool.false_ne_true)]
  rfl

/-- The fields of the word that IDCODE shifts out: version 2, PART, and the 1 that ends it. -/
theorem idcodeOf_fields (s : State) : (idcodeOf s).toNat / 2 ^ 28 = 2 ∧ (idcodeOf s).toNat % 2 = 1
    ∧ (idcodeOf s).toNat / 2 ^ 12 % 65536 = (if s.fuses.is9440 then 0x9440 else 0x9432) := by
  have hpart : (if s.fuses.is9440 then 0x9440 else 0x9432) < 65536 := by split <;> decide
  have hjep : Config.jep106 % 2048 < 2048 := Nat.mod_lt _ (by decide)
  unfold idcodeOf
  generalize (if s.fuses.is9440 then 0x9440 else 0x9432) = part at *
  generalize Config.jep106 % 2048 = j at *
  rw [BitVec.toNat_ofNat]
  refine ⟨?_, ?_, ?_⟩ <;> omega

end TestPort

/-- Settles O60: a restart by whether its conditions make it cold; temperatures and the test access port by their updates. -/
theorem restartsTripsAndTestPort : Obligations.RestartsTripsAndTestPort := by
  unfold Obligations.RestartsTripsAndTestPort
  refine ⟨fun s a v ok => ⟨fun hmode hsnap hok hlast => ?warm, fun hboot hhold hcold => ?cold, fun u hu => ?start,
    fun q0 q1 q2 q3 sp hs hao => ⟨?sample, fun i x hi => ?reading⟩⟩, fun s balls => ⟨fun hmode => ⟨?idcode, ?bypass⟩,
    fun hmode htest => ?scan, fun h => ?silent, idcodeOf_fields s⟩⟩
  case warm =>
    subst hok
    exact restarts_by_each (warmRestart_warm hmode (restartCold_false hmode hsnap hlast)) a v
  case cold => exact restarts_by_each (warmRestart_cold hboot hhold (restartCold_true hcold)) a v
  case start =>
    obtain ⟨hmode, hview, -⟩ := coldStart_starts hu
    generalize applyActs u (coldStart u) = t at *
    exact ⟨hmode, congrArg Prod.snd hview⟩
  case sample => exact exec_thermalSample hs hao [q0, q1, q2, q3, sp]
  case reading => exact thermalRead_keeps hs hi x rfl
  case idcode => exact done_jtag_if (tapOn_of_supplied hmode) _
  case bypass => exact done_jtag_if (tapOn_of_supplied hmode) _
  case scan =>
    have hon := tapTest_of_pilot hmode htest
    exact ⟨done_jtag_if hon _, done_jtag_if hon _, done_jtag_if hon _⟩
  case silent =>
    have hoff := tapTest_false h
    exact ⟨done_jtag_not hoff _, done_jtag_not hoff _, done_jtag_not hoff _⟩

end Sys2Proof.Machine
end

section
/-! PROOFS of what the queues of a tenant rest on (15_tenants.md R570 to R573, R596): what an update leaves of a tenant, and the registers of a
tenant's window. -/

namespace Sys2Proof.Machine

/-! ## A tenant under updates -/

/-- A tenant without the state of its interrupt messages (R596). -/
def Tenant.sansMsix (q : Tenant) : Tenant := { q with msixNew := 0, msixHold := 0, msixAt := [] }

/-- Tenants that differ in their messages alone have the same queues. -/
theorem queues_of_sansMsix {p q : Tenant} (h : p.sansMsix = q.sansMsix) : p.staged = q.staged ∧ p.ready = q.ready ∧ p.open_ = q.open_
    ∧ p.fences = q.fences ∧ p.held = q.held ∧ p.lostCount = q.lostCount :=
  ⟨(congrArg Tenant.staged h :), (congrArg Tenant.ready h :), (congrArg Tenant.open_ h :), (congrArg Tenant.fences h :),
    (congrArg Tenant.held h :), (congrArg Tenant.lostCount h :)⟩

/-- May an update change what tenant `t` keeps beside its interrupt messages? -/
def Act.mayTen (x : Act) (t : Nat) : Bool :=
  match x with
  | .ten i _ => i == t
  | _ => false

theorem ten_ten_same {s : State} (hs : s.Inv) (t : Nat) (f : Tenant → Tenant) : ten (applyAct s (.ten t f)) t = f (ten s t) :=
  get_ten_same hs t f

theorem ten_ten_other (s : State) {t u : Nat} (h : t ≠ u) (f : Tenant → Tenant) : ten (applyAct s (.ten u f)) t = ten s t :=
  get_ten_other s u t f h

/-- A tenant replaced by one that differs in its messages: no tenant differs in more. -/
theorem sansMsix_mapPut {s : State} (hs : s.Inv) {u : Nat} {q : Tenant} (hq : q.sansMsix = (ten s u).sansMsix) (t : Nat) :
    (mapGet tenantDflt (mapPut tenantDflt s.tenants u q) t).sansMsix = (ten s t).sansMsix := by
  obtain ⟨-, -, -, -, -, -, -, -, -, hten⟩ := units_of_inv hs
  by_cases htu : t = u
  · rw [htu, mapGet_mapPut_same tenantDflt hten, hq]
  · rw [mapGet_mapPut_other tenantDflt htu, ten]

theorem sansMsix_signalTenant {s : State} (hs : s.Inv) (u vec t : Nat) :
    (ten (signalTenant s u vec) t).sansMsix = (ten s t).sansMsix := by
  unfold signalTenant
  dsimp only
  split
  · split <;> split <;> exact sansMsix_mapPut (u := u) hs (by rfl) t
  · rfl

theorem sansMsix_raiseEvt {s : State} (hs : s.Inv) (blk u b t : Nat) : (ten (raiseEvt s blk u b) t).sansMsix = (ten s t).sansMsix := by
  have hset : State.Inv { s with regs := putReg s.regs (evtStatus blk u) (rd s (evtStatus blk u) ||| BitVec.ofNat 32 (2 ^ b)) } :=
    applyAct_inv s (.reg _ _) hs
  unfold raiseEvt
  dsimp only
  split
  · exact sansMsix_signalTenant hset u _ t
  · rfl

theorem sansMsix_applyAct {s : State} (hs : s.Inv) {x : Act} {t : Nat} (h : x.mayTen t = false) :
    (ten (applyAct s x) t).sansMsix = (ten s t).sansMsix := by
  cases x with
  | ten i f => rw [ten_ten_other s (Ne.symm (beq_eq_false_iff_ne.1 h))]
  | evt blk u b => exact sansMsix_raiseEvt hs blk u b t
  | signal u vec => exact sansMsix_signalTenant hs u vec t
  | _ => rfl

/-- Updates of other tenants, of registers and of the rest of the block, and events, leave a tenant but for its messages. -/
theorem sansMsix_applyActs {s : State} (hs : s.Inv) {xs : List Act} {t : Nat} (h : ∀ x ∈ xs, x.mayTen t = false) :
    (ten (applyActs s xs) t).sansMsix = (ten s t).sansMsix :=
  applyActs_keeps (fun u => (ten u t).sansMsix) (fun x hx _ hu => sansMsix_applyAct hu (h x hx)) hs

/-- A message of a tenant bound to PCIe goes out at once where its vector is unmasked and outside its hold-off (R596). -/
theorem signalTenant_sends {s : State} {t v : Nat} (hbind : bindMode s t = 0) (hmask : bit (ten s t).msixMask v = false)
    (hhold : bit (ten s t).msixHold v = false) : signalTenant s t v = { s with
      tenants := mapPut tenantDflt s.tenants t
        { ten s t with msixHold := setBit (ten s t).msixHold v true, msixAt := (ten s t).msixAt.set v (now s) }
      out := { s.out with msix := s.out.msix ++ [(t, v)] } } := by
  simp [signalTenant, hbind, hmask, hhold]

/-! ## The registers of a tenant's window (R562) -/

theorem rf_congr {s t : State} {a : Nat} (h : rd s a = rd t a) (f : Field) : rf s a f = rf t a f := congrArg (getF · f) h

theorem bindMode_congr {s u : State} {t : Nat} (h : rd u (Reg.TEN_BIND_CTRL t) = rd s (Reg.TEN_BIND_CTRL t)) : bindMode u t = bindMode s t :=
  rf_congr h _

section Window

variable {t : Nat} (ht : t < 8)
include ht

theorem cuqTail_implemented : regImpl (Reg.CUQ_TAIL t) = 0xFFF := by interval_cases t <;> decide
theorem cuqHead_implemented : regImpl (Reg.CUQ_HEAD t) = 0xFFF := by interval_cases t <;> decide
theorem cpqTail_implemented : regImpl (Reg.CPQ_TAIL t) = 0x80000FFF := by interval_cases t <;> decide
theorem tenEvtStatus_implemented : regImpl (Reg.TEN_EVT_STATUS t) = 0xF := by interval_cases t <;> decide

end Window

end Sys2Proof.Machine
end

section
/-! PROOFS of the statement on the prompt book (15_tenants.md R585, R586, R588, R589, R596): a record leaves the collector and enters the ring, a
window closes, the copy in the Caddy, the end of a hold-off. -/

namespace Sys2Proof.Machine

/-- An update is what it makes of the part it names. -/
theorem applyAct_book_congr {s : State} {f g : Book → Book} (h : f s.book = g s.book) : applyAct s (.book f) = applyAct s (.book g) :=
  congrArg (fun b => { s with book := b }) h

theorem applyAct_cad_congr {s : State} {f g : Caddy → Caddy} (h : f s.cad = g s.cad) : applyAct s (.cad f) = applyAct s (.cad g) :=
  congrArg (fun c => { s with cad := c }) h

/-! ## The collector (R585, R586) -/

/-- The state in which a record has left the collector, 5 us after its stamp. -/
def recTaken (r : PbRec) (s : State) : State :=
  applyActs s [.clockTo (r.stamp + 5000), .book (fun b => { b with waiting := b.waiting.erase r })]

/-- Where no window closes before it, the collector's first record is released or merged alone. -/
theorem exec_pbRecordRelease {s : State} {r : PbRec} (hfirst : firstRec s.book.waiting = some r)
    (hclose : closeBefore r s.book.wins.length (recTaken r s) = []) :
    exec .pbRecordRelease s = nextBy (recTaken r s) (collectRec r (recTaken r s)) := by
  show nextBy s (recordRelease s) = _
  simp only [recordRelease, hfirst]
  refine congrArg Host.Outcome.next ((applyActs_seqE s _).trans ?_)
  exact runEffs_skip (s := recTaken r s) (e := fun s => closeBefore r s.book.wins.length s) hclose [collectRec r]

theorem closeBefore_open {s : State} {r : PbRec} {w : CoalWin} (hwins : s.book.wins = [w]) (h : r.stamp < w.end_) (n : Nat) :
    closeBefore r n s = [] := by
  cases n with
  | zero => rfl
  | succ n =>
    have hlast : ¬ (w.end_ < r.stamp ∨ (w.end_ = r.stamp ∧ relBefore (coalRec w) r)) := by omega
    simp only [closeBefore, hwins, firstWin, if_neg hlast]

/-- A record for which no window is open goes on alone; it opens a window, unless it is a SYSTEM record or windows have no length. -/
theorem collectRec_alone {s : State} {r : PbRec} (hwins : s.book.wins = []) :
    collectRec r s = (if r.kind = kSYSTEM ∨ rf s Reg.PB_CTRL Fld.PB_CTRL_COALESCE = 0 then []
      else [.book (fun b => { b with wins := b.wins ++ [⟨r, r.stamp + 1000 * rf s Reg.PB_CTRL Fld.PB_CTRL_COALESCE, 0, 0, 0, 0⟩] })])
        ++ releaseRec r s := by
  simp only [collectRec, hwins, List.find?_nil]
  by_cases hsys : r.kind = kSYSTEM <;> by_cases hlen : rf s Reg.PB_CTRL Fld.PB_CTRL_COALESCE = 0 <;> simp [hsys, hlen]

/-- A window after a record is merged into it. -/
def CoalWin.merge (w : CoalWin) (r : PbRec) : CoalWin :=
  { w with merged := w.merged + 1, firstMerged := if w.merged = 0 then r.stamp else w.firstMerged, lastMerged := r.stamp,
           tenants := w.tenants ||| r.tenants }

theorem collectRec_merges {s : State} {r : PbRec} {w : CoalWin} (hwins : s.book.wins = [w]) (hsame : sameRec w.first r = true)
    (hkind : r.kind ≠ kSYSTEM) (hopen : r.stamp ≤ w.end_) :
    collectRec r s = [.book (fun b => { b with wins := b.wins.map (fun x => if sameRec x.first r then x.merge r else x) })] := by
  simp only [collectRec, if_neg hkind, hwins, List.find?_cons, hsame, if_pos hopen]
  rfl

/-! ## The ring (R588) -/

theorem length_recBytes (r : PbRec) (company seq : Nat) : (recBytes r company seq).length = 32 := by
  simp only [recBytes, List.length_append, length_leBytes, List.length_cons, List.length_nil]

theorem writeIdx_implemented : regImpl Reg.PB_WRITE_IDX &&& Fld.PB_WRITE_IDX_SEQ.mask = Fld.PB_WRITE_IDX_SEQ.mask := by decide

/-- The address at which the next record enters the device ring. -/
def ringAt (s : State) : Nat :=
  addr36 s Reg.PB_BASE_LO Reg.PB_BASE_HI
    + 32 * (rf s Reg.PB_WRITE_IDX Fld.PB_WRITE_IDX_SEQ % 2 ^ rf s Reg.PB_CTRL Fld.PB_CTRL_SIZE)

theorem dramStore_leaves (s : State) (a : Nat) (bs : List Byte) {r : Nat} (h : r ≠ Reg.DDR_ERR) :
    rd (applyActs s (dramStore s a bs)) r = rd s r := by
  refine rd_applyActs_of_forall (fun x hx => ?_) s
  have hx := dramStore_storesDram s a bs x hx
  cases x with
  | fld b f v =>
    obtain rfl : b = Reg.DDR_ERR := beq_iff_eq.1 hx
    exact beq_eq_false_iff_ne.2 (Ne.symm h)
  | dram k bs => rfl
  | ddr f => rfl
  | _ => cases hx

/-- A record that no host ring, Caddy copy or lead takes enters the device ring, and PB_WRITE_IDX advances. -/
theorem releaseRec_ring {s : State} {r : PbRec} (hrings : ∀ t, t < 8 → rf s (Reg.PBH_CTRL t) Fld.PBH_CTRL_EN = 0)
    (hcopy : rf s Reg.PB_CADDY Fld.PB_CADDY_KINDS = 0) (hrole : role s ≠ rlMEMBER) :
    applyActs s (releaseRec r s) = applyActs s (dramStore s (ringAt s) (recBytes r (recCompany s) (rf s Reg.PB_WRITE_IDX Fld.PB_WRITE_IDX_SEQ))
      ++ [.inc Reg.PB_WRITE_IDX Fld.PB_WRITE_IDX_SEQ 1]) := by
  have hnone : recTenants s r = [] := by
    refine List.filter_eq_nil_iff.2 fun t ht => ?_
    have ht8 : t < 8 := by
      simp only [allTenants, List.mem_cons, List.not_mem_nil, or_false] at ht
      omega
    rw [hrings t ht8]
    exact Bool.false_ne_true
  have hkinds : ¬ bitsOf (rf s Reg.PB_CADDY Fld.PB_CADDY_KINDS) r.kind r.kind = 1 := by
    rw [hcopy, bitsOf, Nat.zero_div, Nat.zero_mod]
    exact Nat.zero_ne_one
  have hmirror : ∀ u : State, rd u Reg.CMP_STATUS = rd s Reg.CMP_STATUS → mirrorRec r u = [] := fun u hu =>
    if_neg fun h => hrole ((rf_congr hu.symm _).trans h.1)
  rw [releaseRec, applyActs_seqE, hnone, List.map_nil, List.append_nil, List.singleton_append, runEffs_cons, if_neg hkinds, List.append_nil,
    runEffs_single, hmirror, applyActs_nil]
  · rfl
  · rw [applyActs_append]
    exact (rd_applyAct_other _ _ _ rfl).trans (dramStore_leaves s _ _ (by decide))

theorem writeIdx_inc {s : State} (hs : s.Inv) : rf (applyAct s (.inc Reg.PB_WRITE_IDX Fld.PB_WRITE_IDX_SEQ 1)) Reg.PB_WRITE_IDX Fld.PB_WRITE_IDX_SEQ
    = (rf s Reg.PB_WRITE_IDX Fld.PB_WRITE_IDX_SEQ + 1) % 2 ^ 24 := by
  have hwidth : Fld.PB_WRITE_IDX_SEQ.width = 24 := rfl
  rw [rf_inc (regsWf_of_inv hs) _ _ 1 (by decide) writeIdx_implemented, hwidth]

/-- What a write of a record's bytes at a place of the ring, and the step of PB_WRITE_IDX, make of both. -/
theorem ringWrite {s : State} (hs : s.Inv) {a : Nat} {bs : List Byte} (hlen : bs.length = 32) (hroom : a + 32 ≤ dramCap s) {t : State}
    (ht : applyActs s (dramStore s a bs ++ [.inc Reg.PB_WRITE_IDX Fld.PB_WRITE_IDX_SEQ 1]) = t) :
    mapGets zeroByte t.dram a 32 = bs ∧ (∀ x, x < a ∨ a + 32 ≤ x → dramByte t x = dramByte s x)
      ∧ rf t Reg.PB_WRITE_IDX Fld.PB_WRITE_IDX_SEQ = (rf s Reg.PB_WRITE_IDX Fld.PB_WRITE_IDX_SEQ + 1) % 2 ^ 24 := by
  obtain ⟨hdram, -⟩ := mem_of_inv hs
  rw [applyActs_append] at ht
  have hidx : rf (applyActs s (dramStore s a bs)) Reg.PB_WRITE_IDX Fld.PB_WRITE_IDX_SEQ = rf s Reg.PB_WRITE_IDX Fld.PB_WRITE_IDX_SEQ :=
    rf_congr (dramStore_leaves s _ _ (by decide)) _
  have hstored := dram_dramStore s a bs
  have hu : (applyActs s (dramStore s a bs)).Inv := applyActs_inv s _ hs
  rw [List.take_of_length_le (by omega)] at hstored
  generalize applyActs s (dramStore s a bs) = u at ht hidx hstored hu
  have hdramT : t.dram = mapPuts zeroByte s.dram a bs := by
    simp only [← ht, ← hstored, applyActs_cons, applyActs_nil, applyAct_inc]
  refine ⟨?bytes, fun x hx => ?frame, ?index⟩
  case bytes => rw [hdramT, ← hlen, mapGets_mapPuts zeroByte bs _ hdram]
  case frame => rw [dramByte, dramByte, hdramT, mapGet_mapPuts_other zeroByte bs _ _ (by omega)]
  case index =>
    rw [← ht, ← hidx]
    exact writeIdx_inc hu

/-- The ring holds the record's bytes, no other byte of DRAM differs, and PB_WRITE_IDX has advanced. -/
theorem releaseRec_writes {s : State} (hs : s.Inv) {r : PbRec} (hrings : ∀ t, t < 8 → rf s (Reg.PBH_CTRL t) Fld.PBH_CTRL_EN = 0)
    (hcopy : rf s Reg.PB_CADDY Fld.PB_CADDY_KINDS = 0) (hrole : role s ≠ rlMEMBER) (hroom : ringAt s + 32 ≤ dramCap s) {t : State}
    (ht : applyActs s (releaseRec r s) = t) :
    mapGets zeroByte t.dram (ringAt s) 32 = recBytes r (recCompany s) (rf s Reg.PB_WRITE_IDX Fld.PB_WRITE_IDX_SEQ)
      ∧ (∀ x, x < ringAt s ∨ ringAt s + 32 ≤ x → dramByte t x = dramByte s x)
      ∧ rf t Reg.PB_WRITE_IDX Fld.PB_WRITE_IDX_SEQ = (rf s Reg.PB_WRITE_IDX Fld.PB_WRITE_IDX_SEQ + 1) % 2 ^ 24 :=
  ringWrite hs (length_recBytes r _ _) hroom ((releaseRec_ring hrings hcopy hrole).symm.trans ht)

/-! ## Windows that close (R586) -/

theorem sameRec_refl (a : PbRec) : sameRec a a = true := by simp only [sameRec, beq_self_eq_true, Bool.and_self]

/-- The only window, with nothing waiting before it, closes 5 us after its end. -/
theorem exec_pbCoalesceClose {s : State} {w : CoalWin} (hwins : s.book.wins = [w]) (hwait : s.book.waiting = []) :
    exec .pbCoalesceClose s = .next (runEffs s [fun _ => [.clockTo (w.end_ + 5000)], fun _ => [.book (fun b => { b with wins := [] })],
      fun s => if w.merged = 0 then [] else releaseRec (coalRec w) s]) := by
  have hfirst : firstWin s.book.wins = some w := by rw [hwins]; rfl
  have hfind : s.book.wins.find? (fun x => sameRec x.first w.first) = some w := by rw [hwins, List.find?_cons, sameRec_refl]
  have hnone : releaseBefore w s.book.waiting.length s = [] := by rw [hwait]; rfl
  have hempty : s.book.wins.filter (fun x => !sameRec x.first w.first) = [] := by
    rw [hwins, List.filter_cons, sameRec_refl]
    rfl
  show nextBy s (coalesceClose s) = _
  simp only [coalesceClose, hfirst]
  refine congrArg Host.Outcome.next ((applyActs_seqE s _).trans ((runEffs_skip (e := fun s => releaseBefore w s.book.waiting.length s) hnone _).trans ?_))
  simp only [runEffs_single, hfind]
  rw [applyActs_seqE, runEffs_cons, runEffs_single, closeWin, applyActs_seqE]
  exact congrArg (fun b => runEffs { applyActs s [.clockTo (w.end_ + 5000)] with book := { s.book with wins := b } }
    [fun s => if w.merged = 0 then [] else releaseRec (coalRec w) s]) hempty

/-! ## The copy in the Caddy (R589) -/

/-- The state in which the second has passed. -/
def copyStart (s : State) : State :=
  applyActs s [.clockTo (s.book.copyLast + 1000000000), .book (fun b => { b with copyLast := max (now s) (s.book.copyLast + 1000000000) })]

/-- Then no page is late. -/
def copyDue (s : State) : State :=
  applyActs (copyStart s) [.cad (fun c => { c with house := [] }), .inc Reg.PB_CADDY_SKIP Fld.PB_CADDY_SKIP_COUNT 0]

/-- What the copy does with the records that wait. -/
def copyPage : Eff := fun s =>
  if s.book.copyRing.length < 8 then [] else
  (if (copyBase + 256 * s.book.copyAt) % 4096 = 0 then queueCad 2 (copyBase + 256 * s.book.copyAt) [] .plain s else [])
  ++ queueCad 1 (copyBase + 256 * s.book.copyAt) (s.book.copyRing.drop (s.book.copyRing.length - 8)).flatten .book s
  ++ [.inc Reg.PB_CADDY_SKIP Fld.PB_CADDY_SKIP_COUNT (s.book.copyRing.length - 8),
      .book (fun b => { b with copyRing := [], copyAt := (b.copyAt + 1) % copyPages })]

theorem exec_pbCaddyCopy {s : State} (hup : spineUp s = true) (hhouse : s.cad.house = []) :
    exec .pbCaddyCopy s = nextBy (copyDue s) (copyPage (copyDue s)) := by
  have hskip : applyActs (copyStart s) (skipLate (copyStart s)) = copyDue s := by
    have hstart : (copyStart s).cad.house = [] := hhouse
    simp only [copyDue, skipLate, hstart, List.filter_nil, List.length_nil, Nat.mul_zero, applyActs_cons]
    refine congrArg (fun u => applyActs u [.inc Reg.PB_CADDY_SKIP Fld.PB_CADDY_SKIP_COUNT 0]) (applyAct_cad_congr ?_)
    rw [hstart, List.filter_nil]
  show Host.Outcome.next (applyActs s (whenE spineUp [caddyCopy] s)) = _
  rw [applyActs_whenE, if_pos hup, runEffs_single, caddyCopy, applyActs_seqE]
  show Host.Outcome.next (runEffs (copyStart s) [skipLate, copyPage]) = _
  rw [runEffs_cons, hskip, runEffs_single]

theorem copyPage_few {s : State} (h : s.book.copyRing.length < 8) : copyPage s = [] := if_pos h

/-- The 8 newest records are queued as one page, behind the erase of its sector where it is the sector's first. -/
theorem copyPage_queues {s : State} (h : 8 ≤ s.book.copyRing.length) (hhouse : s.cad.house = []) {t : State} (ht : applyActs s (copyPage s) = t) :
    t.book.copyRing = [] ∧ t.book.copyAt = (s.book.copyAt + 1) % 4096
      ∧ t.cad.house.getLast? = some ⟨true, 1, 0x100000 + 256 * s.book.copyAt, (s.book.copyRing.drop (s.book.copyRing.length - 8)).flatten, .book, now s⟩
      ∧ ((256 * s.book.copyAt) % 4096 = 0 → t.cad.house.head? = some ⟨true, 2, 0x100000 + 256 * s.book.copyAt, [], .plain, now s⟩) := by
  subst ht
  rw [copyPage, if_neg (Nat.not_lt.2 h)]
  by_cases hfirst : (copyBase + 256 * s.book.copyAt) % 4096 = 0
  · rw [if_pos hfirst]
    refine ⟨rfl, rfl, ?_, fun _ => ?_⟩
    · show ((s.cad.house ++ _) ++ _).getLast? = _
      exact List.getLast?_concat
    · show ((s.cad.house ++ _) ++ _).head? = _
      rw [hhouse]
      rfl
  · rw [if_neg hfirst]
    refine ⟨rfl, rfl, List.getLast?_concat, fun herase => absurd ?_ hfirst⟩
    unfold copyBase
    omega

/-! ## The end of a hold-off (R596) -/

section Holdoff

variable {s : State} {t : Fin 8} {v : Fin 4}

/-- The hold-off of a vector over, 10 us after its message. -/
def heldOff (s : State) (t v : Nat) : State :=
  applyActs s [.clockTo ((ten s t).msixAt.getD v 0 + 10000),
    .ten t (fun q => { q with msixHold := setBit q.msixHold v false, msixNew := setBit q.msixNew v false })]

theorem exec_msixHoldoff (hhold : bit (ten s t).msixHold v = true) :
    exec (.msixHoldoff t v) s = nextBy (heldOff s t v) (if bit (ten s t).msixNew v then [.signal t v] else []) := by
  show nextBy s (msixHoldoff t v s) = _
  refine congrArg Host.Outcome.next ?_
  rw [msixHoldoff, applyActs_seqE, runEffs_cons, if_pos hhold, runEffs_single]
  exact congrArg (applyActs _) (if_pos hhold)

theorem ten_heldOff (hs : s.Inv) : ten (heldOff s t v) t
    = { ten s t with msixHold := setBit (ten s t).msixHold v false, msixNew := setBit (ten s t).msixNew v false } :=
  ten_ten_same (applyAct_inv s (.clockTo _) hs) t _

theorem heldOff_signals (hs : s.Inv) (hbind : bindMode s t = 0) (hmask : bit (ten s t).msixMask v = false) {w : State}
    (hw : applyActs (heldOff s t v) [.signal t v] = w) : w.out.msix = s.out.msix ++ [(t.val, v.val)] ∧ bit (ten w t).msixHold v = true := by
  subst hw
  have hten := ten_heldOff (t := t) (v := v) hs
  have hsend := signalTenant_sends (s := heldOff s t v) (t := t) (v := v) hbind (by rw [hten]; exact hmask) (by rw [hten]; exact bit_setBit _ v.isLt false)
  have hwf : mapWf tenantDflt (heldOff s t v).tenants = true := (units_of_inv (applyActs_inv s _ hs)).2.2.2.2.2.2.2.2.2
  show (signalTenant (heldOff s t v) t v).out.msix = _ ∧ bit (ten (signalTenant (heldOff s t v) t v) t).msixHold v = true
  rw [hsend]
  refine ⟨rfl, ?_⟩
  rw [ten, mapGet_mapPut_same tenantDflt hwf]
  exact bit_setBit _ v.isLt true

end Holdoff

/-! ## The statement on the prompt book -/

/-- Settles O57: records by the branch of the collector that their window names, the copy by its length, a hold-off by what is new. -/
theorem promptBookIsWritten : Obligations.PromptBookIsWritten := by
  unfold Obligations.PromptBookIsWritten
  intro s hs
  refine ⟨fun r hfirst hwins => ?alone, fun r w hfirst hwins hsame hkind hopen => ?merged, fun r hrings hcopy hrole => ?ring,
    fun w _ hwins hwait => ⟨fun hnone => ?silent, fun hsome => ?coalesced⟩, fun hup hhouse => ⟨fun hfew => ?few, fun hmany => ?page⟩,
    fun t v hhold => ?holdoff⟩
  case alone =>
    refine (exec_pbRecordRelease hfirst (by rw [hwins]; rfl)).trans (congrArg (nextBy (recTaken r s)) (collectRec_alone ?_))
    exact hwins
  case merged =>
    have hexec := exec_pbRecordRelease hfirst (closeBefore_open (s := recTaken r s) hwins hopen _)
    rw [collectRec_merges (s := recTaken r s) hwins hsame hkind (Nat.le_of_lt hopen)] at hexec
    refine ⟨_, w.merge r, hexec, rfl, ?_, rfl, rfl, rfl, rfl, rfl, sameMemory_applyActs s [.clockTo _, .book _, .book _] rfl⟩
    show s.book.wins.map _ = _
    rw [hwins, List.map_singleton, if_pos hsame]
  case ring =>
    intro seq a hroom
    exact releaseRec_writes hs hrings hcopy hrole hroom rfl
  case silent =>
    refine ⟨_, (exec_pbCoalesceClose hwins hwait), ?_⟩
    rw [runEffs_cons, runEffs_cons, runEffs_single, if_pos hnone]
    exact ⟨rfl, rfl, rfl, sameMemory_applyActs s [.clockTo _, .book _] rfl⟩
  case coalesced =>
    rw [exec_pbCoalesceClose hwins hwait]
    refine congrArg Host.Outcome.next ?_
    rw [runEffs_cons, runEffs_cons, runEffs_single, if_neg (Nat.ne_of_gt hsome)]
    rfl
  case few => exact ⟨copyDue s, (exec_pbCaddyCopy hup hhouse).trans (congrArg (nextBy _) (copyPage_few hfew)), rfl, rfl, rfl, rfl⟩
  case page => exact ⟨_, now (copyDue s), exec_pbCaddyCopy hup hhouse, copyPage_queues (s := copyDue s) hmany rfl rfl⟩
  case holdoff =>
    have hten := ten_heldOff (t := t) (v := v) hs
    refine ⟨_, exec_msixHoldoff hhold, ?_⟩
    cases hnew : bit (ten s t).msixNew v with
    | false =>
      refine ⟨rfl, rfl, sameMemory_applyActs s [.clockTo _, .ten _ _] rfl, fun _ => ⟨?_, rfl⟩, fun h => absurd h Bool.false_ne_true⟩
      exact (congrArg (fun q => bit (Tenant.msixHold q) v) hten).trans (bit_setBit _ v.isLt false)
    | true =>
      refine ⟨?_, ?_, sameMemory_applyActs s [.clockTo _, .ten _ _, .signal _ _] rfl, fun h => absurd h.symm Bool.false_ne_true,
        fun _ hbind hmask => heldOff_signals hs hbind hmask rfl⟩
      · show now (signalTenant (heldOff s t v) t v) = now (heldOff s t v)
        simp only [now, signalTenant_frame]
      · show (signalTenant (heldOff s t v) t v).regs = (heldOff s t v).regs
        simp only [signalTenant_frame]

end Sys2Proof.Machine
end

section
/-! PROOFS of the statement on cue queues and completions (15_tenants.md R570 to R573, R575, R577, R588, R596): cues are taken, room in the host
ring, scheduled cues, and a completion on its three ways. -/

namespace Sys2Proof.Machine

/-! ## Cues are taken (R570 to R573) -/

theorem byWindow_own {u t : Nat} (h : u = 0 ∨ u = t) (addr : Nat) (e : Eff) (s : State) : byWindow u t addr e s = e s := if_pos h

theorem takeCues_none {s : State} {t : Nat} (h : mayTake s t = false) : takeCues t s = [] := by
  unfold takeCues
  cases ringUsed _ _ _ with
  | zero => rfl
  | succ n => rw [takeUpTo, h]; rfl

/-- Cues of a tenant's cue queue, by its indexes. -/
def cuesWaiting (s : State) (t : Nat) : Nat :=
  ringUsed (rf s (Reg.CUQ_CTRL t) Fld.CUQ_CTRL_SIZE) (rf s (Reg.CUQ_TAIL t) Fld.CUQ_TAIL_INDEX) (rf s (Reg.CUQ_HEAD t) Fld.CUQ_HEAD_INDEX)

theorem mayTake_waiting {s : State} {t : Nat} (h : mayTake s t = true) : 0 < cuesWaiting s t := by
  simp only [mayTake, Bool.and_eq_true, decide_eq_true_eq] at h
  exact h.2

theorem mayTake_empty {s : State} {t : Nat} (h : cuesWaiting s t = 0) : mayTake s t = false := by
  by_contra hmay
  have hpos := mayTake_waiting (eq_true_of_ne_false hmay)
  omega

/-- The one cue of the queue is taken. -/
theorem takeCues_one {s : State} {t : Nat} (hone : cuesWaiting s t = 1) (hmay : mayTake s t = true) :
    applyActs s (takeCues t s) = applyActs s (takeFront t s) := by
  unfold cuesWaiting at hone
  rw [takeCues, hone, takeUpTo, if_pos hmay, applyActs_seqE, runEffs_cons, runEffs_single]
  rfl

/-- One cue waits where the tail stands one slot before the head. -/
theorem ringUsed_next {n i p : Nat} (hn : 0 < n) (hi : i < 2 ^ n) (hp : p % 2 ^ n = (i + 1) % 2 ^ n) : ringUsed n p i = 1 := by
  have hslots : 1 < 2 ^ n := Nat.one_lt_two_pow (by omega)
  rw [ringUsed, hp, Nat.mod_eq_of_lt hi]
  generalize 2 ^ n = m at hi hslots
  by_cases hwrap : i + 1 = m
  · rw [hwrap, Nat.mod_self, Nat.mod_eq_of_lt (by omega)]
    omega
  · rw [Nat.mod_eq_of_lt (show i + 1 < m by omega), show i + 1 + m - i = 1 + m by omega, Nat.add_mod_right, Nat.mod_eq_of_lt hslots]

theorem takeCue_waits {t : Nat} {c : Cue} (hform : cueMalformed c = false) (hsched : cueScheduled c = false) (s : State) :
    takeCue t c s = [.ten t (fun q => { q with serial := q.serial + 1, open_ := q.open_ ++ [cueRefOf c false] }),
      .ten t (fun q => { q with ready := q.ready ++ [c] })] := by
  simp [takeCue, seqE, hform, hsched]

/-- The cue that stands at CUQ_HEAD. -/
def headCue (s : State) (t : Nat) : Cue :=
  cueOf (mapGets zeroByte s.host (addr64 s (Reg.CUQ_BASE_LO t) (Reg.CUQ_BASE_HI t) + 64 * rf s (Reg.CUQ_HEAD t) Fld.CUQ_HEAD_INDEX) 64)
    (rf s (Reg.CUQ_HEAD t) Fld.CUQ_HEAD_INDEX) (ten s t).serial

theorem rd_fld_elsewhere {s : State} {a r : Nat} (h : r ≠ a) {f : Field} {n : Nat} : rd (applyAct s (.fld a f n)) r = rd s r :=
  rd_applyAct_other _ _ _ (beq_eq_false_iff_ne.2 (Ne.symm h))

section Taking

variable {s : State} (hs : s.Inv) {t : Nat} (ht : t < 8) {x : Nat}
include hs ht

/-- A write of CUQ_TAIL is seen in its INDEX. -/
theorem cuqTail_written (hx : x < 2 ^ 12) :
    rf (applyAct s (.fld (Reg.CUQ_TAIL t) Fld.CUQ_TAIL_INDEX x)) (Reg.CUQ_TAIL t) Fld.CUQ_TAIL_INDEX = x := by
  have hwidth : Fld.CUQ_TAIL_INDEX.width = 12 := rfl
  rw [rf_fld (regsWf_of_inv hs) _ _ _ (by decide) (by rw [cuqTail_implemented ht]; decide), hwidth, Nat.mod_eq_of_lt hx]

theorem cuqHead_written {n : Nat} (hn : n ≤ 12) :
    rf (applyAct s (.fld (Reg.CUQ_HEAD t) Fld.CUQ_HEAD_INDEX (x % 2 ^ n))) (Reg.CUQ_HEAD t) Fld.CUQ_HEAD_INDEX = x % 2 ^ n := by
  have hwidth : Fld.CUQ_HEAD_INDEX.width = 12 := rfl
  have hfits : x % 2 ^ n < 2 ^ 12 := Nat.lt_of_lt_of_le (Nat.mod_lt _ (Nat.two_pow_pos n)) (Nat.pow_le_pow_right (by omega) hn)
  rw [rf_fld (regsWf_of_inv hs) _ _ _ (by decide) (by rw [cuqHead_implemented ht]; decide), hwidth, Nat.mod_eq_of_lt hfits]

/-- Taking the cue at CUQ_HEAD: it waits, is owed a completion, and CUQ_HEAD advances. -/
theorem takeFront_takes (hn : rf s (Reg.CUQ_CTRL t) Fld.CUQ_CTRL_SIZE ≤ 12)
    (hi : rf s (Reg.CUQ_HEAD t) Fld.CUQ_HEAD_INDEX < 2 ^ rf s (Reg.CUQ_CTRL t) Fld.CUQ_CTRL_SIZE)
    (hform : cueMalformed (headCue s t) = false) (hsched : cueScheduled (headCue s t) = false) {w : State}
    (hw : applyActs s (takeFront t s) = w) :
    (ten w t).ready = (ten s t).ready ++ [headCue s t] ∧ (ten w t).serial = (ten s t).serial + 1
      ∧ (ten w t).open_ = (ten s t).open_ ++ [cueRefOf (headCue s t) false]
      ∧ rf w (Reg.CUQ_HEAD t) Fld.CUQ_HEAD_INDEX
          = (rf s (Reg.CUQ_HEAD t) Fld.CUQ_HEAD_INDEX + 1) % 2 ^ rf s (Reg.CUQ_CTRL t) Fld.CUQ_CTRL_SIZE
      ∧ sameMemory s w ∧ ∀ r, r ≠ Reg.CUQ_HEAD t → rd w r = rd s r := by
  have hacts : takeFront t s = .fld (Reg.CUQ_HEAD t) Fld.CUQ_HEAD_INDEX
      ((rf s (Reg.CUQ_HEAD t) Fld.CUQ_HEAD_INDEX + 1) % 2 ^ rf s (Reg.CUQ_CTRL t) Fld.CUQ_CTRL_SIZE) :: takeCue t (headCue s t) s := by
    rw [takeFront, Nat.mod_eq_of_lt hi]
    rfl
  rw [hacts, takeCue_waits hform hsched] at hw
  have hten : ten w t = { ten s t with serial := (ten s t).serial + 1, open_ := (ten s t).open_ ++ [cueRefOf (headCue s t) false],
                                       ready := (ten s t).ready ++ [headCue s t] } := by
    rw [← hw, applyActs_cons, applyActs_cons, applyActs_cons, applyActs_nil, ten_ten_same (applyAct_inv _ _ (applyAct_inv _ _ hs)),
      ten_ten_same (applyAct_inv _ _ hs)]
    rfl
  refine ⟨by rw [hten], by rw [hten], by rw [hten], ?_, ?_, fun r hr => ?_⟩
  · rw [← hw]
    exact (rf_congr rfl _).trans (cuqHead_written hs ht hn)
  · rw [← hw]
    exact sameMemory_applyActs s [.fld _ _ _, .ten _ _, .ten _ _] rfl
  · rw [← hw]
    exact rd_applyAct_other s (.fld _ _ _) r (beq_eq_false_iff_ne.2 (Ne.symm hr))

omit hs ht in
/-- A write of CUQ_TAIL leaves the rest that taking a cue rests on. -/
theorem cuqTail_leaves {u : State} (hu : applyAct s (.fld (Reg.CUQ_TAIL t) Fld.CUQ_TAIL_INDEX x) = u) :
    (∀ r, r ≠ Reg.CUQ_TAIL t → rd u r = rd s r) ∧ headCue u t = headCue s t ∧ ten u t = ten s t := by
  have hrd : ∀ r, r ≠ Reg.CUQ_TAIL t → rd u r = rd s r := fun r hr => by rw [← hu, rd_fld_elsewhere hr]
  have hlo : Reg.CUQ_BASE_LO t ≠ Reg.CUQ_TAIL t := by simp only [Reg.CUQ_BASE_LO, Reg.CUQ_TAIL]; omega
  have hhi : Reg.CUQ_BASE_HI t ≠ Reg.CUQ_TAIL t := by simp only [Reg.CUQ_BASE_HI, Reg.CUQ_TAIL]; omega
  have hhead : Reg.CUQ_HEAD t ≠ Reg.CUQ_TAIL t := by simp only [Reg.CUQ_HEAD, Reg.CUQ_TAIL]; omega
  have hhost : u.host = s.host := by rw [← hu]; simp only [applyAct_fld]
  have hten : ten u t = ten s t := by rw [← hu]; simp only [ten, applyAct_fld]
  refine ⟨hrd, ?_, hten⟩
  rw [headCue, addr64, hrd _ hlo, hrd _ hhi, rf_congr (hrd _ hhead), hhost, hten, headCue, addr64]

/-- CUQ_TAIL one slot past CUQ_HEAD: the cue there is taken. -/
theorem cuqTail_takes {v : Word} {n i : Nat} (hsize : n = rf s (Reg.CUQ_CTRL t) Fld.CUQ_CTRL_SIZE) (hidx : i = rf s (Reg.CUQ_HEAD t) Fld.CUQ_HEAD_INDEX)
    (hn : n ≤ 12) (hi : i < 2 ^ n) {u : State} (hu : applyAct s (.fld (Reg.CUQ_TAIL t) Fld.CUQ_TAIL_INDEX (getF v Fld.CUQ_TAIL_INDEX)) = u)
    (hmay : mayTake u t = true) (htail : getF v Fld.CUQ_TAIL_INDEX % 2 ^ n = (i + 1) % 2 ^ n)
    (hform : cueMalformed (headCue s t) = false) (hsched : cueScheduled (headCue s t) = false) {w : State} (hw : runEffs u [takeCues t] = w) :
    (ten w t).ready = (ten s t).ready ++ [headCue s t] ∧ (ten w t).serial = (ten s t).serial + 1
      ∧ (ten w t).open_ = (ten s t).open_ ++ [cueRefOf (headCue s t) false] ∧ rf w (Reg.CUQ_HEAD t) Fld.CUQ_HEAD_INDEX = (i + 1) % 2 ^ n
      ∧ sameMemory s w ∧ ∀ r, r ≠ Reg.CUQ_TAIL t → r ≠ Reg.CUQ_HEAD t → rd w r = rd s r := by
  obtain ⟨hrd, hcue, hten⟩ := cuqTail_leaves hu
  have hctrl : rf u (Reg.CUQ_CTRL t) Fld.CUQ_CTRL_SIZE = n :=
    hsize ▸ rf_congr (hrd _ (by simp only [Reg.CUQ_CTRL, Reg.CUQ_TAIL]; omega)) _
  have hhead : rf u (Reg.CUQ_HEAD t) Fld.CUQ_HEAD_INDEX = i :=
    hidx ▸ rf_congr (hrd _ (by simp only [Reg.CUQ_HEAD, Reg.CUQ_TAIL]; omega)) _
  have hwritten : rf u (Reg.CUQ_TAIL t) Fld.CUQ_TAIL_INDEX = getF v Fld.CUQ_TAIL_INDEX := hu ▸ cuqTail_written hs ht (getF_lt v _)
  have hpos : 0 < n := by
    by_contra hzero
    have hwait := mayTake_waiting hmay
    rw [cuesWaiting, ringUsed, hctrl, Nat.eq_zero_of_not_pos hzero, Nat.pow_zero, Nat.mod_one] at hwait
    exact absurd hwait (Nat.lt_irrefl 0)
  have hone : cuesWaiting u t = 1 := by
    rw [cuesWaiting, hctrl, hwritten, hhead]
    exact ringUsed_next hpos hi htail
  have htaken := takeFront_takes (hu ▸ applyAct_inv s _ hs) ht (hctrl ▸ hn) (by rw [hctrl, hhead]; exact hi) (hcue ▸ hform) (hcue ▸ hsched)
    ((takeCues_one hone hmay).symm.trans hw)
  rw [hctrl, hhead, hcue, hten] at htaken
  obtain ⟨hready, hserial, hopen, hindex, hmem, hregs⟩ := htaken
  refine ⟨hready, hserial, hopen, hindex, ?_, fun r htail hhead => (hregs r hhead).trans (hrd r htail)⟩
  exact sameMemory_trans (hu ▸ sameMemory_applyAct s (.fld _ _ _) rfl) hmem

end Taking

/-- A write of a register of a tenant's window by its tenant or T0 has its effect. -/
theorem windowWrite {s : State} {a : Acc} {r t : Nat} (hr : reaches s a r true) (ha : actsFor a = 0 ∨ actsFor a = t) {es : List Eff} :
    nextBy s (gate a r true false (fun u => byWindow u t r (seqE es)) s) = .next (runEffs s es) := by
  rw [gate_reaches hr, byWindow_own ha]
  exact congrArg Host.Outcome.next (applyActs_seqE s es)

theorem exec_cuqTailWrite {s : State} {a : Acc} {t : Fin 8} {v : Word} (hr : reaches s a (Reg.CUQ_TAIL t) true)
    (ha : actsFor a = 0 ∨ actsFor a = t.val) : exec (.cuqTailWrite a t v) s
      = .next (runEffs (applyAct s (.fld (Reg.CUQ_TAIL t) Fld.CUQ_TAIL_INDEX (getF v Fld.CUQ_TAIL_INDEX))) [takeCues t]) :=
  windowWrite hr ha

theorem exec_cpqHeadWrite {s : State} {a : Acc} {t : Fin 8} {v : Word} (hr : reaches s a (Reg.CPQ_HEAD t) true)
    (ha : actsFor a = 0 ∨ actsFor a = t.val) : exec (.cpqHeadWrite a t v) s
      = .next (runEffs (applyAct s (.fld (Reg.CPQ_HEAD t) Fld.CPQ_HEAD_INDEX (getF v Fld.CPQ_HEAD_INDEX))) [flushHeld t, takeCues t]) :=
  windowWrite hr ha

theorem exec_pbhHeadWrite {s : State} {a : Acc} {t : Fin 8} {v : Word} (hr : reaches s a (Reg.PBH_HEAD t) true)
    (ha : actsFor a = 0 ∨ actsFor a = t.val) : exec (.pbhHeadWrite a t v) s
      = .next (runEffs (applyAct s (.fld (Reg.PBH_HEAD t) Fld.PBH_HEAD_INDEX (getF v Fld.PBH_HEAD_INDEX))) [flushLost t]) :=
  windowWrite hr ha

/-! ## Room in the host ring (R588) -/

theorem flushLost_none {s : State} {t : Nat} (h : (ten s t).lostCount = 0) : flushLost t s = [] := if_pos (.inl h)

/-- May an update change a byte of DRAM? -/
def Act.mayDram (x : Act) : Bool :=
  match x with
  | .dram .. => true
  | .dramDrop .. => true
  | _ => false

theorem dram_applyActs {xs : List Act} (h : ∀ x ∈ xs, x.mayDram = false) (s : State) : (applyActs s xs).dram = s.dram := by
  induction xs generalizing s with
  | nil => rfl
  | cons x xs ih =>
    obtain ⟨hx, hxs⟩ := List.forall_mem_cons.1 h
    rw [applyActs_cons, ih hxs]
    cases x with
    | dram a bs => cases hx
    | dramDrop a n => cases hx
    | _ => simp

/-- An event sets the bit of its status register. -/
theorem bit_evt {s : State} (hs : s.Inv) {blk t b : Nat} (hb : b < 32) (himpl : bit (regImpl (evtStatus blk t)) b = true) :
    bit (rd (applyAct s (.evt blk t b)) (evtStatus blk t)) b = true := by
  obtain ⟨hregs, -⟩ := regs_of_inv hs
  have hset : rd (applyAct s (.evt blk t b)) (evtStatus blk t)
      = (rd s (evtStatus blk t) ||| BitVec.ofNat 32 (2 ^ b)) &&& regImpl (evtStatus blk t) := by
    show mapGet regReset (raiseEvt s blk t b).regs _ = _
    rw [raiseEvt_regs, rd_putReg_same hregs]
  have hbit : bit (setBit (rd s (evtStatus blk t)) b true) b = true := bit_setBit _ hb true
  rw [hset, bit, BitVec.getLsbD_and, Bool.and_eq_true]
  exact ⟨hbit, himpl⟩

/-- A tenant whose lost records have been told. -/
def Tenant.lostTold (q : Tenant) : Tenant := { q with lostCount := 0, lostFirst := 0, lostLast := 0 }

section HostRing

variable {s : State} (hs : s.Inv) {t : Nat} (ht : t < 8)
include hs ht

/-- One event of block 15 for one tenant: its bit, and nothing of the tenant but its messages. -/
theorem eventNow_tenant {b : Nat} (hb : b < 4) {unit : Nat} {a : BitVec 64} {w : State} (hw : applyActs s (eventNow s 15 b [t] unit a) = w) :
    (ten w t).sansMsix = (ten s t).sansMsix ∧ bit (rd w (Reg.TEN_EVT_STATUS t)) b = true ∧ w.dram = s.dram := by
  obtain ⟨r, hacts⟩ : ∃ r, eventNow s 15 b [t] unit a = [.evt 15 t b, .log r] := ⟨_, rfl⟩
  rw [hacts] at hw
  refine ⟨?_, ?_, ?_⟩
  · rw [← hw]
    exact sansMsix_applyActs hs (List.forall_mem_cons.2 ⟨rfl, List.forall_mem_singleton.2 rfl⟩)
  · have himpl : bit (regImpl (evtStatus 15 t)) b = true := by
      show bit (regImpl (Reg.TEN_EVT_STATUS t)) b = true
      rw [tenEvtStatus_implemented ht]
      interval_cases b <;> decide
    have hlost : Reg.TEN_EVT_STATUS t ≠ Reg.PB_UNIT_LOST := by
      simp only [Reg.TEN_EVT_STATUS, Reg.PB_UNIT_LOST]
      omega
    have hkept := rd_applyAct_other (applyAct s (.evt 15 t b)) (.log r) (Reg.TEN_EVT_STATUS t) (beq_eq_false_iff_ne.2 hlost)
    rw [← hw, applyActs_cons, applyActs_cons, applyActs_nil, hkept]
    exact bit_evt (blk := 15) hs (by omega) himpl
  · rw [← hw]
    exact dram_applyActs (xs := [.evt 15 t b, .log r]) (List.forall_mem_cons.2 ⟨rfl, List.forall_mem_singleton.2 rfl⟩) s

/-- With room, the LOST record enters the ring, its count is 0, and PB_LOST is raised. -/
theorem flushLost_flushes (hlost : 0 < (ten s t).lostCount) (hroom : 0 < pbhFree s t) {w : State} (hw : applyActs s (flushLost t s) = w) :
    (ten w t).lostCount = 0 ∧ bit (rd w (Reg.TEN_EVT_STATUS t)) 1 = true ∧ ∀ x, dramByte w x = dramByte s x := by
  have hgo : ¬ ((ten s t).lostCount = 0 ∨ pbhFree s t = 0) := by omega
  rw [flushLost, if_neg hgo, applyActs_seqE, runEffs_cons, runEffs_single, applyActs_append] at hw
  generalize hu : applyActs s (writeHostRec t _ s) = u at hw
  have hinv : u.Inv := hu ▸ applyActs_inv s _ hs
  have hdram : u.dram = s.dram := by
    rw [← hu]
    exact dram_applyActs (List.forall_mem_cons.2 ⟨rfl, List.forall_mem_cons.2 ⟨rfl, List.forall_mem_singleton.2 rfl⟩⟩) s
  generalize hx : applyActs u [.ten t _, .draw] = x at hw
  have hcount : (ten x t).lostCount = 0 := by
    have hten : ten x t = ten (applyAct u (.ten t Tenant.lostTold)) t := by
      rw [← hx]
      rfl
    rw [hten, ten_ten_same hinv, Tenant.lostTold]
  have hxinv : x.Inv := hx ▸ applyActs_inv u _ hinv
  have hevent : eventNow u 15 1 [t] (0xB50 + t) 0 = eventNow x 15 1 [t] (0xB50 + t) 0 := by
    rw [← hx]
    rfl
  rw [hevent] at hw
  obtain ⟨hsame, hbit, hdw⟩ := eventNow_tenant hxinv ht (by decide) hw
  refine ⟨(congrArg Tenant.lostCount hsame).trans hcount, hbit, fun k => ?_⟩
  · have hdx : x.dram = u.dram := by
      rw [← hx]
      rfl
    rw [dramByte, dramByte, hdw, hdx, hdram]

end HostRing

/-! ## Scheduled cues (R575) -/

/-- The state in which the one due cue has left the scheduled store at its instant. -/
def cueReleased (s : State) (q : SchedCue) : State :=
  runEffs (applyActs s [.clockTo (releaseAt s q)]) [fun _ => [.book (fun b => { b with sched := b.sched.erase q })], schedCount q.tenant]

theorem exec_scheduledCueRelease {s : State} {q : SchedCue} (hrun : s.cur.running = true) (hpower : s.sys.supplyLoss = false)
    (hdue : dueCues s = [q]) (hthere : s.book.sched.contains q = true) :
    exec .scheduledCueRelease s = nextBy (cueReleased s q) (startCue q.tenant q.cue false (cueReleased s q)) := by
  show nextBy s (releaseCues s) = _
  have hgo : ¬ ((!s.cur.running) = true ∨ s.sys.supplyLoss = true) := by simp [hrun, hpower]
  simp only [releaseCues, if_neg hgo, hdue]
  refine congrArg Host.Outcome.next ((applyActs_seqE s _).trans ?_)
  rw [List.map_singleton, List.singleton_append, runEffs_cons, runEffs_single, applyActs_whenE]
  exact if_pos hthere

theorem cueReleased_leaves (s : State) (q : SchedCue) : now (cueReleased s q) = max (now s) (releaseAt s q)
    ∧ (cueReleased s q).book.sched = s.book.sched.erase q ∧ sameMemory s (cueReleased s q) :=
  ⟨rfl, rfl, sameMemory_applyActs s [.clockTo _, .book _, .fld _ _ _] rfl⟩

/-! ## A completion (R570, R572, R577, R596) -/

theorem length_completionBytes (c : Completion) (ph : Nat) : (completionBytes c ph).length = 16 := by
  simp only [completionBytes, List.length_append, length_leBytes, List.length_cons, List.length_nil]

/-- What is forgotten of a cue that completes. -/
def Tenant.settled (r : CueRef) (q : Tenant) : Tenant :=
  { q with open_ := q.open_.filter (fun p => p.serial != r.serial), fences := q.fences.filter (fun p => p.serial != r.serial) }

/-- A cue that is OK and not QUIET delivers a completion. -/
theorem settle_delivers {s : State} {t : Nat} {r : CueRef} (hopen : cueOpen s t r = true) (hloud : r.quiet = false) (res : Nat) :
    settle t r stOK res s = .ten t (Tenant.settled r) :: deliver t ⟨r.tag, stOK, res, r.index, r.opcode, r.late⟩ s := by
  simp [settle, hopen, hloud, seqE]
  rfl

theorem settle_quiet {s : State} {t : Nat} {r : CueRef} (hopen : cueOpen s t r = true) (hquiet : r.quiet = true) (res : Nat) :
    settle t r stOK res s = [.ten t (Tenant.settled r)] := by
  simp [settle, hopen, hquiet]
  rfl

/-- With no fence and no further cue, completing a cue is settling it. -/
theorem complete_settles {s : State} {t : Nat} {r : CueRef} {st res : Nat} {u : State} (hu : applyActs s (settle t r st res s) = u)
    (hfences : (ten u t).fences = []) (hempty : cuesWaiting u t = 0) : applyActs s (complete t r st res s) = u := by
  have hsettled : settleFences t (ten u t).fences.length u = [] := by rw [hfences]; rfl
  rw [complete, applyActs_seqE, runEffs_cons, hu,
    runEffs_skip (e := fun s => settleFences t (ten s t).fences.length s) hsettled, runEffs_single, takeCues_none (mayTake_empty hempty), applyActs_nil]

/-- A completion that waits for a slot. -/
def Tenant.withHeld (c : Completion) (q : Tenant) : Tenant := { q with held := q.held ++ [c] }

section Completing

variable {s : State} (hs : s.Inv) {t : Nat} {c : Completion}

/-- A tenant bound to PCIe gets a completion behind those that are held. -/
theorem deliver_queues (hbind : bindMode s t = 0) :
    deliver t c s = .ten t (Tenant.withHeld c) :: flushHeld t (applyAct s (.ten t (Tenant.withHeld c))) := by
  rw [deliver, if_pos hbind]
  simp only [seqE, List.append_nil, List.singleton_append]
  rfl

/-- A tenant bound to MGMT gets a completion in a frame. -/
theorem deliver_sends (hbind : bindMode s t = 1) :
    deliver t c s = [.out (fun o => { o with frames := o.frames ++ [mgmtFrame t 3 0 (completionBytes c 0)] })] := by
  rw [deliver, if_neg (by omega), if_pos hbind]

theorem flushHeld_full (hfull : cpqFree s t = 0) : flushHeld t s = [.ten t (fun q => { q with held := q.held.drop 0 })] := by
  simp only [flushHeld, hfull, Nat.zero_min, List.take_zero, List.map_nil, seqE, List.nil_append]

theorem flushHeld_one (hheld : (ten s t).held = [c]) (hroom : 0 < cpqFree s t) :
    flushHeld t s = writeCompletion t c s ++ [.ten t (fun q => { q with held := q.held.drop 1 })] := by
  have hone : min (cpqFree s t) (ten s t).held.length = 1 := by rw [hheld, List.length_singleton]; omega
  simp only [flushHeld, hone]
  rw [hheld]
  simp only [List.take_one, List.head?_cons, Option.toList_some, List.map_singleton, seqE, List.append_nil]

include hs

/-- A completion in its slot: its 16 bytes and no others, CPQ_TAIL, and a message of vector 0. -/
theorem writeCompletion_writes (ht : t < 8) (hbind : bindMode s t = 0) (hn : rf s (Reg.CPQ_CTRL t) Fld.CPQ_CTRL_SIZE ≤ 12) {i : Nat}
    (hi : i = rf s (Reg.CPQ_TAIL t) Fld.CPQ_TAIL_INDEX % 2 ^ rf s (Reg.CPQ_CTRL t) Fld.CPQ_CTRL_SIZE) {base ph : Nat}
    (hbase : base = addr64 s (Reg.CPQ_BASE_LO t) (Reg.CPQ_BASE_HI t)) (hph : ph = rf s (Reg.CPQ_TAIL t) Fld.CPQ_TAIL_PHASE) {v : State}
    (hv : applyActs s (writeCompletion t c s) = v) :
    mapGets zeroByte v.host (base + 16 * i) 16 = completionBytes c ph
      ∧ (∀ x, x < base + 16 * i ∨ base + 16 * i + 16 ≤ x → hostByte v x = hostByte s x) ∧ v.dram = s.dram
      ∧ rf v (Reg.CPQ_TAIL t) Fld.CPQ_TAIL_INDEX = (i + 1) % 2 ^ rf s (Reg.CPQ_CTRL t) Fld.CPQ_CTRL_SIZE
      ∧ rf v (Reg.CPQ_TAIL t) Fld.CPQ_TAIL_PHASE = (if i + 1 = 2 ^ rf s (Reg.CPQ_CTRL t) Fld.CPQ_CTRL_SIZE then 1 - ph else ph)
      ∧ (bit (ten s t).msixMask 0 = false → bit (ten s t).msixHold 0 = false → v.out.msix = s.out.msix ++ [(t, 0)])
      ∧ (ten v t).sansMsix = (ten s t).sansMsix ∧ (∀ r, r ≠ Reg.CPQ_TAIL t → rd v r = rd s r) := by
  generalize hm : rf s (Reg.CPQ_CTRL t) Fld.CPQ_CTRL_SIZE = n at *
  have hacts : writeCompletion t c s = [.host (base + 16 * i) (completionBytes c ph),
      .fld (Reg.CPQ_TAIL t) Fld.CPQ_TAIL_INDEX ((i + 1) % 2 ^ n),
      .fld (Reg.CPQ_TAIL t) Fld.CPQ_TAIL_PHASE (if i + 1 = 2 ^ n then 1 - ph else ph), .signal t 0] := by
    rw [writeCompletion, hbase, hi, hph, hm]
  obtain ⟨-, -, hhost, -⟩ := mem_of_inv hs
  have hlen := length_completionBytes c ph
  have himpl : ∀ f : Field, (0x80000FFF : Word) &&& f.mask = f.mask → regImpl (Reg.CPQ_TAIL t) &&& f.mask = f.mask := fun f hf => by
    rw [cpqTail_implemented ht, hf]
  have hpow : 2 ^ n ≤ 2 ^ 12 := Nat.pow_le_pow_right (by omega) hn
  have hnext : (i + 1) % 2 ^ n < 2 ^ 12 := Nat.lt_of_lt_of_le (Nat.mod_lt _ (Nat.two_pow_pos n)) hpow
  have hphase : (if i + 1 = 2 ^ n then 1 - ph else ph) < 2 ^ 1 := by
    have := getF_lt (rd s (Reg.CPQ_TAIL t)) Fld.CPQ_TAIL_PHASE
    have : ph < 2 ^ 1 := hph ▸ this
    split <;> omega
  rw [hacts, applyActs_cons, applyActs_cons, applyActs_cons, applyActs_cons, applyActs_nil] at hv
  generalize h1 : applyAct s (.host (base + 16 * i) (completionBytes c ph)) = u1 at hv
  generalize h2 : applyAct u1 (.fld (Reg.CPQ_TAIL t) Fld.CPQ_TAIL_INDEX _) = u2 at hv
  generalize h3 : applyAct u2 (.fld (Reg.CPQ_TAIL t) Fld.CPQ_TAIL_PHASE _) = u3 at hv
  have i1 : u1.Inv := h1 ▸ applyAct_inv s _ hs
  have i2 : u2.Inv := h2 ▸ applyAct_inv u1 _ i1
  have i3 : u3.Inv := h3 ▸ applyAct_inv u2 _ i2
  have hten : ten u3 t = ten s t := by
    rw [← h3, ← h2, ← h1]
    simp only [ten, applyAct_fld, applyAct_host]
  have hrd : rd v = rd u3 := funext fun r => by rw [← hv]; exact rd_applyAct_other u3 (.signal t 0) r rfl
  have hvhost : v.host = mapPuts zeroByte s.host (base + 16 * i) (completionBytes c ph) := by
    rw [← hv, ← h3, ← h2, ← h1]
    simp only [applyAct_signal, signalTenant_frame, applyAct_fld, applyAct_host]
  have hother : ∀ r, r ≠ Reg.CPQ_TAIL t → rd v r = rd s r := fun r hr => by
    have hbytes := rd_applyAct_other s (.host (base + 16 * i) (completionBytes c ph)) r rfl
    rw [hrd, ← h3, rd_fld_elsewhere hr, ← h2, rd_fld_elsewhere hr, ← h1, hbytes]
  refine ⟨?bytes, fun x hx => ?frame, ?dram, ?index, ?phase, fun hmask hhold => ?message, ?tenant, hother⟩
  case bytes => rw [hvhost, ← hlen, mapGets_mapPuts zeroByte _ _ hhost]
  case frame => rw [hostByte, hostByte, hvhost, mapGet_mapPuts_other zeroByte _ _ _ (by omega)]
  case dram =>
    rw [← hv, ← h3, ← h2, ← h1]
    simp only [applyAct_signal, signalTenant_frame, applyAct_fld, applyAct_host]
  case index =>
    rw [rf, hrd, ← rf, ← h3, rf_fld_other (regsWf_of_inv i2) _ _ _ _ (by decide) (himpl _ (by decide)) (by decide), ← h2,
      rf_fld (regsWf_of_inv i1) _ _ _ (by decide) (himpl _ (by decide))]
    exact Nat.mod_eq_of_lt hnext
  case phase =>
    rw [rf, hrd, ← rf, ← h3, rf_fld (regsWf_of_inv i2) _ _ _ (by decide) (himpl _ (by decide))]
    exact Nat.mod_eq_of_lt hphase
  case message =>
    have hbind3 : bindMode u3 t = 0 := (bindMode_congr ((congrFun hrd _).symm.trans (hother _ ?_))).trans hbind
    · rw [← hv, applyAct_signal, signalTenant_sends hbind3 (by rw [hten, hmask]) (by rw [hten, hhold]), ← h3, ← h2, ← h1]
      simp only [applyAct_fld, applyAct_host]
    · simp only [Reg.TEN_BIND_CTRL, Reg.CPQ_TAIL]
      omega
  case tenant => rw [← hv, ← hten]; exact sansMsix_signalTenant i3 t 0 t

end Completing

/-! ## The front cue of a queue starts (R571, R574) -/

/-- The state in which the front cue has left the queue of tenant `t`. -/
def cueTaken (s : State) (t : Nat) : State := applyAct s (.ten t (fun q => { q with ready := q.ready.drop 1 }))

section Starting

variable {s : State} {t : Nat} {c : Cue} {rest : List Cue} (hready : (ten s t).ready = c :: rest)

theorem ten_cueTaken (hs : s.Inv) : ten (cueTaken s t) t = { ten s t with ready := (ten s t).ready.drop 1 } := ten_ten_same hs t _

include hready

/-- The front cue of the opcode asked for leaves the queue and starts. -/
theorem startFront_starts (hup : spineUp s = true) (hhold : mode s ≠ mHOLD) {op : Nat} (hop : c.opcode = op) :
    nextBy s (startFront t op s) = nextBy (cueTaken s t) (startCue t c (cueScheduled c) (cueTaken s t)) := by
  have hgo : ¬ (c.opcode ≠ op ∨ (!spineUp s) = true ∨ mode s = mHOLD) := by simp [hop, hup, hhold]
  simp only [startFront, hready, if_neg hgo]
  exact congrArg Host.Outcome.next (applyActs_seqE s _)

end Starting

/-- A cue that does not compare EPOCH, or whose thing has its EPOCH, has its opcode's effect. -/
theorem startCue_fresh {s : State} {t : Nat} {c : Cue} {late : Bool}
    (hfresh : cueChecks c = false ∨ (thingOk c.kind c.object = true ∧ epochOf s c.kind c.object = c.epoch)) :
    startCue t c late s = cueAction t c (cueRefOf c late) (complete t (cueRefOf c late)) s := by
  rcases hfresh with hunchecked | ⟨hthing, hepoch⟩
  · simp [startCue, hunchecked]
  · simp [startCue, hthing, hepoch]

/-- A cue whose thing has another epoch completes STALE_ROLE. -/
theorem startCue_stale {s : State} {t : Nat} {c : Cue} {late : Bool} (hchecks : cueChecks c = true) (hthing : thingOk c.kind c.object = true)
    (hepoch : epochOf s c.kind c.object ≠ c.epoch) : startCue t c late s = complete t (cueRefOf c late) stSTALE_ROLE 0 s := by
  simp [startCue, hchecks, hthing, hepoch]

/-! ## The completion of a NOP -/

theorem exec_cueNop {s : State} {t : Fin 8} {c : Cue} {rest : List Cue} (hready : (ten s t).ready = c :: rest) (hup : spineUp s = true)
    (hhold : mode s ≠ mHOLD) (hop : c.opcode = 0)
    (hfresh : cueChecks c = false ∨ (thingOk c.kind c.object = true ∧ epochOf (cueTaken s t) c.kind c.object = c.epoch)) :
    exec (.cueNop t) s = nextBy (cueTaken s t) (complete t (cueRefOf c (cueScheduled c)) stOK 0 (cueTaken s t)) := by
  refine (startFront_starts hready hup hhold hop).trans (congrArg (nextBy _) ?_)
  rw [startCue_fresh hfresh]
  simp only [cueAction, hop]

theorem cuesWaiting_congr {s u : State} {t : Nat} (h : ∀ r, r ≠ Reg.CPQ_TAIL t → rd u r = rd s r) : cuesWaiting u t = cuesWaiting s t := by
  have hctrl : Reg.CUQ_CTRL t ≠ Reg.CPQ_TAIL t := by simp only [Reg.CUQ_CTRL, Reg.CPQ_TAIL]; omega
  have htail : Reg.CUQ_TAIL t ≠ Reg.CPQ_TAIL t := by simp only [Reg.CUQ_TAIL, Reg.CPQ_TAIL]; omega
  have hhead : Reg.CUQ_HEAD t ≠ Reg.CPQ_TAIL t := by simp only [Reg.CUQ_HEAD, Reg.CPQ_TAIL]; omega
  rw [cuesWaiting, rf_congr (h _ hctrl), rf_congr (h _ htail), rf_congr (h _ hhead), cuesWaiting]

/-- A tenant whose first held completion has been written. -/
def Tenant.shifted (q : Tenant) : Tenant := { q with held := q.held.drop 1 }

/-- The state in which a cue is settled and its completion waits for its slot. -/
def awaiting (s : State) (t : Nat) (r : CueRef) (c : Completion) : State :=
  applyAct (applyAct s (.ten t (Tenant.settled r))) (.ten t (Tenant.withHeld c))

theorem ten_awaiting {s : State} (hs : s.Inv) {t : Nat} {r : CueRef} {c : Completion} :
    (awaiting s t r c).Inv ∧ ten (awaiting s t r c) t = Tenant.withHeld c (Tenant.settled r (ten s t)) := by
  have h := applyAct_inv s (.ten t (Tenant.settled r)) hs
  exact ⟨applyAct_inv _ _ h, by rw [awaiting, ten_ten_same h, ten_ten_same hs]⟩

section Settling

variable {s : State} (hs : s.Inv) {t : Nat} {r : CueRef} (hopen : cueOpen s t r = true) (hfences : (ten s t).fences = [])
  (hempty : cuesWaiting s t = 0)
include hs hopen hfences hempty

/-- A QUIET cue that is OK has no completion. -/
theorem complete_quiet (hquiet : r.quiet = true) {v : State} (hv : applyActs s (complete t r stOK 0 s) = v) :
    v.regs = s.regs ∧ (ten v t).held = (ten s t).held ∧ v.out = s.out ∧ sameMemory s v := by
  have hten : ten (applyAct s (.ten t (Tenant.settled r))) t = Tenant.settled r (ten s t) := ten_ten_same hs t _
  have hfences' : (ten (applyAct s (.ten t (Tenant.settled r))) t).fences = [] := by
    rw [hten, Tenant.settled, hfences, List.filter_nil]
  rw [complete_settles (congrArg (applyActs s) (settle_quiet hopen hquiet 0)) hfences' hempty] at hv
  subst hv
  exact ⟨rfl, (congrArg Tenant.held hten).trans rfl, rfl, sameMemory_applyActs s [.ten _ _] rfl⟩

/-- The completion of a cue of a tenant bound to MGMT leaves in a frame. -/
theorem complete_mgmt (hloud : r.quiet = false) (hbind : bindMode s t = 1) {v : State} (hv : applyActs s (complete t r stOK 0 s) = v) :
    v.out.frames = s.out.frames ++ [mgmtFrame t 3 0 (completionBytes ⟨r.tag, stOK, 0, r.index, r.opcode, r.late⟩ 0)] ∧ v.regs = s.regs
      ∧ sameMemory s v := by
  have hten : ten (applyAct s (.ten t (Tenant.settled r))) t = Tenant.settled r (ten s t) := ten_ten_same hs t _
  have hacts := settle_delivers hopen hloud 0
  rw [deliver_sends hbind] at hacts
  have hfences' : (ten (applyActs s [.ten t (Tenant.settled r), .out (fun o => { o with frames := o.frames ++
      [mgmtFrame t 3 0 (completionBytes ⟨r.tag, stOK, 0, r.index, r.opcode, r.late⟩ 0)] })]) t).fences = [] :=
    (congrArg Tenant.fences hten).trans (by rw [Tenant.settled, hfences, List.filter_nil])
  rw [complete_settles (congrArg (applyActs s) hacts) hfences' hempty] at hv
  subst hv
  exact ⟨rfl, rfl, sameMemory_applyActs s [.ten _ _, .out _] rfl⟩

/-- A completion that finds no slot is held. -/
theorem complete_holds (hloud : r.quiet = false) (hbind : bindMode s t = 0) (hfull : cpqFree s t = 0) {v : State}
    (hv : applyActs s (complete t r stOK 0 s) = v) :
    (ten v t).held = (ten s t).held ++ [⟨r.tag, stOK, 0, r.index, r.opcode, r.late⟩] ∧ sameMemory s v ∧ v.regs = s.regs := by
  generalize hc : (⟨r.tag, stOK, 0, r.index, r.opcode, r.late⟩ : Completion) = c
  have hacts := settle_delivers hopen hloud 0
  have hfull' : cpqFree (applyAct s (.ten t (Tenant.withHeld c))) t = 0 := hfull
  rw [deliver_queues hbind, hc, flushHeld_full hfull'] at hacts
  have h1 := applyAct_inv s (.ten t (Tenant.settled r)) hs
  have h2 := applyAct_inv _ (.ten t (Tenant.withHeld c)) h1
  have hten : ten (applyActs s (settle t r stOK 0 s)) t = Tenant.withHeld c (Tenant.settled r (ten s t)) := by
    rw [hacts, applyActs_cons, applyActs_cons, applyActs_cons, applyActs_nil, ten_ten_same h2, ten_ten_same h1, ten_ten_same hs, List.drop_zero]
  have hfences' : (ten (applyActs s (settle t r stOK 0 s)) t).fences = [] := by
    rw [hten, Tenant.withHeld, Tenant.settled, hfences, List.filter_nil]
  have hwaiting : cuesWaiting (applyActs s (settle t r stOK 0 s)) t = 0 := by
    rw [hacts]
    exact hempty
  rw [complete_settles rfl hfences' hwaiting] at hv
  rw [← hv]
  refine ⟨by rw [hten, Tenant.withHeld, Tenant.settled], ?_, ?_⟩
  · rw [hacts]
    exact sameMemory_applyActs s [.ten _ _, .ten _ _, .ten _ _] rfl
  · rw [hacts]
    rfl

omit hfences hempty in
/-- With a free slot, settling a cue is writing its completion. -/
theorem settle_writes (hloud : r.quiet = false) (hbind : bindMode s t = 0) (hheld : (ten s t).held = []) (hroom : 0 < cpqFree s t)
    {c : Completion} (hc : ⟨r.tag, stOK, 0, r.index, r.opcode, r.late⟩ = c) :
    applyActs s (settle t r stOK 0 s)
      = applyAct (applyActs (awaiting s t r c) (writeCompletion t c (awaiting s t r c))) (.ten t Tenant.shifted) := by
  have hheld' : (ten (applyAct s (.ten t (Tenant.withHeld c))) t).held = [c] := by
    rw [ten_ten_same hs, Tenant.withHeld, hheld, List.nil_append]
  have hroom' : 0 < cpqFree (applyAct s (.ten t (Tenant.withHeld c))) t := hroom
  rw [settle_delivers hopen hloud, hc, deliver_queues hbind, flushHeld_one hheld' hroom', applyActs_cons, applyActs_cons, applyActs_append]
  rfl

/-- A completion with a slot is written at CPQ_TAIL. -/
theorem complete_writes (ht : t < 8) (hloud : r.quiet = false) (hbind : bindMode s t = 0) (hheld : (ten s t).held = [])
    (hn : rf s (Reg.CPQ_CTRL t) Fld.CPQ_CTRL_SIZE ≤ 12) (hroom : 0 < cpqFree s t) {i : Nat}
    (hi : i = rf s (Reg.CPQ_TAIL t) Fld.CPQ_TAIL_INDEX % 2 ^ rf s (Reg.CPQ_CTRL t) Fld.CPQ_CTRL_SIZE) {base ph : Nat}
    (hbase : base = addr64 s (Reg.CPQ_BASE_LO t) (Reg.CPQ_BASE_HI t)) (hph : ph = rf s (Reg.CPQ_TAIL t) Fld.CPQ_TAIL_PHASE) {v : State}
    (hv : applyActs s (complete t r stOK 0 s) = v) :
    mapGets zeroByte v.host (base + 16 * i) 16 = completionBytes ⟨r.tag, stOK, 0, r.index, r.opcode, r.late⟩ ph
      ∧ (∀ x, x < base + 16 * i ∨ base + 16 * i + 16 ≤ x → hostByte v x = hostByte s x) ∧ (∀ x, dramByte v x = dramByte s x)
      ∧ rf v (Reg.CPQ_TAIL t) Fld.CPQ_TAIL_INDEX = (i + 1) % 2 ^ rf s (Reg.CPQ_CTRL t) Fld.CPQ_CTRL_SIZE
      ∧ rf v (Reg.CPQ_TAIL t) Fld.CPQ_TAIL_PHASE = (if i + 1 = 2 ^ rf s (Reg.CPQ_CTRL t) Fld.CPQ_CTRL_SIZE then 1 - ph else ph)
      ∧ (bit (ten s t).msixMask 0 = false → bit (ten s t).msixHold 0 = false → v.out.msix = s.out.msix ++ [(t, 0)])
      ∧ (ten v t).ready = (ten s t).ready ∧ (ten v t).held = [] := by
  have hsettle := settle_writes hs hopen hloud hbind hheld hroom rfl
  generalize (⟨r.tag, stOK, 0, r.index, r.opcode, r.late⟩ : Completion) = c at hsettle ⊢
  obtain ⟨hz, htenZ⟩ := ten_awaiting (c := c) (r := r) hs (t := t)
  obtain ⟨hbytes, hframe, hdram, hindex, hphase, hmessage, hten, hregs⟩ := writeCompletion_writes (s := awaiting s t r c) hz ht hbind hn hi hbase hph rfl
  generalize hv1 : applyActs (awaiting s t r c) (writeCompletion t c (awaiting s t r c)) = v1 at *
  have htenU : ten (applyAct v1 (.ten t Tenant.shifted)) t = Tenant.shifted (ten v1 t) := ten_ten_same (hv1 ▸ applyActs_inv _ _ hz) t _
  rw [htenZ] at hmessage hten
  obtain ⟨-, hready, -, hfencesV, hqueue, -⟩ := queues_of_sansMsix hten
  have hfences' : (ten (applyAct v1 (.ten t Tenant.shifted)) t).fences = [] := by
    rw [htenU, Tenant.shifted, hfencesV, Tenant.withHeld, Tenant.settled, hfences, List.filter_nil]
  have hempty' : cuesWaiting (applyAct v1 (.ten t Tenant.shifted)) t = 0 := (cuesWaiting_congr hregs).trans hempty
  rw [complete_settles hsettle hfences' hempty'] at hv
  refine ⟨?_, ?_, ?_, ?_, ?_, ?_, ?_, ?_⟩
  all_goals rw [← hv]
  · exact hbytes
  · exact hframe
  · exact fun x => congrArg (mapGet zeroByte · x) hdram
  · exact hindex
  · exact hphase
  · exact hmessage
  · rw [htenU, Tenant.shifted, hready, Tenant.withHeld, Tenant.settled]
  · rw [htenU, Tenant.shifted, hqueue, Tenant.withHeld, Tenant.settled, hheld, List.nil_append, List.drop_one, List.tail_cons]

end Settling

/-- Settles O54: the queue by whether a cue may be taken, the host ring by whether records were lost, a completion by the way it leaves. -/
theorem queuesAndCompletionsMove : Obligations.QueuesAndCompletionsMove := by
  unfold Obligations.QueuesAndCompletionsMove
  refine ⟨fun s hs => ⟨fun a t v ha => ⟨fun hr => ⟨fun hmay => ?none, fun hn hi hmay htail hform hsched => ?one⟩, fun hr => exec_cpqHeadWrite hr ha,
    fun hr => ⟨fun hlost => ?silent, fun hlost hroom => ?flushed⟩⟩, fun q hrun hpower hdue hthere => ?released⟩,
    fun s t c rest hs hready hup hhold hop hchecks hopen hfences hempty => ?completed⟩
  case none => rw [exec_cuqTailWrite hr ha, runEffs_single, takeCues_none hmay, applyActs_nil]
  case one => exact ⟨_, exec_cuqTailWrite hr ha, cuqTail_takes hs t.isLt rfl rfl hn hi rfl hmay htail hform hsched rfl⟩
  case silent =>
    refine (exec_pbhHeadWrite hr ha).trans (congrArg Host.Outcome.next ?_)
    generalize hu : applyAct s (.fld (Reg.PBH_HEAD t) Fld.PBH_HEAD_INDEX (getF v Fld.PBH_HEAD_INDEX)) = u
    have hten : ten u t = ten s t := by rw [← hu]; rfl
    exact runEffs_skip (flushLost_none (by rw [hten, hlost])) []
  case flushed =>
    refine ⟨_, exec_pbhHeadWrite hr ha, ?_⟩
    generalize hu : applyAct s (.fld (Reg.PBH_HEAD t) Fld.PBH_HEAD_INDEX (getF v Fld.PBH_HEAD_INDEX)) = u at hroom ⊢
    have hten : ten u t = ten s t := by rw [← hu]; rfl
    have hdram : ∀ x, dramByte s x = dramByte u x := fun x => by rw [← hu]; rfl
    simp only [hdram]
    exact flushLost_flushes (hu ▸ applyAct_inv s _ hs) t.isLt (by rw [hten]; exact hlost) hroom rfl
  case released =>
    exact ⟨cueReleased s q, exec_scheduledCueRelease hrun hpower hdue hthere, cueReleased_leaves s q⟩
  case completed =>
    have hexec := exec_cueNop hready hup hhold hop (.inl hchecks)
    have hten := ten_cueTaken (t := t) hs
    have hu : (cueTaken s t).Inv := applyAct_inv s _ hs
    have hopen' : cueOpen (cueTaken s t) t (cueRefOf c (cueScheduled c)) = true := by
      rw [cueOpen, hten]
      exact hopen
    have hfences' : (ten (cueTaken s t) t).fences = [] := by
      rw [hten]
      exact hfences
    have hempty' : cuesWaiting (cueTaken s t) t = 0 := hempty
    have hheld : (ten (cueTaken s t) t).held = (ten s t).held := by rw [hten]
    have hmem : sameMemory s (cueTaken s t) := sameMemory_applyAct s (.ten _ _) rfl
    refine ⟨fun hloud hbind hheldNone hn hroom => ?written, fun hloud hbind hfull => ⟨_, hexec, ?held⟩, fun hloud hbind => ⟨_, hexec, ?mgmt⟩,
      fun hquiet => ⟨_, hexec, ?quiet⟩⟩
    case written =>
      obtain ⟨hbytes, hframe, hdram, hindex, hphase, hmessage, hrest, hdone⟩ := complete_writes hu hopen' hfences' hempty' t.isLt hloud hbind
        (hheld.trans hheldNone) hn hroom rfl rfl rfl rfl
      have hqueue : (ten (cueTaken s t) t).ready = rest := by rw [hten, hready, List.drop_one, List.tail_cons]
      rw [hten] at hmessage
      exact ⟨_, hexec, hbytes, hframe, hdram, hindex, hphase, hmessage, hrest.trans hqueue, hdone⟩
    case held =>
      obtain ⟨hqueue, hsame, hregs⟩ := complete_holds hu hopen' hfences' hempty' hloud hbind hfull rfl
      exact ⟨hqueue.trans (by rw [hheld]; rfl), sameMemory_trans hmem hsame, hregs⟩
    case mgmt =>
      obtain ⟨hframe, hregs, hsame⟩ := complete_mgmt hu hopen' hfences' hempty' hloud hbind rfl
      exact ⟨hframe, hregs, sameMemory_trans hmem hsame⟩
    case quiet =>
      obtain ⟨hregs, hqueue, hout, hsame⟩ := complete_quiet hu hopen' hfences' hempty' hquiet rfl
      exact ⟨hregs, hqueue.trans hheld, hout, sameMemory_trans hmem hsame⟩

end Sys2Proof.Machine
end

section
/-! PROOFS of the statement on what a cue does when it starts (15_tenants.md R571, R574, R576), opcode by opcode. -/

namespace Sys2Proof.Machine

section Cues

variable {s : State} {t : Nat} {c : Cue} {r : CueRef} {fin : Nat → Nat → Eff}

/-! ## Registers (R576) -/

theorem cueWrite_writes (hmin : 1 ≤ cueArg c 0 1) (hmax : cueArg c 0 1 ≤ 5) {q : List Act × Nat × Nat}
    (hq : writePairs t 0 (bodyWords ((c.args.drop 8).take (8 * cueArg c 0 1))) s = q) :
    applyActs s (cueWrite t c fin s) = applyActs (applyActs s q.1) (fin q.2.1 q.2.2 (applyActs s q.1)) := by
  have hcount : ¬ (cueArg c 0 1 < 1 ∨ 5 < cueArg c 0 1) := by omega
  simp only [cueWrite, if_neg hcount, hq]
  exact applyActs_append s _ _

theorem cueRead_reads {x : List Act} (hx : gives 0 :: readAt t (cueArg c 0 4) s = x) :
    applyActs s (cueRead t c fin s) = applyActs (applyActs s (inCue t x))
      (fin ((refusedWith t x).getD stOK) (applyActs s (inCue t x)).out.readData.toNat (applyActs s (inCue t x))) := by
  simp only [cueRead, hx]
  exact applyActs_append s _ _

/-! ## Owners (R565, R566) -/

theorem cueHandover_reassigns (hpresent : absentAddr s (ownReg c.kind c.object) = false)
    (hmay : if c.kind = 4 then mayBank s t c.object = true else t = 0)
    (hcode : if c.kind = 4 then bankAllows c.object (cueArg c 0 1) = true else ownerCode (cueArg c 0 1) = true) {v : State}
    (hv : applyActs s (reassign s c.kind c.object (cueArg c 0 1) t) = v) :
    applyActs s (cueHandover t c fin s) = applyActs v (fin stOK (epochOf v c.kind c.object) v) := by
  have hmay' : (if c.kind = 4 then mayBank s t c.object else t == 0) = true := by
    by_cases hbank : c.kind = 4
    · rwa [if_pos hbank] at hmay ⊢
    · rw [if_neg hbank] at hmay ⊢
      exact beq_iff_eq.2 hmay
  have hcode' : (if c.kind = 4 then bankAllows c.object (cueArg c 0 1) else ownerCode (cueArg c 0 1)) = true := by
    by_cases hbank : c.kind = 4
    · rwa [if_pos hbank] at hcode ⊢
    · rwa [if_neg hbank] at hcode ⊢
  simp only [cueHandover, hpresent, hmay', hcode', Bool.not_true, Bool.false_eq_true, if_false]
  rw [applyActs_seqE, runEffs_cons, hv, runEffs_single]

/-! ## Driver transactions (R306, R307) -/

/-- The packet of a driver transaction. -/
def txnPkt (s : State) (c : Cue) : Pkt :=
  ⟨if cueArg c 4 1 == 1 then pkREAD_REQ else pkREG_WRITE, cueArg c 2 1 % 16, cueArg c 3 1, cueArg c 6 3,
    if cueArg c 4 1 == 1 then readPayload 0 (newTag s (cueArg c 0 2)) (cueArg c 5 1) else (c.args.drop 9).take (4 * cueArg c 5 1)⟩

theorem cueDrvTxn_queues (hs : s.Inv) (hpriv : hasPriv s t pvDRV_TXN = true) (hkind : c.kind = 3)
    (htile : portTile (rd s) (cueArg c 0 2) = some c.object) (hop : cueArg c 4 1 ≤ 1) (hmin : 1 ≤ cueArg c 5 1)
    (hmax : cueArg c 5 1 ≤ (if cueArg c 4 1 = 1 then 2 else 4)) (haddr : 0x100 ≤ cueArg c 6 3)
    (hroom : (port s (cueArg c 0 2)).txns.length < 8) :
    (port (applyActs s (cueDrvTxn t c r fin s)) (cueArg c 0 2)).txns
      = (port s (cueArg c 0 2)).txns ++ [⟨txnPkt s c, cueArg c 4 1 == 1, 0, .txn t c.object c.epoch r, 0, 0⟩] := by
  have hmax' : cueArg c 5 1 ≤ if (cueArg c 4 1 == 1) = true then 2 else 4 := by simpa using hmax
  have hform : ¬ (c.kind ≠ 3 ∨ portTile (rd s) (cueArg c 0 2) ≠ some c.object ∨ 1 < cueArg c 4 1 ∨ cueArg c 5 1 < 1
      ∨ (if (cueArg c 4 1 == 1) = true then 2 else 4) < cueArg c 5 1 ∨ cueArg c 6 3 < 0x100) := by
    simp only [not_or, not_not, Nat.not_lt]
    exact ⟨hkind, htile, hop, hmin, hmax', haddr⟩
  simp only [cueDrvTxn, hpriv, Bool.not_true, Bool.false_eq_true, if_false, if_neg hform, if_neg (Nat.not_le.2 hroom)]
  rw [applyActs_seqE, runEffs_cons, runEffs_single]
  generalize hv : applyActs s [.port (cueArg c 0 2) _] = v
  have htxns : (port v (cueArg c 0 2)).txns
      = (port s (cueArg c 0 2)).txns ++ [⟨txnPkt s c, cueArg c 4 1 == 1, 0, .txn t c.object c.epoch r, 0, 0⟩] := by
    rw [← hv]
    exact congrArg Port.txns (get_port_same hs _ _)
  rw [← htxns, queuedReg]
  split <;> rfl

/-! ## The show clock (R35) -/

/-- The show clock loaded with `ns`: no edge moves in real time. -/
def clockLoaded (s : State) (ns : Nat) : State :=
  applyAct s (.cur (fun q => { stepClock ((ns : Int) - (now s : Nat)) true q with frac := 0 }))

theorem clockLoaded_shows (s : State) (ns : Nat) : now (clockLoaded s ns) = ns ∧ (clockLoaded s ns).cur.frac = 0
    ∧ (clockLoaded s ns).regs = s.regs ∧ sameMemory s (clockLoaded s ns) := by
  refine ⟨?_, rfl, rfl, sameMemory_applyAct s (.cur _) rfl⟩
  show ((now s : Int) + ((ns : Int) - (now s : Nat))).toNat = ns
  omega

theorem cueSetTime_loads (ht : t = 0) (hppm : rf s Reg.CUR_SYNC Fld.CUR_SYNC_SRC ≠ 1) (hptp : rf s Reg.CUR_SYNC Fld.CUR_SYNC_SRC ≠ 4)
    (hns : cueArg c 6 4 ≤ 999999999) (hdark : showing (mode s) = false) {v : State}
    (hv : clockLoaded s (cueArg c 0 6 * 1000000000 + cueArg c 6 4) = v) :
    applyActs s (cueSetTime t c fin s) = applyActs v (fin stOK 0 v) := by
  have hload : ¬ (rf s Reg.CUR_SYNC Fld.CUR_SYNC_SRC = 1 ∨ rf s Reg.CUR_SYNC Fld.CUR_SYNC_SRC = 4 ∨ 999999999 < cueArg c 6 4) := by omega
  simp only [cueSetTime, if_neg (not_not.2 ht), if_neg hload, hdark, Bool.false_eq_true, if_false]
  rw [applyActs_seqE, runEffs_cons, runEffs_single, ← hv]
  rfl

/-! ## Census, reset and mark (R581, R583, R590) -/

theorem cueReset_resets (ht : t = 0) (hmin : 1 ≤ c.object) (hmax : c.object ≤ 7) {v : State} (hv : applyActs s (tenantReset c.object s) = v) :
    applyActs s (cueReset t c fin s) = applyActs v (fin stOK 0 v) := by
  have hobject : ¬ (c.object < 1 ∨ 7 < c.object) := by omega
  simp only [cueReset, if_neg (not_not.2 ht), if_neg hobject]
  rw [applyActs_seqE, runEffs_cons, runEffs_single, hv]

theorem cueMark_marks (hpriv : hasPriv s t pvMARK = true) :
    cueMark t c fin s = logSystem s (0xB50 + t) 4 [t] (arg [(16, cueArg c 0 2), (48, cueArg c 2 6)]) ++ fin stOK 0 s := by
  simp only [cueMark, hpriv, Bool.not_true, Bool.false_eq_true, if_false]

/-- A census request is for the coming edge until commit close, later for the next. -/
theorem askCensus_asks (cue : Option CueRef) : applyActs s (askCensus t cue s) = applyAct s (.book (fun b =>
    if s.cur.running && s.cur.closed && decide (instC s < now s) then { b with censusNext := b.censusNext ++ [⟨t, cue⟩] }
    else { b with census := b.census ++ [⟨t, cue⟩] })) := by
  rw [askCensus]
  cases s.cur.running && s.cur.closed && decide (instC s < now s) <;> rfl

end Cues

section Front

variable {s : State} {t : Nat} {c : Cue} {rest : List Cue} (hready : (ten s t).ready = c :: rest) (hup : spineUp s = true)
  (hhold : mode s ≠ mHOLD) {op : Nat} (hop : c.opcode = op)
include hready hup hhold hop

/-- The front cue starts with its opcode's effect. -/
theorem startFront_acts (hfresh : cueChecks c = false ∨ (thingOk c.kind c.object = true ∧ epochOf (cueTaken s t) c.kind c.object = c.epoch)) :
    nextBy s (startFront t op s) = nextBy (cueTaken s t)
      (cueAction t c (cueRefOf c (cueScheduled c)) (complete t (cueRefOf c (cueScheduled c))) (cueTaken s t)) := by
  rw [startFront_starts hready hup hhold hop, startCue_fresh hfresh]

/-- The front cue of a thing with another epoch completes STALE_ROLE. -/
theorem startFront_stale (hchecks : cueChecks c = true) (hthing : thingOk c.kind c.object = true)
    (hepoch : epochOf (cueTaken s t) c.kind c.object ≠ c.epoch) :
    nextBy s (startFront t op s) = nextBy (cueTaken s t) (complete t (cueRefOf c (cueScheduled c)) stSTALE_ROLE 0 (cueTaken s t)) := by
  rw [startFront_starts hready hup hhold hop, startCue_stale hchecks hthing hepoch]

end Front

/-- Settles O53: the front cue starts, and each opcode's effect is that of its cue's own lemma. -/
theorem cuesAct : Obligations.CuesAct := by
  unfold Obligations.CuesAct
  intro s t c rest hs hready hup hhold
  have hu : (cueTaken s t).Inv := applyAct_inv s _ hs
  refine ⟨fun hfresh => ?fresh, fun hchecks hthing hepoch =>
    ⟨fun hop => startFront_stale hready hup hhold hop hchecks hthing hepoch, fun hop => startFront_stale hready hup hhold hop hchecks hthing hepoch,
      fun hop => startFront_stale hready hup hhold hop hchecks hthing hepoch⟩⟩
  case fresh =>
    have hacts := fun (op : Nat) (hop : c.opcode = op) => startFront_acts hready hup hhold hop hfresh
    refine ⟨fun hop => ?nop, fun hop hmin hmax => ?write, fun hop => ?read, fun hop => ?commit, fun hop hpresent hmay hcode => ?handover,
      fun hop hpriv hkind htile hread hmin hmax haddr hroom => ?txn, fun hop ht hppm hptp hns hdark => ?time, fun hop hpriv => ?census,
      fun hop => ?fence, fun hop ht hmin hmax => ?reset, fun hop hpriv => ?mark, fun hop => ?discard⟩
    case nop => exact exec_cueNop hready hup hhold hop hfresh
    case write =>
      refine (hacts 1 hop).trans (congrArg Host.Outcome.next ?_)
      simp only [cueAction, hop]
      exact cueWrite_writes hmin hmax rfl
    case read =>
      refine (hacts 2 hop).trans (congrArg Host.Outcome.next ?_)
      simp only [cueAction, hop]
      exact cueRead_reads rfl
    case commit =>
      refine ⟨_, commitTaken (cueTaken s t) t (cueArg c 0 2) (some (cueRefOf c (cueScheduled c))), hacts 3 hop, ?_⟩
      simp only [cueAction, hop]
      obtain ⟨hstaged, hcur, hmem⟩ := takeCommit_takes hu t (cueArg c 0 2) (some (cueRefOf c (cueScheduled c)))
      refine ⟨hstaged, ?_, rfl, rfl, ?_, rfl, sameMemory_trans (sameMemory_applyAct s (.ten _ _) rfl) hmem⟩
      · rw [hcur]
        exact List.getLast?_concat
      · show (ten (cueTaken s t) t).staged = _
        rw [ten_cueTaken hs]
    case handover =>
      refine (hacts 4 hop).trans (congrArg Host.Outcome.next ?_)
      simp only [cueAction, hop]
      refine cueHandover_reassigns hpresent ?_ hcode rfl
      simpa only [Fin.val_eq_zero_iff] using hmay
    case txn =>
      refine ⟨_, txnPkt (cueTaken s t) c, hacts 5 hop, ?_⟩
      simp only [cueAction, hop]
      refine ⟨cueDrvTxn_queues hu hpriv hkind htile hread hmin hmax haddr hroom, ?_, rfl, rfl, rfl, fun hwrite => ?_⟩
      · simp only [txnPkt, beq_iff_eq]
      · simp only [txnPkt, hwrite, beq_iff_eq, Nat.zero_ne_one, if_false]
    case time =>
      obtain ⟨hclock, hfrac, hregs, hmem⟩ := clockLoaded_shows (cueTaken s t) (cueArg c 0 6 * 1000000000 + cueArg c 6 4)
      refine ⟨clockLoaded (cueTaken s t) (cueArg c 0 6 * 1000000000 + cueArg c 6 4), ?_, hclock, hfrac, hregs,
        sameMemory_trans (sameMemory_applyAct s (.ten _ _) rfl) hmem⟩
      refine (hacts 6 hop).trans (congrArg Host.Outcome.next ?_)
      simp only [cueAction, hop]
      exact cueSetTime_loads (congrArg Fin.val ht) hppm hptp hns hdark rfl
    case census =>
      refine (hacts 7 hop).trans (congrArg Host.Outcome.next ?_)
      simp only [cueAction, hop]
      exact (congrArg (applyActs (cueTaken s t)) (if_pos hpriv)).trans (askCensus_asks _)
    case fence =>
      refine (hacts 8 hop).trans ?_
      simp only [cueAction, hop]
      rfl
    case reset =>
      refine (hacts 9 hop).trans (congrArg Host.Outcome.next ?_)
      simp only [cueAction, hop]
      exact cueReset_resets (congrArg Fin.val ht) hmin hmax rfl
    case mark =>
      refine (hacts 10 hop).trans (congrArg (nextBy _) ?_)
      simp only [cueAction, hop]
      exact cueMark_marks hpriv
    case discard =>
      refine (hacts 11 hop).trans (congrArg Host.Outcome.next ?_)
      simp only [cueAction, hop]
      exact applyActs_seqE (cueTaken s t) [discardStaged t, complete t (cueRefOf c (cueScheduled c)) stOK 0]

end Sys2Proof.Machine
end

section
/-! PROOFS of what the statement on handing over, binding and resetting tenants rests on (15_tenants.md R559, R564 to R566, R581, R582): the
ownership registers, and what a tenant reset leaves of the tenant it names and of every other. -/

namespace Sys2Proof.Machine

/-! ## The ownership registers (R565) -/

/-- Do all registers of a row lie below an address? -/
def rowBelow (q : RegRow) (a : Nat) : Bool :=
  match q.strides with
  | [] => decide (q.base < a)
  | (st, cnt) :: _ => decide (0 < st ∧ q.base + st * cnt ≤ a)

theorem strideIdx_below {q : RegRow} {lo a : Nat} (h : rowBelow q lo = true) (ha : lo ≤ a) : strideIdx q.strides (a - q.base) = none := by
  unfold rowBelow at h
  split at h
  case h_1 hrow =>
    have hbase := of_decide_eq_true h
    rw [hrow]
    exact if_neg (by omega)
  case h_2 st cnt more hrow =>
    obtain ⟨hst, hend⟩ := of_decide_eq_true h
    have hpast : cnt ≤ (a - q.base) / st := (Nat.le_div_iff_mul_le hst).2 (by rw [Nat.mul_comm]; omega)
    rw [hrow]
    exact if_neg (by omega)

/-- An element of a row of words of block TEN whose earlier rows lie below it. -/
theorem regImpl_tenRow {k cnt n : Nat} {r : RegRow} (hrows : rowsTen = rowsTen.take k ++ r :: rowsTen.drop (k + 1)) (hstrides : r.strides = [(0x4, cnt)])
    (haligned : r.base % 4 = 0) (hlow : 0x00F00000 ≤ r.base) (hhigh : r.base + 4 * cnt ≤ 0x01000000)
    (hbelow : ∀ q ∈ rowsTen.take k, rowBelow q r.base = true) (hn : n < cnt) : regImpl (r.base + 0x4 * n) = rowImpl r := by
  have hblock : (r.base + 0x4 * n) / 0x100000 = 15 := by omega
  have hblockRows : blockRows (r.base + 0x4 * n) = rowsTen.take k ++ r :: rowsTen.drop (k + 1) := by
    unfold blockRows
    rw [hblock]
    exact hrows
  refine regImpl_of_row hblockRows (by omega) (fun q hq => strideIdx_below (hbelow q hq) (Nat.le_add_right _ _)) (Nat.le_add_right _ _) (ix := [n]) ?_
  rw [hstrides, Nat.add_sub_cancel_left]
  exact strideIdx_words hn

/-- OWNER and EPOCH are the fields of every ownership register. -/
theorem regImpl_ownKey (o : OwnThing) : regImpl (ownReg (ownKey o).1 (ownKey o).2) = 0xFFFF00FF := by
  cases o with
  | slot j => exact (regImpl_tenRow (k := 5) (r := rowsTen[5]) rfl rfl rfl (by decide) (by decide) (by decide) j.isLt).trans (by decide)
  | layer x => exact (regImpl_tenRow (k := 6) (r := rowsTen[6]) rfl rfl rfl (by decide) (by decide) (by decide) x.isLt).trans (by decide)
  | tile t => exact (regImpl_tenRow (k := 7) (r := rowsTen[7]) rfl rfl rfl (by decide) (by decide) (by decide) t.isLt).trans (by decide)
  | cluster c => exact (regImpl_tenRow (k := 8) (r := rowsTen[8]) rfl rfl rfl (by decide) (by decide) (by decide) c.isLt).trans (by decide)

theorem ownKey_ne_unitLost (o : OwnThing) : ownReg (ownKey o).1 (ownKey o).2 ≠ Reg.PB_UNIT_LOST := by
  cases o with
  | slot j => simp only [ownKey, ownReg, Reg.TEN_OWN_SLOT, Reg.PB_UNIT_LOST]; omega
  | layer x => simp only [ownKey, ownReg, Reg.TEN_OWN_LAYER, Reg.PB_UNIT_LOST]; omega
  | tile t => simp only [ownKey, ownReg, Reg.TEN_OWN_TILE, Reg.PB_UNIT_LOST]; omega
  | cluster c => simp only [ownKey, ownReg, Reg.TEN_OWN_CLUSTER, Reg.PB_UNIT_LOST]; omega

theorem ownKey_kind (o : OwnThing) : (ownKey o).1 ≠ 0 := by cases o <;> exact Nat.succ_ne_zero _

/-- The epoch of a thing of R565 is a field of its register. -/
theorem epochOf_kind {kind : Nat} (h : kind ≠ 0) (s : State) (obj : Nat) : epochOf s kind obj = rf s (ownReg kind obj) Fld.TEN_OWN_TILE_EPOCH := if_neg h

/-- A thing handed over has its new owner, and its epoch counts the change (R566). -/
theorem reassign_hands {s : State} (hs : s.Inv) {kind obj : Nat} (hkind : kind ≠ 0) (himpl : regImpl (ownReg kind obj) = 0xFFFF00FF)
    (hlost : ownReg kind obj ≠ Reg.PB_UNIT_LOST) {o : Nat} (ho : o < 256) (u : Nat) {t : State} (ht : applyActs s (reassign s kind obj o u) = t) :
    ownerOf t kind obj = o ∧ epochOf t kind obj = (epochOf s kind obj + (if o = ownerOf s kind obj then 0 else 1)) % 65536
      ∧ (∀ r, r ≠ ownReg kind obj → r ≠ Reg.PB_UNIT_LOST → rd t r = rd s r) ∧ sameMemory s t := by
  subst ht
  simp only [epochOf_kind hkind]
  by_cases hsame : ownerOf s kind obj = o
  · have hnone : reassign s kind obj o u = [] := if_pos hsame
    rw [hnone, if_pos hsame.symm]
    exact ⟨hsame, (Nat.mod_eq_of_lt (getF_lt _ Fld.TEN_OWN_TILE_EPOCH)).symm, fun r _ _ => rfl, sameMemory_refl s⟩
  · generalize hword : putF (putF 0 Fld.TEN_OWN_TILE_EPOCH ((epochOf s kind obj + 1) % 65536)) Fld.TEN_OWN_TILE_OWNER o = word
    obtain ⟨q, hsome⟩ : ∃ q, reassign s kind obj o u = [.reg (ownReg kind obj) word, .log q] := by
      subst hword
      exact ⟨_, if_neg hsame⟩
    have hfield : ∀ f : Field, f.lo + f.width ≤ 32 → (0xFFFF00FF : Word) &&& f.mask = f.mask →
        rf (applyActs s [.reg (ownReg kind obj) word, .log q]) (ownReg kind obj) f = getF word f := fun f hf hmask => by
      have hlog := rd_applyAct_other (applyAct s (.reg (ownReg kind obj) word)) (.log q) (ownReg kind obj) (beq_eq_false_iff_ne.2 hlost)
      exact (rf_congr hlog f).trans (rf_reg (regsWf_of_inv hs) _ word f hf (by rw [himpl, hmask]))
    rw [hsome, if_neg (Ne.symm hsame)]
    refine ⟨?owner, ?epoch, fun r hr hrlost => rd_applyActs_other s _ r ?reg, sameMemory_applyActs s _ rfl⟩
    case owner =>
      calc ownerOf _ kind obj = getF word Fld.TEN_OWN_TILE_OWNER := hfield _ (by decide) (by decide)
        _ = o % 2 ^ 8 := hword ▸ getF_putF _ Fld.TEN_OWN_TILE_OWNER o (by decide)
        _ = o := Nat.mod_eq_of_lt ho
    case epoch =>
      calc rf _ (ownReg kind obj) Fld.TEN_OWN_TILE_EPOCH = getF word Fld.TEN_OWN_TILE_EPOCH := hfield _ (by decide) (by decide)
        _ = getF (putF 0 Fld.TEN_OWN_TILE_EPOCH ((epochOf s kind obj + 1) % 65536)) Fld.TEN_OWN_TILE_EPOCH :=
            hword ▸ getF_putF_other _ Fld.TEN_OWN_TILE_OWNER Fld.TEN_OWN_TILE_EPOCH o (by decide) (by decide)
        _ = (epochOf s kind obj + 1) % 65536 := (getF_putF _ Fld.TEN_OWN_TILE_EPOCH _ (by decide)).trans (Nat.mod_mod _ _)
        _ = _ := by rw [epochOf_kind hkind]
    case reg => simp [Act.mayReg, Ne.symm hr, hrlost]

end Sys2Proof.Machine
end

section
/-! PROOFS of the statement on handing over, binding and resetting tenants (15_tenants.md R559, R564 to R566, R568, R581, R582, R590): what a
tenant reset leaves of the tenant it names and of every other, resets one after another, and the commands. -/

namespace Sys2Proof.Machine

/-! ## The registers that a tenant reset names (R581) -/

/-- They are words of the tenant's windows of PKR and TEN, from the third on. -/
theorem mem_tenantRegs {r t : Nat} (h : r ∈ tenantRegs t) :
    ∃ k, 2 ≤ k ∧ k ≤ 20 ∧ ((r = 0x00C0F000 + 0x100 * t + 4 * k ∧ k ≤ 4) ∨ r = 0x00F0F000 + 0x100 * t + 4 * k) := by
  simp only [tenantRegs, List.mem_cons, List.not_mem_nil, or_false, Reg.CUQ_BASE_LO, Reg.CUQ_BASE_HI, Reg.CUQ_CTRL, Reg.CUQ_TAIL, Reg.CUQ_HEAD,
    Reg.CPQ_BASE_LO, Reg.CPQ_BASE_HI, Reg.CPQ_CTRL, Reg.CPQ_HEAD, Reg.CPQ_TAIL, Reg.PBH_BASE_LO, Reg.PBH_BASE_HI, Reg.PBH_CTRL, Reg.PBH_HEAD,
    Reg.PBH_TAIL, Reg.PBH_LOST, Reg.PKR_RING_LO, Reg.PKR_RING_HI, Reg.PKR_RING_SIZE, Reg.TEN_FAULT_CNT, Reg.TEN_FAULT_LAST, Reg.TEN_FAULT_ADDR] at h
  exact ⟨r % 0x100 / 4, by omega⟩

/-- A register that no tenant reset brings to reset and that binds no tenant (R564). -/
def Outside (a : Nat) : Prop := (a < 0x00F00000 ∨ 0x00F00040 ≤ a) ∧ ∀ u < 8, a ∉ tenantRegs u

theorem tenantRegs_disjoint {r t u : Nat} (hu : u < 8) (ht : t < 8) (htu : t ≠ u) (hr : r ∈ tenantRegs t) : r ∉ tenantRegs u := fun hr' => by
  obtain ⟨j, hj, hj', hplace⟩ := mem_tenantRegs hr
  obtain ⟨k, hk, hk', hplace'⟩ := mem_tenantRegs hr'
  omega

/-- Event registers are the first two words of their windows. -/
theorem evtStatus_aligned (blk t : Nat) : evtStatus blk t % 0x100 = 0 := by
  unfold evtStatus
  split <;> simp only [Reg.CUR_EVT_STATUS, Reg.SRC_EVT_STATUS, Reg.ENG_EVT_STATUS, Reg.PRT_EVT_STATUS, Reg.DRV_EVT_STATUS, Reg.CAL_EVT_STATUS,
    Reg.CMP_EVT_STATUS, Reg.MEM_EVT_STATUS, Reg.DDR_EVT_STATUS, Reg.PKR_EVT_STATUS, Reg.CAD_EVT_STATUS, Reg.PNX_EVT_STATUS, Reg.TEN_EVT_STATUS] <;> omega

theorem evtStatus_unbound {blk t : Nat} (h : blk = 15 ∨ t < 8) : evtStatus blk t + 4 < 0x00F00000 ∨ 0x00F0F000 ≤ evtStatus blk t := by
  unfold evtStatus
  split <;> simp only [Reg.CUR_EVT_STATUS, Reg.SRC_EVT_STATUS, Reg.ENG_EVT_STATUS, Reg.PRT_EVT_STATUS, Reg.DRV_EVT_STATUS, Reg.CAL_EVT_STATUS,
    Reg.CMP_EVT_STATUS, Reg.MEM_EVT_STATUS, Reg.DDR_EVT_STATUS, Reg.PKR_EVT_STATUS, Reg.CAD_EVT_STATUS, Reg.PNX_EVT_STATUS, Reg.TEN_EVT_STATUS] <;> omega

theorem outside_of {a : Nat} (hbind : a < 0x00F00000 ∨ 0x00F00040 ≤ a) (h : ∀ u k, u < 8 → 2 ≤ k → k ≤ 20 →
    ¬ ((a = 0x00C0F000 + 0x100 * u + 4 * k ∧ k ≤ 4) ∨ a = 0x00F0F000 + 0x100 * u + 4 * k)) : Outside a := by
  refine ⟨hbind, fun u hu hr => ?_⟩
  obtain ⟨k, hk, hk', hplace⟩ := mem_tenantRegs hr
  exact h u k hu hk hk' hplace

theorem outside_evtStatus {blk t : Nat} (h : blk = 15 ∨ t < 8) : Outside (evtStatus blk t) := by
  have hbound := evtStatus_unbound h
  have hfirst := evtStatus_aligned blk t
  exact outside_of (by omega) fun u k _ _ _ => by omega

theorem outside_evtEnable {blk t : Nat} (h : blk = 15 ∨ t < 8) : Outside (evtEnable blk t) := by
  have hbound := evtStatus_unbound h
  have hfirst := evtStatus_aligned blk t
  unfold evtEnable
  exact outside_of (by omega) fun u k _ _ _ => by omega

theorem outside_unitLost : Outside Reg.PB_UNIT_LOST := by
  unfold Reg.PB_UNIT_LOST
  exact outside_of (by omega) fun u k _ _ _ => by omega

theorem outside_tenStatus (t : Nat) : Outside (Reg.TEN_STATUS t) := by
  unfold Reg.TEN_STATUS
  exact outside_of (by omega) fun u k _ _ _ => by omega

theorem outside_pkrHead {t : Nat} (ht : t < 8) : Outside (Reg.PKR_HEAD t) := by
  unfold Reg.PKR_HEAD
  exact outside_of (by omega) fun u k _ _ _ => by omega

theorem outside_pkrTail {t : Nat} (ht : t < 8) : Outside (Reg.PKR_TAIL t) := by
  unfold Reg.PKR_TAIL
  exact outside_of (by omega) fun u k _ _ _ => by omega

theorem outside_portState {p : Nat} (hp : p < 1024) : Outside (Reg.PORT_STATE (p / 64) (p % 64)) := by
  unfold Reg.PORT_STATE
  exact outside_of (by omega) fun u k _ _ _ => by omega

/-! ## The updates of a tenant reset -/

/-- What a tenant reset leaves of a tenant. -/
def Tenant.cleaned (q : Tenant) : Tenant :=
  { q with staged := [], ready := [], open_ := [], fences := [], held := [], msixNew := 0, msixMask := 0xF, lostCount := 0, lostFirst := 0, lostLast := 0 }

/-- The prompt book's part of a tenant forgotten: its scheduled cues and its census requests. -/
def Book.forget (t : Nat) (b : Book) : Book :=
  { b with sched := b.sched.filter (fun q => q.tenant != t), census := b.census.filter (fun q => q.tenant != t),
           censusNext := b.censusNext.filter (fun q => q.tenant != t) }

/-- The packer's part of a tenant forgotten: its jobs and its context. -/
def Packer.forget (t : Nat) (p : Packer) : Packer :=
  { p with doneJobs := p.doneJobs.filter (fun e => e.1 / 4096 != t), ctx := mapPut ctxDflt p.ctx t (ctxDflt 0) }

/-- What a tenant reset does behind the tenant's queues and the prompt book. -/
def Act.afterReset (t : Nat) : Act → Prop
  | .reg a v => Outside a ∨ (a ∈ tenantRegs t ∧ v = regReset a)
  | .fld a _ _ => Outside a
  | .port _ _ => True
  | .pkr f => f = Packer.forget t
  | .evt blk _ _ => blk = 15
  | .log _ => True
  | _ => False

theorem dropTxns_afterReset (t : Nat) (s : State) : ∀ x ∈ dropTxns t s, x.afterReset t := by
  refine forall_mem_seqE (fun e he u => ?_) s
  obtain ⟨p, -, rfl⟩ := List.mem_map.1 he
  refine forall_mem_seqE (List.forall_mem_cons.2 ⟨fun u => List.forall_mem_singleton.2 trivial, List.forall_mem_singleton.2 fun u => ?_⟩) u
  unfold queuedReg
  split
  next hp => exact List.forall_mem_singleton.2 (outside_portState hp)
  next => exact fun x hx => absurd hx List.not_mem_nil

/-- The event registers of a tenant cleared. -/
def eventsCleared (t : Nat) : List Act :=
  (evtBlocks.filter (fun b => b != 13 || t == 0)).flatMap (fun b => [.reg (evtStatus b t) 0, .reg (evtEnable b t) 0])

theorem eventsCleared_afterReset {t : Nat} (ht : t < 8) : ∀ x ∈ eventsCleared t, x.afterReset t := fun x hx => by
  obtain ⟨b, -, hb⟩ := List.mem_flatMap.1 hx
  have hpair : ∀ y ∈ [Act.reg (evtStatus b t) 0, .reg (evtEnable b t) 0], y.afterReset t :=
    List.forall_mem_cons.2 ⟨.inl (outside_evtStatus (.inr ht)), List.forall_mem_singleton.2 (.inl (outside_evtEnable (.inr ht)))⟩
  exact hpair x hb

/-- The registers of a tenant at reset. -/
def regsAtReset (t : Nat) : List Act := (tenantRegs t).map (fun a => .reg a (regReset a))

/-- The packer's part of a tenant reset. -/
def packerCleared (t : Nat) : List Act := [.reg (Reg.PKR_HEAD t) 0, .reg (Reg.PKR_TAIL t) 0, .pkr (Packer.forget t)]

/-- A tenant reset: the tenant's queues, its part of the prompt book, its registers, its part of the packer, and the rest. -/
theorem tenantReset_eq {t : Nat} (ht : t < 8) (s : State) : ∃ xs, tenantReset t s = .ten t Tenant.cleaned :: .book (Book.forget t) :: xs
    ∧ (∀ x ∈ xs, x.afterReset t) ∧ (∀ r ∈ tenantRegs t, .reg r (regReset r) ∈ xs) ∧ .pkr (Packer.forget t) ∈ xs := by
  obtain ⟨n, es, heq, hes⟩ : ∃ n es, tenantReset t s = .ten t Tenant.cleaned :: .book (Book.forget t) ::
      (eventsCleared t ++ regsAtReset t ++ dropTxns t s ++ (.fld (Reg.TEN_STATUS t) Fld.TEN_STATUS_SCHED n :: (packerCleared t ++ es)))
      ∧ ∀ x ∈ es, x.afterReset t := by
    refine ⟨_, _, rfl, forall_mem_seqE (List.forall_mem_singleton.2 fun u => ?_) _⟩
    refine List.forall_mem_append.2 ⟨fun x hx => ?_, List.forall_mem_singleton.2 trivial⟩
    rcases mem_eventNow hx with ⟨u, rfl⟩ | ⟨r, rfl⟩
    · exact rfl
    · trivial
  have hregs : ∀ x ∈ regsAtReset t, x.afterReset t := List.forall_mem_map.2 fun r hr => .inr ⟨hr, rfl⟩
  have hpacker : ∀ x ∈ packerCleared t, x.afterReset t :=
    List.forall_mem_cons.2 ⟨.inl (outside_pkrHead ht), List.forall_mem_cons.2 ⟨.inl (outside_pkrTail ht), List.forall_mem_singleton.2 rfl⟩⟩
  refine ⟨_, heq, ?_, fun r hr => ?_, ?_⟩
  · simp only [List.forall_mem_append, List.forall_mem_cons]
    exact ⟨⟨⟨eventsCleared_afterReset ht, hregs⟩, dropTxns_afterReset t s⟩, outside_tenStatus t, hpacker, hes⟩
  · have hmem : Act.reg r (regReset r) ∈ regsAtReset t := List.mem_map.2 ⟨r, hr, rfl⟩
    simp only [List.mem_append, hmem, or_true, true_or]
  · have hmem : Act.pkr (Packer.forget t) ∈ packerCleared t := List.mem_cons_of_mem _ (List.mem_cons_of_mem _ List.mem_cons_self)
    simp only [List.mem_append, List.mem_cons, hmem, or_true, true_or]

/-! ## What the updates of a tenant reset leave -/

/-- The scheduled cues and the census requests of the prompt book. -/
def Book.owned (b : Book) : List SchedCue × List CensusReq × List CensusReq := (b.sched, b.census, b.censusNext)

theorem owned_bookLog (s : State) (r : PbRec) : (bookLog s r).owned = s.book.owned := by
  unfold bookLog
  repeat' split
  all_goals rfl

section Leaves

variable {t : Nat} {x : Act} (h : x.afterReset t)
include h

theorem afterReset_mayTen (u : Nat) : x.mayTen u = false := by
  cases x with
  | ten i f => exact h.elim
  | _ => rfl

theorem afterReset_mayMem : x.mayMem = false := by
  cases x with
  | reg | fld | port | pkr | evt | log => rfl
  | _ => exact h.elim

/-- They leave the registers of every other tenant. -/
theorem afterReset_other (ht : t < 8) {u : Nat} (hu : u < 8) (htu : t ≠ u) {r : Nat} (hr : r ∈ tenantRegs u) : x.mayReg r = false := by
  have houtside : ∀ a, Outside a → (a == r) = false := fun a ha => beq_eq_false_iff_ne.2 fun har => ha.2 u hu (har ▸ hr)
  cases x with
  | reg a v =>
    rcases h with ha | ⟨ha, -⟩
    · exact houtside a ha
    · exact beq_eq_false_iff_ne.2 fun har => tenantRegs_disjoint hu ht htu ha (har ▸ hr)
  | fld a f v => exact houtside a h
  | evt blk i b => exact houtside _ (outside_evtStatus (.inl h))
  | log q => exact beq_eq_false_iff_ne.2 (Ne.symm (beq_eq_false_iff_ne.1 (houtside _ outside_unitLost)))
  | port | pkr => rfl
  | _ => exact h.elim

/-- They leave the tenant's own registers or bring them to reset. -/
theorem afterReset_own (ht : t < 8) {r : Nat} (hr : r ∈ tenantRegs t) : x.mayReg r = false ∨ x = .reg r (regReset r) := by
  have houtside : ∀ a, Outside a → (a == r) = false := fun a ha => beq_eq_false_iff_ne.2 fun har => ha.2 t ht (har ▸ hr)
  cases x with
  | reg a v =>
    rcases h with ha | ⟨-, rfl⟩
    · exact .inl (houtside a ha)
    · by_cases har : a = r
      · exact .inr (har ▸ rfl)
      · exact .inl (beq_eq_false_iff_ne.2 har)
  | fld a f v => exact .inl (houtside a h)
  | evt blk i b => exact .inl (houtside _ (outside_evtStatus (.inl h)))
  | log q => exact .inl (beq_eq_false_iff_ne.2 (Ne.symm (beq_eq_false_iff_ne.1 (houtside _ outside_unitLost))))
  | port | pkr => exact .inl rfl
  | _ => exact h.elim

/-- They leave the binding of every tenant. -/
theorem afterReset_bind (ht : t < 8) {r : Nat} (hlow : 0x00F00000 ≤ r) (hhigh : r < 0x00F00040) : x.mayReg r = false := by
  have houtside : ∀ a, Outside a → (a == r) = false := fun a ha => beq_eq_false_iff_ne.2 (by have := ha.1; omega)
  cases x with
  | reg a v =>
    rcases h with ha | ⟨ha, -⟩
    · exact houtside a ha
    · obtain ⟨k, hk, hk', hplace⟩ := mem_tenantRegs ha
      exact beq_eq_false_iff_ne.2 (by omega)
  | fld a f v => exact houtside a h
  | evt blk i b => exact houtside _ (outside_evtStatus (.inl h))
  | log q => exact beq_eq_false_iff_ne.2 (Ne.symm (beq_eq_false_iff_ne.1 (houtside _ outside_unitLost)))
  | port | pkr => rfl
  | _ => exact h.elim

/-- They leave the packer or forget the tenant there. -/
theorem afterReset_pkr (s : State) : (applyAct s x).pkr = s.pkr ∨ x = .pkr (Packer.forget t) := by
  cases x with
  | pkr f => exact .inr (congrArg Act.pkr h)
  | evt blk i b => exact .inl (by simp only [applyAct_evt, raiseEvt_frame])
  | reg | fld | port | log => exact .inl rfl
  | _ => exact h.elim

/-- They leave the scheduled cues and the census requests. -/
theorem afterReset_book (s : State) : (applyAct s x).book.owned = s.book.owned := by
  cases x with
  | evt blk i b => simp only [applyAct_evt, raiseEvt_frame]
  | log q => exact owned_bookLog s q
  | reg | fld | port | pkr => rfl
  | _ => exact h.elim

end Leaves

/-! ## A tenant reset -/

/-- What an update brings about holds in the end where every update keeps it. -/
theorem applyActs_brings {P Q : State → Prop} {xs : List Act} {x : Act} (hx : x ∈ xs) (hQ : ∀ y ∈ xs, ∀ u, Q u → Q (applyAct u y))
    (hbrings : ∀ u, Q u → P (applyAct u x)) (hkeeps : ∀ y ∈ xs, ∀ u, Q u → P u → P (applyAct u y)) {s : State} (hs : Q s) : P (applyActs s xs) := by
  have hkept : ∀ ys : List Act, (∀ y ∈ ys, y ∈ xs) → ∀ u, Q u → P u → P (applyActs u ys) := fun ys => by
    induction ys with
    | nil => exact fun _ u _ hu => hu
    | cons y ys ih =>
      intro hys u hq hu
      obtain ⟨hy, hys⟩ := List.forall_mem_cons.1 hys
      exact ih hys _ (hQ y hy u hq) (hkeeps y hy u hq hu)
  have hbrought : ∀ ys : List Act, (∀ y ∈ ys, y ∈ xs) → x ∈ ys → ∀ u, Q u → P (applyActs u ys) := fun ys => by
    induction ys with
    | nil => exact fun _ hnone => absurd hnone List.not_mem_nil
    | cons y ys ih =>
      intro hys hmem u hq
      obtain ⟨hy, hrest⟩ := List.forall_mem_cons.1 hys
      rcases List.mem_cons.1 hmem with rfl | hmem
      · exact hkept ys hrest _ (hQ x hy u hq) (hbrings u hq)
      · exact ih hrest hmem _ (hQ y hy u hq)
  exact hbrought xs (fun _ hy => hy) hx s hs

/-- A tenant with its queues and registers as a reset leaves them; its packer context only where the contexts were well-formed. -/
def Clean (wf : Prop) (w : State) (t : Nat) : Prop :=
  (ten w t).staged = [] ∧ (ten w t).ready = [] ∧ (ten w t).open_ = [] ∧ (ten w t).fences = [] ∧ (ten w t).held = []
    ∧ (∀ q ∈ w.book.sched, q.tenant ≠ t) ∧ (∀ q ∈ w.book.census ++ w.book.censusNext, q.tenant ≠ t) ∧ (∀ r ∈ tenantRegs t, rd w r = regReset r)
    ∧ (wf → ctxOf w t = ctxDflt 0)

/-- Nothing that a reset clears of a tenant differs. -/
def sameTenant (s w : State) (t : Nat) : Prop :=
  (ten w t).sansMsix = (ten s t).sansMsix ∧ (∀ r ∈ tenantRegs t, rd w r = rd s r) ∧ ctxOf w t = ctxOf s t

/-- No scheduled cue and no census request is new. -/
def Book.within (b c : Book) : Prop := b.sched ⊆ c.sched ∧ b.census ⊆ c.census ∧ b.censusNext ⊆ c.censusNext

section Reset

variable {s : State} (hs : s.Inv) {t : Nat} (ht : t < 8) {w : State} (hw : applyActs s (tenantReset t s) = w)
include hs ht hw

/-- A tenant reset leaves every other tenant. -/
theorem tenantReset_spares {u : Nat} (hu : u < 8) (htu : t ≠ u) : sameTenant s w u := by
  obtain ⟨xs, hacts, hafter, -, -⟩ := tenantReset_eq ht s
  rw [hacts] at hw
  subst hw
  have h1 := applyAct_inv s (.ten t Tenant.cleaned) hs
  have h2 := applyAct_inv _ (.book (Book.forget t)) h1
  refine ⟨?queues, fun r hr => ?regs, ?ctx⟩
  case queues =>
    refine (sansMsix_applyActs h2 fun x hx => afterReset_mayTen (hafter x hx) u).trans (congrArg Tenant.sansMsix ?_)
    exact ten_ten_other s (Ne.symm htu) _
  case regs => exact rd_applyActs_of_forall (fun x hx => afterReset_other (hafter x hx) ht hu htu hr) _
  case ctx =>
    refine Eq.trans (applyActs_keeps (xs := xs) (fun v => ctxOf v u) (fun x hx v _ => ?_) h2) rfl
    rcases afterReset_pkr (hafter x hx) v with hsame | rfl
    · exact congrArg (fun p => mapGet ctxDflt (Packer.ctx p) u) hsame
    · exact mapGet_mapPut_other ctxDflt (Ne.symm htu) _ _

/-- Its scheduled cues and census requests are those of other tenants. -/
theorem tenantReset_book : w.book.owned = (s.book.forget t).owned := by
  obtain ⟨xs, hacts, hafter, -, -⟩ := tenantReset_eq ht s
  rw [hacts] at hw
  subst hw
  have h2 := applyAct_inv _ (.book (Book.forget t)) (applyAct_inv s (.ten t Tenant.cleaned) hs)
  exact applyActs_keeps (fun v => v.book.owned) (fun x hx v _ => afterReset_book (hafter x hx) v) h2

omit hs in
theorem tenantReset_memory : sameMemory s w := by
  obtain ⟨xs, hacts, hafter, -, -⟩ := tenantReset_eq ht s
  rw [← hw, hacts]
  exact sameMemory_of_noMem (List.forall_mem_cons.2 ⟨rfl, List.forall_mem_cons.2 ⟨rfl, fun x hx => afterReset_mayMem (hafter x hx)⟩⟩)

omit hs in
theorem tenantReset_contexts (hwf : mapWf ctxDflt s.pkr.ctx = true) : mapWf ctxDflt w.pkr.ctx = true ∧ ctxOf w t = ctxDflt 0 := by
  obtain ⟨xs, hacts, hafter, -, hmem⟩ := tenantReset_eq ht s
  rw [hacts] at hw
  subst hw
  have hQ : ∀ y ∈ xs, ∀ u : State, mapWf ctxDflt u.pkr.ctx = true → mapWf ctxDflt (applyAct u y).pkr.ctx = true := fun y hy u hu => by
    rcases afterReset_pkr (hafter y hy) u with hsame | rfl
    · rw [hsame, hu]
    · exact mapPut_wf ctxDflt hu t _
  have hbrings : ∀ u : State, mapWf ctxDflt u.pkr.ctx = true →
      mapWf ctxDflt (applyAct u (.pkr (Packer.forget t))).pkr.ctx = true ∧ ctxOf (applyAct u (.pkr (Packer.forget t))) t = ctxDflt 0 := fun u hu =>
    ⟨mapPut_wf ctxDflt hu t _, mapGet_mapPut_same ctxDflt hu t _⟩
  refine applyActs_brings (P := fun u => mapWf ctxDflt u.pkr.ctx = true ∧ ctxOf u t = ctxDflt 0) hmem hQ hbrings (fun y hy u hu hP => ?_)
    (s := applyAct (applyAct s (.ten t Tenant.cleaned)) (.book (Book.forget t))) hwf
  rcases afterReset_pkr (hafter y hy) u with hsame | rfl
  · rw [ctxOf, hsame]
    exact hP
  · exact hbrings u hu

/-- A tenant reset brings the tenant's registers to reset. -/
theorem tenantReset_regs {r : Nat} (hr : r ∈ tenantRegs t) : rd w r = regReset r := by
  obtain ⟨xs, hacts, hafter, hregs, -⟩ := tenantReset_eq ht s
  rw [hacts] at hw
  subst hw
  have h2 := applyAct_inv _ (.book (Book.forget t)) (applyAct_inv s (.ten t Tenant.cleaned) hs)
  have hbrings : ∀ u : State, u.Inv → rd (applyAct u (.reg r (regReset r))) r = regReset r := fun u hu => by
    obtain ⟨hwf, -⟩ := regs_of_inv hu
    exact (rd_putReg_same hwf r _).trans (regReset_and_regImpl r)
  refine applyActs_brings (P := fun u => rd u r = regReset r) (hregs r hr) (fun y _ u hu => applyAct_inv u y hu) hbrings (fun y hy u hu hP => ?_) h2
  rcases afterReset_own (hafter y hy) ht hr with hkeeps | rfl
  · rw [rd_applyAct_other u y r hkeeps, hP]
  · exact hbrings u hu

theorem tenantReset_queues : (ten w t).sansMsix = (ten s t).cleaned.sansMsix := by
  obtain ⟨xs, hacts, hafter, -, -⟩ := tenantReset_eq ht s
  rw [hacts] at hw
  subst hw
  have h1 := applyAct_inv s (.ten t Tenant.cleaned) hs
  have h2 := applyAct_inv _ (.book (Book.forget t)) h1
  refine (sansMsix_applyActs h2 fun x hx => afterReset_mayTen (hafter x hx) t).trans (congrArg Tenant.sansMsix ?_)
  exact ten_ten_same hs t _

/-- A tenant reset cleans the tenant it names. -/
theorem tenantReset_cleans {wf : Prop} (hwf : wf → mapWf ctxDflt s.pkr.ctx = true) : Clean wf w t := by
  obtain ⟨hstaged, hready, hopen, hfences, hheld, -⟩ := queues_of_sansMsix (tenantReset_queues hs ht hw)
  have hbook := tenantReset_book hs ht hw
  simp only [Book.owned, Book.forget, Prod.mk.injEq] at hbook
  obtain ⟨hsched, hcensus, hnext⟩ := hbook
  have hother : ∀ {α : Type} (f : α → Nat) (l : List α), ∀ q ∈ l.filter (fun q => f q != t), f q ≠ t := fun f l q hq =>
    bne_iff_ne.1 (List.mem_filter.1 hq).2
  refine ⟨hstaged, hready, hopen, hfences, hheld, ?_, ?_, fun r hr => tenantReset_regs hs ht hw hr, fun h => (tenantReset_contexts ht hw (hwf h)).2⟩
  · rw [hsched]
    exact hother _ _
  · rw [hcensus, hnext]
    exact List.forall_mem_append.2 ⟨hother _ _, hother _ _⟩

omit hs in
/-- It leaves every binding. -/
theorem tenantReset_bindings {r : Nat} (hlow : 0x00F00000 ≤ r) (hhigh : r < 0x00F00040) : rd w r = rd s r := by
  obtain ⟨xs, hacts, hafter, -, -⟩ := tenantReset_eq ht s
  rw [hacts] at hw
  subst hw
  exact rd_applyActs_of_forall (fun x hx => afterReset_bind (hafter x hx) ht hlow hhigh) _

theorem tenantReset_within : w.book.within s.book := by
  have hbook := tenantReset_book hs ht hw
  simp only [Book.owned, Book.forget, Prod.mk.injEq] at hbook
  obtain ⟨hsched, hcensus, hnext⟩ := hbook
  refine ⟨?_, ?_, ?_⟩
  · rw [hsched]
    exact List.filter_subset_self _
  · rw [hcensus]
    exact List.filter_subset_self _
  · rw [hnext]
    exact List.filter_subset_self _

end Reset

/-! ## Tenant resets one after another -/

theorem sameTenant_trans {s t u : State} {n : Nat} (h : sameTenant s t n) (k : sameTenant t u n) : sameTenant s u n := by
  obtain ⟨hq, hr, hc⟩ := h
  obtain ⟨kq, kr, kc⟩ := k
  exact ⟨kq.trans hq, fun r hmem => (kr r hmem).trans (hr r hmem), kc.trans hc⟩

/-- A clean tenant stays clean where nothing of it differs. -/
theorem Clean.kept {wf : Prop} {s w : State} {t : Nat} (h : Clean wf s t) (hsame : sameTenant s w t) (hbook : w.book.within s.book) : Clean wf w t := by
  obtain ⟨hstaged, hready, hopen, hfences, hheld, hsched, hcensus, hregs, hctx⟩ := h
  obtain ⟨hq, hr, hc⟩ := hsame
  obtain ⟨bsched, bcensus, bnext⟩ := hbook
  obtain ⟨kstaged, kready, kopen, kfences, kheld, -⟩ := queues_of_sansMsix hq
  obtain ⟨hnow, hnext⟩ := List.forall_mem_append.1 hcensus
  exact ⟨kstaged.trans hstaged, kready.trans hready, kopen.trans hopen, kfences.trans hfences, kheld.trans hheld, fun q hmem => hsched q (bsched hmem),
    List.forall_mem_append.2 ⟨fun q hmem => hnow q (bcensus hmem), fun q hmem => hnext q (bnext hmem)⟩,
    fun r hmem => (hr r hmem).trans (hregs r hmem), fun hwf => hc.trans (hctx hwf)⟩

/-- Resets of tenants in order: those named are clean, and nothing of the others differs. -/
theorem tenantResets {wf : Prop} : ∀ (l : List Nat) (s : State), s.Inv → (∀ t ∈ l, t < 8) → (wf → mapWf ctxDflt s.pkr.ctx = true) →
    ∀ w, runEffs s (l.map tenantReset) = w →
      (∀ t ∈ l, Clean wf w t) ∧ (∀ t < 8, t ∉ l → sameTenant s w t) ∧ w.book.within s.book ∧ sameMemory s w
  | [], s, _, _, _, w, hw => by
    subst hw
    exact ⟨fun t ht => absurd ht List.not_mem_nil, fun t _ _ => ⟨rfl, fun _ _ => rfl, rfl⟩, ⟨List.Subset.refl _, List.Subset.refl _, List.Subset.refl _⟩,
      sameMemory_refl s⟩
  | t :: l, s, hs, hl, hwf, w, hw => by
    obtain ⟨ht, hl⟩ := List.forall_mem_cons.1 hl
    rw [List.map_cons, runEffs_cons] at hw
    generalize hu : applyActs s (tenantReset t s) = u at hw
    have huInv : u.Inv := hu ▸ applyActs_inv s _ hs
    have huWf : wf → mapWf ctxDflt u.pkr.ctx = true := fun h => (tenantReset_contexts ht hu (hwf h)).1
    obtain ⟨hclean, hsame, hbook, hmem⟩ := tenantResets l u huInv hl huWf w hw
    obtain ⟨bsched, bcensus, bnext⟩ := hbook
    obtain ⟨csched, ccensus, cnext⟩ := tenantReset_within hs ht hu
    refine ⟨List.forall_mem_cons.2 ⟨?_, hclean⟩, fun n hn hnot => ?_,
      ⟨List.Subset.trans bsched csched, List.Subset.trans bcensus ccensus, List.Subset.trans bnext cnext⟩, sameMemory_trans (tenantReset_memory ht hu) hmem⟩
    · by_cases hagain : t ∈ l
      · exact hclean t hagain
      · exact (tenantReset_cleans hs ht hu hwf).kept (hsame t ht hagain) ⟨bsched, bcensus, bnext⟩
    · have hne : t ≠ n := fun h => hnot (h ▸ List.mem_cons_self)
      exact sameTenant_trans (tenantReset_spares hs ht hu hn hne) (hsame n hn fun h => hnot (List.mem_cons_of_mem t h))

/-! ## The commands -/

/-- What resets of the tenants that `hit` names leave of every tenant. -/
def Only (s w : State) (hit : Nat → Bool) : Prop :=
  (∀ t, hit t = true → t < 8 → Clean (mapWf ctxDflt s.pkr.ctx = true) w t)
    ∧ (∀ t, hit t = false → t < 8 → (ten w t).staged = (ten s t).staged ∧ (ten w t).ready = (ten s t).ready ∧ (ten w t).open_ = (ten s t).open_
      ∧ (ten w t).held = (ten s t).held ∧ ∀ r ∈ tenantRegs t, rd w r = rd s r) ∧ sameMemory s w

theorem only_of_sameTenant {s w : State} {hit : Nat → Bool} (hclean : ∀ t, hit t = true → t < 8 → Clean (mapWf ctxDflt s.pkr.ctx = true) w t)
    (hsame : ∀ t < 8, hit t = false → sameTenant s w t) (hmem : sameMemory s w) : Only s w hit := by
  refine ⟨hclean, fun t hmiss ht => ?_, hmem⟩
  obtain ⟨hqueues, hregs, -⟩ := hsame t ht hmiss
  obtain ⟨hstaged, hready, hopen, -, hheld, -⟩ := queues_of_sansMsix hqueues
  exact ⟨hstaged, hready, hopen, hheld, hregs⟩

/-- A reset of one tenant, in a state in which nothing of a tenant differs. -/
theorem only_tenantReset {s u : State} (hu : u.Inv) (hfrom : ∀ t < 8, sameTenant s u t) (hpkr : u.pkr = s.pkr) (hmem : sameMemory s u) {t : Nat} (ht : t < 8)
    {w : State} (hw : applyActs u (tenantReset t u) = w) : Only s w (fun x => x == t) := by
  refine only_of_sameTenant (fun x hx _ => ?_) (fun x hx hmiss => ?_) (sameMemory_trans hmem (tenantReset_memory ht hw))
  · obtain rfl : x = t := beq_iff_eq.1 hx
    exact tenantReset_cleans hu ht hw fun hwf => by rw [hpkr, hwf]
  · exact sameTenant_trans (hfrom x hx) (tenantReset_spares hu ht hw hx (Ne.symm (beq_eq_false_iff_ne.1 hmiss)))

theorem sameTenant_refl (s : State) (t : Nat) : sameTenant s s t := ⟨rfl, fun _ _ => rfl, rfl⟩

theorem only_tenantReset_self {s : State} (hs : s.Inv) {t : Nat} (ht : t < 8) {w : State} (hw : applyActs s (tenantReset t s) = w) :
    Only s w (fun x => x == t) := only_tenantReset hs (fun x _ => sameTenant_refl s x) rfl (sameMemory_refl s) ht hw

/-- A loss of the link resets every tenant bound to PCIe (R559). -/
theorem resetPcie_only {s : State} (hs : s.Inv) {w : State} (hw : applyActs s (resetPcie s) = w) : Only s w (fun x => bindMode s x == 0) := by
  rw [resetPcie, applyActs_seqE] at hw
  have hlt : ∀ t ∈ allTenants.filter (fun t => bindMode s t == 0), t < 8 := fun t ht =>
    (by decide : ∀ t ∈ allTenants, t < 8) t (List.mem_filter.1 ht).1
  have hall : ∀ t < 8, t ∈ allTenants := by decide
  obtain ⟨hclean, hsame, -, hmem⟩ := tenantResets _ s hs hlt (wf := mapWf ctxDflt s.pkr.ctx = true) id w hw
  exact only_of_sameTenant (fun t hbound ht => hclean t (List.mem_filter.2 ⟨hall t ht, hbound⟩))
    (fun t ht hother => hsame t ht fun hmem => Bool.eq_false_iff.1 hother (List.mem_filter.1 hmem).2) hmem

section Bind

variable {s : State} {a : Acc} {t : Fin 8} {v : Word} {ip : Bool}

/-- The register of a tenant's binding. -/
def bindReg (t : Nat) (ip : Bool) : Nat := if ip then Reg.TEN_BIND_SRC_IP t else Reg.TEN_BIND_CTRL t

theorem bindReg_bounds {t : Nat} (ht : t < 8) (ip : Bool) : 0x00F00000 ≤ bindReg t ip ∧ bindReg t ip < 0x00F00040 := by
  cases ip <;> simp only [bindReg, Reg.TEN_BIND_SRC_IP, Reg.TEN_BIND_CTRL, Bool.false_eq_true, if_false, if_true] <;> omega

theorem exec_tenBindWrite (hr : reaches s a (bindReg t ip) true) (ha : actsFor a = 0) (hmode : ip = false → getF v Fld.TEN_BIND_CTRL_MODE = 2 → t = 0) :
    exec (.tenBindWrite a t ip v) s = nextBy s (if rd s (bindReg t ip) = v &&& regImpl (bindReg t ip) then []
      else seqE [fun _ => [.reg (bindReg t ip) v], tenantReset t] s) := by
  have hallowed : ¬ ((!ip) = true ∧ getF v Fld.TEN_BIND_CTRL_MODE = 2 ∧ t.val ≠ 0) := fun ⟨hctrl, hspi, hother⟩ =>
    hother (congrArg Fin.val (hmode (by simpa using hctrl) hspi))
  show nextBy s (gate a (bindReg t ip) true false (fun u => tenBindWrite u t ip v) s) = _
  rw [gate_reaches hr, ha]
  exact congrArg (nextBy s) (if_neg hallowed)

/-- A binding that changes resets its tenant. -/
theorem tenBind_resets (hs : s.Inv) {w : State} (hw : applyActs s (seqE [fun _ => [.reg (bindReg t ip) v], tenantReset t] s) = w) :
    rd w (bindReg t ip) = v &&& regImpl (bindReg t ip) ∧ Only s w (fun x => x == t.val) := by
  rw [applyActs_seqE, runEffs_cons, runEffs_single] at hw
  obtain ⟨hregs, -⟩ := regs_of_inv hs
  obtain ⟨hlow, hhigh⟩ := bindReg_bounds t.isLt ip
  have hinv := applyAct_inv s (.reg (bindReg t ip) v) hs
  refine ⟨(tenantReset_bindings t.isLt hw hlow hhigh).trans (rd_putReg_same hregs _ v), ?_⟩
  refine only_tenantReset (s := s) hinv (fun x hx => ⟨rfl, fun r hr => ?_, rfl⟩) rfl (sameMemory_applyAct s (.reg _ v) rfl) t.isLt hw
  obtain ⟨k, hk, hk', hplace⟩ := mem_tenantRegs hr
  exact rd_applyAct_other s (.reg (bindReg t ip) v) r (beq_eq_false_iff_ne.2 (by omega))

end Bind

theorem exec_tenOwnWrite {s : State} {a : Acc} {o : OwnThing} {v : Word} (hr : reaches s a (ownReg (ownKey o).1 (ownKey o).2) true)
    (ha : actsFor a = 0) (hcode : ownerCode (getF v Fld.TEN_OWN_TILE_OWNER) = true) :
    exec (.tenOwnWrite a o v) s = nextBy s (reassign s (ownKey o).1 (ownKey o).2 (getF v Fld.TEN_OWN_TILE_OWNER) 0) := by
  show nextBy s (gate a _ true false (fun u => tenOwnWrite u o v) s) = _
  rw [gate_reaches hr, ha]
  exact congrArg (nextBy s) (if_pos hcode)

theorem exec_tenReset {s : State} {a : Acc} {t : Fin 8} {v : Word} (hr : reaches s a (Reg.TEN_RESET t) true) (ha : actsFor a = 0 ∨ actsFor a = t.val)
    (hgo : getF v Fld.TEN_RESET_GO = 1) : exec (.tenReset a t v) s = nextBy s (tenantReset t s) := by
  show nextBy s (gate a _ true false (fun u => tenResetWrite u t v) s) = _
  rw [gate_reaches hr, tenResetWrite, byWindow_own ha, if_pos hgo]

theorem exec_tenDiscard {s : State} {a : Acc} {t : Fin 8} {v : Word} (hr : reaches s a (Reg.TEN_DISCARD t) true)
    (ha : actsFor a = 0 ∨ actsFor a = t.val) (hgo : getF v Fld.TEN_DISCARD_GO = 1) : exec (.tenDiscard a t v) s = nextBy s (discardStaged t s) := by
  show nextBy s (gate a _ true false (fun u => tenDiscardWrite u t v) s) = _
  rw [gate_reaches hr, tenDiscardWrite, byWindow_own ha, if_pos hgo]

theorem exec_tenCensus {s : State} {a : Acc} {v : Word} (hr : reaches s a Reg.TEN_CENSUS true) (hpriv : hasPriv s (actsFor a) pvCENSUS = true)
    (hgo : getF v Fld.TEN_CENSUS_GO = 1) : exec (.tenCensus a v) s = nextBy s (askCensus (actsFor a) none s) := by
  show nextBy s (gate a _ true false (fun u => tenCensusWrite u v) s) = _
  rw [gate_reaches hr]
  simp only [tenCensusWrite, hpriv, hgo, Bool.not_true, Bool.false_eq_true, if_false, if_true]

/-- With the spine supplied, a command acts. -/
theorem nextBy_spineUp {s : State} (hup : spineUp s = true) (e : Eff) : nextBy s (whenE spineUp [e] s) = nextBy s (e s) :=
  congrArg Host.Outcome.next ((applyActs_whenE s spineUp [e]).trans (if_pos hup))

/-! ## The statement on tenants -/

/-- Settles O55: ownership by its registers, and each reset by the tenants it names. -/
theorem tenantsAreReset : Obligations.TenantsAreReset := by
  unfold Obligations.TenantsAreReset
  intro s a v hs
  refine ⟨fun o hr ha hcode => ?own, fun t hr ha hgo => ⟨_, exec_tenReset hr ha hgo, only_tenantReset_self hs t.isLt rfl⟩,
    fun t ip hr ha hmode => ⟨fun hsame => ?unbound, fun hother => ?bound⟩,
    fun hup => ⟨fun t => ⟨_, nextBy_spineUp hup _, only_tenantReset_self hs t.isLt rfl⟩, ⟨_, nextBy_spineUp hup _, resetPcie_only hs rfl⟩,
      ⟨_, nextBy_spineUp hup _, resetPcie_only hs rfl⟩⟩,
    fun t hr ha hgo => ⟨_, exec_tenDiscard hr ha hgo, ?discard⟩, fun hr hpriv hgo => ⟨_, exec_tenCensus hr hpriv hgo, ?census⟩⟩
  case own => exact ⟨_, exec_tenOwnWrite hr ha hcode,
    reassign_hands hs (ownKey_kind o) (regImpl_ownKey o) (ownKey_ne_unitLost o) (getF_lt v Fld.TEN_OWN_TILE_OWNER) 0 rfl⟩
  case unbound => exact (exec_tenBindWrite hr ha hmode).trans (congrArg (nextBy s) (if_pos hsame))
  case bound => exact ⟨_, (exec_tenBindWrite hr ha hmode).trans (congrArg (nextBy s) (if_neg hother)), tenBind_resets hs rfl⟩
  case discard =>
    exact ⟨congrArg Tenant.staged (ten_ten_same hs t _), rfl, rfl, sameMemory_applyActs s [.ten _ _] rfl⟩
  case census =>
    rw [askCensus_asks]
    refine ⟨rfl, sameMemory_applyActs s [.book _] rfl, ?_⟩
    have hlate : (s.cur.running && s.cur.closed && decide (instC s < now s)) = true
        ↔ s.cur.running = true ∧ s.cur.closed = true ∧ instC s < now s := by simp only [Bool.and_eq_true, decide_eq_true_eq, and_assoc]
    simp only [applyAct_book, hlate]
    split <;> rfl

end Sys2Proof.Machine
end

section
/-! PROOFS of what the statements on engines rest on (06_steep_engines.md R208 to R223): registers and lanes, the registers of an engine's window,
and what a bundle does that issues. -/

namespace Sys2Proof.Machine

/-! ## Registers and lanes (R208, R213) -/

section Registers

variable (g : Engine) (n : Nat) (v : Word)

@[simp] theorem Engine.sr_zero : g.sr 0 = 0 := rfl
@[simp] theorem Engine.pr_zero : g.pr 0 = 0xFFFFFFFF := rfl
@[simp] theorem Engine.putS_zero : g.putS 0 v = g := rfl
@[simp] theorem Engine.putP_zero : g.putP 0 v = g := rfl

/-- A write of a scalar register leaves every other one. -/
theorem Engine.sr_putS_other {m : Nat} (h : m ≠ n) : (g.putS n v).sr m = g.sr m := by
  unfold Engine.putS Engine.sr
  split
  · rfl
  · split
    · rfl
    · exact mapGet_mapPut_other zeroWord h v g.s

/-- What is not a scalar register: a write of one leaves all of it. -/
theorem Engine.putS_eq : ∃ m, g.putS n v = { g with s := m } := by
  unfold Engine.putS
  split
  · exact ⟨g.s, rfl⟩
  · exact ⟨_, rfl⟩

end Registers

section Lanes

variable (n : Nat)

theorem Engine.lane_putLane_same {g : Engine} (h : mapWf zeroWord g.v = true) (i : Nat) (x : Word) : (g.putLane n i x).lane n i = x :=
  mapGet_mapPut_same zeroWord h _ x

/-- Two lanes are two keys: a write of one leaves the other. -/
theorem Engine.lane_putLane_other (g : Engine) {m i j : Nat} (hi : i < 32) (hj : j < 32) (h : m ≠ n ∨ j ≠ i) (x : Word) :
    (g.putLane n i x).lane m j = g.lane m j := mapGet_mapPut_other zeroWord (by omega) x g.v

theorem Engine.putLanes_wf : ∀ (qs : List (Nat × Word)) {g : Engine}, mapWf zeroWord g.v = true → mapWf zeroWord (g.putLanes n qs).v = true
  | [], _, h => h
  | _ :: qs, _, h => putLanes_wf qs (mapPut_wf zeroWord h _ _)

/-- A lane that a list of lane values does not name keeps its value. -/
theorem Engine.lane_putLanes_other {m j : Nat} (hj : j < 32) : ∀ (qs : List (Nat × Word)) {g : Engine}, (∀ q ∈ qs, q.1 < 32 ∧ (m ≠ n ∨ j ≠ q.1)) →
    (g.putLanes n qs).lane m j = g.lane m j
  | [], _, _ => rfl
  | q :: qs, g, h => by
    obtain ⟨⟨hq, hother⟩, hqs⟩ := List.forall_mem_cons.1 h
    exact (lane_putLanes_other hj qs hqs).trans (lane_putLane_other n g hq hj hother q.2)

/-- A lane that a list of lanes names takes its value. -/
theorem Engine.lane_putLanes_mem (f : Nat → Word) {i : Nat} : ∀ (l : List Nat) {g : Engine}, (∀ k ∈ l, k < 32) → i ∈ l → mapWf zeroWord g.v = true →
    (g.putLanes n (l.map (fun k => (k, f k)))).lane n i = f i
  | [], _, _, hi, _ => absurd hi List.not_mem_nil
  | k :: l, g, hl, hi, hg => by
    obtain ⟨hk, hrest⟩ := List.forall_mem_cons.1 hl
    by_cases hmem : i ∈ l
    · exact lane_putLanes_mem f l hrest hmem (mapPut_wf zeroWord hg _ _)
    · obtain rfl : i = k := (List.mem_cons.1 hi).resolve_right hmem
      refine (lane_putLanes_other (g := g.putLane n i (f i)) n hk (l.map fun k => (k, f k)) fun q hq => ?_).trans (lane_putLane_same n hg i (f i))
      obtain ⟨j, hj, rfl⟩ := List.mem_map.1 hq
      exact ⟨hrest j hj, .inr fun hij => hmem (hij ▸ hj)⟩

theorem Engine.mem_guarded {g : Engine} {pg i : Nat} : i ∈ g.guarded pg ↔ i < 32 ∧ g.guard pg i = true := by
  rw [Engine.guarded, List.mem_filter, List.mem_range]

/-- Guarded lanes take their new values and no other lane changes (R213). -/
theorem Engine.lane_putLanes_guarded (g : Engine) {h : Engine} (hwf : mapWf zeroWord h.v = true) (pg : Nat) (f : Nat → Word) {i : Nat} (hi : i < 32) :
    (h.putLanes n ((g.guarded pg).map (fun i => (i, f i)))).lane n i = (if g.guard pg i then f i else h.lane n i)
      ∧ ∀ m j, m ≠ n → j < 32 → (h.putLanes n ((g.guarded pg).map (fun i => (i, f i)))).lane m j = h.lane m j := by
  have hlt : ∀ k ∈ g.guarded pg, k < 32 := fun k hk => (mem_guarded.1 hk).1
  refine ⟨?_, fun m j hm hj => lane_putLanes_other n hj _ fun q hq => ?_⟩
  · by_cases hguard : g.guard pg i = true
    · rw [if_pos hguard]
      exact lane_putLanes_mem n f _ hlt (mem_guarded.2 ⟨hi, hguard⟩) hwf
    · rw [if_neg hguard]
      refine lane_putLanes_other n hi _ fun q hq => ?_
      obtain ⟨k, hk, rfl⟩ := List.mem_map.1 hq
      exact ⟨hlt k hk, .inr fun hik => hguard (hik ▸ (mem_guarded.1 hk).2)⟩
  · obtain ⟨k, hk, rfl⟩ := List.mem_map.1 hq
    exact ⟨hlt k hk, .inl hm⟩

end Lanes

/-! ## Bundles that issue (R218 to R223) -/

/-- What the word 0 decodes to in either place is an operation that does nothing. -/
theorem decodeV_zero : decodeV (0 : Word).toNat = nopSyl := rfl
theorem decodeS_zero : decodeS (0 : Word).toNat 0 = nopSyl := rfl

theorem runEffs_issue (s : State) (e : Nat) (sy vy : Syl) : runEffs s (issue e sy vy) = runEffs (applyActs s (issueBundle e sy vy s)) wakeAll := rfl

section Issue

variable {s : State} {e : Nat} {sy vy : Syl}

/-- An engine that does not run issues nothing. -/
theorem issueBundle_stopped (hrun : engState s e ≠ esRUN) : issueBundle e sy vy s = [] := if_pos hrun

theorem issueBundle_illegal (hrun : engState s e = esRUN) (hill : (sy.illegal || vy.illegal) = true) :
    issueBundle e sy vy s = programFault e flILLEGAL_OP 0 s := (if_neg (not_not_intro hrun)).trans (if_pos hill)

theorem issueBundle_common (hrun : engState s e = esRUN) (hsy : sy.illegal = false) (hvy : vy.illegal = false)
    (hcommon : sy.writes.any vy.writes.contains = true) : issueBundle e sy vy s = programFault e flILLEGAL_BUNDLE 0 s := by
  rw [issueBundle, if_neg (not_not_intro hrun), hsy, hvy, if_neg (by decide), if_pos hcommon]

/-- A bundle that issues normally does what both syllables do. -/
theorem issueBundle_issues (h : issues s e sy vy) : applyActs s (issueBundle e sy vy s) = bundleState s e sy vy := by
  obtain ⟨hrun, hsy, hvy, hcommon, hlocked, hsyFits, hvyFits, hsyFault, hvyFault⟩ := h
  unfold issueBundle
  rw [if_neg (not_not_intro hrun), hsy, hvy, if_neg (by decide), hcommon, if_neg (by decide), hlocked, hsyFits, hvyFits, if_neg (by decide)]
  simp only [hsyFault, hvyFault]
  rfl

/-- Syllables that touch no memory, wait for nothing and meet no error: the engine takes their register results and goes on. -/
theorem bundleState_retires {a b : SylRes} (ha : sy.run s e (eng s e) = a) (hb : vy.run s e (eng s e) = b) (hmemA : a.mem = []) (hmemB : b.mem = [])
    (hueA : a.ue = false) (hueB : b.ue = false) (hwait : a.wait = none) : bundleState s e sy vy
      = retire s e (max sy.clocks vy.clocks) (fun h => b.put (a.put h)) (afterBundle (engPC s e) (eng s e).loops a) := by
  simp only [bundleState, retire, applyActs_nil, ha, hb, hmemA, hmemB, hueA, hueB, hwait, List.append_nil, Bool.or_false, Bool.false_eq_true, if_false,
    List.append_assoc, List.cons_append, List.nil_append]

/-- A bundle that meets no vector register meets no locked one. -/
theorem locked_nil (s : State) (e : Nat) : locked s e [] = false := by simp [locked]

/-- Nothing is locked for an engine with no call outstanding (R220). -/
theorem locked_of_no_call (hfree : ∀ c ∈ s.stp.calls, c.engine ≠ e) (regs : List Nat) : locked s e regs = false := by
  rw [locked, List.any_eq_false]
  intro c hc
  simp [hfree c hc]

end Issue

end Sys2Proof.Machine
end

section
/-! PROOFS of the statements on bundles and on the scalar and vector operations that only write registers (06_steep_engines.md R208 to R223). -/

namespace Sys2Proof.Machine

/-! ## Bundles of two syllables -/

/-- What a command does that issues a bundle: it issues normally, it is an illegal operation, its syllables write a common register, or its engine
does not run (R211, R218, R219, R248). -/
theorem exec_issue {s : State} {e : Nat} {i : Instr} {sy vy : Syl} (hi : exec i s = doneAll s (issue e sy vy)) :
    (issues s e sy vy → exec i s = .next (runEffs (bundleState s e sy vy) wakeAll))
      ∧ (engState s e = esRUN → sy.illegal || vy.illegal → exec i s = .next (runEffs (applyActs s (programFault e flILLEGAL_OP 0 s)) wakeAll))
      ∧ (engState s e = esRUN → sy.illegal = false → vy.illegal = false → sy.writes.any vy.writes.contains →
          exec i s = .next (runEffs (applyActs s (programFault e flILLEGAL_BUNDLE 0 s)) wakeAll))
      ∧ (engState s e ≠ esRUN → exec i s = .next (runEffs s wakeAll)) := by
  have hgoes : ∀ {t : State}, applyActs s (issueBundle e sy vy s) = t → exec i s = .next (runEffs t wakeAll) := fun ht =>
    hi.trans (congrArg (fun t => Host.Outcome.next (runEffs t wakeAll)) ht)
  exact ⟨fun h => hgoes (issueBundle_issues h), fun hrun hill => hgoes (congrArg (applyActs s) (issueBundle_illegal hrun hill)),
    fun hrun hsy hvy hcommon => hgoes (congrArg (applyActs s) (issueBundle_common hrun hsy hvy hcommon)),
    fun hrun => hgoes (congrArg (applyActs s) (issueBundle_stopped hrun))⟩

/-- Settles O23: every command of the lists issues the bundle of its own syllable and its companion. -/
theorem bundlesIssue : Obligations.BundlesIssue := by
  unfold Obligations.BundlesIssue
  intro s e co
  refine ⟨fun sd sa sb imm off p hp => exec_issue ?scalar, fun off p hp => exec_issue ?jal,
    fun pg pd vd va vb md sa imm off size p hp => exec_issue ?vector, fun pg pd cond va imm p hp => exec_issue ?vcmpi⟩
  case scalar =>
    revert p
    repeat refine List.forall_mem_cons.2 ⟨rfl, ?_⟩
    exact List.forall_mem_nil _
  case jal =>
    obtain rfl := List.mem_singleton.1 hp
    rfl
  case vector =>
    revert p
    repeat refine List.forall_mem_cons.2 ⟨rfl, ?_⟩
    exact List.forall_mem_nil _
  case vcmpi =>
    obtain rfl := List.mem_singleton.1 hp
    rfl

/-! ## A scalar operation beside a VNOP -/

section Scalar

variable {s : State} {e : Nat} {i : Instr}

/-- A scalar syllable that needs no unit and no vector register, beside a VNOP, where it faults on nothing. -/
theorem issues_scalar {sy : Syl} (hrun : engState s e = esRUN) (hlegal : sy.illegal = false) (hregs : sy.vregs = []) (hcalls : sy.calls = none)
    (hfault : (sy.run s e (eng s e)).fault = none) : issues s e sy nopSyl := by
  refine ⟨hrun, hlegal, rfl, ?_, ?_, ?_, rfl, hfault, rfl⟩
  · exact List.any_eq_false.2 fun _ _ => Bool.false_ne_true
  · rw [hregs]
    exact locked_nil s e
  · rw [hcalls]
    rfl

/-- One that only writes registers, jumps or opens a loop: its clocks are counted, and the engine goes on where the bundle leads. -/
theorem exec_scalar {sy : Syl} {r : SylRes} {c : Nat} {n : Nat × List LoopLevel} (hi : exec i s = doneAll s (issue e sy nopSyl))
    (hrun : engState s e = esRUN) (hr : sy.run s e (eng s e) = r) (hnext : afterBundle (engPC s e) (eng s e).loops r = n)
    (hlegal : sy.illegal = false) (hregs : sy.vregs = []) (hcalls : sy.calls = none) (hclocks : max sy.clocks nopSyl.clocks = c) (hmem : r.mem = [])
    (hfault : r.fault = none) (hwait : r.wait = none) (hue : r.ue = false) : exec i s = .next (runEffs (retire s e c r.put n) wakeAll) := by
  obtain ⟨hissues, -⟩ := exec_issue hi
  rw [hissues (issues_scalar hrun hlegal hregs hcalls (hr ▸ hfault)), bundleState_retires hr rfl hmem rfl hue rfl hwait, hnext, hclocks]
  rfl

/-- One that only writes registers. -/
theorem exec_scalar_puts {ws : List Nat} (put : State → Nat → Engine → Engine → Engine)
    (hi : exec i s = doneAll s (issue e (syl ws [] (fun s e g => resPut (put s e g))) nopSyl)) (hrun : engState s e = esRUN) :
    exec i s = retires s e 1 (put s e (eng s e)) :=
  exec_scalar (r := resPut (put s e (eng s e))) hi hrun rfl rfl rfl rfl rfl rfl rfl rfl rfl rfl

/-- sd takes the operation of sa and sb (R214). -/
theorem exec_sAlu (f : Word → Word → Word) {sd sa sb : Nat} (hrun : engState s e = esRUN) (hi : exec i s = doneAll s (issue e (sAlu f sd sa sb) nopSyl)) :
    exec i s = retires s e 1 (fun h => h.putS sd (f ((eng s e).sr sa) ((eng s e).sr sb))) :=
  exec_scalar_puts (fun _ _ g h => h.putS sd (f (g.sr sa) (g.sr sb))) hi hrun

/-- sd takes the operation of sa and the immediate (R214). -/
theorem exec_sImm (f : Word → Word) {sd sa : Nat} (hrun : engState s e = esRUN) (hi : exec i s = doneAll s (issue e (sImm f sd sa) nopSyl)) :
    exec i s = retires s e 1 (fun h => h.putS sd (f ((eng s e).sr sa))) :=
  exec_scalar_puts (fun _ _ g h => h.putS sd (f (g.sr sa))) hi hrun

end Scalar

/-! ## The operations of R214 as comparisons of numbers -/

theorem boolWord_decide (p : Prop) [Decidable p] : boolWord (decide p) = if p then 1 else 0 := by
  unfold boolWord
  simp only [decide_eq_true_eq]

theorem opMin_le (a b : Word) : opMin a b = if a.toInt ≤ b.toInt then a else b := by
  unfold opMin
  rcases Int.lt_trichotomy a.toInt b.toInt with h | h | h
  · rw [if_pos h, if_pos (Int.le_of_lt h)]
  · rw [BitVec.eq_of_toInt_eq h, ite_self, ite_self]
  · rw [if_neg (by omega), if_neg (by omega)]

theorem opMax_le (a b : Word) : opMax a b = if b.toInt ≤ a.toInt then a else b := by
  unfold opMax
  by_cases h : a.toInt < b.toInt
  · rw [if_pos h, if_neg (by omega)]
  · rw [if_neg h, if_pos (by omega)]

/-- Settles O24: the scalar operations that only write a register. -/
theorem scalarOperationsRetire : Obligations.ScalarOperationsRetire := by
  unfold Obligations.ScalarOperationsRetire
  refine ⟨fun s e sd sa sb hrun => ?_, fun s e sd sa imm w hrun => ?_⟩
  · have hslt := exec_sAlu (i := .slt e sd sa sb 0) opSlt hrun rfl
    have hsltu := exec_sAlu (i := .sltu e sd sa sb 0) opSltu hrun rfl
    have hmin := exec_sAlu (i := .min e sd sa sb 0) opMin hrun rfl
    have hmax := exec_sAlu (i := .max e sd sa sb 0) opMax hrun rfl
    rw [opSlt, boolWord_decide] at hslt
    rw [opSltu, boolWord_decide] at hsltu
    rw [opMin_le] at hmin
    rw [opMax_le] at hmax
    exact ⟨exec_scalar_puts (fun _ _ _ => id) rfl hrun, exec_sAlu (· + ·) hrun rfl, exec_sAlu (· - ·) hrun rfl, exec_sAlu (· &&& ·) hrun rfl,
      exec_sAlu (· ||| ·) hrun rfl, exec_sAlu (· ^^^ ·) hrun rfl, exec_sAlu opSll hrun rfl, exec_sAlu opSrl hrun rfl, exec_sAlu opSra hrun rfl, hslt,
      hsltu, exec_sAlu (· * ·) hrun rfl, exec_sAlu opMulh hrun rfl, exec_sAlu opMulhu hrun rfl, hmin, hmax⟩
  · have hslti := exec_sImm (i := .slti e sd sa imm 0) (fun x => opSlt x (sext imm)) hrun rfl
    rw [opSlt, boolWord_decide] at hslti
    exact ⟨exec_sImm (fun _ => w) (sa := 0) hrun rfl, exec_sImm (fun _ => zext imm <<< 16) (sa := 0) hrun rfl, exec_sImm (· + sext imm) hrun rfl,
      exec_sImm (· &&& zext imm) hrun rfl, exec_sImm (· ||| zext imm) hrun rfl, exec_sImm (· ^^^ zext imm) hrun rfl,
      exec_sImm (fun x => opSll x (zext imm)) hrun rfl, exec_sImm (fun x => opSrl x (zext imm)) hrun rfl,
      exec_sImm (fun x => opSra x (zext imm)) hrun rfl, hslti,
      exec_scalar_puts (fun s e g h => h.putS sd (specialRead s e (imm.toNat % 16) g)) rfl hrun,
      exec_scalar_puts (fun _ _ g => specialWrite (imm.toNat % 16) (g.sr sa)) rfl hrun⟩

/-- Settles O22: the fixed registers, the special ones, and what both syllables of a bundle read. -/
theorem fixedAndSpecialRegistersRead : Obligations.FixedAndSpecialRegistersRead := by
  unfold Obligations.FixedAndSpecialRegistersRead
  refine ⟨fun g v => ⟨g.sr_zero, g.putS_zero v, g.pr_zero, g.putP_zero v⟩, fun s e g v => ⟨rfl, rfl, rfl, rfl, rfl, rfl, fun k hk => ?_⟩,
    fun s e pg vd sd sa sb f h => rfl⟩
  rcases hk with hk | rfl
  · interval_cases k <;> rfl
  · rfl

end Sys2Proof.Machine
end

section
/-! PROOFS of the statements on branches and loops and on the vector operations of lanes (06_steep_engines.md R213 to R217). -/

namespace Sys2Proof.Machine

/-! ## Branches, jumps and loops (R214, R215) -/

section Branches

variable {s : State} {e : Nat} {i : Instr}

/-- A conditional branch: taken, it goes on at its target and leaves the loops whose body the target leaves. -/
theorem exec_sBranch (cond : Nat) {sa sb : Nat} {off : BitVec 16} (hrun : engState s e = esRUN)
    (hi : exec i s = doneAll s (issue e (sBranch cond sa sb off) nopSyl)) : exec i s = if condHolds cond ((eng s e).sr sa) ((eng s e).sr sb)
      then .next (runEffs (retire s e 3 id ((engPC s e + (sext off).toNat) % 4096, leaveLoops ((engPC s e + (sext off).toNat) % 4096) (eng s e).loops)) wakeAll)
      else retires s e 3 id := by
  cases hcond : condHolds cond ((eng s e).sr sa) ((eng s e).sr sb)
  case true =>
    refine exec_scalar (r := { resNone with jump := some ((engPC s e + (sext off).toNat) % 4096) }) hi hrun ?_ rfl rfl rfl rfl rfl rfl rfl rfl rfl
    simp only [sBranch, syl, hcond, if_true]
  case false =>
    refine exec_scalar (r := resNone) hi hrun ?_ rfl rfl rfl rfl rfl rfl rfl rfl rfl
    simp only [sBranch, syl, hcond, Bool.false_eq_true, if_false]
    rfl

/-- LOOP of a body of some bundles opens a level. -/
theorem exec_sLoop_opens {sa : Nat} {imm : BitVec 16} (hrun : engState s e = esRUN) (hi : exec i s = doneAll s (issue e (sLoop sa imm) nopSyl))
    (hroom : (eng s e).loops.length < 2) (hruns : (eng s e).sr sa ≠ 0) (hbody : imm.toNat % 4096 ≠ 0) :
    exec i s = .next (runEffs (retire s e 1 id ((engPC s e + 1) % 4096,
      ⟨(engPC s e + 1) % 4096, imm.toNat % 4096, ((eng s e).sr sa).toNat⟩ :: (eng s e).loops)) wakeAll) := by
  have hsome : ((eng s e).sr sa).toNat ≠ 0 := fun h => hruns (BitVec.eq_of_toNat_eq h)
  refine exec_scalar (r := { resNone with body := some (imm.toNat % 4096, ((eng s e).sr sa).toNat) }) hi hrun ?_ rfl rfl rfl rfl rfl rfl rfl rfl rfl
  show (if 2 ≤ (eng s e).loops.length then _ else _) = _
  rw [if_neg (by omega), if_neg hsome, if_neg hbody]

/-- LOOP of 0 runs skips the body. -/
theorem exec_sLoop_skips {sa : Nat} {imm : BitVec 16} (hrun : engState s e = esRUN) (hi : exec i s = doneAll s (issue e (sLoop sa imm) nopSyl))
    (hroom : (eng s e).loops.length < 2) (hruns : (eng s e).sr sa = 0) :
    exec i s = .next (runEffs (retire s e 1 id (seqNext ((engPC s e + imm.toNat % 4096) % 4096) (eng s e).loops)) wakeAll) := by
  refine exec_scalar (r := { resNone with skip := some (imm.toNat % 4096) }) hi hrun ?_ rfl rfl rfl rfl rfl rfl rfl rfl rfl
  show (if 2 ≤ (eng s e).loops.length then _ else _) = _
  rw [if_neg (by omega), hruns]
  rfl

end Branches

/-- Settles O26: branches by their conditions, jumps, and the two cases of LOOP. -/
theorem branchesGoOn : Obligations.BranchesGoOn := by
  unfold Obligations.BranchesGoOn
  intro s e hrun
  refine ⟨fun sa sb off => ⟨?_, ?_, ?_, ?_, ?_, ?_⟩, fun off => ?_, fun sd sa imm => ?_, fun sa imm hroom hruns hbody => ?_, fun sa imm hroom hruns => ?_⟩
  · exact exec_sBranch 0 hrun rfl
  · exact exec_sBranch 1 hrun rfl
  · exact exec_sBranch 2 hrun rfl
  · exact exec_sBranch 3 hrun rfl
  · exact exec_sBranch 4 hrun rfl
  · exact exec_sBranch 5 hrun rfl
  · exact exec_scalar (sy := sJal off) (r := { resNone with
      put := fun h => h.putS 31 (BitVec.ofNat 32 (engPC s e + 1)), jump := some ((engPC s e + (off.signExtend 32 : Word).toNat) % 4096) })
      rfl hrun rfl rfl rfl rfl rfl rfl rfl rfl rfl rfl
  · exact exec_scalar (sy := sJalr sd sa imm) (r := { resNone with
      put := fun h => h.putS sd (BitVec.ofNat 32 (engPC s e + 1)), jump := some (((eng s e).sr sa + sext imm).toNat % 4096) })
      rfl hrun rfl rfl rfl rfl rfl rfl rfl rfl rfl rfl
  · exact exec_sLoop_opens hrun rfl hroom hruns hbody
  · exact exec_sLoop_skips hrun rfl hroom hruns

/-! ## A vector operation beside a NOP (R213, R216) -/

section Vector

variable {s : State} {e : Nat} {i : Instr}

/-- A vector operation of lanes: each guarded lane of vd takes its value, and the engine goes on. -/
theorem exec_vMap {pg vd : Nat} {uses : List Nat} (f : Engine → Nat → Word) {vy : Syl} (hi : exec i s = doneAll s (issue e nopSyl vy))
    (hvy : vy = vMap pg vd uses f) (hrun : engState s e = esRUN) (hfree : ∀ c ∈ s.stp.calls, c.engine ≠ e) :
    exec i s = retires s e 1 (fun h => h.putLanes vd (((eng s e).guarded pg).map (fun i => (i, f (eng s e) i)))) := by
  subst hvy
  obtain ⟨hissues, -⟩ := exec_issue hi
  have hgoes : issues s e nopSyl (vMap pg vd uses f) := ⟨hrun, rfl, rfl, rfl, locked_of_no_call hfree _, rfl, rfl, rfl, rfl⟩
  rw [hissues hgoes, bundleState_retires (a := resNone) (b := resPut _) rfl rfl rfl rfl rfl rfl rfl]
  rfl

end Vector

/-- Settles O28: the operations of lanes, and what a guarded write leaves. -/
theorem vectorLanesTakeTheirResults : Obligations.VectorLanesTakeTheirResults := by
  unfold Obligations.VectorLanesTakeTheirResults
  refine ⟨fun s e pg vd va vb hrun hfree => ?ops, fun g h pg n i f hwf hi => ?lanes⟩
  case lanes =>
    obtain ⟨hsame, hother⟩ := Engine.lane_putLanes_guarded n g hwf pg f hi
    exact ⟨hsame, hother, Engine.putLanes_wf n _ hwf⟩
  case ops =>
    have each : ∀ (i : Instr) (uses : List Nat) (f : Engine → Nat → Word), exec i s = doneAll s (issue e nopSyl (vMap pg vd uses f)) →
        exec i s = retires s e 1 (fun h => h.putLanes vd (((eng s e).guarded pg).map (fun i => (i, f (eng s e) i)))) := fun i uses f hi =>
      exec_vMap f hi rfl hrun hfree
    have two : ∀ (i : Instr) (f : Word → Word → Word), exec i s = doneAll s (issue e nopSyl (vAlu f pg vd va vb)) →
        exec i s = retires s e 1 (fun h => h.putLanes vd (((eng s e).guarded pg).map (fun i => (i, f ((eng s e).lane va i) ((eng s e).lane vb i))))) :=
      fun i f hi => each i [va, vb] (fun g i => f (g.lane va i) (g.lane vb i)) hi
    have one : ∀ (i : Instr) (f : Word → Word), exec i s = doneAll s (issue e nopSyl (vUn f pg vd va)) →
        exec i s = retires s e 1 (fun h => h.putLanes vd (((eng s e).guarded pg).map (fun i => (i, f ((eng s e).lane va i))))) :=
      fun i f hi => each i [va] (fun g i => f (g.lane va i)) hi
    refine ⟨exec_scalar_puts (fun _ _ _ => id) rfl hrun, two _ (· + ·) rfl, two _ (· - ·) rfl, two _ (fun x y => satWord false (x.toInt + y.toInt)) rfl,
      two _ (fun x y => satWord false (x.toInt - y.toInt)) rfl, two _ (fun x y => satWord true ((x.toNat : Int) + y.toNat)) rfl,
      two _ (fun x y => satWord true ((x.toNat : Int) - y.toNat)) rfl, two _ (· &&& ·) rfl, two _ (· ||| ·) rfl, two _ (· ^^^ ·) rfl,
      two _ opSll rfl, two _ opSrl rfl, two _ opSra rfl, two _ (· * ·) rfl, two _ opMulh rfl, two _ opMulhu rfl, ?_, ?_, ?_, ?_,
      fun imm => ⟨one _ (· + sext imm) rfl, one _ (· &&& sext imm) rfl, one _ (fun x => opSll x (zext imm)) rfl,
        one _ (fun x => opSrl x (zext imm)) rfl, one _ (fun x => opSra x (zext imm)) rfl⟩,
      one _ id rfl, each _ [] (fun _ i => BitVec.ofNat 32 i) rfl, each _ [va, vb] (fun g i => g.lane va ((g.lane vb i).toNat % 32)) rfl,
      fun md => ⟨each _ [] (fun g _ => g.sr md) rfl, ?_⟩, fun md hmd => ?_⟩
    · simpa only [decide_eq_true_eq] using two (.vmin e pg vd va vb 0 0) (fun x y => if decide (x.toInt < y.toInt) then x else y) rfl
    · simpa only [decide_eq_true_eq] using two (.vmax e pg vd va vb 0 0) (fun x y => if decide (x.toInt < y.toInt) then y else x) rfl
    · simpa only [decide_eq_true_eq] using two (.vmin e pg vd va vb 1 0) (fun x y => if decide (x.toNat < y.toNat) then x else y) rfl
    · simpa only [decide_eq_true_eq] using two (.vmax e pg vd va vb 1 0) (fun x y => if decide (x.toNat < y.toNat) then y else x) rfl
    · exact each _ [va, vb] (fun g i => if 0 ≤ (i : Int) + toSigned 5 md ∧ (i : Int) + toSigned 5 md < 32
        then g.lane va ((i : Int) + toSigned 5 md).toNat else g.lane vb (((i : Int) + toSigned 5 md) % 32).toNat) rfl
    · refine exec_vMap (fun g i => opMin (opMax (g.lane va i) (g.sr md)) (g.sr (md + 1))) rfl (uses := [va]) ?_ hrun hfree
      rw [vClamp, decide_eq_false (by omega)]
      rfl

end Sys2Proof.Machine
end

section
/-! PROOFS of the statements on the frame of scalar operations and on waits and tickets (06_steep_engines.md R214, R238 to R243): the registers of an
engine's window (R261), and what an engine is after its updates. -/

namespace Sys2Proof.Machine

/-! ## The registers of an engine's window (R261) -/

/-- A row of a word of every engine's window that stands in a window elsewhere than offset `off`. -/
def besideEngine (off : Nat) (q : RegRow) : Bool := q.strides == [(0x1000, 96)] && decide (q.base < 0x00500000 + off) && decide (off < 0x1000)
  && decide (0x00500000 ≤ q.base)

theorem strideIdx_besideEngine {off : Nat} {q : RegRow} (h : besideEngine off q = true) (e : Nat) :
    strideIdx q.strides (0x00500000 + off + 0x1000 * e - q.base) = none := by
  simp only [besideEngine, Bool.and_eq_true, beq_iff_eq, decide_eq_true_eq] at h
  obtain ⟨⟨⟨hstrides, hbase⟩, hoff⟩, hlow⟩ := h
  have hrest : (0x00500000 + off + 0x1000 * e - q.base) % 0x1000 ≠ 0 := by omega
  rw [hstrides, strideIdx]
  split
  · rw [strideIdx, if_neg hrest, Option.map_none]
  · rfl

/-- A word of engine `e`'s window whose row stands behind rows of other words. -/
theorem regImpl_engineRow {k off : Nat} {r : RegRow} (hrows : rowsEng = rowsEng.take k ++ r :: rowsEng.drop (k + 1))
    (hr : r.base = 0x00500000 + off ∧ r.strides = [(0x1000, 96)] ∧ off % 4 = 0 ∧ off < 0x1000)
    (hbeside : ∀ q ∈ rowsEng.take k, besideEngine off q = true) {e : Nat} (he : e < 96) : regImpl (0x00500000 + off + 0x1000 * e) = rowImpl r := by
  obtain ⟨hbase, hstrides, haligned, hoff⟩ := hr
  have hblockRows : blockRows (0x00500000 + off + 0x1000 * e) = rowsEng.take k ++ r :: rowsEng.drop (k + 1) := by
    have hblock : (0x00500000 + off + 0x1000 * e) / 0x100000 = 5 := by omega
    unfold blockRows
    rw [hblock]
    exact hrows
  refine regImpl_of_row hblockRows (by omega) (fun q hq => strideIdx_besideEngine (hbeside q hq) e) (by omega) (ix := [e]) ?_
  have hplace : 0x00500000 + off + 0x1000 * e - r.base = 0x1000 * e := by omega
  rw [hstrides, hplace, strideIdx, if_pos (by omega), Nat.mul_mod_right, Nat.mul_div_cancel_left e (by decide)]
  rfl

theorem regImpl_engStatus {e : Nat} (he : e < 96) : regImpl (Reg.ENG_STATUS e) = 0xF7FF0FFF :=
  (regImpl_engineRow (k := 2) (off := 8) (r := rowsEng[2]) rfl ⟨rfl, rfl, by decide, by decide⟩ (by decide) he).trans (by decide)

theorem regImpl_engFault {e : Nat} (he : e < 96) : regImpl (Reg.ENG_FAULT e) = 0xFFFFFFFF :=
  (regImpl_engineRow (k := 3) (off := 12) (r := rowsEng[3]) rfl ⟨rfl, rfl, by decide, by decide⟩ (by decide) he).trans (by decide)

section Status

variable {e : Nat} (he : e < 96)
include he

theorem engState_implemented : regImpl (Reg.ENG_STATUS e) &&& Fld.ENG_STATUS_STATE.mask = Fld.ENG_STATUS_STATE.mask := by
  rw [regImpl_engStatus he]
  decide

theorem engPC_implemented : regImpl (Reg.ENG_STATUS e) &&& Fld.ENG_STATUS_PC.mask = Fld.ENG_STATUS_PC.mask := by
  rw [regImpl_engStatus he]
  decide

variable {s : State} (hs : s.Inv)
include hs

theorem engState_engTo {st : Nat} (hst : st < 8) : engState (applyAct s (engTo e st)) e = st :=
  (rf_fld (regsWf_of_inv hs) _ _ st (by decide) (engState_implemented he)).trans (Nat.mod_eq_of_lt hst)

theorem engState_setPC (n : Nat) : engState (applyAct s (.fld (Reg.ENG_STATUS e) Fld.ENG_STATUS_PC n)) e = engState s e :=
  rf_fld_other (regsWf_of_inv hs) _ _ _ n (by decide) (engState_implemented he) (by decide)

theorem engPC_setPC (n : Nat) : engPC (applyAct s (.fld (Reg.ENG_STATUS e) Fld.ENG_STATUS_PC n)) e = n % 4096 :=
  rf_fld (regsWf_of_inv hs) _ _ n (by decide) (engPC_implemented he)

theorem engPC_engTo (st : Nat) : engPC (applyAct s (engTo e st)) e = engPC s e :=
  rf_fld_other (regsWf_of_inv hs) _ _ _ st (by decide) (engPC_implemented he) (by decide)

end Status

/-! ## An engine after its updates -/

/-- What an update makes of engine `q`. -/
def Act.onEng (q : Nat) (x : Act) (g : Engine) : Engine :=
  match x with
  | .eng i f => if i = q then f g else g
  | _ => g

theorem eng_applyAct {s : State} (hs : s.Inv) (x : Act) (q : Nat) : eng (applyAct s x) q = x.onEng q (eng s q) := by
  cases x with
  | eng i f =>
    by_cases h : i = q
    · subst h
      exact (get_eng_same hs i f).trans (if_pos rfl).symm
    · exact (get_eng_other s i q f (Ne.symm h)).trans (if_neg h).symm
  | _ => simp [Act.onEng, eng]

/-- An engine is what the updates of a list make of it one after another. -/
theorem eng_applyActs {s : State} (hs : s.Inv) (xs : List Act) (q : Nat) : eng (applyActs s xs) q = xs.foldl (fun g x => x.onEng q g) (eng s q) := by
  induction xs generalizing s with
  | nil => rfl
  | cons x xs ih => rw [applyActs_cons, ih (applyAct_inv s x hs), eng_applyAct hs, List.foldl_cons]

/-- The engine that retires a bundle has its results and the loops that stay open. -/
theorem eng_retire_same {s : State} (hs : s.Inv) (e c : Nat) (put : Engine → Engine) (n : Nat × List LoopLevel) :
    eng (retire s e c put n) e = { put (eng s e) with loops := n.2 } :=
  (eng_applyActs hs _ e).trans (by simp [cycleActs, Act.onEng])

theorem eng_retire_other {s : State} (hs : s.Inv) {e q : Nat} (h : q ≠ e) (c : Nat) (put : Engine → Engine) (n : Nat × List LoopLevel) :
    eng (retire s e c put n) q = eng s q :=
  (eng_applyActs hs _ q).trans (by simp [cycleActs, Act.onEng, Ne.symm h])

theorem rd_retire (s : State) (e c : Nat) (put : Engine → Engine) (n : Nat × List LoopLevel) {a : Nat}
    (ha : a ∉ [Reg.ENG_STATUS e, Reg.ENG_CYCLES_LO e, Reg.ENG_CYCLES_HI e, Reg.ENG_STALL e]) : rd (retire s e c put n) a = rd s a := by
  simp only [List.mem_cons, List.not_mem_nil, or_false, not_or] at ha
  obtain ⟨hstatus, hlo, hhi, hstall⟩ := ha
  refine rd_applyActs_other s _ a ?_
  simp [cycleActs, Act.mayReg, Ne.symm hstatus, Ne.symm hlo, Ne.symm hhi, Ne.symm hstall]

/-! ## Waits that end with a bundle -/

theorem waiting_congr {s t : State} (hfuses : t.fuses = s.fuses) (hwait : ∀ q, (eng t q).wait = (eng s q).wait) : waiting t = waiting s := by
  unfold waiting allEngines
  rw [hfuses]
  exact List.filter_congr fun q _ => by rw [hwait q]

/-- Where no engine waits, no wait ends. -/
theorem runEffs_wakeAll_idle {s : State} (h : waiting s = []) : runEffs s wakeAll = s := by
  have hbar : releaseBarriers s = [] := by rw [releaseBarriers, h, List.flatMap_nil]
  simp only [wakeAll, runEffs_cons, runEffs_nil, hbar, applyActs_nil, h, List.map_nil, seqE]

/-- A bundle that leaves its engine's wait, with no engine waiting. -/
theorem retires_idle {s : State} (hs : s.Inv) (hidle : waiting s = []) (e c : Nat) {put : Engine → Engine} (hput : ∀ g, (put g).wait = g.wait) :
    retires s e c put = .next (retire s e c put (onward s e)) := by
  have hwait : waiting (retire s e c put (onward s e)) = waiting s := waiting_congr rfl fun q => by
    by_cases hq : q = e
    · rw [hq, eng_retire_same hs]
      exact hput _
    · rw [eng_retire_other hs hq]
  exact congrArg Host.Outcome.next (runEffs_wakeAll_idle (hwait.trans hidle))

/-! ## The frame of a scalar operation (R214) -/

/-- The operations of the list write sd and go on. -/
theorem scalarOperation_retires {s : State} {e : Fin 96} (hrun : engState s e = esRUN) (sd sa sb : Fin 32) (imm : BitVec 16) :
    ∀ i ∈ ([.add e sd sa sb 0, .sub e sd sa sb 0, .and e sd sa sb 0, .or e sd sa sb 0, .xor e sd sa sb 0, .sll e sd sa sb 0, .srl e sd sa sb 0,
      .sra e sd sa sb 0, .slt e sd sa sb 0, .sltu e sd sa sb 0, .mul e sd sa sb 0, .mulh e sd sa sb 0, .mulhu e sd sa sb 0, .min e sd sa sb 0,
      .max e sd sa sb 0, .addi e sd sa imm 0, .andi e sd sa imm 0, .ori e sd sa imm 0, .xori e sd sa imm 0, .slli e sd sa imm 0,
      .srli e sd sa imm 0, .srai e sd sa imm 0, .slti e sd sa imm 0, .lui e sd imm 0] : List Instr),
      ∃ v, exec i s = retires s e 1 (fun h => h.putS sd v) := by
  have halu : ∀ {i : Instr} {f : Word → Word → Word}, exec i s = doneAll s (issue e (sAlu f sd sa sb) nopSyl) →
      ∃ v, exec i s = retires s e 1 (fun h => h.putS sd v) := fun hi => ⟨_, exec_sAlu _ hrun hi⟩
  have himm : ∀ {i : Instr} {f : Word → Word} {a : Nat}, exec i s = doneAll s (issue e (sImm f sd a) nopSyl) →
      ∃ v, exec i s = retires s e 1 (fun h => h.putS sd v) := fun hi => ⟨_, exec_sImm _ hrun hi⟩
  iterate 15 refine List.forall_mem_cons.2 ⟨halu rfl, ?_⟩
  iterate 9 refine List.forall_mem_cons.2 ⟨himm rfl, ?_⟩
  exact List.forall_mem_nil _

/-- Settles O30: the bundle retires with one register written, and no wait ends. -/
theorem scalarOperationsFrame : Obligations.ScalarOperationsFrame := by
  unfold Obligations.ScalarOperationsFrame
  intro s t e sd sa sb imm i hs hrun hidle hi hexec
  obtain ⟨v, hv⟩ := scalarOperation_retires hrun sd sa sb imm i hi
  have hputS : ∀ g : Engine, ∃ m, g.putS sd v = { g with s := m } := fun g => g.putS_eq sd v
  have ht : t = retire s e 1 (fun h => h.putS sd v) (onward s e) := by
    refine (Host.Outcome.next.inj (hexec.symm.trans (hv.trans (retires_idle hs hidle e 1 fun g => ?_))))
    obtain ⟨m, hm⟩ := hputS g
    rw [hm]
  subst ht
  obtain ⟨m, hm⟩ := hputS (eng s e)
  have heng := eng_retire_same hs e 1 (fun h => h.putS sd v) (onward s e)
  refine ⟨sameMemory_applyActs s _ rfl, fun q hq => eng_retire_other hs hq _ _ _, fun n hn => ?sr, fun n j => ?lane, fun n => ?pr, ?sticky,
    fun a ha => rd_retire s e 1 _ _ ha, rfl, rfl, rfl, rfl, rfl, rfl, rfl⟩
  case sr =>
    rw [heng]
    exact (eng s e).sr_putS_other sd v hn
  all_goals simp only [heng, hm, Engine.lane, Engine.pr]

end Sys2Proof.Machine
end

section
/-! PROOFS of the statements on waits and tickets and on scalar memory accesses (06_steep_engines.md R214, R224 to R226, R238 to R243). -/

namespace Sys2Proof.Machine

/-! ## Waiting operations (R228, R238, R239, R243) -/

/-- A waiting operation alone: clocks are counted, and the engine waits. -/
theorem bundleState_waits {s : State} {e : Nat} {sy : Syl} {w : EngWait} (hr : sy.run s e (eng s e) = { resNone with wait := some w }) :
    bundleState s e sy nopSyl = applyActs s (cycleActs s e (max sy.clocks 1)
      ++ [.eng e (fun h => h), .eng e (fun h => { h with wait := some w }), engTo e esWAIT]) := by
  rw [bundleState]
  simp only [hr]
  exact congrArg (applyActs s) (by simp [nopSyl, syl, resNone])

section Waits

variable {s : State} (hs : s.Inv) {e : Nat}
include hs

theorem wait_of_bundle {sy : Syl} {w : EngWait} (hr : sy.run s e (eng s e) = { resNone with wait := some w }) :
    (eng (bundleState s e sy nopSyl) e).wait = some w := by
  rw [bundleState_waits hr, eng_applyActs hs]
  simp [cycleActs, Act.onEng, engTo]

theorem engState_of_waiting_bundle (he : e < 96) {sy : Syl} {w : EngWait} (hr : sy.run s e (eng s e) = { resNone with wait := some w }) :
    engState (bundleState s e sy nopSyl) e = esWAIT := by
  rw [bundleState_waits hr, applyActs_append]
  exact engState_engTo he (applyAct_inv _ _ (applyAct_inv _ _ (applyActs_inv s _ hs))) (by decide)

/-- HALT leaves its engine in HALT (R214). -/
theorem engState_of_halt (he : e < 96) : engState (bundleState s e sHalt nopSyl) e = esHALT := by
  have hbundle : bundleState s e sHalt nopSyl = applyActs s (cycleActs s e 1 ++ [engTo e esHALT, .eng e id,
      .eng e (fun h => { h with loops := (onward s e).2 }), .fld (Reg.ENG_STATUS e) Fld.ENG_STATUS_PC (onward s e).1]) := rfl
  have hcount := applyActs_inv s (cycleActs s e 1) hs
  have hhalt := applyAct_inv _ (engTo e esHALT) hcount
  rw [hbundle, applyActs_append]
  exact (engState_setPC he (applyAct_inv _ _ (applyAct_inv _ _ hhalt)) _).trans (engState_engTo he hcount (by decide))

/-- A wait that ends: the engine has its result, goes on after its bundle, and runs (R214). -/
theorem finishWait_goes (he : e < 96) (pre : Engine → Engine) (sd : Nat) (v : Word) {t : State}
    (ht : applyActs s (.eng e pre :: finishWait s e (some (sd, v))) = t) :
    eng t e = { (pre (eng s e)).putS sd v with wait := none, loops := (onward s e).2 }
      ∧ engState t e = esRUN ∧ engPC t e = (onward s e).1 % 4096 := by
  subst ht
  have hpc := applyAct_inv _ (.fld (Reg.ENG_STATUS e) Fld.ENG_STATUS_PC (onward s e).1) (applyAct_inv _ (.eng e (fun g =>
    { g.putS sd v with wait := none, loops := (onward s e).2 })) (applyAct_inv s (.eng e pre) hs))
  refine ⟨?_, engState_engTo he hpc (by decide), (engPC_engTo he hpc esRUN).trans (engPC_setPC he (applyAct_inv _ _ (applyAct_inv s _ hs)) _)⟩
  rw [eng_applyActs hs]
  simp [finishWait, Act.onEng, engTo, onward]

end Waits

/-- A WAITEV whose mask meets a latched bit ends (R238). -/
theorem wakeEngine_latched {s : State} {e sd mask : Nat} (hwait : (eng s e).wait = some (.ev mask sd)) (hhit : (eng s e).evt &&& BitVec.ofNat 8 mask ≠ 0) :
    wakeEngine e s = .eng e (fun g => { g with evt := g.evt &&& ~~~((eng s e).evt &&& BitVec.ofNat 8 mask) })
      :: finishWait s e (some (sd, ((eng s e).evt &&& BitVec.ofNat 8 mask).zeroExtend 32)) := by
  simp only [wakeEngine, hwait, if_neg hhit]

/-! ## TKGET (R240, R241) -/

theorem sTkget_none {s : State} {e : Nat} (h : nextTicket s e = none) (sd : Nat) (g : Engine) : (sTkget sd).run s e g
    = resPut (fun h => (((h.putS sd 0).putS (sd + 1) 0).putS (sd + 2) 0).putS (sd + 3) 0) := by
  simp only [sTkget, Syl.unless, syl, h]

/-- The ticket that TKGET gives is replaced by one that the engine holds. -/
def ticketTaken (s : State) (e : Nat) (k : Ticket) : List Act :=
  setTicket s k (fun q => { q with state := .held, engine := some e, heldAt := now s })

theorem sTkget_some {s : State} {e : Nat} {k : Ticket} (h : nextTicket s e = some k) (sd : Nat) (g : Engine) : (sTkget sd).run s e g
    = { resPut (fun h => (((h.putS sd (ticketWords s e k).1).putS (sd + 1) (ticketWords s e k).2.1).putS (sd + 2) (ticketWords s e k).2.2.1).putS (sd + 3)
          (ticketWords s e k).2.2.2) with mem := ticketTaken s e k ++ queueRegs (applyActs s (ticketTaken s e k)) } := by
  simp only [sTkget, Syl.unless, syl, h]
  rfl

theorem queued_of_nextTicket {s : State} {e : Nat} {k : Ticket} (h : nextTicket s e = some k) : k ∈ s.stp.tickets ∧ k.state = .queued := by
  have hk := List.find?_some h
  simp only [Bool.and_eq_true, beq_iff_eq] at hk
  obtain ⟨⟨hstate, -⟩, -⟩ := hk
  exact ⟨List.mem_of_find?_eq_some h, hstate⟩

/-- The registers of the queues leave the tickets. -/
theorem tickets_queueRegs (s : State) : (applyActs s (queueRegs s)).stp.tickets = s.stp.tickets := rfl

/-- The ticket taken is HELD by the engine. -/
theorem ticketTaken_held {s : State} {e : Nat} {k : Ticket} (hk : k ∈ s.stp.tickets) :
    ∃ k' ∈ (applyActs s (ticketTaken s e k)).stp.tickets, k'.region = k.region ∧ k'.state = .held ∧ k'.engine = some e := by
  have hsame : sameTicket s k k = true := by simp [sameTicket]
  refine ⟨_, List.mem_map.2 ⟨k, hk, rfl⟩, ?_⟩
  simp only [hsame, if_true, and_self]

/-- Settles O27: waits and HALT by the bundle alone, a latched event, and TKGET by the ticket found. -/
theorem waitsAndTicketsAreKept : Obligations.WaitsAndTicketsAreKept := by
  unfold Obligations.WaitsAndTicketsAreKept
  refine ⟨fun s e hs he hrun _ => ⟨fun sd sa sb imm => ?waits, engState_of_halt hs he⟩, fun s e sd mask hs hwait hhit => ?latched,
    fun s e sd h hsd => ⟨fun hnone => ?noTicket, fun k hk => ?ticket⟩⟩
  case waits =>
    exact ⟨wait_of_bundle hs rfl, wait_of_bundle hs rfl, wait_of_bundle hs rfl, wait_of_bundle hs rfl, wait_of_bundle hs rfl,
      engState_of_waiting_bundle hs he rfl⟩
  case latched => exact finishWait_goes hs e.isLt _ _ _ (congrArg (applyActs s) (wakeEngine_latched hwait hhit).symm)
  case noTicket =>
    rw [sTkget_none hnone]
    exact ⟨rfl, rfl⟩
  case ticket =>
    obtain ⟨hmem, hqueued⟩ := queued_of_nextTicket hk
    rw [sTkget_some hk]
    refine ⟨hqueued, rfl, ?_⟩
    show ∃ k' ∈ (applyActs s (ticketTaken s e k ++ queueRegs (applyActs s (ticketTaken s e k)))).stp.tickets, _
    rw [applyActs_append, tickets_queueRegs]
    exact ticketTaken_held hmem

/-! ## Scalar memory accesses (R214, R224 to R226) -/

section Memory

variable {s : State} {e : Nat} {g : Engine} {sd sa size a : Nat} {imm : BitVec 16}

theorem sLoad_reaches (hok : spaceAccess s (e / 6) (g.sr sa + sext imm).toNat size = .ok a) (hue : bankUE s a size = false) :
    (sLoad size sd sa imm).run s e g = { resNone with
      put := fun h => h.putS sd (BitVec.ofNat 32 (leValue (sramRead s a size))), mem := bankArrive (a / 0x40000) s ++ bankReadActs s a size, ue := false } := by
  simp only [sLoad, syl, hok, hue, Bool.false_eq_true, if_false]

theorem sStore_reaches (hok : spaceAccess s (e / 6) (g.sr sa + sext imm).toNat size = .ok a) :
    (sStore size sd sa imm).run s e g = { resNone with
      mem := bankArrive (a / 0x40000) s ++ bankWrite s a (leBytes size (g.sr sd).toNat), ue := bankWriteUE s a (leBytes size (g.sr sd).toNat) } := by
  simp only [sStore, syl, hok]

theorem sAmo_reaches {sb : Nat} (f : Word → Word → Word) (hok : spaceAccess s (e / 6) (g.sr sa).toNat 4 = .ok a) (hue : bankUE s a 4 = false) :
    (sAmo f sd sa sb).run s e g = { resNone with
      put := fun h => h.putS sd (BitVec.ofNat 32 (leValue (sramRead s a 4)))
      mem := bankArrive (a / 0x40000) s ++ bankWrite s a (leBytes 4 (f (BitVec.ofNat 32 (leValue (sramRead s a 4))) (g.sr sb)).toNat) } := by
  simp only [sAmo, syl, hok, hue, Bool.false_eq_true, if_false]

/-- A load or store that its address stops faults with the address's code. -/
theorem sLoad_sStore_fault {c : Nat} (hbad : spaceAccess s (e / 6) (g.sr sa + sext imm).toNat size = .bad c) :
    ((sLoad size sd sa imm).run s e g).fault = some (c, 0) ∧ ((sStore size sd sa imm).run s e g).fault = some (c, 0) := by
  simp only [sLoad, sStore, syl, hbad, accessFault, and_self]

end Memory

section Space

variable {s : State} {c a size : Nat}

theorem spaceAccess_misaligned (h : a % size ≠ 0) : spaceAccess s c a size = .bad flMISALIGNED := if_pos h

theorem spaceAddr_local (h : a < 0x600000) : spaceAddr c a = some (0x40000 * 24 * c + a) := if_pos h

theorem spaceAddr_none (hlocal : 0x600000 ≤ a) (hshared : ¬ (0x01000000 ≤ a ∧ a < 0x01800000)) : spaceAddr c a = none :=
  (if_neg (by omega)).trans (if_neg hshared)

theorem spaceAccess_outside (haligned : a % size = 0) (hnone : spaceAddr c a = none) : spaceAccess s c a size = .bad flADDR_RANGE := by
  rw [spaceAccess, if_neg (not_not_intro haligned), hnone]

/-- An access that reaches a bank does so at the address that the data space gives. -/
theorem spaceAddr_of_ok {f : Nat} (h : spaceAccess s c a size = .ok f) : spaceAddr c a = some f := by
  unfold spaceAccess at h
  split at h
  · cases h
  · split at h
    · cases h
    · next f' hf =>
      split at h
      · cases h
      · rw [hf, Access.ok.inj h]

end Space

/-- Settles O25: accesses that reach their bank, accesses that fault, and the data space. -/
theorem scalarMemoryAccesses : Obligations.ScalarMemoryAccesses := by
  unfold Obligations.ScalarMemoryAccesses
  refine ⟨fun s e g h sd sa sb imm f size a => ⟨fun hok hue => ?load, fun hok => ?store, fun hok hue => ?atomic, fun hbad => sLoad_sStore_fault hbad⟩,
    fun s c a size => ⟨spaceAccess_misaligned, fun haligned hlocal hshared => spaceAccess_outside haligned (spaceAddr_none hlocal hshared),
      fun f hok hlocal => Option.some.inj ((spaceAddr_of_ok hok).symm.trans (spaceAddr_local hlocal))⟩⟩
  case load =>
    rw [sLoad_reaches hok hue]
    exact ⟨rfl, rfl⟩
  case store =>
    rw [sStore_reaches hok]
    exact ⟨rfl, rfl⟩
  case atomic =>
    rw [sAmo_reaches f hok hue]
    exact ⟨rfl, rfl⟩

end Sys2Proof.Machine
end

section
/-! PROOFS of the statements on faults of engines and on the program store (06_steep_engines.md R246 to R249, R255 to R261): what a fault records, and
that what follows it spares the engine. -/

namespace Sys2Proof.Machine

/-! ## Updates that spare an engine -/

/-- An update that leaves ENG_STATUS and ENG_FAULT of an engine, the engine itself and every memory. -/
def Act.sparesEngine (e : Nat) (x : Act) : Prop :=
  x.mayReg (Reg.ENG_STATUS e) = false ∧ x.mayReg (Reg.ENG_FAULT e) = false ∧ x.mayMem = false ∧ ∀ g, x.onEng e g = g

/-- What such updates leave. -/
def engView (s : State) (e : Nat) : Word × Word × Engine := (rd s (Reg.ENG_STATUS e), rd s (Reg.ENG_FAULT e), eng s e)

theorem engView_sparesEngine {e : Nat} {xs : List Act} (h : ∀ x ∈ xs, x.sparesEngine e) {s : State} (hs : s.Inv) :
    engView (applyActs s xs) e = engView s e :=
  applyActs_keeps (fun u => engView u e) (fun x hx u hu => by
    obtain ⟨hstatus, hfault, -, heng⟩ := h x hx
    rw [engView, engView, rd_applyAct_other u x _ hstatus, rd_applyAct_other u x _ hfault, eng_applyAct hu, heng]) hs

theorem noMem_sparesEngine {e : Nat} {xs : List Act} (h : ∀ x ∈ xs, x.sparesEngine e) : ∀ x ∈ xs, x.mayMem = false := fun x hx => by
  obtain ⟨-, -, hmem, -⟩ := h x hx
  exact hmem

/-- A register that is another one than the two. -/
def besideEngRegs (e a : Nat) : Prop := a ≠ Reg.ENG_STATUS e ∧ a ≠ Reg.ENG_FAULT e

theorem sparesEngine_of_reg {e a : Nat} (h : besideEngRegs e a) {x : Act} (hreg : ∀ r, r ≠ a → x.mayReg r = false) (hmem : x.mayMem = false)
    (heng : ∀ g, x.onEng e g = g) : x.sparesEngine e := by
  obtain ⟨hstatus, hfault⟩ := h
  exact ⟨hreg _ hstatus.symm, hreg _ hfault.symm, hmem, heng⟩

theorem sparesEngine_log {e : Nat} (he : e < 96) (r : PbRec) : (Act.log r).sparesEngine e := by
  have hbeside : besideEngRegs e Reg.PB_UNIT_LOST := by
    simp only [besideEngRegs, Reg.PB_UNIT_LOST, Reg.ENG_STATUS, Reg.ENG_FAULT]
    omega
  exact sparesEngine_of_reg hbeside (fun r hr => beq_eq_false_iff_ne.2 hr) rfl fun _ => rfl

/-- No event status register is a word of an engine's window. -/
theorem sparesEngine_evt (e : Nat) {blk : Nat} (hblk : blk = 5 ∨ blk = 10) (t b : Nat) : (Act.evt blk t b).sparesEngine e := by
  have hbeside : besideEngRegs e (evtStatus blk t) := by
    rcases hblk with rfl | rfl <;> simp only [besideEngRegs, evtStatus, Reg.ENG_EVT_STATUS, Reg.MEM_EVT_STATUS, Reg.ENG_STATUS, Reg.ENG_FAULT] <;> omega
  exact sparesEngine_of_reg hbeside (fun r hr => beq_eq_false_iff_ne.2 (Ne.symm hr)) rfl fun _ => rfl

/-- A wait of another engine that ends. -/
theorem finishWait_sparesEngine {e q : Nat} (hq : q ≠ e) (u : State) (res : Option (Nat × Word)) : ∀ x ∈ finishWait u q res, x.sparesEngine e := by
  have hbeside : besideEngRegs e (Reg.ENG_STATUS q) := by
    simp only [besideEngRegs, Reg.ENG_STATUS, Reg.ENG_FAULT]
    omega
  have hfld : ∀ f v, (Act.fld (Reg.ENG_STATUS q) f v).sparesEngine e := fun f v =>
    sparesEngine_of_reg hbeside (fun r hr => beq_eq_false_iff_ne.2 (Ne.symm hr)) rfl fun _ => rfl
  intro x hx
  simp only [finishWait, List.mem_cons, List.not_mem_nil, or_false] at hx
  rcases hx with rfl | rfl | rfl
  · exact ⟨rfl, rfl, rfl, fun g => if_neg hq⟩
  · exact hfld _ _
  · exact hfld _ _

/-- Barriers of an engine's place release engines at other places alone (R239). -/
theorem breakBarriers_sparesEngine (u : State) (e : Nat) : ∀ x ∈ breakBarriers (eng u e).place u, x.sparesEngine e := by
  intro x hx
  obtain ⟨b, -, hx⟩ := List.mem_flatMap.1 hx
  split at hx
  case isFalse => exact absurd hx List.not_mem_nil
  case isTrue =>
    obtain ⟨q, -, hx⟩ := List.mem_flatMap.1 hx
    split at hx
    case isFalse => exact absurd hx List.not_mem_nil
    case isTrue hother =>
      obtain ⟨-, hplace⟩ := hother
      have hq : q ≠ e := fun h => hplace (h ▸ rfl)
      split at hx
      · split at hx
        · exact finishWait_sparesEngine hq u _ x hx
        · exact absurd hx List.not_mem_nil
      · exact absurd hx List.not_mem_nil

theorem queueRegs_sparesEngine (e : Nat) (u : State) : ∀ x ∈ queueRegs u, x.sparesEngine e := by
  intro x hx
  obtain ⟨q, -, hx⟩ := List.mem_flatMap.1 hx
  have hbeside : besideEngRegs e (Reg.Q_DEPTH q) := by
    simp only [besideEngRegs, Reg.Q_DEPTH, Reg.ENG_STATUS, Reg.ENG_FAULT]
    omega
  simp only [List.mem_cons, List.not_mem_nil, or_false] at hx
  rcases hx with rfl | rfl
  · exact sparesEngine_of_reg hbeside (fun r hr => beq_eq_false_iff_ne.2 (Ne.symm hr)) rfl fun _ => rfl
  · exact ⟨rfl, rfl, rfl, fun _ => rfl⟩

/-! ## What a fault records (R247) -/

/-- The word of ENG_FAULT. -/
def faultWord (code aux pc : Nat) : Word :=
  putF (putF (putF (putF (putF 0 Fld.ENG_FAULT_VALID 1) Fld.ENG_FAULT_LEVEL (faultLevel code)) Fld.ENG_FAULT_CODE code) Fld.ENG_FAULT_AUX aux)
    Fld.ENG_FAULT_PC pc

theorem faultLevel_lt (code : Nat) : faultLevel code < 8 := by
  unfold faultLevel
  split
  · decide
  · split <;> decide

/-- Its fields. -/
theorem faultWord_fields {code aux : Nat} (hcode : code < 256) (haux : aux < 256) {pc : Nat} (hpc : pc < 4096) :
    getF (faultWord code aux pc) Fld.ENG_FAULT_VALID = 1 ∧ getF (faultWord code aux pc) Fld.ENG_FAULT_CODE = code
      ∧ getF (faultWord code aux pc) Fld.ENG_FAULT_AUX = aux ∧ getF (faultWord code aux pc) Fld.ENG_FAULT_LEVEL = faultLevel code
      ∧ getF (faultWord code aux pc) Fld.ENG_FAULT_PC = pc := by
  unfold faultWord
  simp (disch := decide) only [getF_putF_other, getF_putF]
  exact ⟨rfl, Nat.mod_eq_of_lt hcode, Nat.mod_eq_of_lt haux, Nat.mod_eq_of_lt (faultLevel_lt code), Nat.mod_eq_of_lt hpc⟩

/-- A fault is its word in ENG_FAULT, then a count, records and events that spare the engine. -/
theorem recordFault_eq {e : Nat} (he : e < 96) (code aux : Nat) (s : State) : ∃ xs,
    recordFault e code aux s = .reg (Reg.ENG_FAULT e) (faultWord code aux (engPC s e)) :: xs ∧ (∀ x ∈ xs, x.sparesEngine e)
      ∧ ∀ x ∈ xs, ∀ u, (applyAct u x).stp = u.stp := by
  refine ⟨.inc (Reg.ENG_FAULT_CNT e) Fld.ENG_FAULT_CNT_COUNT 1 :: (logFault s (0x010 + e) 5 code (faultLevel code) (clusterTenants s (e / 6))
    (arg [(16, engPC s e), (16, aux)]) ++ engEvent s 0 e), rfl, fun x hx => ?spares, fun x hx u => ?stp⟩
  all_goals
    simp only [logFault, List.cons_append, List.nil_append, List.mem_cons] at hx
    rcases hx with rfl | rfl | hx
  case spares.inl =>
    have hbeside : besideEngRegs e (Reg.ENG_FAULT_CNT e) := by
      simp only [besideEngRegs, Reg.ENG_FAULT_CNT, Reg.ENG_STATUS, Reg.ENG_FAULT]
      omega
    exact sparesEngine_of_reg hbeside (fun r hr => beq_eq_false_iff_ne.2 (Ne.symm hr)) rfl fun _ => rfl
  case spares.inr.inl => exact sparesEngine_log he _
  case spares.inr.inr =>
    rcases mem_eventNow hx with ⟨t, rfl⟩ | ⟨r, rfl⟩
    · exact sparesEngine_evt e (.inl rfl) t 0
    · exact sparesEngine_log he r
  case stp.inl => rfl
  case stp.inr.inl => rfl
  case stp.inr.inr =>
    rcases mem_eventNow hx with ⟨t, rfl⟩ | ⟨r, rfl⟩
    · simp
    · rfl

section Fault

variable {s : State} (hs : s.Inv) {e : Nat} (he : e < 96) (code aux : Nat)
include hs he

/-- After a fault is recorded ENG_FAULT holds its word; the status, the engine, the tickets and the memories are as they were. -/
theorem recordFault_records {t : State} (ht : applyActs s (recordFault e code aux s) = t) :
    rd t (Reg.ENG_FAULT e) = faultWord code aux (engPC s e) ∧ rd t (Reg.ENG_STATUS e) = rd s (Reg.ENG_STATUS e) ∧ eng t e = eng s e
      ∧ t.stp = s.stp ∧ sameMemory s t := by
  obtain ⟨xs, heq, hspares, hstp⟩ := recordFault_eq he code aux s
  rw [heq, applyActs_cons] at ht
  subst ht
  have hword := applyAct_inv s (.reg (Reg.ENG_FAULT e) (faultWord code aux (engPC s e))) hs
  have hview := engView_sparesEngine hspares hword
  simp only [engView, Prod.mk.injEq] at hview
  obtain ⟨hstatus, hfault, heng⟩ := hview
  obtain ⟨hregs, -⟩ := regs_of_inv hs
  have hne : Reg.ENG_STATUS e ≠ Reg.ENG_FAULT e := by
    simp only [Reg.ENG_STATUS, Reg.ENG_FAULT]
    omega
  refine ⟨hfault.trans ?_, hstatus.trans (rd_putReg_other s _ _ _ hne), heng, applyActs_keeps (·.stp) (fun x hx u _ => hstp x hx u) hword,
    sameMemory_trans (sameMemory_applyAct s (.reg _ _) rfl) (sameMemory_of_noMem (noMem_sparesEngine hspares))⟩
  refine (rd_putReg_same hregs _ _).trans ?_
  rw [regImpl_engFault he]
  exact BitVec.and_allOnes

/-- A program fault of an engine without a ticket stops it (R248). -/
theorem programFault_halts (hrun : engState s e = esRUN) (hticket : heldTicket s e = none) {t : State} (ht : applyActs s (programFault e code aux s) = t) :
    engState t e = esHALT ∧ rd t (Reg.ENG_FAULT e) = faultWord code aux (engPC s e) ∧ (eng t e).faulted = true ∧ sameMemory s t := by
  have hruns : (engState s e == esRUN || engState s e == esWAIT) = true := by rw [hrun]; rfl
  rw [programFault, applyActs_whenE, if_pos hruns, runEffs_cons] at ht
  generalize hu : applyActs s (recordFault e code aux s) = u at ht
  have huInv : u.Inv := hu ▸ applyActs_inv s _ hs
  obtain ⟨hfault, hstatus, heng, hstp, hmem⟩ := recordFault_records hs he code aux hu
  have hnone : returnTicket e true u = [] := by
    have hsame : heldTicket u e = none := by rw [heldTicket, hstp]; exact hticket
    rw [returnTicket, hsame]
  rw [runEffs_skip hnone, runEffs_cons] at ht
  generalize hv : applyActs u [.eng e (fun g => { g with faulted := true, wait := none }), engTo e esHALT] = v at ht
  have hvInv : v.Inv := hv ▸ applyActs_inv u _ huInv
  have hbars := breakBarriers_sparesEngine v e
  have hwInv := applyActs_inv v (breakBarriers (eng v e).place v) hvInv
  have hqueue := queueRegs_sparesEngine e (applyActs v (breakBarriers (eng v e).place v))
  have hview : engView t e = engView v e := by
    subst ht
    exact (engView_sparesEngine hqueue hwInv).trans (engView_sparesEngine hbars hvInv)
  have hkeeps : sameMemory v t := by
    subst ht
    exact sameMemory_trans (sameMemory_of_noMem (noMem_sparesEngine hbars)) (sameMemory_of_noMem (noMem_sparesEngine hqueue))
  simp only [engView, Prod.mk.injEq] at hview
  obtain ⟨tstatus, tfault, teng⟩ := hview
  subst hv
  have hne : Reg.ENG_FAULT e ≠ Reg.ENG_STATUS e := by
    simp only [Reg.ENG_STATUS, Reg.ENG_FAULT]
    omega
  refine ⟨(rf_congr tstatus _).trans (engState_engTo he (applyAct_inv u _ huInv) (by decide)),
    tfault.trans ((rd_putReg_other _ _ _ _ hne).trans hfault), ?_, sameMemory_trans hmem (sameMemory_trans (sameMemory_applyActs u _ rfl) hkeeps)⟩
  rw [teng, eng_applyActs huInv]
  simp [Act.onEng, engTo]

end Fault

end Sys2Proof.Machine
end

section
/-! PROOFS of the statements on program faults and on the program store (06_steep_engines.md R236, R237, R246 to R249, R255 to R261). -/

namespace Sys2Proof.Machine

/-! ## FAULT and illegal operations (R247, R248) -/

/-- FAULT alone makes nothing but a program fault with its AUX code. -/
theorem issueBundle_fault {s : State} {e : Nat} (hrun : engState s e = esRUN) (imm : BitVec 16) :
    issueBundle e (sFault imm) nopSyl s = [.draw, .eng e (fun h => h)] ++ programFault e flPROGRAM (imm.toNat % 256) s := by
  have hfault : ((sFault imm).run s e (eng s e)).fault = some (flPROGRAM, imm.toNat % 256) := rfl
  have hlegal : ((sFault imm).illegal || nopSyl.illegal) = false := rfl
  have hcommon : (sFault imm).writes.any nopSyl.writes.contains = false := rfl
  have hfree : (locked s e ((sFault imm).vregs ++ nopSyl.vregs) || !callFits s e (sFault imm).calls || !callFits s e nopSyl.calls) = false := by
    rw [show (sFault imm).vregs ++ nopSyl.vregs = [] from rfl, locked_nil]
    rfl
  rw [issueBundle, if_neg (not_not_intro hrun), hlegal, if_neg (by decide), hcommon, if_neg (by decide), hfree, if_neg (by decide)]
  simp only [hfault]
  simp [sFault, nopSyl, syl, resNone]

/-- Settles O31: a program fault halts its engine, and FAULT and an illegal operation are program faults. -/
theorem programFaultsHalt : Obligations.ProgramFaultsHalt := by
  unfold Obligations.ProgramFaultsHalt
  intro s e hs hrun hticket
  refine ⟨fun imm => ?fault, fun w hw => ?illegal, fun code aux hcode haux => ?halts⟩
  case fault =>
    refine congrArg (fun xs => Host.Outcome.next (runEffs (applyActs s xs) wakeAll)) ?_
    exact issueBundle_fault hrun imm
  case illegal =>
    refine congrArg (fun xs => Host.Outcome.next (runEffs (applyActs s xs) wakeAll)) ?_
    exact if_pos ⟨hrun, hw⟩
  case halts =>
    obtain ⟨hstate, hword, hfaulted, hmem⟩ := programFault_halts hs e.isLt code aux hrun hticket rfl
    obtain ⟨-, hcodeField, hauxField, -, hpcField⟩ := faultWord_fields hcode haux (getF_lt (rd s (Reg.ENG_STATUS e)) Fld.ENG_STATUS_PC)
    refine ⟨hstate, ?_, ?_, ?_, hfaulted, hmem⟩
    all_goals exact (congrArg (getF · _) hword).trans (by assumption)

/-! ## The program store (R255, R258, R259, R261) -/

section Store

variable {s : State} {a : Acc} {e : Fin 96}

theorem exec_engPdataLoWrite (hr : reaches s a (Reg.ENG_PDATA_LO e) true) (v : Word) :
    exec (.engPdataLoWrite a e v) s = nextBy s (pdataLoWrite (actsFor a) e v s) := congrArg (nextBy s) (gate_reaches hr false _)

theorem exec_engPdataHiWrite (hr : reaches s a (Reg.ENG_PDATA_HI e) true) (v : Word) :
    exec (.engPdataHiWrite a e v) s = nextBy s (pdataHiWrite (actsFor a) e v s) := congrArg (nextBy s) (gate_reaches hr false _)

theorem exec_engPdataHiRead (hr : reaches s a (Reg.ENG_PDATA_HI e) false) :
    exec (.engPdataHiRead a e) s = nextBy s (pdataHiRead e s) := congrArg (nextBy s) (gate_reaches hr true _)

variable {t : Nat} (hmay : mayEngine s t e = true)
include hmay

theorem pdataLoWrite_latches (hopen : storeOpen s e = true) (v : Word) : pdataLoWrite t e v s = [.eng e (fun g => { g with latch := v })] := by
  rw [pdataLoWrite, hmay, hopen]
  rfl

theorem pdataHiWrite_stores (hopen : storeOpen s e = true) (v : Word) : pdataHiWrite t e v s
    = .eng e (fun g => { g with prog := mapPut zeroBundle g.prog (storeAddr s e) (v ++ g.latch) }) :: storeAdvance s e := by
  rw [pdataHiWrite, hmay, hopen]
  rfl

theorem pdataHiWrite_busy (hopen : storeOpen s e = false) (v : Word) : pdataHiWrite t e v s = tenantFault s t stBUSY (Reg.ENG_PDATA_HI e) := by
  rw [pdataHiWrite, hmay, hopen]
  rfl

end Store

/-! ## Watchdog, map-outs and units (R236, R237, R247, R249) -/

/-- The watchdog of a ticket held too long: the clock passes its limit, and the engine has a program fault. -/
theorem exec_engWatchdog {s : State} {e : Fin 96} {k : Ticket} (hk : heldTicket s e = some k) (hlim : rf s (Reg.ENG_WDOG e) Fld.ENG_WDOG_LIMIT ≠ 0)
    (hrun : engState s e = esRUN ∨ engState s e = esWAIT) :
    exec (.engWatchdog e) s = .next (runEffs (applyActs s [.clockTo (k.heldAt + 1000 * rf s (Reg.ENG_WDOG e) Fld.ENG_WDOG_LIMIT)])
      ([recordFault e flWATCHDOG 0, returnTicket e true, fun _ => [.eng e (fun g => { g with faulted := true, wait := none }), engTo e esHALT],
        fun s => breakBarriers (eng s e).place s, queueRegs] ++ wakeAll)) := by
  have hruns : (engState s e == esRUN || engState s e == esWAIT) = true := by simpa using hrun
  generalize hclock : Act.clockTo (k.heldAt + 1000 * rf s (Reg.ENG_WDOG e) Fld.ENG_WDOG_LIMIT) = clock
  have hfault : exec (.engWatchdog e) s = .next (runEffs (applyActs s [clock]) (programFault e flWATCHDOG 0 :: wakeAll)) := by
    subst hclock
    show Host.Outcome.next (runEffs (applyActs s (match heldTicket s e with | some k => _ | none => _)) wakeAll) = _
    rw [hk]
    exact congrArg (fun xs => Host.Outcome.next (runEffs (applyActs s xs) wakeAll)) (if_neg hlim)
  rw [hfault, programFault, runEffs_whenE]
  subst hclock
  exact hruns

/-- A hardware fault of an engine in the part that is not mapped out and not OFF. -/
theorem runEffs_hardwareFault {s : State} {e : Nat} (hpart : (allEngines s).contains e = true) (hin : engState s e ≠ esMAPPED_OUT)
    (hon : engState s e ≠ esOFF) (code : Nat) (es : List Eff) :
    runEffs s (hardwareFault e code ++ es) = runEffs s ([recordFault e code 0, mapOut e, serveRegs] ++ es) :=
  runEffs_whenE s _ _ es (by simp [-List.contains_eq_mem, hpart, hin, hon])

/-- Settles O34: the program store by its accesses, and the faults of engines and units by the stages that follow. -/
theorem programStoreAndFaultsAct : Obligations.ProgramStoreAndFaultsAct := by
  unfold Obligations.ProgramStoreAndFaultsAct
  refine ⟨fun s a e v => ⟨fun hr hmay hopen => ?lo, fun hr hmay hopen => ?hi, fun hr => exec_engPdataHiRead hr, fun u hfree => ?copy,
      fun hmay hshut hr => ?busy⟩,
    fun s e => ⟨fun k hk hlim hrun => exec_engWatchdog hk hlim hrun, fun hpart hin hon => ⟨?parity, ?ecc⟩, fun unit hpart => ?unit,
      fun code aux hs hcode haux => ?record⟩⟩
  case lo => exact (exec_engPdataLoWrite hr v).trans (congrArg (nextBy s) (pdataLoWrite_latches hmay hopen v))
  case hi => exact (exec_engPdataHiWrite hr v).trans (congrArg (nextBy s) (pdataHiWrite_stores hmay hopen v))
  case copy => exact congrArg (nextBy s) (if_pos hfree)
  case busy => exact (exec_engPdataHiWrite hr v).trans (congrArg (nextBy s) (pdataHiWrite_busy hmay hshut v))
  case parity => exact congrArg Host.Outcome.next (runEffs_hardwareFault hpart hin hon flREGFILE_PARITY ([capacityCheck] ++ wakeAll))
  case ecc => exact congrArg Host.Outcome.next (runEffs_hardwareFault hpart hin hon flPSTORE_ECC ([capacityCheck] ++ wakeAll))
  case unit => exact congrArg Host.Outcome.next (runEffs_whenE s _ _ ([capacityCheck] ++ wakeAll) hpart)
  case record =>
    obtain ⟨hword, -⟩ := recordFault_records hs e.isLt code aux rfl
    obtain ⟨hvalid, hcodeField, hauxField, hlevel, hpcField⟩ := faultWord_fields hcode haux (getF_lt (rd s (Reg.ENG_STATUS e)) Fld.ENG_STATUS_PC)
    refine ⟨?_, ?_, ?_, ?_, ?_⟩
    all_goals exact (congrArg (getF · _) hword).trans (by assumption)

end Sys2Proof.Machine
end

section
/-! PROOFS of the statement on samplers and LUT units (06_steep_engines.md R232 to R236): a call served leaves the queue and gives its lanes to its
engine, whatever the reads report. -/

namespace Sys2Proof.Machine

/-! ## Updates that only report -/

/-- An update that leaves every memory, every engine, and the calls and tickets. -/
def Act.readsOnly (x : Act) : Prop := x.mayMem = false ∧ (∀ q g, x.onEng q g = g) ∧ ∀ u, (applyAct u x).stp = u.stp

theorem readsOnly_inc (a : Nat) (f : Field) (n : Nat) : (Act.inc a f n).readsOnly := ⟨rfl, fun _ _ => rfl, fun _ => rfl⟩

theorem readsOnly_mem (f : MemUnit → MemUnit) : (Act.mem f).readsOnly := ⟨rfl, fun _ _ => rfl, fun _ => rfl⟩

theorem readsOnly_eventLv {s : State} {blk b lvl unit : Nat} {ts : List Nat} {a : BitVec 64} : ∀ x ∈ eventLv s blk b lvl ts unit a, x.readsOnly := by
  intro x hx
  rcases mem_eventLv hx with ⟨t, rfl⟩ | ⟨r, rfl⟩
  · exact ⟨rfl, fun _ _ => rfl, fun _ => by simp⟩
  · exact ⟨rfl, fun _ _ => rfl, fun _ => rfl⟩

/-- Reading an SRAM range corrects, counts and reports (R447). -/
theorem readsOnly_bankReadActs {s : State} {a n : Nat} : ∀ x ∈ bankReadActs s a n, x.readsOnly := by
  intro x hx
  obtain ⟨w, -, hx⟩ := List.mem_flatMap.1 hx
  unfold wordRead at hx
  split at hx
  · exact absurd hx List.not_mem_nil
  · exact List.forall_mem_cons.2 ⟨readsOnly_inc _ _ _, List.forall_mem_singleton.2 (readsOnly_mem _)⟩ x hx
  · rcases List.mem_append.1 hx with hx | hx
    · exact List.forall_mem_cons.2 ⟨readsOnly_inc _ _ _, List.forall_mem_singleton.2 (readsOnly_mem _)⟩ x hx
    · exact readsOnly_eventLv x hx

/-! ## A call that is served -/

/-- A call that leaves the queue, with reports before what its engine receives. -/
theorem call_served {s : State} (hs : s.Inv) (k : UnitCall) {reads res : List Act} (hreads : ∀ x ∈ reads, x.readsOnly)
    (hstp : ∀ u, (applyActs u res).stp = u.stp) (hmem : res.all (fun x => !x.mayMem) = true) :
    (applyActs s (dropCall k :: (reads ++ res))).stp.calls = s.stp.calls.erase k ∧ sameMemory s (applyActs s (dropCall k :: (reads ++ res)))
      ∧ ∀ q, eng (applyActs s (dropCall k :: (reads ++ res))) q = res.foldl (fun g x => x.onEng q g) (eng s q) := by
  have hdrop := applyAct_inv s (dropCall k) hs
  have hreport := applyActs_inv _ reads hdrop
  rw [applyActs_cons, applyActs_append]
  refine ⟨?calls, sameMemory_trans (sameMemory_applyAct s (dropCall k) rfl) (sameMemory_trans (sameMemory_of_noMem fun x hx => ?mem)
    (sameMemory_applyActs _ res hmem)), fun q => ?eng⟩
  case calls =>
    rw [hstp, applyActs_keeps (·.stp) (fun x hx u _ => ?_) hdrop]
    · rfl
    · obtain ⟨-, -, hkeep⟩ := hreads x hx
      exact hkeep u
  case mem =>
    obtain ⟨hnone, -, -⟩ := hreads x hx
    exact hnone
  case eng =>
    have hkeeps : eng (applyActs (applyAct s (dropCall k)) reads) q = eng (applyAct s (dropCall k)) q :=
      applyActs_keeps (fun u => eng u q) (fun x hx u hu => by
        obtain ⟨-, heng, -⟩ := hreads x hx
        rw [eng_applyAct hu, heng]) hdrop
    rw [eng_applyActs hreport, hkeeps, eng_applyAct hs]
    rfl

/-- The registers of a call depend on its guarded lanes alone. -/
theorem putCall_congr {k : UnitCall} {f f' : Nat → Word × Word × Word} (h : ∀ i ∈ callLanes k, f i = f' i) : putCall k f = putCall k f' := by
  funext g
  have hmap : ∀ p : Word × Word × Word → Word, (callLanes k).map (fun i => (i, p (f i))) = (callLanes k).map (fun i => (i, p (f' i))) := fun p =>
    List.map_congr_left fun i hi => by rw [h i hi]
  simp only [putCall, hmap (·.1), hmap (·.2.1), hmap (·.2.2)]

/-- Accesses that all reach a bank, at addresses with a property. -/
theorem accesses_reach {P : Nat → Prop} {l : List Access} (h : ∀ a ∈ l, ∃ x, a = .ok x ∧ P x) :
    ∃ xs : List Nat, l = xs.map .ok ∧ ∀ x ∈ xs, P x := by
  induction l with
  | nil => exact ⟨[], rfl, List.forall_mem_nil _⟩
  | cons a l ih =>
    obtain ⟨⟨x, rfl, hx⟩, hl⟩ := List.forall_mem_cons.1 h
    obtain ⟨xs, rfl, hxs⟩ := ih hl
    exact ⟨x :: xs, rfl, List.forall_mem_cons.2 ⟨hx, hxs⟩⟩

/-! ## Samplers (R232 to R234) -/

/-- Does a lane of a call tap outside the window? -/
def tapsOutside (d : SmpDesc) (k : UnitCall) : Bool := (callLanes k).any (fun i =>
  (tapsOf d.crop (lanePos k i)).any (fun t => !inWindow d false t)
  || (tapsOf (chromaCrop d.sampling d.crop) (chromaPos d.sampling (lanePos k i))).any (fun t => !inWindow d true t))

/-- Does a lane tap inside the window alone? -/
def tapsInside (d : SmpDesc) (k : UnitCall) (i : Nat) : Prop := (∀ t ∈ tapsOf d.crop (lanePos k i), inWindow d false t = true)
  ∧ ∀ t ∈ tapsOf (chromaCrop d.sampling d.crop) (chromaPos d.sampling (lanePos k i)), inWindow d true t = true

/-- The three samples of a lane. -/
def sampledLane (s : State) (k : UnitCall) (d : SmpDesc) (i : Nat) : Word × Word × Word :=
  let v := windowPoint s (k.engine / 6) d (lanePos k i)
  (BitVec.ofNat 32 v.1, BitVec.ofNat 32 v.2.1, BitVec.ofNat 32 v.2.2)

theorem tapsOutside_of_tap {d : SmpDesc} {k : UnitCall} (h : ∃ i ∈ callLanes k, ∃ t ∈ tapsOf d.crop (lanePos k i), inWindow d false t = false) :
    tapsOutside d k = true := by
  obtain ⟨i, hi, t, ht, hout⟩ := h
  exact List.any_eq_true.2 ⟨i, hi, Bool.or_eq_true_iff.2 (.inl (List.any_eq_true.2 ⟨t, ht, by rw [hout]; rfl⟩))⟩

theorem tapsOutside_of_inside {d : SmpDesc} {k : UnitCall} (h : ∀ i ∈ callLanes k, tapsInside d k i) : tapsOutside d k = false := by
  refine List.any_eq_false.2 fun i hi => ?_
  simp only [Bool.or_eq_true, List.any_eq_true, Bool.not_eq_true', not_or, not_exists, not_and, Bool.not_eq_false]
  exact h i hi

section Sampler

variable {s : State} {k : UnitCall} {f : Nat} (haligned : k.desc.toNat % 32 = 0) (hlocal : k.desc.toNat < 0x600000)
  (hok : unitAccess s (k.engine / 6) k.desc.toNat 32 = .ok f)
include haligned hlocal hok

/-- A sample outside the window (R234). -/
theorem serveSmp_outside (h : tapsOutside (smpDesc s f) k = true) : serveSmp k s = dropCall k :: programFault k.engine flSAMPLE_WINDOW 0 s := by
  unfold tapsOutside at h
  simp only [serveSmp, haligned, ne_eq, not_true_eq_false, if_false, if_neg (Nat.not_le.2 hlocal), hok, h, if_true]
  rfl

/-- Samples inside the window, of readable words (R232, R233). -/
theorem serveSmp_inside (hinside : tapsOutside (smpDesc s f) k = false) (hue : bankUE s f 32 = false)
    (hreads : ∀ i ∈ callLanes k, ∀ a ∈ laneReads (smpDesc s f) (lanePos k i),
      ∃ x, unitAccess s (k.engine / 6) a (groupBytes (smpDesc s f).packing) = .ok x ∧ bankUE s x (groupBytes (smpDesc s f).packing) = false) :
    ∃ reads, (∀ x ∈ reads, x.readsOnly) ∧ serveSmp k s = dropCall k :: (reads ++ [callResults k (sampledLane s k (smpDesc s f))]) := by
  obtain ⟨flats, haccess, hgood⟩ := accesses_reach (l := ((callLanes k).flatMap (fun i => laneReads (smpDesc s f) (lanePos k i))).map
      (fun a => unitAccess s (k.engine / 6) a (groupBytes (smpDesc s f).packing))) fun a ha => by
    obtain ⟨b, hb, rfl⟩ := List.mem_map.1 ha
    obtain ⟨i, hi, hb⟩ := List.mem_flatMap.1 hb
    exact hreads i hi b hb
  refine ⟨bankReadActs s f 32 ++ flats.flatMap (fun x => bankReadActs s x (groupBytes (smpDesc s f).packing)), fun x hx => ?readsOnly, ?acts⟩
  case readsOnly =>
    rcases List.mem_append.1 hx with hx | hx
    · exact readsOnly_bankReadActs x hx
    · obtain ⟨y, -, hx⟩ := List.mem_flatMap.1 hx
      exact readsOnly_bankReadActs x hx
  case acts =>
    have hnone : flats.find? (fun _ => false) = none := List.find?_eq_none.2 fun _ _ => Bool.false_ne_true
    have hflats : flats.filterMap some = flats := List.filterMap_some
    have hwords : flats.any (fun x => bankUE s x (groupBytes (smpDesc s f).packing)) = false :=
      List.any_eq_false.2 fun x hx => by rw [hgood x hx]; exact Bool.false_ne_true
    unfold tapsOutside at hinside
    simp only [serveSmp, haligned, ne_eq, not_true_eq_false, if_false, if_neg (Nat.not_le.2 hlocal), hok, hinside, haccess, Bool.false_eq_true,
      List.find?_map, Function.comp_def, hnone, Option.map_none, List.filterMap_map, hflats, hue, hwords, Bool.or_self]
    rfl

end Sampler

theorem exec_samplerServe {s : State} {c : Fin 16} {n : Fin 3} {k : UnitCall} (hin : smpOut s c n = false)
    (hk : s.stp.calls.find? (fun q => !q.lut && q.engine / 6 == c.val) = some k) :
    exec (.samplerServe c n) s = .next (runEffs (applyActs s (serveSmp k s)) wakeAll) := by
  refine congrArg Host.Outcome.next (runEffs_congr (f := serveSmp k) ?_ wakeAll)
  simp only [hin, Bool.false_eq_true, if_false, hk]

/-! ## LUT units (R235, R236) -/

/-- The lookup of a lane. -/
def lookedUpLane (s : State) (k : UnitCall) (base i : Nat) : Word × Word × Word :=
  let v := lutLookup s base (laneW k i)
  (BitVec.ofInt 32 v.1, BitVec.ofInt 32 v.2.1, BitVec.ofInt 32 v.2.2)

/-- What a lookup counts and gives: its hits and misses, and the lanes. -/
def lutResults (s : State) (u : Nat) (k : UnitCall) (base miss : Nat) : List Act :=
  [.inc (Reg.CL_LUT_HIT u) Fld.CL_LUT_HIT_COUNT (4 * (callLanes k).length - miss), .inc (Reg.CL_LUT_MISS u) Fld.CL_LUT_MISS_COUNT miss,
    .eng k.engine (fun g => if 0 < miss then g.stick stLUT_MISS else g), callResults k (lookedUpLane s k base), .draw]

theorem exec_lutUnitServe {s : State} {u : Fin 16} {k : UnitCall} (hin : lutOut s u = false) (hk : lutCall s u = some k) :
    exec (.lutUnitServe u) s = .next (runEffs (applyActs s (serveLut u k s)) wakeAll) := by
  refine congrArg Host.Outcome.next (runEffs_congr (f := serveLut u k) ?_ wakeAll)
  simp only [hin, Bool.false_eq_true, if_false, hk]

/-- Lookups of W20 values in readable lattices (R235). -/
theorem serveLut_looksUp {s : State} {u : Nat} {k : UnitCall} {f : Nat} (hok : unitAccess s (k.engine / 6) k.desc.toNat 8 = .ok f)
    (hue : bankUE s f 8 = false) (hw20 : ∀ i ∈ callLanes k, isW20 (laneW k i) = true) {base miss : Nat}
    (hbase : leValue (sramRead s f 4) + 2 ^ 32 * (leValue (sramRead s (f + 4) 4) % 16) = base)
    (hmiss : min (Config.latticeMisses s.free) (4 * (callLanes k).length) = miss)
    (hreads : ∀ i ∈ callLanes k, ∀ a ∈ lutReads s base (laneW k i), dramUE s a 2 = false) :
    serveLut u k s = dropCall k :: (bankReadActs s f 8 ++ lutResults s u k base miss) := by
  have hgood : (callLanes k).filter (fun i => isW20 (laneW k i)) = callLanes k := List.filter_eq_self.2 hw20
  have hlut : ∀ a ∈ (callLanes k).flatMap (fun i => lutReads s base (laneW k i)), dramUE s a 2 = false := fun a ha => by
    obtain ⟨i, hi, ha⟩ := List.mem_flatMap.1 ha
    exact hreads i hi a ha
  have hany : ((callLanes k).flatMap (fun i => lutReads s base (laneW k i))).any (fun a => dramUE s a 2) = false :=
    List.any_eq_false.2 fun a ha => by rw [hlut a ha]; exact Bool.false_ne_true
  have hquiet : ((callLanes k).flatMap (fun i => lutReads s base (laneW k i))).flatMap (fun a => dramReadActs s a 2) = [] :=
    List.flatMap_eq_nil_iff.2 fun a ha => (dram_readable (hlut a ha)).1
  simp only [serveLut, hok, hbase, hmiss, hgood, hue, hany, hquiet, Bool.or_self, Bool.false_eq_true, if_false, Bool.false_or,
    List.append_nil, List.append_assoc, List.cons_append, List.nil_append, lutResults]
  have hlanes : callResults k (fun i => if (!isW20 (laneW k i)) = true then (undefLane s i 0, undefLane s i 1, undefLane s i 2)
      else lookedUpLane s k base i) = callResults k (lookedUpLane s k base) :=
    congrArg (Act.eng k.engine) (putCall_congr fun i hi => by rw [hw20 i hi]; rfl)
  rw [← hlanes]
  rfl

/-- Settles O32: the call leaves the queue, the reads only report, and the results reach its engine. -/
theorem clusterUnitsServe : Obligations.ClusterUnitsServe := by
  unfold Obligations.ClusterUnitsServe
  refine fun s hs => ⟨fun c n k f hin hk haligned hlocal hok hue => ⟨fun hgood => ?inside, fun hout => ?outside⟩,
    fun u k f hin hk hok hue hw20 hreads => ?lookup⟩
  case inside =>
    obtain ⟨reads, honly, hacts⟩ := serveSmp_inside haligned hlocal hok (tapsOutside_of_inside fun i hi => (hgood i hi).1) hue
      fun i hi => (hgood i hi).2
    obtain ⟨hcalls, hmem, heng⟩ := call_served hs k honly (res := [callResults k (sampledLane s k (smpDesc s f))]) (fun _ => rfl) rfl
    rw [← hacts] at hcalls hmem heng
    exact ⟨_, exec_samplerServe hin hk, hcalls, hmem, (heng _).trans (if_pos rfl)⟩
  case outside =>
    rw [exec_samplerServe hin hk, serveSmp_outside haligned hlocal hok (tapsOutside_of_tap hout)]
  case lookup =>
    have hacts := serveLut_looksUp (u := u) hok hue hw20 rfl rfl hreads
    obtain ⟨hcalls, hmem, heng⟩ := call_served hs k readsOnly_bankReadActs (res := lutResults s u k _ _) (fun _ => rfl) rfl
    rw [← hacts] at hcalls hmem heng
    refine ⟨_, exec_lutUnitServe hin hk, hcalls, hmem, (heng _).trans ?_⟩
    simp only [lutResults, List.foldl_cons, List.foldl_nil, Act.onEng, callResults, if_true]
    rfl

end Sys2Proof.Machine
end

section
/-! PROOFS of the statement on stream units (06_steep_engines.md R228 to R231): the descriptor at the head of a queue runs in the unit that its kind
names, and what it does by kind. -/

namespace Sys2Proof.Machine

/-- One stage as stages in order. -/
theorem seqE_single (x : Eff) (s : State) : seqE [x] s = x s := List.append_nil _

/-! ## The descriptor at the head (R228) -/

section Descriptor

variable {s : State} {e u a : Nat} (ha : headDesc s e u = some a)
include ha

/-- A descriptor runs in the unit that its kind names. -/
theorem runEffs_runDesc {kind : Nat} (hkind : descWord s e a 0 % 16 = kind) (run : Nat → List Eff) :
    runEffs s (runDesc kind e u run) = runEffs s (seqE (run a) :: wakeAll) := by
  refine runEffs_congr ?_ wakeAll
  simp only [ha, hkind, if_true]

/-- A kind that no unit runs is malformed (R230). -/
theorem runEffs_runDesc_malformed (hkind : 4 ≤ descWord s e a 0 % 16) (run : Nat → List Eff) :
    runEffs s (runDesc 0 e u run) = runEffs s (descDone e u a false stBAD_ARG :: wakeAll) := by
  have hother : descWord s e a 0 % 16 ≠ 0 := by omega
  refine runEffs_congr ?_ wakeAll
  simp only [ha, if_neg hother, hkind, and_self, if_true]

end Descriptor

/-! ## READ2D and WRITE2D (R229, R230) -/

/-- Lines that all end OK. -/
theorem lineStatus_of_ok {l : List (Nat × Nat)} {f : Nat × Nat → Nat} (h : ∀ q ∈ l, f q = stOK) : lineStatus (l.map f) = stOK := by
  have hnot : ∀ st, st ≠ stOK → ¬ (l.map f).contains st = true := fun st hst hmem => by
    obtain ⟨q, hq, hf⟩ := List.mem_map.1 (List.contains_iff_mem.1 hmem)
    exact hst (hf.symm.trans (h q hq))
  rw [lineStatus, if_neg (hnot _ (by decide)), if_neg (hnot _ (by decide))]

/-- READ2D copies a line from DRAM to the bank. -/
def readLine (e n : Nat) (q : Nat × Nat) : Eff := fun s =>
  match unitAccess s (e / 6) q.1 n with
  | .ok x => dramReadActs s q.2 n ++ bankWrite s x (dramDeliver s q.2 n) ++ [.draw]
  | .refused b c o => bankRefused s b e c o
  | .bad _ => []

/-- WRITE2D copies a line from the bank to DRAM. -/
def writeLine (e n : Nat) (q : Nat × Nat) : Eff := fun s =>
  match unitAccess s (e / 6) q.1 n with
  | .ok x => bankReadActs s x n ++ (if bankUE s x n then [] else dramStore s q.2 (sramRead s x n))
  | .refused b c o => bankRefused s b e c o
  | .bad _ => []

section Rectangle

variable {s : State} {e u a : Nat}

/-- A malformed rectangle. -/
theorem seqE_rectangle_malformed (hbad : rectBad s e a = true) :
    seqE (read2d e u a) s = descDone e u a false stBAD_ARG s ∧ seqE (write2d e u a) s = descDone e u a false stBAD_ARG s := by
  simp only [read2d, write2d, seqE, hbad, if_true, List.append_nil, and_self]

/-- A rectangle of readable DRAM whose lines lie in the cluster's banks. -/
theorem seqE_read2d (hgood : rectBad s e a = false)
    (hlines : ∀ q ∈ descLines s e a, ∃ x, unitAccess s (e / 6) q.1 (lineBytes s e a) = .ok x ∧ dramUE s q.2 (lineBytes s e a) = false) :
    seqE (read2d e u a) s = seqE ((descLines s e a).map (readLine e (lineBytes s e a)) ++ [descDone e u a false stOK]) s := by
  simp only [read2d, seqE, hgood, Bool.false_eq_true, if_false, List.append_nil]
  rw [lineStatus_of_ok fun q hq => ?_]
  · rfl
  · obtain ⟨x, hx, hue⟩ := hlines q hq
    simp only [hx, hue, Bool.false_eq_true, if_false]

/-- A rectangle of readable bank words whose lines lie in DRAM. -/
theorem seqE_write2d (hgood : rectBad s e a = false) (hlines : ∀ q ∈ descLines s e a, ∃ x, unitAccess s (e / 6) q.1 (lineBytes s e a) = .ok x
      ∧ bankUE s x (lineBytes s e a) = false ∧ dramRange s q.2 (lineBytes s e a) = false) :
    seqE (write2d e u a) s = seqE ((descLines s e a).map (writeLine e (lineBytes s e a)) ++ [descDone e u a false stOK]) s := by
  simp only [write2d, seqE, hgood, Bool.false_eq_true, if_false, List.append_nil]
  rw [lineStatus_of_ok fun q hq => ?_]
  · rfl
  · obtain ⟨x, hx, hue, hrange⟩ := hlines q hq
    simp only [hx, hue, hrange, Bool.or_self, Bool.false_eq_true, if_false]

end Rectangle

/-! ## UNPACK (R229, R230, R485) -/

/-- A block that decodes goes to the bank. -/
theorem seqE_unpackDesc {s : State} {e u a lane x src len lim : Nat} {out : List Byte} (hlane : freeLane s = some lane)
    (hsrc : descWord s e a 2 + 2 ^ 32 * (descWord s e a 3 % 16) = src) (hlen : descWord s e a 5 % 0x20000 = len) (hlim : descWord s e a 4 % 65536 = lim)
    (hlen0 : len ≠ 0) (hlim0 : lim ≠ 0) (hroom : ∃ y, unitAccess s (e / 6) (descWord s e a 1) lim = .ok y)
    (hok : unitAccess s (e / 6) (descWord s e a 1) (max 1 out.length) = .ok x) (hue : dramUE s src len = false)
    (hdec : decodeBlock (dramBytes s src len) lim none = .ok out) (hout : out ≠ []) :
    seqE (unpackDesc e u a) s = dramReadActs s src len
      ++ [.pkr (fun p => { p with inThis := p.inThis + len, outThis := p.outThis + out.length }), .draw]
      ++ seqE [fun s => bankWrite s x out, descDone e u a false stOK] s := by
  obtain ⟨y, hy⟩ := hroom
  have hsome : out.isEmpty = false := by simpa using hout
  have hgood : decodeError stOK = false := rfl
  have hnonzero : (len == 0 || lim == 0) = false := Bool.or_eq_false_iff.2 ⟨beq_eq_false_iff_ne.2 hlen0, beq_eq_false_iff_ne.2 hlim0⟩
  simp only [unpackDesc, seqE, hlane, hsrc, hlen, hlim, hnonzero, hy, Bool.or_self, Bool.false_eq_true, if_false, hue, hdec, hok, hsome, hgood,
    List.append_nil, if_true]

/-! ## POST (R199, R230, R231, R295) -/

section Post

variable {s : State} {e u a : Nat}

theorem post_malformed (hbad : postBad s e a = true) : post e u a s = descDone e u a false stBAD_ARG s := by
  simp only [post, hbad, if_true]

theorem post_withdrawn (hgood : postBad s e a = false) (hwithdrawn : postWithdrawn s e a = true) : post e u a s = descDone e u a true stOK s := by
  simp only [post, hgood, hwithdrawn, Bool.false_eq_true, if_false, if_true]

/-- A part that differs and has room is handed over. -/
theorem post_accepted (hgood : postBad s e a = false) (hheld : postWithdrawn s e a = false) {p : PostWork} (hp : postOf s e a = some p)
    {x len bank : Nat} (hlen : descWord s e a 2 % 0x40000 = len) (hbank : 0x40000 * 24 * (e / 6) + descWord s e a 1 = bank)
    (hok : unitAccess s (e / 6) (descWord s e a 1) len = .ok x) (hue : bankUE s bank len = false) {codes : List LampCode}
    (hcodes : unpackPart p.bytes (partLamps (rd s) p.ticket.tile (ticketIndex s p.ticket) p.k).length (fun _ => 0) = codes)
    (hpush : pushesPart s (crcKey p.ticket.region p.slot p.k) p.crc codes = true) (hclear : portClearing s p.port_ = false)
    (hrescue : p.ticket.rescue = true →
      rescueFits s p.port_ (workSyms (partWork 0 (partRuns (rd s) p.ticket.tile (ticketIndex s p.ticket) p.k) codes)) = true)
    (hroom : pageRingUsed s (p.port_ / 64) + p.bytes.length + p.alt.length ≤ pageRingSize s (p.port_ / 64)) :
    post e u a s = seqE [fun s => bankReadActs s bank len, acceptPart p, descDone e u a false stOK] s := by
  subst hbank
  have hfits : (p.ticket.rescue
      && !rescueFits s p.port_ (workSyms (partWork 0 (partRuns (rd s) p.ticket.tile (ticketIndex s p.ticket) p.k) codes))) = false := by
    cases h : p.ticket.rescue with
    | false => rfl
    | true => rw [hrescue h]; rfl
  simp only [post, hgood, hheld, Bool.false_eq_true, if_false, hp, hlen, hok, hue, hcodes, hpush, Bool.not_true, hclear, hfits,
    if_neg (Nat.not_lt.2 hroom)]
  rfl

end Post

theorem exec_postAccept {s : State} {e : Fin 96} {u : Fin 2} {a : Nat} (ha : headDesc s e u = some a) (hkind : descWord s e a 0 % 16 = 3) :
    exec (.postAccept e u) s = .next (runEffs s (post e u a :: wakeAll)) := by
  refine congrArg Host.Outcome.next (runEffs_congr ?_ wakeAll)
  simp only [ha, hkind, if_true]

theorem exec_post {s : State} {e : Fin 96} {u : Fin 2} {a : Nat} (ha : headDesc s e u = some a) (hkind : descWord s e a 0 % 16 = 3) :
    exec (.post e u) s = .next (runEffs s (post e u a :: wakeAll)) :=
  congrArg Host.Outcome.next ((runEffs_runDesc ha hkind _).trans (runEffs_congr (seqE_single _ s) wakeAll))

/-- A part that is looked at and makes the updates of stages, at once or after its wait for room. -/
theorem exec_post_stages {s : State} {e : Fin 96} {u : Fin 2} {a : Nat} (ha : headDesc s e u = some a) (hkind : descWord s e a 0 % 16 = 3)
    {es : List Eff} (h : post e u a s = seqE es s) :
    exec (.post e u) s = .next (runEffs s (es ++ wakeAll)) ∧ exec (.postAccept e u) s = .next (runEffs s (es ++ wakeAll)) := by
  rw [exec_post ha hkind, exec_postAccept ha hkind, runEffs_stages h]
  exact ⟨rfl, rfl⟩

/-- Settles O33: the descriptor runs in the unit of its kind, whose stage makes the updates of the stages named. -/
theorem streamUnitsWork : Obligations.StreamUnitsWork := by
  unfold Obligations.StreamUnitsWork
  intro s e u a ha
  refine ⟨fun hkind hbad => ?readBad, fun hkind hbad => ?writeBad, fun hkind => congrArg Host.Outcome.next (runEffs_runDesc_malformed ha hkind _),
    fun hkind hgood hlines => ?read, fun hkind hgood hlines => ?write,
    fun lane x out hkind hlane hlen hlim hroom hok hue hdec hout => ?unpack,
    fun hkind hbad => exec_post_stages ha hkind ((post_malformed hbad).trans (seqE_single _ s).symm),
    fun hkind hgood hwithdrawn => exec_post_stages ha hkind ((post_withdrawn hgood hwithdrawn).trans (seqE_single _ s).symm),
    fun x p hkind hgood hheld hp hok hue hpush hclear hrescue hroom =>
      exec_post_stages ha hkind (post_accepted hgood hheld hp rfl rfl hok hue rfl hpush hclear hrescue hroom)⟩
  case readBad =>
    obtain ⟨hread, -⟩ := seqE_rectangle_malformed (u := u) hbad
    exact congrArg Host.Outcome.next ((runEffs_runDesc ha hkind _).trans (runEffs_congr hread wakeAll))
  case writeBad =>
    obtain ⟨-, hwrite⟩ := seqE_rectangle_malformed (u := u) hbad
    exact congrArg Host.Outcome.next ((runEffs_runDesc ha hkind _).trans (runEffs_congr hwrite wakeAll))
  case read => exact congrArg Host.Outcome.next ((runEffs_runDesc ha hkind _).trans (runEffs_stages (seqE_read2d hgood hlines) wakeAll))
  case write => exact congrArg Host.Outcome.next ((runEffs_runDesc ha hkind _).trans (runEffs_stages (seqE_write2d hgood hlines) wakeAll))
  case unpack =>
    exact congrArg Host.Outcome.next ((runEffs_runDesc ha hkind _).trans
      (congrArg (fun xs => runEffs (applyActs s xs) wakeAll) (seqE_unpackDesc hlane rfl rfl rfl hlen hlim hroom hok hue hdec hout)))

end Sys2Proof.Machine
end
